-- ==== Sys2Proof/Word.lean ====
section
/-! DEFINITION. The word types of the device: every field of the spec that is a bit pattern has one of these types. -/

namespace Sys2Proof

/-- A byte of memory. -/
abbrev Byte := BitVec 8
/-- A 16-bit part of a complex sample, or a 16-bit field. -/
abbrev Half := BitVec 16
/-- A 32-bit word: a host register, a scalar register, a complex 16+16 sample (R64). -/
abbrev Word := BitVec 32
/-- A 64-bit field: a device address, a deadline, a time stamp. -/
abbrev DWord := BitVec 64

end Sys2Proof
end

