-- ==== Sys2Proof/Syntax/Almanac.lean ====
section
/-! DEFINITION. Operand types of the Almanac rows (09_almanac_scheduler.md). -/

namespace Sys2Proof

/-- The request ports (R221): a control core's, a signal core's mailbox, or an event port of a DMA engine, a framer or
the timing unit. -/
inductive AlmPort where
  | control (k : Fin 8)
  | core (k : Fin 128)
  | event
deriving DecidableEq, Repr

/-- What the scheduling-policy firmware says of a device-defined job: whether it serves a downlink slot, and the air time
at which the slot or symbol it serves starts (R48, R544, R545). -/
structure Serves where
  down : Bool
  start : Nat
deriving DecidableEq, Repr

/-- What a spilled segment belongs to (R244): a queue, or the class C ready list of a pool, for signal cores of a cluster. -/
inductive SpillPlace where
  | queue (id : Word)
  | ready (pool cluster : Nat)
deriving DecidableEq, Repr

/-- What an uncorrectable error in a record destroys (R245): an object's record, or entries of a queue. -/
inductive LostRecord where
  | object (id : Word)
  | entries (queue : Word) (first count : Nat)
deriving DecidableEq, Repr

/-- Why a unit is reported faulty (R247): a consistency error (R161, R185), an uncorrectable error inside an engine (R542)
or a watchdog of a control core (Table 20.6). -/
inductive FaultCause where
  | consistency | internalEcc | watchdog
deriving DecidableEq, Repr

end Sys2Proof
end

