-- ==== Sys2Proof/Syntax/Chiop.lean ====
section
/-! DEFINITION. Operand types of the Chiop rows: the command header (16_chiop_commands.md, R394, Table 16.2) and the
indirection block (R395, Table 16.3). -/

namespace Sys2Proof

/-- The indirection block, and the DMA RESULT of the fetch it orders (0 is OK): what the fetch met is an input. -/
structure Indirect where
  paddr : DWord := 0
  plen : Word := 0
  pcrc : Word := 0
  raddr : DWord := 0
  rlen : Word := 0
  fetch : Byte := 0
deriving DecidableEq, Repr

/-- A command entry as the interpreter reads it: its channel, its header but for OPCODE, which the row gives, its
indirection block where FLAGS asks for one, and the Tc that have passed since the model's last time-bearing command. -/
structure ChiopHdr where
  chan : Fin 17 := 0
  version : Byte := 1
  flags : Byte := 0
  seq : Word := 0
  epoch : Word := 0
  plen : Half := 0
  hcrc : Half := 0
  ind : Indirect := {}
  sinceTick : Nat := 0
deriving DecidableEq, Repr

/-- How the internal work of a held command ended, as far as it does not follow from the device's state: whether a fuse write
reads back as written (R447). -/
structure HeldDone where
  readBack : Bool := true
deriving DecidableEq, Repr

end Sys2Proof
end

