-- ==== Sys2Proof/Syntax/Hub.lean ====
section
/-! DEFINITION. Operand types of the device-event rows that are not commands of a port: PMBus (19_power_domains.md, R476),
time sources (02_timing_and_deadlines.md) and starts (18_start_and_security.md). -/

namespace Sys2Proof

/-- What an LDPC or turbo decoder's run shows: its checker finds no fault (R161), and the iteration in which another job came to
wait in the engine's queue, 0 if before the first (R159, R183). -/
structure DecodeRun where
  consistent : Bool
  since : Nat
deriving DecidableEq, Repr

/-- The PMBus commands the device uses (R476). -/
inductive PmCmd where
  | operation | clearFaults | voutMode | voutCommand | statusWord | readVout | readIout | readTemp
deriving DecidableEq, Repr

/-- How a targeted self-test ended (20_thermal_and_health.md, R493, R495, R498): SLOW is a failed step-rate comparison. -/
inductive TestResult where
  | pass | fail | slow
deriving DecidableEq, Repr

/-- What a self-test reports: its result, the arrays of the unit in which it found a faulty SRAM row, one entry a row
(12_memory.md, R308), and the step rate it measured, in millions of steps a second (R498). -/
structure TestReport where
  result : TestResult := .pass
  rows : List Nat := []
  rate : Nat := 0
deriving DecidableEq, Repr

/-- One step of the thermal model as the engine computed it (R482): node temperatures in 1/16 °C, the modelled VCORE
power and the parts of SPLIT in 0.1 W. -/
structure ModelStep where
  nodes : Vector (BitVec 16) 96
  pcore : Half
  split : Vector Half 8
deriving DecidableEq, Repr

/-- What the step of a start that ends has found (18_start_and_security.md, R431 to R443). Each field is read by the step it
belongs to and by no other. -/
structure StartReport where
  /-- A fuse field fails its check (0x01), an essential unit fails (0x03), stack 0 fails training or the verify pattern fails
  (0x05), an uncorrectable error is met while the image is read (0x07): the cause of Table 18.4. -/
  fault : Bool := false
  /-- A control core's watchdog expires during the step (R437). -/
  watchdog : Bool := false
  /-- Step 0x01: the 64 bytes at offset 0 of boot flash, empty where there is no flash or it cannot be read, and the 16 bytes
  at the offset of BOARD (R440); REF_CLK_IN in range (R519). -/
  dir : List Byte := []
  board : List Byte := []
  refClk : Bool := true
  /-- Step 0x03: units that fail their BIST. Steps 0x02 to 0x04: domains that do not wake. -/
  bad : List (Nat × Nat) := []
  unwoken : List Nat := []
  /-- Step 0x05: HBM stack 1 is trained. -/
  stack1 : Bool := true
  /-- Step 0x06: the image that the source delivers; empty where it is absent or its read fails. -/
  image : List Byte := []
deriving DecidableEq, Repr

/-- Instructions of the IEEE 1149.1 port (18_start_and_security.md, R456). -/
inductive JtagOp where
  | idcode | bypass | sample | extest | other
deriving DecidableEq, Repr

end Sys2Proof
end

