-- ==== Sys2Proof/Syntax/Lane.lean ====
section
/-! DEFINITION. Operand types of the fronthaul rows (13_ecner_framing.md). -/

namespace Sys2Proof

/-- What a receiver finds in one frame period at a bit offset it looks at (R320, R336): the raw line from there on, the 21,760
bytes of a frame; the air time at which its first bit arrived; whether the quad's receive buffer is full (R333). -/
structure RxFrame where
  off : Nat := 0
  line : List Byte := []
  at_ : Nat := 0
  full : Bool := false
deriving DecidableEq, Repr

/-- An eCPRI message as a lane receives it (R347, R348): its type, its payload from PC_ID, RTC_ID or the measurement identifier
on; when it arrived; whether the receive buffer is full. Type 256 is a pause or control frame, 257 a frame that fails its
FCS. -/
structure EcpriMsg where
  type : Nat := 0
  payload : List Byte := []
  at_ : Nat := 0
  full : Bool := false
deriving DecidableEq, Repr

/-- What a lane in ETHERNET personality, or a port, can report of its line (R347): LOS, loss of alignment-marker lock, high
symbol error ratio, remote fault. -/
inductive EthDefect where
  | los | lof | sf | rdi
deriving DecidableEq, Repr

/-- Where a signal is lost or comes back: an Ecner lane; a defect of a lane in ETHERNET personality, or of a port. -/
inductive LinePlace where
  | lane (l : Fin 32)
  | eth (l : Fin 32) (f : EthDefect)
  | port (p : Fin 4) (f : EthDefect)
deriving DecidableEq, Repr

/-- A frame as an Ethernet port receives it (R372), from its destination address to the byte before the FCS, with the outcome
of the FCS check and the air time of the first bit after the start-of-frame delimiter. -/
structure EthFrame where
  bytes : List Byte := []
  fcsOk : Bool := true
  at_ : Nat := 0
deriving DecidableEq, Repr

/-- Where an eCPRI delay message arrives (R348, R377). -/
inductive DelayMsg where
  | lane (l : Fin 32) (m : EcpriMsg)
  | port (p : Fin 4) (f : EthFrame)
deriving DecidableEq, Repr

/-- What a lane in ETHERNET personality sends next (R348): a container, the first or the second copy of a gate word, a delay
measurement of its own. -/
inductive EcpriSend where
  | container | gate | second | measure
deriving DecidableEq, Repr

/-- A link that comes up (R378): a lane's, or a port's. -/
inductive EthLink where
  | lane (l : Fin 32)
  | port (p : Fin 4)
deriving DecidableEq, Repr

end Sys2Proof
end

