-- ==== Sys2Proof/Syntax/Psiah.lean ====
section
/-! DEFINITION. Operand types of the Psiah rows: the operations of the four slots of a bundle (03_signal_cores.md,
R69 to R73; 04_matrix_coprocessor.md, R104) and what a bundle is issued with. -/

namespace Sys2Proof

/-- The four 32-bit slot words of a bundle (R69, Table 3.3). -/
structure BundleWords where
  sb : Word := 0
  ls : Word := 0
  va : Word := 0
  vb : Word := 0
deriving DecidableEq, Repr

/-- What the local memory's error check reports while a bundle issues (R93): an observed physical event, so an
input of the command. -/
inductive BundleEcc where
  | none
  | loadCorrected
  | loadUncorrectable
  | fetchCorrected
  | fetchUncorrectable
deriving DecidableEq, Repr

/-- The rest of what a bundle issues with: the words of the other slots (the word in the row's own slot is not
read), the words of the bundle at the next address, which a REP repeats (R84) and which an RETT that restores a
repeat resumes, the bundle times it waited for banks (R68) and those of the iterations of a repeat in order, the outcome of the error
check of its load and fetch, and whether an element that an MXST reads fails its parity check (04_matrix_coprocessor.md,
R100). -/
structure Issue where
  words : BundleWords := {}
  next : BundleWords := {}
  waits : BitVec 3 := 0
  repWaits : List (BitVec 3) := []
  ecc : BundleEcc := .none
  parity : Bool := false
deriving DecidableEq, Repr

/-- The two vector slots. -/
inductive VSlot where
  | va
  | vb
deriving DecidableEq, Repr

/-- The four slots, in ECAUSE.SLOT order (R90). -/
inductive SlotName where
  | sb
  | ls
  | va
  | vb
deriving DecidableEq, Repr

/-- FN of the SR format (R71, Table 3.5). -/
inductive AluFn where
  | add | sub | and | or | xor | shl | shr | sar | mul | mulh | adds | subs | min | max | slt | sltu
deriving DecidableEq, Repr

/-- The immediate operations of the SI format (R71). -/
inductive ImmFn where
  | addi | andi | ori | lui
deriving DecidableEq, Repr

/-- The control-register operations of the CS format (R71, R90). -/
inductive CsrFn where
  | read | write | set | clear
deriving DecidableEq, Repr

/-- A scalar/branch slot operation with its fields (R71, Tables 3.4 and 3.5). -/
inductive SbOp where
  | nop
  | alu (fn : AluFn) (sd sa sb : BitVec 4)
  | imm (fn : ImmFn) (sd sa : BitVec 4) (imm : BitVec 18)
  | amod (an mn : BitVec 3) (circ : Bool)
  | movta (s : BitVec 4) (target : BitVec 6)
  | movfa (s : BitVec 4) (source : BitVec 6)
  | br (sa cond : BitVec 4) (off : BitVec 18)
  | jmp (off : BitVec 18)
  | call (off : BitVec 18)
  | jr (sa : BitVec 4)
  | bmxb (cond : BitVec 4) (off : BitVec 18)
  | rep (fromReg : Bool) (sa : BitVec 4) (count : BitVec 12)
  | csr (fn : CsrFn) (s : BitVec 4) (num : BitVec 12)
  | trap (service : BitVec 18)
  | rett
  | brk
  | wait
  | done (sa : BitVec 4)
deriving DecidableEq, Repr

/-- The load/store operations (R72, Table 3.6). -/
inductive LsFn where
  | ldw | stw | ldv | stv | ldvb | asv | ald
deriving DecidableEq, Repr

/-- A load/store slot operation (R72). -/
inductive LsOp where
  | nop
  | acc (fn : LsFn) (r : BitVec 5) (an mn : BitVec 3) (mode : BitVec 2) (imm : BitVec 14)
deriving DecidableEq, Repr

/-- FN of VALU (R73, Table 3.7). -/
inductive ValuFn where
  | add | sub | neg | conj | and | or | xor | sar | mulj
deriving DecidableEq, Repr

/-- The multiply class (R79). -/
inductive MulFn where
  | mul | mac | msu
deriving DecidableEq, Repr

/-- FN of VPERM (R73, Table 3.7). -/
inductive PermFn where
  | rot | bfly | rev | bcast
deriving DecidableEq, Repr

/-- The MXC instructions (R104, Table 4.1); `reserved` stands for OP 0x3A to 0x3F, which is refused with cause
ENCODING. -/
inductive MxFn where
  | ld | st | getExp | getSeq | ident | add | mul | gram | inv | scl | ack | reserved
deriving DecidableEq, Repr

/-- A vector slot operation with the fields of R73. -/
inductive VOp where
  | nop
  | valu (fn : ValuFn) (d a b mod : BitVec 5)
  | mul (fn : MulFn) (d a b : BitVec 5) (fnf : BitVec 6) (mod : BitVec 5)
  | mova (d a b : BitVec 5) (fnf : BitVec 6) (mod : BitVec 5)
  | movv (d a : BitVec 5)
  | bexp (d a : BitVec 5)
  | perm (fn : PermFn) (d a b mod : BitVec 5)
  | ins (d a lane : BitVec 5)
  | ext (d a lane : BitVec 5)
  | mx (fn : MxFn) (d a b : BitVec 5) (fnf : BitVec 6) (mod : BitVec 5)
deriving DecidableEq, Repr

/-- One decoded slot: its word and the operation it holds, `none` where the encoding is unlisted (UNDEF). -/
structure Slot (α : Type) where
  word : Word
  op : Option α
deriving DecidableEq, Repr

/-- The four slots of a bundle, decoded. -/
structure Bundle where
  sb : Slot SbOp
  ls : Slot LsOp
  va : Slot VOp
  vb : Slot VOp
deriving DecidableEq, Repr

end Sys2Proof
end

