-- ==== Sys2Proof/Syntax/Ring.lean ====
section
/-! DEFINITION. Operand types of the Ringroad and DMA rows (10_ringroad.md, 11_dma.md). -/

namespace Sys2Proof

/-- What a maintenance packet of the control complex reads or writes: an itinerary entry, a shell, a junction's rules, or
the assignment of a DMA channel (R255, R280; log entry 37). -/
inductive MaintReg where
  | entry (dst : Fin 256)
  | shell
  | junction (ring : Fin 9) (j : Fin 32)
  | channel (n : Fin 320)
deriving DecidableEq, Repr

/-- A link: ring (0 to 7 cluster rings, 8 global), the junction it leaves, direction, pair and lane. -/
structure LinkId where
  ring : Nat
  junction : Nat
  dir : Bool
  pair : Nat
  lane : Bool
deriving DecidableEq, Repr

/-- What a packet meets on its way: free rings, a link failure that poisons it (R270), loss, or traffic (`slow`): it then
enters the rings and goes on flit by flit, in the flit times that pass on an empty queue (R262 to R264; log entry 80). -/
inductive Mishap where
  | none | poison | lost | slow
deriving DecidableEq, Repr

/-- A flit as a junction receives it (R254, R270): whether the flit that failed last is being replayed, its data bytes and its 24
sideband bits. -/
structure RxFlit where
  again : Bool
  data : List Byte
  side : BitVec 24
deriving DecidableEq, Repr

/-- What a target finds of the data of a request: a bit error at an offset from its address (12_memory.md, R306), at the host a
poisoned completion in place of an uncorrectable one; or no completion of the host's, one with Unsupported Request or with
Completer Abort (15_ethernet_and_host_port.md, R383). -/
inductive EccHit where
  | none
  | corrected (off : Nat)
  | uncorrectable (off : Nat)
  | refused
deriving DecidableEq, Repr

end Sys2Proof
end

