-- ==== Sys2Proof/Syntax/Time.lean ====
section
/-! DEFINITION. Operand types of the timing rows (02_timing_and_deadlines.md, R42, R43). -/

namespace Sys2Proof

/-- The event of a slot or symbol (R47): its symbol, 0xFF for the slot's start, and whether Almanac's event inputs are full
when it falls. -/
structure SymEvent where
  sym : Byte
  full : Bool := false
deriving DecidableEq, Repr

/-- A PTP time-stamp (R42): TAI seconds and nanoseconds. -/
structure PtpTime where
  sec : Nat := 0
  nsec : Nat := 0
deriving DecidableEq, Repr

/-- A PTP message as a port hands it to the timing unit (R42): an Announce, with the PTPPORT code that the clock selection of
G.8275.1 gives the port, its flags and its body from originTimestamp on; a Sync with the air time of its arrival, one-step
with its origin or two-step, and the Follow_Up of a two-step one; a Delay_Req of a slave with the air time of its arrival
and the port identity it names; a Delay_Resp for the port identity it names; or one that asks nothing of the device.
Corrections are in 2^-16 ns. -/
inductive PtpMsg where
  | announce (portState : Fin 4) (flags : Byte) (body : List Byte)
  | sync (at_ : Nat) (twoStep : Bool) (seq : BitVec 16) (origin : PtpTime) (corr : Int)
  | followUp (seq : BitVec 16) (origin : PtpTime) (corr : Int)
  | delayReq (at_ : Nat) (seq : BitVec 16) (source : List Byte) (corr : Int)
  | delayResp (seq : BitVec 16) (receive : PtpTime) (requester : List Byte) (corr : Int)
  | other
deriving DecidableEq, Repr

/-- The PTP messages the device sends of its own (R42). -/
inductive PtpSend where
  | sync | announce | delayReq
deriving DecidableEq, Repr

end Sys2Proof
end

