-- ==== Sys2Proof/Syntax.lean ====
section
/-! DEFINITION. The commands of the block: one constructor per row of the opcode table. The operands say which unit, port,
channel or record the row is about, what a party outside the device sends with it, and what a physical event reports.
Operand types of the families stand in the files of the folder Syntax. -/

namespace Sys2Proof

/-- The commands. -/
inductive Instr where
  /-- NOP (R69): A slot whose bits are all 0 issues and does nothing. -/
  | nop (k : Fin 128) (i : Issue) (slot : SlotName)
  /-- ADD (R71): Scalar ADD writes SA plus SB to SD. -/
  | add (k : Fin 128) (i : Issue) (sd sa sb : BitVec 4)
  /-- SUB (R71): Scalar SUB writes SA minus SB to SD. -/
  | sub (k : Fin 128) (i : Issue) (sd sa sb : BitVec 4)
  /-- AND (R71): Scalar AND of two registers. -/
  | and (k : Fin 128) (i : Issue) (sd sa sb : BitVec 4)
  /-- OR (R71): Scalar OR of two registers. -/
  | or (k : Fin 128) (i : Issue) (sd sa sb : BitVec 4)
  /-- XOR (R71): Scalar XOR of two registers. -/
  | xor (k : Fin 128) (i : Issue) (sd sa sb : BitVec 4)
  /-- SHL (R71): Scalar shift left by SB[4:0]. -/
  | shl (k : Fin 128) (i : Issue) (sd sa sb : BitVec 4)
  /-- SHR (R71): Scalar logical shift right by SB[4:0]. -/
  | shr (k : Fin 128) (i : Issue) (sd sa sb : BitVec 4)
  /-- SAR (R71): Scalar arithmetic shift right by SB[4:0]. -/
  | sar (k : Fin 128) (i : Issue) (sd sa sb : BitVec 4)
  /-- MUL (R71): Scalar multiply, low 32 bits. -/
  | mul (k : Fin 128) (i : Issue) (sd sa sb : BitVec 4)
  /-- MULH (R71): Scalar multiply, signed high 32 bits. -/
  | mulh (k : Fin 128) (i : Issue) (sd sa sb : BitVec 4)
  /-- ADDS (R71): Saturating scalar add. -/
  | adds (k : Fin 128) (i : Issue) (sd sa sb : BitVec 4)
  /-- SUBS (R71): Saturating scalar subtract. -/
  | subs (k : Fin 128) (i : Issue) (sd sa sb : BitVec 4)
  /-- MIN (R71): Scalar minimum. -/
  | min (k : Fin 128) (i : Issue) (sd sa sb : BitVec 4)
  /-- MAX (R71): Scalar maximum. -/
  | max (k : Fin 128) (i : Issue) (sd sa sb : BitVec 4)
  /-- SLT (R71): Signed set-less-than. -/
  | slt (k : Fin 128) (i : Issue) (sd sa sb : BitVec 4)
  /-- SLTU (R71): Unsigned set-less-than. -/
  | sltu (k : Fin 128) (i : Issue) (sd sa sb : BitVec 4)
  /-- ADDI (R71): Add sign-extended immediate. -/
  | addi (k : Fin 128) (i : Issue) (sd sa : BitVec 4) (imm : BitVec 18)
  /-- ANDI (R71): AND with sign-extended immediate. -/
  | andi (k : Fin 128) (i : Issue) (sd sa : BitVec 4) (imm : BitVec 18)
  /-- ORI (R71): OR with sign-extended immediate. -/
  | ori (k : Fin 128) (i : Issue) (sd sa : BitVec 4) (imm : BitVec 18)
  /-- LUI (R71): Load upper immediate: SD = IMM18 << 14. -/
  | lui (k : Fin 128) (i : Issue) (sd sa : BitVec 4) (imm : BitVec 18)
  /-- AMOD (R75): Updates an address register by post-modify or circular update only. -/
  | amod (k : Fin 128) (i : Issue) (an mn : BitVec 3) (circ : Bool)
  /-- MOVTA (R71): Moves a scalar register into an A, M, B or L register. -/
  | movta (k : Fin 128) (i : Issue) (ss : BitVec 4) (target : BitVec 6)
  /-- MOVFA (R71): Moves an A, M, B or L register into a scalar register. -/
  | movfa (k : Fin 128) (i : Issue) (ss : BitVec 4) (source : BitVec 6)
  /-- BR (R71): Conditional branch on a scalar register. -/
  | br (k : Fin 128) (i : Issue) (sa cond : BitVec 4) (off : BitVec 18)
  /-- JMP (R71): Unconditional relative jump. -/
  | jmp (k : Fin 128) (i : Issue) (off : BitVec 18)
  /-- CALL (R71): Writes the return address to S15 and jumps. -/
  | call (k : Fin 128) (i : Issue) (off : BitVec 18)
  /-- JR (R71): Jumps to the address in a scalar register. -/
  | jr (k : Fin 128) (i : Issue) (sa : BitVec 4)
  /-- BMXB (R108): Branches on MXS.BUSY. -/
  | bmxb (k : Fin 128) (i : Issue) (cond : BitVec 4) (off : BitVec 18)
  /-- REP (R84): Executes the next bundle n times, uninterruptibly. -/
  | rep (k : Fin 128) (i : Issue) (fromReg : Bool) (sa : BitVec 4) (count : BitVec 12)
  /-- CSRR (R90): Reads a control register. -/
  | csrr (k : Fin 128) (i : Issue) (ss : BitVec 4) (num : BitVec 12)
  /-- CSRW (R90): Writes a control register, such as MXEN, IEN, WDOG or REPMAX. -/
  | csrw (k : Fin 128) (i : Issue) (ss : BitVec 4) (num : BitVec 12)
  /-- CSRS (R90): Sets bits in a control register. -/
  | csrs (k : Fin 128) (i : Issue) (ss : BitVec 4) (num : BitVec 12)
  /-- CSRC (R90): Clears bits in a control register. -/
  | csrc (k : Fin 128) (i : Issue) (ss : BitVec 4) (num : BitVec 12)
  /-- TRAP (R71): Raises SYSCALL with a service number. -/
  | trap (k : Fin 128) (i : Issue) (service : BitVec 18)
  /-- RETT (R92): Restores the level, GIE and any repeat from TSTAT and resumes at EPC. -/
  | rett (k : Fin 128) (i : Issue)
  /-- BRK (R71): Raises BREAK when BRK_EN is set; otherwise does nothing. -/
  | brk (k : Fin 128) (i : Issue)
  /-- WAIT (R96): Idles the core until an enabled interrupt arrives. -/
  | wait (k : Fin 128) (i : Issue)
  /-- DONE (R97): Reports the current job complete to Almanac and pops the job stack. -/
  | done (k : Fin 128) (i : Issue) (sa : BitVec 4)
  /-- LDW (R72): Loads a 4-byte word into a scalar register. -/
  | ldw (k : Fin 128) (i : Issue) (r : BitVec 5) (an mn : BitVec 3) (mode : BitVec 2) (imm : BitVec 14)
  /-- STW (R72): Stores a scalar register to data memory. -/
  | stw (k : Fin 128) (i : Issue) (r : BitVec 5) (an mn : BitVec 3) (mode : BitVec 2) (imm : BitVec 14)
  /-- LDV (R72): Loads a 128-byte vector, possibly circular. -/
  | ldv (k : Fin 128) (i : Issue) (r : BitVec 5) (an mn : BitVec 3) (mode : BitVec 2) (imm : BitVec 14)
  /-- STV (R72): Stores a 128-byte vector. -/
  | stv (k : Fin 128) (i : Issue) (r : BitVec 5) (an mn : BitVec 3) (mode : BitVec 2) (imm : BitVec 14)
  /-- LDVB (R72): Loads a word into every lane of a vector register. -/
  | ldvb (k : Fin 128) (i : Issue) (r : BitVec 5) (an mn : BitVec 3) (mode : BitVec 2) (imm : BitVec 14)
  /-- ASV (R95): Saves an accumulator with its GOV flags. -/
  | asv (k : Fin 128) (i : Issue) (r : BitVec 5) (an mn : BitVec 3) (mode : BitVec 2) (imm : BitVec 14)
  /-- ALD (R95): Loads an accumulator with its GOV flags. -/
  | ald (k : Fin 128) (i : Issue) (r : BitVec 5) (an mn : BitVec 3) (mode : BitVec 2) (imm : BitVec 14)
  /-- VADD (R83): Saturating lane-wise vector add. -/
  | vadd (k : Fin 128) (i : Issue) (slot : VSlot) (d a b mod : BitVec 5)
  /-- VSUB (R83): Saturating lane-wise vector subtract. -/
  | vsub (k : Fin 128) (i : Issue) (slot : VSlot) (d a b mod : BitVec 5)
  /-- VNEG (R83): Saturating vector negate. -/
  | vneg (k : Fin 128) (i : Issue) (slot : VSlot) (d a b mod : BitVec 5)
  /-- VCONJ (R83): Saturating vector conjugate. -/
  | vconj (k : Fin 128) (i : Issue) (slot : VSlot) (d a b mod : BitVec 5)
  /-- VAND (R73): Vector AND. -/
  | vand (k : Fin 128) (i : Issue) (slot : VSlot) (d a b mod : BitVec 5)
  /-- VOR (R73): Vector OR. -/
  | vor (k : Fin 128) (i : Issue) (slot : VSlot) (d a b mod : BitVec 5)
  /-- VXOR (R73): Vector XOR. -/
  | vxor (k : Fin 128) (i : Issue) (slot : VSlot) (d a b mod : BitVec 5)
  /-- VSAR (R83): Vector arithmetic shift right with truncation. -/
  | vsar (k : Fin 128) (i : Issue) (slot : VSlot) (d a b mod : BitVec 5)
  /-- VMULJ (R73): Multiplies each lane by j. -/
  | vmulj (k : Fin 128) (i : Issue) (slot : VSlot) (d a b mod : BitVec 5)
  /-- VMUL (R79): Initialises an accumulator with complex products and clears GOV. -/
  | vmul (k : Fin 128) (i : Issue) (slot : VSlot) (d a b : BitVec 5) (fn : BitVec 6) (mod : BitVec 5)
  /-- VMAC (R79): Adds complex products to an accumulator, saturating and setting GOV. -/
  | vmac (k : Fin 128) (i : Issue) (slot : VSlot) (d a b : BitVec 5) (fn : BitVec 6) (mod : BitVec 5)
  /-- VMSU (R79): Subtracts complex products from an accumulator. -/
  | vmsu (k : Fin 128) (i : Issue) (slot : VSlot) (d a b : BitVec 5) (fn : BitVec 6) (mod : BitVec 5)
  /-- VMOVA (R80): Moves a scaled accumulator to a vector register, with explicit or AUTO shift. -/
  | vmova (k : Fin 128) (i : Issue) (slot : VSlot) (d a b : BitVec 5) (fn : BitVec 6) (mod : BitVec 5)
  /-- VMOVV (R79): Loads an accumulator from a vector register and clears GOV. -/
  | vmovv (k : Fin 128) (i : Issue) (slot : VSlot) (d a : BitVec 5)
  /-- VBEXP (R82): Writes the block exponent of a vector to a scalar register. -/
  | vbexp (k : Fin 128) (i : Issue) (slot : VSlot) (d a : BitVec 5)
  /-- VROT (R73): Rotates vector lanes. -/
  | vrot (k : Fin 128) (i : Issue) (slot : VSlot) (d a b mod : BitVec 5)
  /-- VBFLY (R73): Interleaves lanes at a power-of-two distance. -/
  | vbfly (k : Fin 128) (i : Issue) (slot : VSlot) (d a b mod : BitVec 5)
  /-- VREV (R73): Reverses vector lanes. -/
  | vrev (k : Fin 128) (i : Issue) (slot : VSlot) (d a b mod : BitVec 5)
  /-- VBCAST (R73): Broadcasts one lane to all lanes. -/
  | vbcast (k : Fin 128) (i : Issue) (slot : VSlot) (d a b mod : BitVec 5)
  /-- VINS (R73): Inserts a scalar into a vector lane. -/
  | vins (k : Fin 128) (i : Issue) (slot : VSlot) (d a lane : BitVec 5)
  /-- VEXT (R73): Extracts a vector lane to a scalar register. -/
  | vext (k : Fin 128) (i : Issue) (slot : VSlot) (d a lane : BitVec 5)
  /-- MXLD (R104): Queues a load of one half of a matrix register from a vector register. -/
  | mxld (k : Fin 128) (i : Issue) (d a b : BitVec 5) (fn : BitVec 6) (mod : BitVec 5)
  /-- MXST (R107): Delivers one half of a matrix register to a vector register while the MXC is idle. -/
  | mxst (k : Fin 128) (i : Issue) (d a b : BitVec 5) (fn : BitVec 6) (mod : BitVec 5)
  /-- MXGETE_EXP (R104): Delivers a matrix register's exponent word. -/
  | mxgeteExp (k : Fin 128) (i : Issue) (d a b : BitVec 5) (fn : BitVec 6) (mod : BitVec 5)
  /-- MXGETE_SEQ (R119): Delivers the next MXC sequence number. -/
  | mxgeteSeq (k : Fin 128) (i : Issue) (d a b : BitVec 5) (fn : BitVec 6) (mod : BitVec 5)
  /-- MXID (R104): Queues a zero or identity matrix write. -/
  | mxid (k : Fin 128) (i : Issue) (d a b : BitVec 5) (fn : BitVec 6) (mod : BitVec 5)
  /-- MXADD (R104): Queues a matrix add or subtract. -/
  | mxadd (k : Fin 128) (i : Issue) (d a b : BitVec 5) (fn : BitVec 6) (mod : BitVec 5)
  /-- MXMUL (R104): Queues a matrix product. -/
  | mxmul (k : Fin 128) (i : Issue) (d a b : BitVec 5) (fn : BitVec 6) (mod : BitVec 5)
  /-- MXGRAM (R104): Queues a regularised Gram matrix. -/
  | mxgram (k : Fin 128) (i : Issue) (d a b : BitVec 5) (fn : BitVec 6) (mod : BitVec 5)
  /-- MXINV (R105): Queues a Hermitian positive-definite inverse. -/
  | mxinv (k : Fin 128) (i : Issue) (d a b : BitVec 5) (fn : BitVec 6) (mod : BitVec 5)
  /-- MXSCL (R104): Queues an exponent scaling. -/
  | mxscl (k : Fin 128) (i : Issue) (d a b : BitVec 5) (fn : BitVec 6) (mod : BitVec 5)
  /-- MXACK (R117): Queues the clearing of the late-error state. -/
  | mxack (k : Fin 128) (i : Issue) (d a b : BitVec 5) (fn : BitVec 6) (mod : BitVec 5)
  /-- MXC_COMMIT (R106): A queued MXC instruction completes and commits, possibly recording a late error. -/
  | mxcCommit (k : Fin 128) (bad : Bool)
  /-- INTERRUPT_ENTRY (R92): A pending enabled interrupt is taken between bundles and its handler entered. -/
  | interruptEntry (k : Fin 128)
  /-- WDOG (R94): The core watchdog expires and traps to Monitor. -/
  | wdog (k : Fin 128)
  /-- JOB_ENQ (R223): Almanac request that creates a job. -/
  | jobEnq (port : Sys2Proof.AlmPort) (bytes : List Byte) (serves : Option Sys2Proof.Serves)
  /-- SKIP_ENQ (R241): Almanac request that appends a SKIP marker to a procession. -/
  | skipEnq (port : Sys2Proof.AlmPort) (bytes : List Byte)
  /-- EVENT (R226): Almanac request that lowers a job's GATES by one. -/
  | event (port : Sys2Proof.AlmPort) (bytes : List Byte)
  /-- TIMER_SET (R228): Almanac request that creates and arms a timer. -/
  | timerSet (port : Sys2Proof.AlmPort) (bytes : List Byte)
  /-- TIMER_CANCEL (R222): Almanac request that frees an unfired timer. -/
  | timerCancel (port : Sys2Proof.AlmPort) (bytes : List Byte)
  /-- Q_PUT (R222): Almanac request that appends a queue entry. -/
  | qPut (port : Sys2Proof.AlmPort) (bytes : List Byte)
  /-- Q_GET (R222): Almanac request that removes a queue's head entry. -/
  | qGet (port : Sys2Proof.AlmPort) (bytes : List Byte)
  /-- CREATE (R222): Almanac request that creates a queue or procession. -/
  | create (port : Sys2Proof.AlmPort) (bytes : List Byte)
  /-- DESTROY (R222): Almanac request that frees a timer or closes a queue or procession. -/
  | destroy (port : Sys2Proof.AlmPort) (bytes : List Byte)
  /-- QUERY (R220): Almanac request that returns record bytes 0-23. -/
  | query (port : Sys2Proof.AlmPort) (bytes : List Byte)
  /-- UNIT_CFG (R222): Almanac request that sets the classes dispatched to a core. -/
  | unitCfg (port : Sys2Proof.AlmPort) (bytes : List Byte)
  /-- TICK_EDGE (R46): An Almanac tick edge falls and the tick number advances. -/
  | tickEdge
  /-- TIMER_FIRE (R228): An armed timer reaches its expiry and performs RELEASE, EVENT or PUT. -/
  | timerFire
  /-- DISPATCH (R233): Almanac dispatches a ready job to an eligible unit with room or delivers it to a core. -/
  | dispatch (pool cluster : Nat)
  /-- WAKE_POST (R233): A ready job whose only eligible units are stopped posts a wake request after 1 tick. -/
  | wakePost (c u : Nat)
  /-- PTO_EXPIRY (R238): A PREEMPT not entered within PTO ticks is withdrawn and the job re-selected. -/
  | ptoExpiry (k : Fin 128)
  /-- JOB_COMPLETION (R239): A unit reports completion; slack is computed, deferred requests applied and jobs released
  in order. -/
  | jobCompletion (pool u : Nat)
  /-- STUCK_HEAD_SKIP (R242): A procession head unreleased for STUCK_TO ticks is skipped. -/
  | stuckHeadSkip (id : Word)
  /-- TIMER_REFILL_SWEEP (R244): Every 256 ticks, spilled timers near expiry are refilled on chip. -/
  | timerRefillSweep
  /-- SEGMENT_REFILL (R244): A spilled segment of a list or queue is refilled from lay-by. -/
  | segmentRefill (place : Sys2Proof.SpillPlace)
  /-- RECORD_ECC_ERROR (R245): An uncorrectable error in an Almanac record is handled by record kind. -/
  | recordEccError (what : Sys2Proof.LostRecord)
  /-- UNIT_FAULT (R247): A unit fault is reported; the unit is marked FAILING and its jobs re-dispatched or abandoned.
  -/
  | unitFault (c u : Nat) (cause : Sys2Proof.FaultCause)
  /-- DRAINED (R247): A leaving unit's started jobs have completed and it reports DRAINED. -/
  | drained (c u : Nat)
  /-- FFT (R128): An FFT transform job completes. -/
  | fft (u : Fin 16)
  /-- IFFT (R128): An IFFT transform job completes. -/
  | ifft (u : Fin 16)
  /-- DFTS_RX (R129): A DFT-spread receive transform job completes. -/
  | dftsRx (u : Fin 16)
  /-- OFDM_RX (R129): An LTE OFDM receive job completes. -/
  | ofdmRx (u : Fin 16)
  /-- OFDM_TX (R131): An LTE OFDM transmit job completes. -/
  | ofdmTx (u : Fin 16)
  /-- PRACH (R132): A PRACH detection job completes and writes its detection records. -/
  | prach (u : Fin 16)
  /-- SRS (R133): An SRS channel-report job completes. -/
  | srs (u : Fin 16)
  /-- CHAN (R134): A GSM channeliser job completes. -/
  | chan (u : Fin 16)
  /-- SYNTH (R134): A GSM band synthesis job completes. -/
  | synth (u : Fin 16)
  /-- EST (R139): An equaliser estimation and weights job completes. -/
  | est (u : Fin 16)
  /-- APPLY (R144): An equaliser apply and demapping job completes. -/
  | apply (u : Fin 16) (tapErrors : List Nat)
  /-- DEMAP (R147): A demapping job after DFTS_RX completes. -/
  | demap (u : Fin 16)
  /-- EQUALISER_PREEMPT (R148): A class A job pre-empts a running equaliser job at its next boundary. -/
  | equaliserPreempt (u : Fin 16)
  /-- LDPC_DECODE (R158): An LDPC decoder job completes, checks its work and updates the tally. -/
  | ldpcDecode (u : Fin 12) (run : DecodeRun)
  /-- TALLY_AGE_CLOSE (R163): An OPEN tally entry older than TALLY_AGE is closed as abandoned. -/
  | tallyAgeClose (n : Fin 1024)
  /-- LDPC_ENCODE (R167): An LDPC encoder job completes. -/
  | ldpcEncode (u : Fin 4) (consistent : Bool)
  /-- DEC_UCI (R169): A polar UCI decoding job completes. -/
  | decUci (u : Fin 4) (consistent : Bool)
  /-- DEC_RM (R170): A Reed-Muller block-code decoding job completes. -/
  | decRm (u : Fin 4) (consistent : Bool)
  /-- DEC_SMALL (R170): A K = 1 or 2 decoding job completes. -/
  | decSmall (u : Fin 4) (consistent : Bool)
  /-- ENC_DCI (R168): A DCI polar encoding job completes. -/
  | encDci (u : Fin 4) (consistent : Bool)
  /-- ENC_BCH (R168): A BCH polar encoding job completes. -/
  | encBch (u : Fin 4) (consistent : Bool)
  /-- VITERBI (R179): A Viterbi decoding job completes. -/
  | viterbi (u : Fin 4) (consistent : Bool)
  /-- TURBO (R183): A turbo decoding job completes. -/
  | turbo (u : Fin 4) (run : DecodeRun)
  /-- MLSE_GMSK (R188): A GMSK burst equalisation job completes. -/
  | mlseGmsk (u : Fin 4) (consistent : Bool)
  /-- MLSE_8PSK (R188): An 8-PSK burst equalisation job completes. -/
  | mlse8psk (u : Fin 4) (consistent : Bool)
  /-- BUILD (R198): A shaper BUILD job for one downlink symbol completes. -/
  | build (u : Fin 8)
  /-- ENCODE (R204): A shaper ENCODE job completes. -/
  | encode (u : Fin 8)
  /-- BURST (R207): A GSM burst modulation job completes. -/
  | burst (u : Fin 8)
  /-- EDGE (R205): A TDD edge ramp job completes. -/
  | edge (u : Fin 8)
  /-- GATE (R213): A GATE job derives the gate events of a slot and places them on lanes. -/
  | gate (u : Fin 8)
  /-- DOORBELL (R283): A write to a DMA channel's DOORBELL appends a descriptor chain. -/
  | doorbell (e : Fin 8) (n : Fin 320) (ni : Fin 256) (addr : DWord)
  /-- ABORT (R294): A CHCTL write of ABORT stops the channel at the next beat boundary. -/
  | abort (e : Fin 8) (n : Fin 320) (ni : Fin 256) (value : Word)
  /-- RESUME (R294): A CHCTL write of RESUME flushes the halted chain and clears HALT. -/
  | resume (e : Fin 8) (n : Fin 320) (ni : Fin 256) (value : Word)
  /-- RETRY (R294): A CHCTL write of RETRY reruns the failed block. -/
  | retry (e : Fin 8) (n : Fin 320) (ni : Fin 256) (value : Word)
  /-- SHADOW_WRITE (R296): A write to SHADOW changes the next image and clears ARM. -/
  | shadowWrite (e : Fin 8) (n : Fin 320) (ni : Fin 256) (off : Fin 64) (bytes : List Byte)
  /-- ARM (R296): A write of 1 to SHCTL.ARM arms the shadow set, starting a hand-over if idle. -/
  | arm (e : Fin 8) (n : Fin 320) (ni : Fin 256)
  /-- DMA_BEAT_RESPONSE (R293): The response to a DMA beat arrives. -/
  | dmaBeatResponse (e : Fin 8) (n : Fin 320) (mishap : Sys2Proof.Mishap) (ecc : Sys2Proof.EccHit) (bufBad : Bool)
  /-- DMA_BLOCK_COMPLETE (R293): A DMA block completes: hand-over, status word, queue entry and event. -/
  | dmaBlockComplete (e : Fin 8) (n : Fin 320)
  /-- RD (R255): A read request packet reaches its target. -/
  | rd (src : Fin 256) (addr : DWord) (len : Half) (dl : Bool) (mishap : Sys2Proof.Mishap) (ecc :
      Sys2Proof.EccHit)
  /-- WR (R287): A write request packet reaches its target. -/
  | wr (src : Fin 256) (addr : DWord) (data : List Byte) (dl : Bool) (mishap : Sys2Proof.Mishap) (ecc :
      Sys2Proof.EccHit)
  /-- MSG_PACKET (R268): A message packet reaches a unit's message port. -/
  | msgPacket (src dst : Fin 256) (data : List Byte) (dl : Bool) (mishap : Sys2Proof.Mishap)
  /-- MAINT_RD (R255): A maintenance read reaches an NI shell or junction. -/
  | maintRd (src ni : Fin 256) (reg : Sys2Proof.MaintReg) (mishap : Sys2Proof.Mishap)
  /-- MAINT_WR (R255): A maintenance write reaches an NI shell or junction. -/
  | maintWr (src ni : Fin 256) (reg : Sys2Proof.MaintReg) (value : DWord) (mishap : Sys2Proof.Mishap)
  /-- MARK (R273): A roadworks marker passes a junction and is counted. -/
  | mark (vc1 : Bool)
  /-- RD_RSP (R267): A read response arrives at its requester. -/
  | rdRsp (dst : Fin 256) (tag : Byte) (mishap : Sys2Proof.Mishap)
  /-- WR_RSP (R267): A write response arrives at its requester. -/
  | wrRsp (dst : Fin 256) (tag : Byte) (mishap : Sys2Proof.Mishap)
  /-- MSG_RSP (R268): A message response arrives at its requester. -/
  | msgRsp (dst : Fin 256) (tag : Byte) (mishap : Sys2Proof.Mishap)
  /-- MAINT_RD_RSP (R255): A maintenance read response arrives. -/
  | maintRdRsp (dst : Fin 256) (tag : Byte) (mishap : Sys2Proof.Mishap)
  /-- MAINT_WR_RSP (R255): A maintenance write response arrives. -/
  | maintWrRsp (dst : Fin 256) (tag : Byte) (mishap : Sys2Proof.Mishap)
  /-- TRANSACTION_TIMEOUT (R269): A transaction with no response after 64 us completes with TIMEOUT. -/
  | transactionTimeout (src : Fin 256) (tag : Byte)
  /-- FLIT_CRC_ERROR (R270): A flit fails its CRC and is replayed; a third failure fails the link. -/
  | flitCrcError (link : Sys2Proof.LinkId) (f : Sys2Proof.RxFlit)
  /-- ROADWORKS_START (R273): The control complex sends new rules and entries and NIs send their marks. -/
  | roadworksStart (ring : Fin 9) (junction : Fin 32) (changes : List (Nat × List (Nat × DWord))) (adds removes :
      List Sys2Proof.LinkId)
  /-- ROADWORKS_COMMIT (R273): After the junction reports DRAINED, NIs switch entries and release held requests. -/
  | roadworksCommit
  /-- ROADWORKS_TIMEOUT (R274): A roadworks caught by a link failure is completed after 10 us. -/
  | roadworksTimeout
  /-- CLOSING_TIMEOUT (R277): A shell in CLOSING for 20 us moves to CLOSED. -/
  | closingTimeout (ni : Fin 256)
  /-- SCRUB (R307): A background scrub read checks SRAM or HBM words. -/
  | scrub (addr : DWord) (ecc : Sys2Proof.EccHit)
  /-- ECNER_FRAME_RECEIVE (R321): An Ecner frame is received: alignment, BIP, overhead, DR pairs and containers. -/
  | ecnerFrameReceive (l : Fin 32) (f : Sys2Proof.RxFrame)
  /-- ECNER_FRAME_TRANSMIT (R322): An Ecner frame is sent with overhead, CTL word and containers. -/
  | ecnerFrameTransmit (l : Fin 32)
  /-- CONTAINER_DUE (R330): A downlink symbol-start event decides BLANK for streams not ready. -/
  | containerDue (cell start sym : Nat)
  /-- LOS_ENTRY (R337): No valid signal for 1 us declares LOS. -/
  | losEntry (w : Sys2Proof.LinePlace)
  /-- LOS_EXIT (R337): Signal valid for 4 frame periods clears LOS. -/
  | losExit (w : Sys2Proof.LinePlace)
  /-- DEFECT_WINDOW_END (R337): A 10 ms window ends and SF and SD are judged. -/
  | defectWindowEnd (l : Fin 32)
  /-- DR_INCONSISTENT (R340): No DR pair is accepted within 12 frames of a change. -/
  | drInconsistent (l : Fin 32)
  /-- HOLDOFF_EXPIRY (R343): A defect held for HOLDOFF raises FAIL or DEGRADE. -/
  | holdoffExpiry (l : Fin 32)
  /-- WTR_EXPIRY (R343): Wait-to-restore expires and NONE 0 follows. -/
  | wtrExpiry (g : Fin 16)
  /-- ECPRI_IQ_DATA (R348): An eCPRI type 0 message carrying a container is received. -/
  | ecpriIqData (l : Fin 32) (m : Sys2Proof.EcpriMsg)
  /-- ECPRI_REAL_TIME_CONTROL (R348): An eCPRI type 2 message carrying a CTL word is received. -/
  | ecpriRealTimeControl (l : Fin 32) (m : Sys2Proof.EcpriMsg)
  /-- ECPRI_DELAY_MEASUREMENT (R377): An eCPRI type 5 request is answered. -/
  | ecpriDelayMeasurement (w : Sys2Proof.DelayMsg)
  /-- ECPRI_STATE_SEND (R348): A STATE word is sent every 100 us on an Ethernet lane. -/
  | ecpriStateSend (l : Fin 32)
  /-- ETH_FRAME_RECEIVE (R372): A frame received on an Ethernet port is classified and routed. -/
  | ethFrameReceive (p : Fin 4) (f : Sys2Proof.EthFrame)
  /-- PTP_MESSAGE (R42): A PTP message is processed by the timing unit. -/
  | ptpMessage (p : Fin 4) (m : Sys2Proof.PtpMsg)
  /-- MANAGEMENT_FRAME (R376): A management frame from a peer delivers a Chiop command. -/
  | managementFrame (p : Fin 4) (f : Sys2Proof.EthFrame)
  /-- ETH_FRAME_TRANSMIT (R374): A host transmit frame has been sent and its descriptor returned. -/
  | ethFrameTransmit (p : Fin 4)
  /-- RING_NOTIFY (R374): The port's MSI-X vector is raised for returned descriptors. -/
  | ringNotify (p : Fin 4) (tx : Bool)
  /-- ANNOUNCE_TIMEOUT (R43): PTP announce timeout moves time quality toward HOLDOVER. -/
  | announceTimeout (p : Fin 4)
  /-- PERST_N (R386): PERST_N assertion resets the PCIe port and closes NI 244. -/
  | perstN
  /-- LINK_DOWN (R386): The PCIe link goes down. -/
  | linkDown
  /-- HOT_RESET (R386): A PCIe hot reset resets the port. -/
  | hotReset
  /-- FUNCTION_LEVEL_RESET (R386): An FLR resets the function for up to 100 ms. -/
  | functionLevelReset
  /-- D3HOT (R386): The function enters D3hot and NI 244 closes. -/
  | d3hot
  /-- BUS_MASTERING_DISABLE (R386): Bus mastering disabled closes NI 244. -/
  | busMasteringDisable
  /-- HOST_LOSS (R389): NI 244 closed for HOSTLOSS_MS; the device enters Quiesce. -/
  | hostLoss
  /-- HEARTBEAT (R388): A heartbeat event is generated every 10 ms. -/
  | heartbeat
  /-- BAR2_ACCESS (R538): A host access through the BAR2 window to HBM. -/
  | bar2Access (write : Bool) (off : BitVec 26) (n : Half) (bytes : List Byte) (ecc : Sys2Proof.EccHit)
  /-- GET_IDENTITY (R391): Chiop command returning part identity and start kind. -/
  | getIdentity (h : Sys2Proof.ChiopHdr) (p : List Byte)
  /-- GET_CAPABILITIES (R7): Chiop command returning the capability table. -/
  | getCapabilities (h : Sys2Proof.ChiopHdr) (p : List Byte)
  /-- GET_RESULT (R400): Chiop command returning a stored or pending result. -/
  | getResult (h : Sys2Proof.ChiopHdr) (p : List Byte)
  /-- CELL_ADD (R414): Stages the addition of a cell. -/
  | cellAdd (h : Sys2Proof.ChiopHdr) (p : List Byte)
  /-- CELL_REMOVE (R414): Stages the removal of a cell. -/
  | cellRemove (h : Sys2Proof.ChiopHdr) (p : List Byte)
  /-- CELL_MODIFY (R414): Stages a change of cell parameters. -/
  | cellModify (h : Sys2Proof.ChiopHdr) (p : List Byte)
  /-- STREAM_SET (R329): Stages stream table entries. -/
  | streamSet (h : Sys2Proof.ChiopHdr) (p : List Byte)
  /-- RAMP_SET (R206): Stages a ramp profile. -/
  | rampSet (h : Sys2Proof.ChiopHdr) (p : List Byte)
  /-- HARQ_SET (R311): Stages the HARQ area base and size. -/
  | harqSet (h : Sys2Proof.ChiopHdr) (p : List Byte)
  /-- HARQ_CLEAR (R313): Stages clearing of first-use map bits. -/
  | harqClear (h : Sys2Proof.ChiopHdr) (p : List Byte)
  /-- SLOT_SUBMIT (R415): Delivers a slot plan for one cell and direction. -/
  | slotSubmit (h : Sys2Proof.ChiopHdr) (p : List Byte)
  /-- IMAGE_LOAD (R454): Loads and checks a customer program image. -/
  | imageLoad (h : Sys2Proof.ChiopHdr) (p : List Byte)
  /-- IMAGE_BIND (R455): Stages binding of an image to cores. -/
  | imageBind (h : Sys2Proof.ChiopHdr) (p : List Byte)
  /-- IMAGE_DROP (R416): Drops an unbound customer image. -/
  | imageDrop (h : Sys2Proof.ChiopHdr) (p : List Byte)
  /-- RECOVERY_LOAD (R445): Loads a recovery image and starts cold from it. -/
  | recoveryLoad (h : Sys2Proof.ChiopHdr) (p : List Byte)
  /-- LANE_SET (R345): Stages a lane configuration record. -/
  | laneSet (h : Sys2Proof.ChiopHdr) (p : List Byte)
  /-- GROUP_SET (R345): Stages a protection group record. -/
  | groupSet (h : Sys2Proof.ChiopHdr) (p : List Byte)
  /-- DETOUR_CMD (R344): Stages a host detour request. -/
  | detourCmd (h : Sys2Proof.ChiopHdr) (p : List Byte)
  /-- PORT_SET (R371): Stages an Ethernet port record. -/
  | portSet (h : Sys2Proof.ChiopHdr) (p : List Byte)
  /-- GCC_WRITE (R326): Queues bytes for a lane's management channel. -/
  | gccWrite (h : Sys2Proof.ChiopHdr) (p : List Byte)
  /-- GCC_READ (R326): Returns bytes received on a lane's management channel. -/
  | gccRead (h : Sys2Proof.ChiopHdr) (p : List Byte)
  /-- SLACK_SET (R50): Stages slack-loop parameters. -/
  | slackSet (h : Sys2Proof.ChiopHdr) (p : List Byte)
  /-- TIME_SOURCE_SET (R546): Stages time sources, priorities and FN0. -/
  | timeSourceSet (h : Sys2Proof.ChiopHdr) (p : List Byte)
  /-- PPS_SECOND (R522): Supplies the GPS second of the next PPS edge. -/
  | ppsSecond (h : Sys2Proof.ChiopHdr) (p : List Byte)
  /-- TICK_SET (R46): Stages a change of the tick period. -/
  | tickSet (h : Sys2Proof.ChiopHdr) (p : List Byte)
  /-- DOMAIN_REQUEST (R463): Requests Run or Stop of a power domain. -/
  | domainRequest (h : Sys2Proof.ChiopHdr) (p : List Byte)
  /-- RELEASE_PADS (R473): Releases a domain's latched pads. -/
  | releasePads (h : Sys2Proof.ChiopHdr) (p : List Byte)
  /-- THERMAL_SET (R490): Stages thermal settings. -/
  | thermalSet (h : Sys2Proof.ChiopHdr) (p : List Byte)
  /-- HOSTLOSS_SET (R389): Sets HOSTLOSS_MS. -/
  | hostlossSet (h : Sys2Proof.ChiopHdr) (p : List Byte)
  /-- TIME_STEP (R44): Steps air time at a frame boundary while no cell is in service. -/
  | timeStep (h : Sys2Proof.ChiopHdr) (p : List Byte)
  /-- HEALTH_LOG_READ (R504): Returns event-log records. -/
  | healthLogRead (h : Sys2Proof.ChiopHdr) (p : List Byte)
  /-- SELFTEST_RUN (R495): Runs the targeted self-test of one unit. -/
  | selftestRun (h : Sys2Proof.ChiopHdr) (p : List Byte)
  /-- UNIT_REMOVE (R247): Stages the removal of a unit from service. -/
  | unitRemove (h : Sys2Proof.ChiopHdr) (p : List Byte)
  /-- REPLACE_ACK (R501): Acknowledges a replacement request and stops its repetition. -/
  | replaceAck (h : Sys2Proof.ChiopHdr) (p : List Byte)
  /-- PM_TIME_SET (R353): Stages LEAP and TZOFS. -/
  | pmTimeSet (h : Sys2Proof.ChiopHdr) (p : List Byte)
  /-- PM_THRESHOLD_SET (R367): Stages a threshold-crossing alert threshold. -/
  | pmThresholdSet (h : Sys2Proof.ChiopHdr) (p : List Byte)
  /-- PM_CLEAR (R363): Stages a clear of a lane's or group's current bins. -/
  | pmClear (h : Sys2Proof.ChiopHdr) (p : List Byte)
  /-- EPOCH_GET (R402): Returns epoch and stage state. -/
  | epochGet (h : Sys2Proof.ChiopHdr) (p : List Byte)
  /-- EPOCH_GRAN_SET (R402): Sets the epoch granularity. -/
  | epochGranSet (h : Sys2Proof.ChiopHdr) (p : List Byte)
  /-- COMMIT (R405): Seals the stage for a target boundary and is held until it. -/
  | commit (h : Sys2Proof.ChiopHdr) (p : List Byte)
  /-- DISCARD (R403): Discards the owner's stage. -/
  | discard (h : Sys2Proof.ChiopHdr) (p : List Byte)
  /-- STAGE_LIST (R403): Lists staged sequence numbers. -/
  | stageList (h : Sys2Proof.ChiopHdr) (p : List Byte)
  /-- SNAPSHOT_READ (R409): Returns status objects from one cut. -/
  | snapshotRead (h : Sys2Proof.ChiopHdr) (p : List Byte)
  /-- MODE_REQUEST (R422): Requests a change of mode, held until a boundary. -/
  | modeRequest (h : Sys2Proof.ChiopHdr) (p : List Byte)
  /-- ATTEST (R453): Returns a signed attestation report. -/
  | attest (h : Sys2Proof.ChiopHdr) (p : List Byte)
  /-- GET_DEVICE_KEYS (R452): Returns the device's public keys. -/
  | getDeviceKeys (h : Sys2Proof.ChiopHdr) (p : List Byte)
  /-- KEY_ENROLL (R448): Burns a customer key slot or a security fuse. -/
  | keyEnroll (h : Sys2Proof.ChiopHdr) (p : List Byte)
  /-- ROLLBACK_ADVANCE (R449): Advances an anti-rollback counter in fuses. -/
  | rollbackAdvance (h : Sys2Proof.ChiopHdr) (p : List Byte)
  /-- DEBUG_UNLOCK (R457): Challenge or response step of the debug unlock. -/
  | debugUnlock (h : Sys2Proof.ChiopHdr) (p : List Byte)
  /-- TALLY_AGE_SET (R417): Stages TALLY_AGE. -/
  | tallyAgeSet (h : Sys2Proof.ChiopHdr) (p : List Byte)
  /-- PTO_SET (R417): Stages PTO. -/
  | ptoSet (h : Sys2Proof.ChiopHdr) (p : List Byte)
  /-- LEAKY_SET (R494): Stages leaky-bucket limits for a class. -/
  | leakySet (h : Sys2Proof.ChiopHdr) (p : List Byte)
  /-- REG_READ (R417): Raw diagnostic register read in M11. -/
  | regRead (h : Sys2Proof.ChiopHdr) (p : List Byte)
  /-- REG_WRITE (R417): Raw diagnostic register write in M11. -/
  | regWrite (h : Sys2Proof.ChiopHdr) (p : List Byte)
  /-- LOOPBACK (R417): Sets lane and port loopbacks in M11. -/
  | loopback (h : Sys2Proof.ChiopHdr) (p : List Byte)
  /-- TRACE (R417): Starts event tracing to host memory in M11. -/
  | trace (h : Sys2Proof.ChiopHdr) (p : List Byte)
  /-- STAGE_TIMEOUT (R403): A stage with no staging command for 60 s is discarded. -/
  | stageTimeout
  /-- EPOCH_BOUNDARY (R406): An epoch boundary applies unit states, the committed stage, shedding, mode and the cut.
  -/
  | epochBoundary
  /-- SLACK_WINDOW_EDGE (R51): At a 1 ms window edge the slack loop decides VCORE and body bias. -/
  | slackWindowEdge
  /-- CLASS_A_MISS (R51): A class A miss signalled by Almanac triggers boost. -/
  | classAMiss
  /-- PMBUS_COMPLETE (R55): A PMBus transaction with a regulator completes or is not acknowledged. -/
  | pmbusComplete (reg : BitVec 8) (cmd : Sys2Proof.PmCmd) (ack : Bool) (value : Nat)
  /-- PMBUS_RETRY (R55): A retry interval for a failed VCORE command expires. -/
  | pmbusRetry
  /-- PMBUS_ALERT (R477): PMBUS_ALERT_N asserted: source found, status read and faults cleared. -/
  | pmbusAlert (reg : BitVec 8) (word : Half)
  /-- SLOT_SYMBOL_EVENT (R47): The timing unit delivers a slot-start or symbol-start event to Almanac. -/
  | slotSymbolEvent (cell : Nat) (down : Bool) (start : Nat) (sym : Sys2Proof.SymEvent)
  /-- GSM_TIMESLOT_EVENT (R39): A GSM timeslot boundary event is generated. -/
  | gsmTimeslotEvent
  /-- PPS_EDGE (R522): A PPS_IN edge is stamped and accepted, rejected or discarded. -/
  | ppsEdge (at_ : Nat)
  /-- PPS_LOSS (R43): No PPS edge for 1.5 s moves LOCKED to HOLDOVER. -/
  | ppsLoss
  /-- SOURCE_DISAGREEMENT (R43): Two sources differ by more than 1 us for 16 s and a health event is raised. -/
  | sourceDisagreement
  /-- PM_SECOND (R356): A PM second ends and is classified, finalised, binned and alerted. -/
  | pmSecond
  /-- POWER_ON (R430): Power is applied and a cold start begins. -/
  | powerOn
  /-- RESET_N_ASSERT (R517): RESET_N low holds the device in reset. -/
  | resetNAssert
  /-- RESET_N_RELEASE (R431): RESET_N released starts the cold start sequence. -/
  | resetNRelease
  /-- RAIL_OUT_OF_RANGE (R515): A rail out of range causes a brown-out reset. -/
  | railOutOfRange (rail : Fin 9) (above : Bool)
  /-- START_STEP_TIMEOUT (R437): A start step exceeds its bound and the attempt fails. -/
  | startStepTimeout
  /-- BOOT_GO (R537): A write of BOOT_GO hands the device a host boot image. -/
  | bootGo (v : Word)
  /-- HOSTWAIT_EXPIRY (R441): No BOOT_GO within HOSTWAIT fails the host boot source. -/
  | hostwaitExpiry
  /-- WARM_START (R489): The restart rule after M9 is met and a warm start begins. -/
  | warmStart
  /-- UNIT_STOPPED (R467): A stopping domain's shell is CLOSED and the domain enters retention. -/
  | unitStopped (code : Half)
  /-- RAMP_SLOT_GRANT (R469): A waiting wake obtains a ramp slot and opens its power gate. -/
  | rampSlotGrant
  /-- POWER_GOOD (R469): Power-good and PLL lock arrive and the domain returns to Run. -/
  | powerGood (code : Half)
  /-- WAKE_ATTEMPT_TIMEOUT (R470): No power-good within 2 ms fails the attempt, or the domain after three. -/
  | wakeAttemptTimeout (code : Half)
  /-- WAKE_RETRY (R470): 100 us after a failed attempt, the wake is tried again. -/
  | wakeRetry (code : Half)
  /-- HOUSEKEEPING_CONVERSION (R478): The housekeeping ADC converts one channel every 31.25 us. -/
  | housekeepingConversion (value : Half) (ok : Bool)
  /-- MODEL_STEP (R482): The thermal model advances every 50 us and TD is compared with TLIMIT. -/
  | modelStep (m : Sys2Proof.ModelStep)
  /-- THERMAL_LIMIT_CLEAR (R487): TD below TLIMIT - THYST for 1 s clears the limit. -/
  | thermalLimitClear
  /-- BUCKET_LEAK (R493): At each whole second LEAK is subtracted from every bucket. -/
  | bucketLeak
  /-- SELFTEST_COMPLETE (R495): A targeted self-test ends with pass, fail or SLOW. -/
  | selftestComplete (c u : BitVec 8) (rep : Sys2Proof.TestReport)
  /-- ROLLING_SELFTEST (R498): The rolling schedule starts the test of the next unit. -/
  | rollingSelftest
  /-- REPLACE_REQUEST (R501): The replacement request event repeats every 60 s until acknowledged. -/
  | replaceRequest
  /-- ALERT_CAUSE_W1C (R534): A W1C write clears alert cause bits. -/
  | alertCauseW1c (v : Word)
  /-- ALERT_MASK_WRITE (R534): A write of ALERT_MASK changes ALERT_N and may raise vector 2. -/
  | alertMaskWrite (v : Word)
  /-- RING_ENABLE (R535): A write of ENABLE = 1 checks and enables the host-channel rings. -/
  | ringEnable
  /-- RING_DISABLE (R535): A write of ENABLE = 0 stops use of the rings. -/
  | ringDisable
  /-- CMD_TAIL (R536): A write of CMD_TAIL announces command slots. -/
  | cmdTail (v : Word)
  /-- EVT_HEAD (R536): A write of EVT_HEAD frees event-ring space. -/
  | evtHead (v : Word)
  /-- WINBASE (R538): A write of WINBASE or WINCTL sets the BAR2 window. -/
  | winbase (ctl : Bool) (v : DWord)
  /-- TXEN (R539): A DCTL write of TXEN enables or disables a port's transmit ring. -/
  | txen (p : Fin 4) (on : Bool)
  /-- RXEN (R539): A DCTL write of RXEN enables or disables a port's receive ring. -/
  | rxen (p : Fin 4) (on : Bool)
  /-- TX_TAIL (R539): A write of TX_TAIL hands transmit descriptors to the device. -/
  | txTail (p : Fin 4) (v : Half)
  /-- RX_TAIL (R539): A write of RX_TAIL hands receive descriptors to the device. -/
  | rxTail (p : Fin 4) (v : Half)
  /-- REGISTER_WRITE (R531): A write to a register with no behaviour of its own. -/
  | registerWrite (off : BitVec 20) (n : Byte) (v : DWord)
  /-- JTAG_INSTRUCTION (R456): A JTAG instruction is executed, limited by DEBUG_LOCK. -/
  | jtagInstruction (op : Sys2Proof.JtagOp)
  /-- START_STEP_COMPLETE (R431): A start step such as BIST, HBM training, the flash fetch or VERIFY finishes, and the
  start advances to its next step or fails with a cause. -/
  | startStepComplete (r : Sys2Proof.StartReport)
  /-- RAILS_IN_RANGE (R515): After a brown-out, every rail has been back in range for 1 ms, and the device leaves its
  reset hold and starts cold. -/
  | railsInRange
  /-- VAON_LOSS (R438): Loss of VAON loses all PD.AON state, including the failed-start counters, RETAIN, the event
  log and PM bins. -/
  | vaonLoss
  /-- PERST_N_RELEASE (R386): PERST_N rises and the PCIe port starts link training, with configuration space answering
  within 100 ms. -/
  | perstNRelease
  /-- PCIE_LINK_UP (R386): PCIe link training completes and the link is up, one of the conditions for reopening NI
  244. -/
  | pcieLinkUp
  /-- BUS_MASTERING_ENABLE (R386): The host enables bus mastering, which reopens NI 244 and stops the host-loss timer.
  -/
  | busMasteringEnable
  /-- D0_ENTRY (R386): The function returns from D3hot to D0, and NI 244 reopens. -/
  | d0Entry
  /-- ETHERNET_LINK_UP (R378): Auto-negotiation and link training complete on an Ethernet port or ETHERNET-personality
  lane, and LINK and AN are set. -/
  | ethernetLinkUp (w : Sys2Proof.EthLink)
  /-- MODE_REQUEST_TIMEOUT (R424): The domains needed for service are not all in Run within 20 ms of the MODE_REQUEST
  being read, so the request completes with TIMEOUT and the mode is unchanged. -/
  | modeRequestTimeout
  /-- HELD_COMMAND_COMPLETE (R393): A held command's internal work finishes and its reply is written: an image check
  for IMAGE_LOAD or RECOVERY_LOAD, a fuse burn and read-back for KEY_ENROLL or ROLLBACK_ADVANCE, the signing for
  ATTEST, or the checks for DEBUG_UNLOCK. -/
  | heldCommandComplete (chan : Fin 17) (seq : Word) (o : Sys2Proof.HeldDone)
  /-- DEBUG_CHALLENGE_EXPIRY (R457): A DEBUG_UNLOCK challenge becomes invalid 60 s after it was issued. -/
  | debugChallengeExpiry
  /-- CUT_COMPLETE (R407): Cut E is complete, at most 50 µs after its boundary, and reads are served from it and no
  longer from cut E − 1. -/
  | cutComplete
  /-- PTP_TRANSMIT (R42): The timing unit sends periodic PTP messages, such as Sync, Announce or Delay_Req, on a PTP
  port. -/
  | ptpTransmit (p : Fin 4) (m : Sys2Proof.PtpSend)
  /-- ECPRI_MESSAGE_TRANSMIT (R348): An ETHERNET-personality lane sends an eCPRI message carrying a container or a
  GATE_ON or GATE_OFF word, including the second copy 4 µs later. -/
  | ecpriMessageTransmit (l : Fin 32) (w : Sys2Proof.EcpriSend)
deriving DecidableEq, Repr

end Sys2Proof
end

