-- ==== Sys2Proof/Machine/Bits.lean ====
section
/-! DEFINITION. Bit fields, byte order and saturation: the small arithmetic that every family uses. Fields are
little-endian everywhere (00_scope.md, R15). -/

namespace Sys2Proof.Machine

/-- `x` limited to `lo` … `hi`. -/
def clampInt (lo hi x : Int) : Int := if x < lo then lo else if hi < x then hi else x

/-- `x` limited to a signed 16-bit part (R83). -/
def sat16 (x : Int) : Int := clampInt (-32768) 32767 x

/-- `x` limited to a signed 8-bit value (R131, R155). -/
def sat8 (x : Int) : Int := clampInt (-127) 127 x

/-- floor (x / 2^k) for k at least 0, x * 2^-k for k below 0: the arithmetic shift of R80 and R102. -/
def shiftRightInt (x k : Int) : Int := if 0 ≤ k then x / (2 ^ k.toNat : Int) else x * (2 ^ (-k).toNat : Int)

/-- Round half up of x / 2^k (R127). -/
def rhuShift (x : Int) (k : Nat) : Int := if k = 0 then x else (x + 2 ^ (k - 1)) / (2 ^ k : Int)

/-- Real part of a complex 16+16 word (R64). -/
def partRe (w : Word) : Int := (w.extractLsb' 0 16).toInt
/-- Imaginary part of a complex 16+16 word (R64). -/
def partIm (w : Word) : Int := (w.extractLsb' 16 16).toInt
/-- The complex 16+16 word of two parts (R64). -/
def mkCplx (re im : Int) : Word := BitVec.ofInt 16 im ++ BitVec.ofInt 16 re

/-- The bytes of a field, least significant first. -/
def bytesOf : (n : Nat) → (x : Nat) → List Byte
  | 0, _ => []
  | n + 1, x => BitVec.ofNat 8 x :: bytesOf n (x / 256)

/-- The number that a list of bytes spells, least significant first. -/
def natOf : List Byte → Nat
  | [] => 0
  | b :: bs => b.toNat + 256 * natOf bs

/-- A little-endian parameter field. -/
def pf (p : List Byte) (off n : Nat) : Nat := natOf ((p.drop off).take n)

/-- Bits `lo` … `lo + n - 1` of a number. -/
def bitsAt (x lo n : Nat) : Nat := x / 2 ^ lo % 2 ^ n

/-- Bit `i` of a number. -/
def bitAt (x i : Nat) : Bool := x / 2 ^ i % 2 == 1

/-- 1 for true, 0 for false. -/
def boolNat (b : Bool) : Nat := if b then 1 else 0

/-- A number read as a signed field of `n` bits. -/
def signedOf (n x : Nat) : Int := if x % 2 ^ n < 2 ^ (n - 1) then ((x % 2 ^ n : Nat) : Int) else ((x % 2 ^ n : Nat) : Int) - 2 ^ n

/-- `xs` with element `i` replaced by `f` of it; unchanged past the end. -/
def updAt {α : Type} (xs : List α) (i : Nat) (f : α → α) : List α := xs.modify i f

/-- The first `n` bytes, filled up with 0. -/
def padTo (n : Nat) (bs : List Byte) : List Byte := (bs ++ List.replicate n 0).take n

/-- The quotient rounded up. -/
def ceilDiv (a b : Nat) : Nat := (a + b - 1) / b

/-- Insert a number into a rising list, once. -/
def insertNat (n : Nat) : List Nat → List Nat
  | [] => [n]
  | k :: rest => if n < k then n :: k :: rest else if n = k then k :: rest else k :: insertNat n rest

end Sys2Proof.Machine
end

