-- ==== Sys2Proof/Machine/State/Almanac.lean ====
section
/-! DEFINITION. The state of the Almanac task scheduler (09_almanac_scheduler.md). -/

namespace Sys2Proof.Machine

/-- STATE of a job record (Table 9.2); a job that is released is no longer kept. -/
inductive JobSt where
  | pending | waiting | ready | dispatched | complete
deriving DecidableEq, Repr

/-- A request that takes effect when the issuing job completes (R225): its bytes and the identifier it was given. -/
structure Deferred where
  req : List Byte
  obj : Word
  timer : Word
deriving DecidableEq, Repr

/-- A job record (Table 9.2) with what Almanac keeps beside it. CLASS 3 is a SKIP marker. -/
structure Job where
  id : Word
  st : JobSt := .waiting
  cls : Nat := 0
  barrier : Bool := false
  noretry : Bool := false
  late : Bool := false
  redisp : Bool := false
  gateTimeout : Bool := false
  skipped : Bool := false
  pool : Nat := 0
  unit : Nat := 0xFF
  gates : Nat := 0
  runat : Nat := 0xFF
  cell : Nat := 0
  desc : DWord := 0
  deadline : BitVec 40 := 0
  link : Word := 0
  proc : Bool := false
  /-- Of a job of a plan: it belongs to its cell's encode procession, which it joins when an event releases it (R172). -/
  wants : Bool := false
  pseq : Word := 0
  /-- Its ready-list record is on chip (R244). -/
  chip : Bool := true
  /-- Its place among the jobs that became READY, and the tick at which it did. -/
  order : Nat := 0
  readyAt : BitVec 40 := 0
  /-- Its unit runs it: an engine has started it, or a core has entered its handler. -/
  started : Bool := false
  /-- It holds the engine's class A slot (R232). -/
  aslot : Bool := false
  /-- Its run was pre-empted at a boundary (R148). -/
  paused : Bool := false
  /-- Entries of a BUILD whose encoder job had not been released when it first started (R196, R202). -/
  lateEnts : Option (List Nat) := none
  dtick : BitVec 40 := 0
  /-- Cores excluded after a PTO expiry (R238). -/
  excluded : List Nat := []
  deferred : List Deferred := []
  /-- The completion record of a job in COMPLETE: STATUS, AFLAGS, DONE_TICK (Table 9.12). -/
  status : Word := 0
  aflags : Nat := 0
  doneTick : Word := 0
  /-- Device-defined: what it serves. -/
  serves : Option Serves := none
  /-- Of a job of a plan: the copy of its descriptor and a BUILD's entries (R415), its symbol or timeslot, the first stream
  whose output it writes, and the symbols and streams whose arrivals have gated it (R227). -/
  copy : List Byte := []
  sym : Nat := 0xFF
  stream : Nat := 0
  /-- A GATE job, which has no descriptor (R195). -/
  gateJob : Bool := false
  /-- Its record was lost while PENDING: it completes so when it takes effect (R245). -/
  lost : Bool := false
deriving DecidableEq, Repr

/-- A procession record (Table 9.3). -/
structure Procession where
  id : Word
  closing : Bool := false
  window : Nat := 1
  nextSeq : Word := 0
  headSeq : Word := 0
  stuckTo : Word := 0
  headSince : BitVec 40 := 0
  relq : Word := 0
  skips : Word := 0
  /-- Second of air time of the last PROC_SKIP event (R242). -/
  lastEvent : Option Nat := none
  /-- Allocated by a deferred CREATE that has not taken effect. -/
  pending : Bool := false
  /-- The cell a device-created procession serves (R172, R193). -/
  owner : Option Nat := none
  /-- Its record is on chip, and the tick at which it was last used (R244). -/
  chip : Bool := true
  used : BitVec 40 := 0
deriving DecidableEq, Repr

/-- A timer record (Table 9.4); the list order is the insertion order. -/
structure Timer where
  id : Word
  armed : Bool := true
  action : Nat := 1
  cal : Nat := 0
  target : Word := 0
  expiry : BitVec 40 := 0
  period : BitVec 24 := 0
  entry : DWord := 0
  spilled : Bool := false
  /-- The tick at which it was armed: it fires at a later edge (R228). -/
  armedAt : BitVec 40 := 0
deriving DecidableEq, Repr

/-- A queue record (Table 9.5) with its entries, oldest first. -/
structure Queue where
  id : Word
  closing : Bool := false
  hostev : Bool := false
  limit : Nat := 1
  entries : List (List Byte) := []
  overrun : Word := 0
  /-- Places held for deferred Q_PUTs (R225). -/
  reserved : Nat := 0
  /-- Entries on chip, from the head; its record is on chip; the tick at which it was last used (R244). -/
  chip : Nat := 0
  home : Bool := true
  used : BitVec 40 := 0
  pending : Bool := false
deriving DecidableEq, Repr

/-- A unit's place in its Almanac pool (R247). -/
structure PoolRec where
  joined : Bool := false
  leaving : Bool := false
  failing : Bool := false
deriving DecidableEq, Repr

/-- An outstanding delivery to a core (R235 to R238). -/
structure Delivery where
  core : Nat
  job : Word
  preempt : Bool
  tick : BitVec 40
deriving DecidableEq, Repr

/-- A completion that a unit has reported and Almanac has not yet taken. -/
structure Report where
  pool : Nat
  slot : Nat
  job : Word
  status : Word
deriving DecidableEq, Repr

/-- Almanac. -/
structure AlmState where
  jobs : List Job := []
  procs : List Procession := []
  timers : List Timer := []
  queues : List Queue := []
  /-- The last GEN given to an index (R219). -/
  gens : List (Nat × Nat) := []
  /-- Skipped jobs, whose outputs no BUILD may read (R202). -/
  skippedIds : List Word := []
  nextOrder : Nat := 0
  /-- UNIT_CFG (R222). -/
  unitCfg : Vector (BitVec 3) 128 := Vector.replicate 128 7
  /-- Pool membership, by unit slot as in the unit table. -/
  pool : Vector PoolRec 2048 := Vector.replicate 2048 {}
  deliveries : List Delivery := []
  reports : List Report := []
  /-- The last reply of each control-core and event port (R222). -/
  replies : List (Sys2Proof.AlmPort × List Byte) := []
  /-- Completions discarded under F3 (R247). -/
  discarded : Nat := 0
  ptoExpiries : Nat := 0
  /-- Wakes posted and their outcome, counted (R463). -/
  wakeOutcomes : Nat := 0
deriving DecidableEq, Repr

end Sys2Proof.Machine
end

