-- ==== Sys2Proof/Machine/State/Engine.lean ====
section
/-! DEFINITION. What the accelerator engines keep between jobs and what has arrived for a cell (05_transform_and_equaliser.md,
R140 to R143; 06_ldpc_and_polar.md, R162, R163; 09_almanac_scheduler.md, R227). -/

namespace Sys2Proof.Machine

/-- A delivered segment of a stream and symbol (R227): its SID, its symbol's air time, first PRB or sample, how many, its
body. -/
structure Arrival where
  sid : Nat := 0
  stream : Nat
  at_ : Nat
  first : Nat
  count : Nat
  last : Bool
  kind : Nat
  body : List Byte
deriving DecidableEq, Repr

/-- A complex dyadic number: the parts in units of 2^u. -/
structure Dyad where
  re : Int
  im : Int
  u : Int
deriving DecidableEq, Repr

/-- The taps of a subcarrier and layer (R141): the streams' 12-bit parts, their exponent, the unbiasing gain and the noise
variance after equalisation. -/
structure LayerTap where
  w : List (Int × Int)
  e : Int
  gain : Dyad
  var : Dyad
deriving DecidableEq, Repr

/-- The taps of one cell in an engine's tap store (R143): the slot of the EST that wrote them, their layers and streams, the
subcarriers with zeroed taps, the taps by subcarrier and layer; what APPLY tracks phases by (R144): FOFS, the turn a Tc in units
of 2^-24 turn (its numerator and denominator), the symbol the taps refer to, and the phases applied by symbol and layer; and
the EST job, which runs again where the engine fails (R148). -/
structure TapSet where
  cell : Nat
  slot : Nat
  nl : Nat
  ns : Nat
  prb0 : Nat
  nprb : Nat
  pivots : List Nat
  fofs : Option Int
  fofsHi : Bool
  ramp : Option (Int × Nat)
  last : Nat
  phases : List (Nat × List Int)
  taps : List (List LayerTap)
  est : Job
deriving DecidableEq, Repr

/-- STATE of a tally entry (Table 6.1). -/
inductive TallySt where
  | free | opened | closed
deriving DecidableEq, Repr

/-- An entry of the transport-block tally (R162, R163). -/
structure TallyRec where
  st : TallySt := .free
  acc : Nat := 0
  seen : List Nat := []
  fails : Nat := 0
  tbid : Word := 0
  blocks : Nat := 0
  tbst : DWord := 0
  tick : BitVec 40 := 0
deriving DecidableEq, Repr

/-- What the engines hold: the tap stores by engine and the tally's 1,024 entries. -/
structure EngineState where
  taps : Vector (List TapSet) 16 := Vector.replicate 16 []
  tally : Vector TallyRec 1024 := Vector.replicate 1024 {}
deriving DecidableEq, Repr

end Sys2Proof.Machine
end

