-- ==== Sys2Proof/Machine/Numbers.lean ====
section
/-! DEFINITION. Numbers of the engines (R126, R127): rounding, block exponents, exact dyadic numbers, and sines, phases and
decibels by integer arithmetic. -/

namespace Sys2Proof.Machine

/-! ### Complex integers -/

/-- The complex product. -/
def cMul (x y : Int × Int) : Int × Int := (x.1 * y.1 - x.2 * y.2, x.1 * y.2 + x.2 * y.1)
/-- The complex sum. -/
def cAdd (x y : Int × Int) : Int × Int := (x.1 + y.1, x.2 + y.2)
/-- The complex difference. -/
def cSub (x y : Int × Int) : Int × Int := (x.1 - y.1, x.2 - y.2)
/-- The conjugate. -/
def cConj (x : Int × Int) : Int × Int := (x.1, -x.2)
/-- The sum of a list. -/
def cTotal (xs : List (Int × Int)) : Int × Int := xs.foldl cAdd (0, 0)
/-- The squared magnitude. -/
def cAbs2 (x : Int × Int) : Nat := x.1.natAbs * x.1.natAbs + x.2.natAbs * x.2.natAbs

/-! ### Rounding (R127) -/

/-- A part rounded half up by a shift and held at the top positive code of `w` bits (R127). -/
def roundPart (w : Nat) (x : Int) (s : Nat) : Int := min (rhuShift x s) (2 ^ (w - 1) - 1)

/-- x / 2^k rounded half up, for k of either sign. -/
def rhuInt (x k : Int) : Int := if 0 ≤ k then rhuShift x k.toNat else x * 2 ^ (-k).toNat

/-- Whether x / 2^s, rounded as R127 says, fits `w` bits: the carry past the top positive code does not count. -/
def fitsAt (w : Nat) (x s : Int) : Bool :=
  decide (shiftRightInt x s ≤ 2 ^ (w - 1) - 1) && decide (-(2 ^ (w - 1) : Int) ≤ rhuInt x s)

/-- Binary places of a magnitude. -/
def bitLen (x : Nat) : Nat := if x = 0 then 0 else Nat.log2 x + 1

/-- The smallest s for which x / 2^s fits `w` bits; none for 0. -/
def needShift (w : Nat) (x : Int) : Option Int :=
  if x = 0 then none
  else
    let s : Int := (bitLen (if x < 0 then (-x - 1).toNat else x.toNat) : Int) - (w - 1 : Nat)
    some (if fitsAt w x (s - 1) then s - 1 else s)

/-- Redundant sign bits of a part of `w` bits: the leading bits equal to the sign bit, less one (R130). -/
def signBits (w : Nat) (x : Int) : Nat :=
  ((List.range w).filter (fun k => decide (-(2 ^ (w - 1 - k) : Int) ≤ x ∧ x < (2 ^ (w - 1 - k) : Int)))).length - 1

/-- The smallest count over all parts of a block of 18-bit parts (R130). -/
def blockSigns (xs : List (Int × Int)) : Nat :=
  xs.foldl (fun n x => Nat.min n (Nat.min (signBits 18 x.1) (signBits 18 x.2))) 17

/-- A block rounded by a shift. -/
def roundBlock (w : Nat) (xs : List (Int × Int)) (s : Nat) : List (Int × Int) :=
  xs.map (fun x => (roundPart w x.1 s, roundPart w x.2 s))

/-! ### Dyadic numbers -/

/-- The parts of a dyadic number in units of 2^u, where its own unit is no smaller. -/
def Dyad.parts (x : Dyad) (u : Int) : Int × Int := (shiftRightInt x.re (u - x.u), shiftRightInt x.im (u - x.u))

/-- The exact sum. -/
def Dyad.add (x y : Dyad) : Dyad :=
  let u := min x.u y.u
  let s := cAdd (x.parts u) (y.parts u)
  ⟨s.1, s.2, u⟩

/-- The exact product. -/
def Dyad.mul (x y : Dyad) : Dyad :=
  let p := cMul (x.re, x.im) (y.re, y.im)
  ⟨p.1, p.2, x.u + y.u⟩

/-- The conjugate and the negative. -/
def Dyad.conj (x : Dyad) : Dyad := { x with im := -x.im }
/-- See `Dyad.conj`. -/
def Dyad.neg (x : Dyad) : Dyad := { x with re := -x.re, im := -x.im }
/-- The squared magnitude. -/
def Dyad.abs2 (x : Dyad) : Dyad := ⟨(cAbs2 (x.re, x.im) : Nat), 0, 2 * x.u⟩
/-- The sum of a list. -/
def dySum (xs : List Dyad) : Dyad := xs.foldl Dyad.add ⟨0, 0, 0⟩
/-- 0 and 1. -/
def dyZero : Dyad := ⟨0, 0, 0⟩
/-- See `dyZero`. -/
def dyOne : Dyad := ⟨1, 0, 0⟩

/-- A quotient by a real number, to 48 places. -/
def Dyad.over (x : Dyad) (d : Dyad) : Dyad := ⟨x.re * 2 ^ 48 / d.re, x.im * 2 ^ 48 / d.re, x.u - d.u - 48⟩

/-- A quotient by a count, to 48 places. -/
def Dyad.per (x : Dyad) (n : Nat) : Dyad := x.over ⟨Nat.max 1 n, 0, 0⟩

/-- Whether one real number is less than another. -/
def Dyad.lt (x y : Dyad) : Bool :=
  let u := min x.u y.u
  decide ((x.parts u).1 < (y.parts u).1)

/-- The unit of the block exponent: the smallest for which every part rounded to `w` bits fits (R127); none for zeros. -/
def blockUnit (w : Nat) (xs : List Dyad) : Option Int :=
  xs.foldl (fun (best : Option Int) x =>
    let one := fun (best : Option Int) (p : Int) => match needShift w p with
      | none => best
      | some s => some (match best with | none => x.u + s | some b => max b (x.u + s))
    one (one best x.re) x.im) none

/-- A number in `w`-bit parts of unit 2^u (R127). -/
def Dyad.toUnit (x : Dyad) (w : Nat) (u : Int) : Int × Int :=
  let one := fun (p : Int) => min (rhuInt p (u - x.u)) (2 ^ (w - 1) - 1)
  (one x.re, one x.im)

/-- A block in `w`-bit parts with its exponent (R126, R127): a part x stands for x × 2^(E - (w - 1)), and a block of zeros has
the exponent -128. -/
def fitBlock (w : Nat) (xs : List Dyad) : List (Int × Int) × Int :=
  match blockUnit w xs with
  | none => (xs.map (fun _ => (0, 0)), -128)
  | some u =>
    let e := max (u + (w - 1 : Nat)) (-128)
    (xs.map (fun x => x.toUnit w (e - (w - 1 : Nat))), e)

/-- The numbers that a block of `w`-bit parts stands for. -/
def blockDyads (w : Nat) (b : List (Int × Int) × Int) : List Dyad := b.1.map (fun x => ⟨x.1, x.2, b.2 - (w - 1 : Nat)⟩)

/-- Numbers held as a block of `w`-bit parts. -/
def fitDyads (w : Nat) (xs : List Dyad) : List Dyad := blockDyads w (fitBlock w xs)

/-! ### Sines and phases -/

/-- 2π in units of 2^-64. -/
def twoPi64 : Int := 115904311329233965478

/-- Cosine and sine of an angle, both and the angle in units of 2^-64, by their series. -/
def trigSeries (x : Int) : Int × Int :=
  let r := (List.range 48).foldl (fun (a : Int × Int × Int) i =>
    (a.1 * x / ((i : Int) + 1) / 2 ^ 64,
      if i % 2 = 0 then (if i % 4 = 0 then a.2.1 + a.1 else a.2.1 - a.1) else a.2.1,
      if i % 2 = 1 then (if i % 4 = 1 then a.2.2 + a.1 else a.2.2 - a.1) else a.2.2)) ((2 : Int) ^ 64, 0, 0)
  r.2

/-- A phase: a fraction of a turn. -/
structure Phase where
  num : Nat
  den : Nat
deriving DecidableEq, Repr

/-- The twiddle e^(j2π num/den) in 18-bit parts, Q17 (Table 5.1), rounded as R127 says. -/
def Phase.twiddle (p : Phase) : Int × Int :=
  let t := trigSeries (twoPi64 * (p.num % p.den : Nat) / (p.den : Int))
  (roundPart 18 t.1 47, roundPart 18 t.2 47)

/-- The opposite phase. -/
def Phase.neg (p : Phase) : Phase := ⟨p.den - p.num % p.den, p.den⟩

/-- The quarter turns of a phase that is a whole number of them. -/
def Phase.quarters (p : Phase) : Option Nat := if 4 * p.num % p.den = 0 then some (4 * p.num / p.den % 4) else none

/-- Parts turned by a phase: by quarter turns exactly, else by the twiddle's product, rounded once (R130; DEDUCED, log entry
41). -/
def turnParts (x : Int × Int) (p : Phase) : Int × Int :=
  match p.quarters with
  | some 0 => x
  | some 1 => (-x.2, x.1)
  | some 2 => (-x.1, -x.2)
  | some _ => (x.2, -x.1)
  | none =>
    let y := cMul x p.twiddle
    (rhuShift y.1 17, rhuShift y.2 17)

/-- A number turned by a phase, its product with the twiddle exact. -/
def Dyad.turn (x : Dyad) (p : Phase) : Dyad :=
  match p.quarters with
  | some n => let y := turnParts (x.re, x.im) ⟨n, 4⟩; ⟨y.1, y.2, x.u⟩
  | none => let y := cMul (x.re, x.im) p.twiddle; ⟨y.1, y.2, x.u - 17⟩

/-- The angle of a number in units of 2^-24 turn, 0 for 0: the largest q whose direction it has reached. -/
def angle24 (x : Int × Int) : Nat :=
  if x = (0, 0) then 0
  else
    -- the quadrant, then the rest of the turn by halving
    let quad : Nat := if 0 < x.1 ∧ 0 ≤ x.2 then 0 else if x.1 ≤ 0 ∧ 0 < x.2 then 1 else if x.1 < 0 ∧ x.2 ≤ 0 then 2 else 3
    let y := turnParts x ⟨(4 - quad) % 4, 4⟩
    let rest := (List.range 22).foldl (fun (q : Nat) i =>
      let c : Nat := q + 2 ^ (21 - i)
      let t := trigSeries (twoPi64 * (c : Nat) / 2 ^ 24)
      if y.1 * t.2 ≤ y.2 * t.1 then c else q) 0
    quad * 2 ^ 22 + rest

/-! ### Decibels -/

/-- The largest n with 10^n ≤ (a / b)^k, within ±`lim`: a ratio in units of 1 / k of 10 decibels, rounded down. -/
def log10Units (k lim a b : Nat) : Int :=
  if a = 0 then -(lim : Int)
  else if b = 0 then lim
  else
    let ok := fun (n : Int) => if 0 ≤ n then decide (10 ^ n.toNat * b ^ k ≤ a ^ k) else decide (b ^ k ≤ a ^ k * 10 ^ (-n).toNat)
    let steps := bitLen (2 * lim)
    (List.range steps).foldl (fun (n : Int) i =>
      let c := n + 2 ^ (steps - 1 - i)
      if c ≤ lim ∧ ok c then c else n) (-(lim : Int))

end Sys2Proof.Machine
end

