-- ==== Sys2Proof/Machine/Fft.lean ====
section
/-! DEFINITION. The transform: sizes, passes and block exponents (05_transform_and_equaliser.md, R128, R130, R131). -/

namespace Sys2Proof.Machine

/-- The exponents of 2, 3 and 5 in a transform size; none where other factors remain. -/
def sizeFactors (n : Nat) : Option (Nat × Nat × Nat) :=
  (List.range 14).findSome? (fun i => (List.range 9).findSome? (fun j => (List.range 6).findSome? (fun k =>
    if 2 ^ i * 3 ^ j * 5 ^ k = n then some (i, j, k) else none)))

/-- The radices of the passes in their order (R128). -/
def passRadices (n : Nat) : List Nat :=
  match sizeFactors n with
  | some (i, j, k) => List.replicate (i / 2) 4 ++ List.replicate (i % 2) 2 ++ List.replicate j 3 ++ List.replicate k 5
  | none => []

/-- Whether a size is supported (R128). -/
def sizeOk (n : Nat) : Bool := decide (12 ≤ n ∧ n ≤ 8192) && (sizeFactors n).isSome

/-- The phase k / n of a transform: forward against the turn, inverse with it (R128). -/
def passPhase (inv : Bool) (k n : Nat) : Phase := if inv then ⟨k % n, n⟩ else (⟨k % n, n⟩ : Phase).neg

/-- A pass of radix r that decimates blocks of length `len` in frequency: output q of the butterfly over the elements j,
j + len/r, … of a block, turned by jq / len (R128, R130). Quarter turns are exact, other products are rounded once; that
and the twiddles' rounding are readings (DEDUCED, log entry 41). -/
def fftPass (inv : Bool) (len r : Nat) (xs : List (Int × Int)) : List (Int × Int) :=
  let a := xs.toArray
  let m := len / r
  (List.range xs.length).map (fun i =>
    let base := i / len * len
    let q := i % len / m
    let j := i % m
    let sum := cTotal ((List.range r).map (fun p => turnParts (a.getD (base + p * m + j) (0, 0)) (passPhase inv (p * q) r)))
    turnParts sum (passPhase inv (j * q) len))

/-- Where the passes leave bin k of n: its digits by the radices, in reverse. -/
def binPlace : List Nat → Nat → Nat → Nat
  | [], _, _ => 0
  | r :: rest, n, k => k % r * (n / r) + binPlace rest (n / r) (k / r)

/-- What the passes so far have produced (R130): the block, its exponent, the sum of the shifts, the length of a block still to
be transformed. -/
structure FftRun where
  xs : List (Int × Int)
  e : Int
  shifts : Nat
  len : Nat
deriving DecidableEq, Repr

/-- One pass with the block exponent before it (R130). -/
def FftRun.pass (inv : Bool) (x : FftRun) (r : Nat) : FftRun :=
  let s := (if r = 2 then 2 else 3) - blockSigns x.xs
  { xs := fftPass inv x.len r (roundBlock 18 x.xs s), e := x.e + (s : Nat), shifts := x.shifts + s, len := x.len / r }

/-- The transform of n 18-bit parts with the exponent e (R128, R130): the bins in natural order, the exponent, the sum of the
shifts. -/
def runPasses (inv : Bool) (n : Nat) (xs : List (Int × Int)) (e : Int) : List (Int × Int) × Int × Nat :=
  let rs := passRadices n
  let r := rs.foldl (FftRun.pass inv) { xs := xs, e := e, shifts := 0, len := n }
  let a := r.xs.toArray
  ((List.range n).map (fun k => a.getD (binPlace rs n k) (0, 0)), r.e, r.shifts)

/-- The final shift (R130), or that of FIXEXP with its saturated parts counted (R131): the parts, the exponent, the count. -/
def finalShift (fix : Option Int) (xs : List (Int × Int)) (e : Int) : List (Int × Int) × Int × Nat :=
  match fix with
  | none =>
    let s := 2 - blockSigns xs
    (roundBlock 16 xs s, e + (s : Nat) - 2, 0)
  | some f =>
    let raw := xs.map (fun x => (rhuInt x.1 (f - e + 2), rhuInt x.2 (f - e + 2)))
    let clip := (raw.map (fun x => boolNat (sat16 x.1 != x.1) + boolNat (sat16 x.2 != x.2))).sum
    (raw.map (fun x => (sat16 x.1, sat16 x.2)), f, clip)

/-- The transform of exact numbers held in 18-bit parts (Table 5.1), as exact numbers. -/
def dyTransform (inv : Bool) (n : Nat) (xs : List Dyad) : List Dyad :=
  let b := fitBlock 18 xs
  let r := runPasses inv n b.1 b.2
  blockDyads 18 (r.1, r.2.1)

end Sys2Proof.Machine
end

