-- ==== Sys2Proof/Config.lean ====
section
/-! DEFINITION. What one device of this kind fixes and the values the spec leaves open. Every `opaque` constant has no
body: nothing can evaluate it, so a claim about it holds whatever it is (a free value). -/

namespace Sys2Proof.Config

/-- Fresh free words, by a counter that the step advances: the EVAL that R90 gives no meaning for some traps. -/
opaque freeWord : Nat → Word

/-- Whether VROT moves lanes upward: the direction of R73's rotation is not said (log entry 22). -/
opaque vrotUp : Bool

/-- The lane of A that VBFLY puts into a lane, by MOD[2:0]: R73 names an interleave and gives no lane map (entry 22). -/
opaque vbflyLane : BitVec 3 → Fin 32 → Fin 32

/-- The real part VMULJ writes where it negates -32,768, and whether it sets VSTAT.SAT (entry 22). -/
opaque vmuljCorner : Half
/-- See `vmuljCorner`. -/
opaque vmuljCornerSat : Bool

/-- The diagonal element of MXID's identity: 1 has no Q15 code at the E = 0 that Table 4.1 gives (entry 23). -/
opaque mxIdentityDiag : Half

/-- Whether an internal value of MXINV saturates (R105), by size, source elements and exponent: the range of its shared
exponents is not given (log entry 76). -/
opaque mxInvSat : Nat → Vector Word 64 → BitVec 8 → Bool
/-- The components MXINV's passes produce after a pivot that is zero or negative, or a saturation, and their unit. -/
opaque mxInvPart : Nat → Vector Word 64 → BitVec 8 → Nat → Nat → Int × Int
/-- See `mxInvPart`. -/
opaque mxInvUnit : Nat → Vector Word 64 → BitVec 8 → Int

/-- PROGRESS, STEP (of commands that define none) and ETA_US of a progress block, which are estimates (R400). -/
opaque progress : Nat → Half
/-- See `progress`. -/
opaque progressStep : Nat → Half
/-- See `progress`. -/
opaque progressEta : Nat → Word

/-- COMMIT_TARGET of the device status record while no COMMIT is held, by the cut's epoch: Table 16.11 calls it valid
under FLAGS[0] alone (log entry 55). -/
opaque noTarget : Word → Word

/-- The index Almanac gives a new object, where it is free: R219 fixes the identifier's form and GEN alone (entry 29). -/
opaque newIndex : Nat → BitVec 23

/-- Whether a timer more than 2,048 ticks ahead leaves the chip when it is armed: R244 says that it may (entry 30). -/
opaque timerSpills : Nat → Bool

/-- Which of the nodes of its area lies at a diode's location (R479): R478 names areas, not nodes (entry 32). -/
opaque diodePick : Nat → Nat

/-- The inverse-distance mean that seeds a node (R483): the distances are not given (entry 32). -/
opaque seedNode : List Int → Fin 96 → Int

/-- Whether a port sends PTP to the forwardable multicast address (R42): the spec does not say when (log entry 64). -/
opaque ptpForwardable : Nat → Bool

/-- Whether a figure of the thermal model is rounded up, by the figure, numerator and denominator: K, the case node, PCORE and
the parts of SPLIT before seeding have no rounding rule (R480, R482, R483, R491; log entry 85). -/
opaque thermalUp : Nat → Int → Int → Bool

/-- The modelled VCORE power of the round before the model is seeded, in 0.1 W (R480, R483): 240 W are split by consumer, not by
rail (log entry 85). -/
opaque seedPcore : Nat

/-- Bytes of a destination that the spec leaves unknown or undefined after a transfer (R257, R285, R295). -/
opaque freeByte : Nat → Byte

/-- What a maintenance read answers for a register whose format is internal (R255). -/
opaque maintWord : Nat → DWord

/-- The exponent at which a transform job reads samples that carry none: the stream's fixed one, which no field names (Table
13.4, R130; log entry 41). -/
opaque plainExp : Int

/-- The phases of the low-PAPR sequences of length 6 to 24, by length, group and element: 2k + 1 eighths of a turn (TS 38.211
Tables 5.2.2.2-1 to -4, which the spec names and does not repeat). -/
opaque lowPapr : Nat → Nat → Nat → Fin 4

/-- The physical root of a logical root index of PRACH, for L = 839 where true, else for 139: TS 38.211 Tables 6.3.3.1-3 and -4,
TS 36.211 Tables 5.7.2-4 and -5, which the spec names and does not repeat. -/
opaque prachRoot : Bool → Nat → Nat

/-- The wideband SINR of an SRS port (R133), by parameter block, streams and port: how it is measured is not given. -/
opaque srsSinr : List Byte → Nat → Nat → BitVec 16

/-- The built-in channel filter of CHAN and SYNTH (R134): its coefficients are not given. -/
opaque gmskTap : Nat → BitVec 16

/-- The air time of the first timeslot of a CHAN job that no plan brought, by its descriptor (R134). -/
opaque chanStart : List Byte → Nat

/-- Over how many places beyond each band edge estimates are mirrored (R139), by their count and the transform's length. -/
opaque mirrorLen : Nat → Nat → Nat

/-- How many bins before 0 the window of kept delay bins begins (R139), by the transform's length and DN_TAPS. -/
opaque windowStart : Nat → Nat → Nat

/-- What the mean power outside the window is divided by to give a stream's noise variance (R139), by the estimates' count and
DN_TAPS. -/
opaque noiseGain : Nat → Nat → Nat

/-- The 4 bytes in which the history buffer holds a value, and the value that 4 bytes stand for (R140): their format is not
given. -/
opaque histWord : Int → Int → Int → Word
/-- See `histWord`. -/
opaque histValue : Word → Int × Int × Int

/-- Whether the weight solver saturates at a subcarrier, by descriptor and input, and the weights it then writes (R141): how
its exponents are chosen is not given. -/
opaque solverSat : List Byte → List Byte → Nat → Bool
/-- See `solverSat`. -/
opaque satTap : List Byte → List Byte → Nat → Nat → Nat → Int × Int × Int

/-- The taps an APPLY finds where no EST has written any, by descriptor, subcarrier and layer: parts, exponent, gain, variance. -/
opaque strayTap : List Byte → Nat → Nat → List (Int × Int) × Int × (Int × Int) × (Int × Int)

/-- The parts of z that an APPLY under TPRE writes for an element that REMASK does not name (R147). -/
opaque maskedZ : List Byte → Nat → Nat → BitVec 16 × BitVec 16

/-- The residual phase of a layer that APPLY measures (R144), in 2^-24 turns, by descriptor, input, layer, and whether it comes
from the PT-RS: how it is measured is not given. -/
opaque residualPhase : List Byte → List Byte → Nat → Bool → Int

/-- What DEC_UCI puts out where the payload and its CRC do not fit the code (R169): payload bits, CRC_OK and metric, by descriptor,
LLRs and segment. -/
opaque polarMisfit : List Byte → List Int → Nat → (Nat → Bool) × Bool × Half

/-- The received power and the signal-to-noise ratio an MLSE job reports (Table 7.7), by descriptor and samples: how they are measured
is not given. -/
opaque mlsePower : List Byte → List Byte → BitVec 16
/-- See `mlsePower`. -/
opaque mlseSnr : List Byte → List Byte → Byte

/-- Binary places of a sequence metric of MLSE after the point (R188): the spec gives its 20 bits and not their unit (entry 46). -/
opaque mlseUnit : Nat

/-- The bits of the training sequences of sets 2 to 4, for 8-PSK where true (TS 45.002 §5.2.3, which the spec names and does not
repeat), by set - 1, TSC and place. -/
opaque training : Bool → Nat → Nat → Nat → Bool

/-- What a SYNC entry sends where it selects more elements than its signal has, in 2^-17, by CINIT and place (log entry 47). -/
opaque syncBeyond : Nat → Nat → BitVec 18 × BitVec 18

/-- The phase at which a GMSK burst begins, by its descriptor: neither the spec nor TS 45.004 gives it (entry 48). -/
opaque burstPhase : List Byte → BitVec 24

/-- Whether requests over an itinerary whose VCSEL is the reserved code 3 use VC2 and not VC0 (R258; log entry 80). -/
opaque reservedVc : BitVec 64 → Bool

/-- The HBM row that holds a device address, within its pseudo-channel, and the spare rows of a pseudo-channel (R309): the spec
gives neither (log entry 82). -/
opaque hbmRow : Nat → Nat
/-- See `hbmRow`. -/
opaque hbmSpares : Nat

/-- The 32 random bytes of a hedged ML-DSA-65 signature, fresh each time (R453). -/
opaque signRandom : Nat → Nat → Byte

/-- Zoralo's PCI-SIG identifier (R380; log entry 84). -/
opaque vendorId : Half

/-- The random bytes of a debug challenge (R457). -/
opaque challenge : Nat → Nat → Byte

/-- What a diagnostic command of group 0x0A1x answers (R417): its parameters and reply are not given (entry 53). -/
opaque diagData : Nat → Nat → List Byte → List Byte

/-- How far a fuse write that failed or was interrupted has come (R447). -/
opaque burnt : Nat → Nat
/-- See `burnt`. -/
opaque burntSlot : Nat → Bool

end Sys2Proof.Config
end

