-- ==== Sys2Proof/Machine/State/Memory.lean ====
section
/-! DEFINITION. The memory of the device: the bytes of the device address map (12_memory.md, R300), the poisoned
code words (R306) and the HARQ area with its first-use map (R311, R312). -/

namespace Sys2Proof.Machine

/-- The stores of Table 12.1 as one sparse memory. -/
structure Memory where
  /-- Bytes that differ from 0, by rising device address. -/
  cells : List Host.Cell := []
  /-- First addresses of the poisoned code words (R306). -/
  poison : List Nat := []
  /-- The HARQ area (R311); size 0 after every start. -/
  harqBase : DWord := 0
  harqSize : DWord := 0
  /-- Page numbers (device address / 4096) of the HARQ area whose first-use bit is set (R312). -/
  harqPages : List Nat := []
deriving DecidableEq, Repr

end Sys2Proof.Machine
end

