-- ==== Sys2Proof/Machine/Memory.lean ====
section
/-! DEFINITION. The named operations over the sparse memory: reading and writing bytes in canonical form, poison and
the first-use map of the HARQ area (12_memory.md, R306, R312). -/

namespace Sys2Proof.Machine

/-- The byte at an address; an address not listed reads 0. -/
def cellsRead : List Host.Cell → Nat → Byte
  | [], _ => 0
  | (k, v) :: rest, a => if k = a then v else if a < k then 0 else cellsRead rest a

/-- Write one byte; writing 0 removes the entry, so the form stays canonical. -/
def cellsWrite : List Host.Cell → Nat → Byte → List Host.Cell
  | [], a, b => if b = 0 then [] else [(a, b)]
  | (k, v) :: rest, a, b =>
    if a < k then (if b = 0 then (k, v) :: rest else (a, b) :: (k, v) :: rest)
    else if a = k then (if b = 0 then rest else (a, b) :: rest)
    else (k, v) :: cellsWrite rest a b

/-- Every listed address is at least `lo`, the addresses rise, and no listed byte is 0. -/
def cellsWfFrom : Nat → List Host.Cell → Bool
  | _, [] => true
  | lo, (k, v) :: rest => decide (lo ≤ k) && decide (v ≠ 0) && cellsWfFrom (k + 1) rest

/-- The canonical form. -/
def cellsWf (m : List Host.Cell) : Bool := cellsWfFrom 0 m

/-- The memory's canonical form. -/
def Memory.wf (m : Memory) : Bool := cellsWf m.cells

/-- One byte, as it lies in the store. -/
def Memory.byte (m : Memory) (a : Nat) : Byte := cellsRead m.cells a

/-- `n` bytes from `a` up, as they lie in the store. -/
def Memory.bytes (m : Memory) (a : Nat) : Nat → List Byte
  | 0 => []
  | n + 1 => m.byte a :: m.bytes (a + 1) n

/-- A little-endian field of `n` bytes. -/
def Memory.field (m : Memory) (a n : Nat) : Nat := natOf (m.bytes a n)

/-- Write bytes from `a` up. -/
def cellsWriteAll : List Host.Cell → Nat → List Byte → List Host.Cell
  | m, _, [] => m
  | m, a, b :: bs => cellsWriteAll (cellsWrite m a b) (a + 1) bs

/-- Write bytes from `a` up into the store. -/
def Memory.setBytes (m : Memory) (a : Nat) (bs : List Byte) : Memory := { m with cells := cellsWriteAll m.cells a bs }

/-- Write one little-endian 32-bit word. -/
def Memory.setWord (m : Memory) (a : Nat) (w : Word) : Memory := m.setBytes a (bytesOf 4 w.toNat)

/-- One little-endian 32-bit word. -/
def Memory.word (m : Memory) (a : Nat) : Word := BitVec.ofNat 32 (m.field a 4)

/-- The data width of a code word at an address: 4 bytes in core-local memory, 8 bytes elsewhere (R305). -/
def codeWidth (a : Nat) : Nat := if a < 0x10000000 then 4 else 8

/-- The first address of the code word that holds byte `a`. -/
def codeWordOf (a : Nat) : Nat := a / codeWidth a * codeWidth a

/-- Whether a byte of the range lies in a poisoned code word (R306). -/
def Memory.poisoned (m : Memory) (a n : Nat) : Bool :=
  m.poison.any (fun p => decide (p < a + n) && decide (a < p + codeWidth p))

/-- Mark the code word at an address poisoned (R306). -/
def Memory.markPoison (m : Memory) (a : Nat) : Memory :=
  { m with poison := insertNat (codeWordOf a) m.poison }

/-- Whether an address lies in the HARQ area (R311). -/
def Memory.inHarq (m : Memory) (a : Nat) : Bool :=
  decide (m.harqBase.toNat ≤ a) && decide (a < m.harqBase.toNat + m.harqSize.toNat)

/-- One byte as a request through an interface reads it: 0 from a page of the HARQ area not yet written (R312). -/
def Memory.ifByte (m : Memory) (a : Nat) : Byte :=
  if m.inHarq a && !m.harqPages.contains (a / 4096) then 0 else m.byte a

/-- `n` bytes as a request through an interface reads them. -/
def Memory.ifBytes (m : Memory) (a : Nat) : Nat → List Byte
  | 0 => []
  | n + 1 => m.ifByte a :: m.ifBytes (a + 1) n

/-- A little-endian field read through an interface. -/
def Memory.ifField (m : Memory) (a n : Nat) : Nat := natOf (m.ifBytes a n)

/-- The first write to a page of the HARQ area: the whole page becomes 0 and its bit is set (R312). -/
def Memory.firstUse (m : Memory) (a : Nat) : Memory :=
  if m.inHarq a && !m.harqPages.contains (a / 4096) then
    { m with cells := m.cells.filter (fun c => c.1 / 4096 != a / 4096)
             poison := m.poison.filter (fun p => p / 4096 != a / 4096)
             harqPages := insertNat (a / 4096) m.harqPages }
  else m

/-- Write one byte through an interface, unless its code word is poisoned and the write (of `n` bytes from `base`)
covers only part of it, which leaves the word unchanged (R306). -/
def Memory.ifWriteByte (m : Memory) (base n a : Nat) (b : Byte) : Memory :=
  let w := codeWordOf a
  let m1 := m.firstUse a
  if m1.poison.contains w then
    if base ≤ w ∧ w + codeWidth w ≤ base + n then
      { m1 with cells := cellsWrite m1.cells a b
                poison := if a + 1 = w + codeWidth w then m1.poison.filter (fun p => p != w) else m1.poison }
    else m1
  else { m1 with cells := cellsWrite m1.cells a b }

/-- The bytes of one write, one after the other. -/
def Memory.ifWriteFrom (m : Memory) (base n : Nat) : Nat → List Byte → Memory
  | _, [] => m
  | a, b :: bs => (m.ifWriteByte base n a b).ifWriteFrom base n (a + 1) bs

/-- A write through an interface (R306, R312). -/
def Memory.ifWrite (m : Memory) (a : Nat) (bs : List Byte) : Memory := m.ifWriteFrom a bs.length a bs

/-- Whether a write covers only part of a poisoned code word and so completes with ECC (R306). -/
def Memory.partialPoison (m : Memory) (a n : Nat) : Bool :=
  m.poison.any (fun p => decide (p < a + n) && decide (a < p + codeWidth p)
    && !(decide (a ≤ p) && decide (p + codeWidth p ≤ a + n)))

/-- Clear a range of addresses to 0 (R317). -/
def Memory.clearRange (m : Memory) (a n : Nat) : Memory :=
  { m with cells := m.cells.filter (fun c => decide (c.1 < a) || decide (a + n ≤ c.1))
           poison := m.poison.filter (fun p => decide (p < a) || decide (a + n ≤ p)) }

end Sys2Proof.Machine
end

