-- ==== Sys2Proof/Machine/State/Dma.lean ====
section
/-! DEFINITION. The state of the eight DMA engines (11_dma.md, R279 to R298). -/

namespace Sys2Proof.Machine

/-- A block in progress: its descriptor or active set, where it was read, how far it has come. -/
structure DmaRun where
  desc : List Byte
  at_ : DWord := 0
  /-- Bytes of the rounded source range read, data bytes taken from them, and bytes written, the stored CRC among them. -/
  readPos : Nat := 0
  got : Nat := 0
  written : Nat := 0
  /-- Bytes read and not yet written. -/
  buf : List Byte := []
  /-- The source as it was at the start, where source and destination overlap (R285). -/
  saved : Option (List Byte) := none
  crc : Nat := 0
  /-- Leading data bytes in beats that completed OK. -/
  okBytes : Nat := 0
  /-- DETAIL of a read that failed, while the data before it is written. -/
  readFail : Option Nat := none
  /-- RESULT and DETAIL once every beat has its response. -/
  done : Option (Nat × Nat) := none
  /-- Its requests are marked DL (Table 11.1, R298). -/
  dl : Bool := false
  /-- Air time at which it began (R290). -/
  begun : Nat := 0
deriving DecidableEq, Repr

/-- A channel (Tables 11.2 to 11.4). -/
structure DmaChan where
  assigned : Bool := false
  owner : Nat := 0
  mode : Bool := false
  rerun : Bool := false
  prio : Nat := 0
  burst : Nat := 2
  /-- Buffer region of a stream channel in units of 4 KiB, its rate cap in units of 512 MB/s, 0 for none, and the port it is bound to (R290, R291). -/
  region : Nat := 0
  rateCap : Nat := 0
  bound : Option Nat := none
  halt : Bool := false
  dbovf : Bool := false
  taken : Bool := false
  armed : Bool := false
  queue : List DWord := []
  lastResult : Nat := 0
  lastDetail : Nat := 0
  shadow : List Byte := List.replicate 64 0
  active : List Byte := List.replicate 64 0
  run : Option DmaRun := none
  /-- The block whose failure halted the channel. -/
  failed : Option DmaRun := none
  /-- RESUME completes the rest of the halted chain (R294). -/
  flushing : Bool := false
  /-- The Almanac job C255 runs (R298). -/
  job : Option Word := none
deriving DecidableEq, Repr

/-- Whose turn it is in an engine (R290, R292). -/
structure DmaTurn where
  /-- The control channel whose burst is served, and what its block had moved when the burst began. -/
  serving : Option Nat := none
  since : Nat := 0
  /-- Ready control channels with the bursts for which each has been passed over. -/
  passed : List (Nat × Nat) := []
  /-- The control channel served last in each priority. -/
  last : Vector Nat 8 := Vector.replicate 8 0
  /-- The stream channels served last by the read side and the write side. -/
  lastRead : Nat := 63
  lastWrite : Nat := 63
deriving DecidableEq, Repr

/-- The engines: channel n of engine e at 320 × e + n, their turns, and the requests Almanac has refused (R293). -/
structure DmaState where
  chan : Vector DmaChan 2560 := Vector.replicate 2560 {}
  turn : Vector DmaTurn 8 := Vector.replicate 8 {}
  refused : Nat := 0
deriving DecidableEq, Repr

end Sys2Proof.Machine
end

