-- ==== Sys2Proof/Machine/State/Ether.lean ====
section
/-! DEFINITION. The state of the four Ethernet ports (15_ethernet_and_host_port.md, R370 to R378). -/

namespace Sys2Proof.Machine

/-- A frame that waits for transmission: its place in R373 (1 PTP event, 2 other PTP, 3 eCPRI reply) and its bytes. -/
structure EthTx where
  kind : Nat
  bytes : List Byte
deriving DecidableEq, Repr

/-- One port: the fields of Table 15.4, its PTP clock state and its transmit queue. -/
structure EthPort where
  link : Bool := false
  an : Bool := false
  los : Bool := false
  lof : Bool := false
  sf : Bool := false
  rdi : Bool := false
  ptp : Nat := 0
  mgmtDrop : Nat := 0
  rxHost : Nat := 0
  rxDrop : Nat := 0
  fcsErr : Nat := 0
  tooBig : Nat := 0
  ctrl : Nat := 0
  queue : List EthTx := []
  /-- Sequence numbers of the next Sync, Announce and Delay_Req (R42). -/
  syncSeq : Half := 0
  announceSeq : Half := 0
  reqSeq : Half := 0
  /-- A two-step Sync that waits for its Follow_Up: its sequence, its arrival in nanoseconds and its correction (R42). -/
  sync2 : Option (Half × Nat × Int) := none
  /-- What the last Sync measured from master to slave, and the mean path delay, both in 2^-16 ns. -/
  masterToSlave : Option Int := none
  pathDelay : Option Int := none
  /-- The Delay_Req that waits for its response: its sequence and its departure in nanoseconds. -/
  reqOut : Option (Half × Nat) := none
  /-- Flags and body (from originTimestamp on) of the parent's last Announce, which a T-BC passes on. -/
  parent : Option (Byte × List Byte) := none
  /-- The frame sent last, without FCS. -/
  sent : List Byte := []
deriving DecidableEq, Repr

end Sys2Proof.Machine
end

