-- ==== Sys2Proof/Machine/State/Config.lean ====
section
/-! DEFINITION. The configuration that Chiop commands stage and a COMMIT applies: cells (16_chiop_commands.md, Table
16.17), streams, ramp profiles, lanes, groups, ports and the loop, thermal and diagnostic settings. -/

namespace Sys2Proof.Machine

/-- The cell record (Table 16.17). -/
structure CellRec where
  cell : Nat := 0
  type : Nat := 0
  duplex : Byte := 0
  bw : Nat := 0
  s : Nat := 0
  ull : Nat := 0
  dll : Nat := 0
  efix : Byte := 0
  txadv : Nat := 150
  shedrank : Nat := 0
  pci : Nat := 0
  gategrp : Byte := 0xFF
  prof : Byte := 0
  gonAdv : Nat := 246
  goffDly : Nat := 246
  gmin : Nat := 1229
  period : Nat := 0
  fsym : Byte := 0
  pattern : List Byte := []
deriving DecidableEq, Repr

/-- An entry of the stream table (13_ecner_framing.md, Table 13.6). -/
structure StreamRec where
  /-- True for a downlink stream. -/
  down : Bool
  sid : Nat
  lane : Nat
  cell : Nat
  stream : Nat
  kind : Nat
  xofs : Int
  sub : Nat
deriving DecidableEq, Repr

/-- The slack-loop parameters (02_timing_and_deadlines.md, Table 2.6), fractions in 1/4096. -/
structure SlackCfg where
  targetA : Nat := 819
  floorA : Nat := 205
  targetB : Nat := 410
  vCeil : Nat := 850
  vFloor : Nat := 550
deriving DecidableEq, Repr

/-- The thermal settings (20_thermal_and_health.md, Table 20.4). -/
structure ThermalCfg where
  tlimit : Nat := 0x0640
  thyst : Nat := 5
  settle : Nat := 20
  guarCu : Nat := 0
  roll : Nat := 24
deriving DecidableEq, Repr

/-- Leaky-bucket limits of a class (R494). -/
structure LeakyCfg where
  leak : Nat := 1
  testlvl : Nat := 64
  passw : Nat := 32
  retlvl : Nat := 256
deriving DecidableEq, Repr

end Sys2Proof.Machine
end

