-- ==== Sys2Proof/Machine/State/Ring.lean ====
section
/-! DEFINITION. The state of the Ringroad network on chip (10_ringroad.md). -/

namespace Sys2Proof.Machine

/-- NI shell states (Table 10.13). -/
inductive Shell where
  | open_ | closing | closed | absent
deriving DecidableEq, Repr

/-- One outstanding transaction of a requester (R266): its KIND, destination, LEN and ADDR. -/
structure Trans where
  tag : Byte
  kind : Byte
  dst : Byte
  len : Half
  addr : DWord
  /-- Air time at which the request left (R269). -/
  sent : Nat
deriving DecidableEq, Repr

/-- A request that waits at its NI for a tag, space or the end of a roadworks (R266, R273). -/
structure HeldReq where
  kind : Byte
  dst : Byte
  len : Half
  addr : DWord
  dl : Bool
  data : List Byte
deriving DecidableEq, Repr

/-- One network interface (R250, R258, R266, R275). -/
structure Ni where
  shell : Shell := .closed
  /-- Itineraries that differ from the default entries of R261, by destination. -/
  itin : List (Nat × DWord) := []
  /-- New entries stored unused during a roadworks (R273). -/
  newItin : List (Nat × DWord) := []
  trans : List Trans := []
  held : List HeldReq := []
  /-- The transaction completed last: its tag, status and the bytes read (R257). -/
  last : Option (Byte × Nat × List Byte) := none
  /-- Late responses and answers discarded (R269, R277). -/
  stray : Nat := 0
deriving DecidableEq, Repr

/-- A packet (Table 10.5): its header and payload. -/
structure Packet where
  route : DWord
  kind : Nat
  status : Nat := 0
  len : Nat
  src : Nat
  dst : Nat
  tag : Byte
  dl : Bool := false
  addr : DWord
  data : List Byte := []
deriving DecidableEq, Repr

/-- What a packet does where it arrives: a request with the bit error its target meets, a maintenance access, or a response. -/
inductive Cargo where
  | request (ecc : Sys2Proof.EccHit)
  | maint (reg : Sys2Proof.MaintReg) (value : Option DWord)
  | response
deriving DecidableEq, Repr

/-- A packet on the rings (R262 to R264). -/
structure Worm where
  pkt : Packet
  cargo : Cargo
  /-- The NI that sent it. -/
  from_ : Nat
  /-- The leg it is on, the ring and junction where that leg began, and the packet's flits there. -/
  leg : Nat := 0
  ring : Nat
  start : Nat
  flits : Nat
  /-- Flits that have entered the ring, crossed each link of the leg in turn, and left the ring. -/
  passed : List Nat
  /-- It may enter (tollgate met); flit times it has waited since the tollgate was met. -/
  entering : Bool := false
  waited : Nat := 0
  /-- The flit time at which its head came into the buffer it is in. -/
  headAt : Nat := 0
  /-- Cut by a link failure (R270). -/
  poison : Bool := false
deriving DecidableEq, Repr

/-- The rings: flit times since the start, packets on them, oldest first, and for each link and virtual channel the flit times its
flits have waited (R262). -/
structure NetState where
  clock : Nat := 0
  worms : List Worm := []
  waits : List (Sys2Proof.LinkId × Nat × Nat) := []
deriving DecidableEq, Repr

/-- An answer on its way: target, requester, KIND, STATUS, TAG and payload (R267), and the request's ADDR, which it echoes. -/
structure Answer where
  target : Nat
  dst : Nat
  kind : Nat
  status : Nat
  tag : Byte
  data : List Byte
  addr : DWord := 0
deriving DecidableEq, Repr

/-- A link with errors (R270): replays counted, failures of one flit in succession, failed. -/
structure LinkRec where
  link : Sys2Proof.LinkId
  replays : Nat := 0
  run : Nat := 0
  failed : Bool := false
  removed : Bool := false
deriving DecidableEq, Repr

/-- The roadworks in progress (R272, R273). -/
structure Roadworks where
  ring : Nat
  junction : Nat
  /-- Affected NIs. -/
  nis : List Nat
  expected : Nat
  counted : Nat := 0
  drained : Bool := false
  committed : Bool := false
  /-- VC1 marks awaited and counted (RW6). -/
  expected1 : Nat
  counted1 : Nat := 0
  /-- Links that the change removes; links it adds. -/
  removes : List Sys2Proof.LinkId
  adds : List Sys2Proof.LinkId
deriving DecidableEq, Repr

/-- Ringroad. -/
structure RingState where
  ni : Vector Ni 256 := Vector.replicate 256 {}
  links : List LinkRec := []
  works : Option Roadworks := none
  /-- Default entries are loaded (R261). -/
  loaded : Bool := false
  /-- Messages taken by message ports other than Almanac's, newest last: destination and 32 bytes (R268). -/
  messages : List (Nat × List Byte) := []
  /-- The packet that the rings delivered last (R255). -/
  last : Option Packet := none
  /-- Answers that have not yet arrived, oldest first (R267). -/
  answers : List Answer := []
  /-- A link has failed since the roadworks in progress began (R274), and when. -/
  failedAt : Option Nat := none
  net : NetState := {}
deriving DecidableEq, Repr

end Sys2Proof.Machine
end

