-- ==== Sys2Proof/Machine/State/Hub.lean ====
section
/-! DEFINITION. The state of the control complex and what it steers: units (00_scope.md, R8), air time and the slack
loop (02_timing_and_deadlines.md), the Chiop interpreter (16_chiop_commands.md), modes (17_operating_modes.md), start
and security (18_start_and_security.md), power domains (19_power_domains.md), thermal and health
(20_thermal_and_health.md) and the host registers (22_host_registers.md). -/

namespace Sys2Proof.Machine

/-- The three variants (R1). -/
inductive Part where
  | zg9812 | zg9808 | zg9804
deriving DecidableEq, Repr

/-- Unit capability states (R8, Table 0.6). -/
inductive UnitState where
  | absent | present | retired | failed
deriving DecidableEq, Repr

/-- One unit slot of Table 0.5: state, bucket and test (R11, R492 to R502). -/
structure UnitRec where
  st : UnitState := .absent
  /-- Marked for retirement, or as failed, at the next boundary (R11). -/
  markRetire : Bool := false
  markFail : Bool := false
  level : Nat := 0
  /-- Last test: 0 none, 1 pass, 2 fail, 3 SLOW (Table 20.8). -/
  last : Nat := 0
  transients : Nat := 0
  weight : Nat := 0
  testEpoch : Word := 0
  testing : Bool := false
  queued : Bool := false
  /-- The test that runs is one of the rolling schedule. -/
  rolling : Bool := false
  /-- The last measured step rate, for R498. -/
  rate : Nat := 0
deriving DecidableEq, Repr

/-- Time quality (Table 2.2). -/
inductive TimeQuality where
  | locked | acquiring | holdover | freeRun
deriving DecidableEq, Repr

/-- A slot or symbol event on its way to Almanac (R47): its numerology (NR and LTE 0, 1 and 3, GSM/EDGE 5), cell, direction,
slot, symbol (0xFF for the slot's start) and the air-time stamp it carries. -/
structure SlotEvent where
  numer : Nat
  cell : Nat
  down : Bool
  start : Nat
  sym : Nat
  stamp : DWord := 0
deriving DecidableEq, Repr

/-- The timing unit (R38 to R47, R521, R522, R546). -/
structure TimeState where
  /-- Tc since HFN 0, SFN 0, TC 0, modulo 65,536 hyper-frames. -/
  air : Nat := 0
  /-- HFN cycles since the first start, and the cycle of the reference point of the GSM frame number (R39). -/
  wraps : Int := 0
  fnWraps : Int := 0
  src : BitVec 2 := 0
  tq : TimeQuality := .freeRun
  /-- TQ was other than LOCKED at some moment of this PM second (R354). -/
  unlocked : Bool := true
  /-- Code 0 to 6 of the tick period, 0.25 to 16 µs (R46). -/
  tickCode : Nat := 2
  tick : BitVec 40 := 0
  /-- Tick edges since the last frame boundary, and the air time of the last one. -/
  tickIdx : Nat := 0
  edgeAt : Nat := 0
  /-- A committed TICK_SET that waits for a frame boundary (R46). -/
  tickPending : Option Nat := none
  sel : Byte := 0
  prio : Byte := 0
  fn0 : Nat := 0
  /-- The last GSM timeslot boundary generated, counted from the reference point (R39). -/
  gsmSlots : Int := 0
  /-- PPS edges and PTP offsets in succession below 100 ns: the count of edges, the air time since which (R43). -/
  ppsGood : Nat := 0
  ptpSince : Option Nat := none
  ppsDelivering : Bool := false
  ptpDelivering : Bool := false
  /-- Phase errors last measured, in Tc (R43, R44). -/
  ppsPhase : Int := 0
  ptpPhase : Int := 0
  /-- Seconds for which two delivering sources have differed by more than 1 µs (R43). -/
  disagree : Nat := 0
  /-- The GPS second of the next PPS edge, where one is known; that of the last accepted edge (R522). -/
  ppsNext : Option Nat := none
  ppsNum : Option Nat := none
  /-- Air time of the last accepted PPS edge. -/
  ppsLast : Option Nat := none
  /-- Signed step in Tc that waits for a frame boundary (R44, 0x0509), with its channel and sequence. -/
  stepPending : Option (Int × Nat × Word) := none
  /-- Slot and symbol events held for Almanac while its event inputs are full, in order (R47). -/
  store : List SlotEvent := []
  /-- LEAP and TZOFS as the host set them; LEAP of the PTP announce messages (R352). -/
  leap : Byte := 18
  tzofs : Half := 0
  ptpLeap : Option Nat := none
deriving DecidableEq, Repr

/-- A slack record (Table 2.5). -/
structure SlackRec where
  minFrac : Int := 0x7FFF
  minTicks : Int := 0x7FFF
  misses : Nat := 0
  jobs : Nat := 0
  window : Word := 0
deriving DecidableEq, Repr

/-- A VCORE command on PMBus: nothing, its write, the READ_VOUT that confirms it, or the wait before a retry (R55). -/
inductive PmPhase where
  | idle | write | read | retry
deriving DecidableEq, Repr

/-- The slack loop (R49 to R60). -/
structure SlackState where
  recA : SlackRec := {}
  recB : SlackRec := {}
  snapA : SlackRec := {}
  snapB : SlackRec := {}
  cfg : SlackCfg := {}
  /-- VCORE commanded and confirmed, in units of 0.1 mV. -/
  vcore : Nat := 8500
  vconf : Nat := 8500
  /-- Class A misses that Almanac has signalled and the health manager has not yet taken (R51). -/
  signals : Nat := 0
  /-- Forward body bias of the loop, in 50 mV steps (R51). -/
  fbb : Nat := 0
  calm : Nat := 0
  /-- A boost in progress; whether VCORE was confirmed at V_CEIL at its trigger; whether its step 5 is done (R52). -/
  boost : Bool := false
  boostAtCeil : Bool := false
  boostDone : Bool := false
  /-- A boost whose step 5 is done, and after which a fresh one began before the window edge, found VCORE at V_CEIL: its
  step 6 takes the full bias over at that edge (R51, R52). -/
  boostTake : Bool := false
  /-- A boost was triggered in the window that runs (R51). -/
  boostInWindow : Bool := false
  /-- Boost triggers counted while a boost is in progress (R52). -/
  triggers : Nat := 0
  /-- A staged rise of CU waits for the boundary to start its boost (R53). -/
  boostAtBoundary : Bool := false
  /-- What the bus does for VCORE (R52, R55). -/
  phase : PmPhase := .idle
  /-- Failed tries of the VCORE command; control given up (R55). -/
  pmFails : Nat := 0
  vLost : Bool := false
  /-- Per window since the last shed, newest first: the condition of R59 held and a class A miss occurred. -/
  history : List (Bool × Bool) := []
  /-- The window that runs began before the last slack shed and does not count (R59). -/
  skipWindow : Bool := false
  shedDue : Bool := false
  sheds : Nat := 0
  /-- Seconds since the last slack shed, for R498. -/
  sinceShed : Option Nat := none
  /-- The first decision waits for a window edge with a cell in service (R55). -/
  started : Bool := false
  /-- SRAM assist band: 0 A, 1 B, 2 C (R461). -/
  band : Nat := 2
deriving DecidableEq, Repr

/-- Who asked for a change of a domain (R463). -/
inductive ReqSource where
  | host (chan : Nat) (seq : Word)
  | almanac
  | mxc (core : Nat)
  | control
deriving DecidableEq, Repr

/-- A request for Run or Stop. -/
structure DomReq where
  run : Bool
  src : ReqSource
deriving DecidableEq, Repr

/-- STATE of a power domain (Table 19.7). -/
inductive DomSt where
  | stop | run | waking | stopping | failed | absent
deriving DecidableEq, Repr

/-- The step a domain's sequence is at (Tables 19.5, 19.6). -/
inductive DomStep where
  | none | waitSlot | ramp | retryWait | drain | closing
deriving DecidableEq, Repr

/-- One switched domain (R458 to R474). -/
structure DomainRec where
  st : DomSt := .stop
  step : DomStep := .none
  cur : Option DomReq := none
  pend : Option DomReq := none
  padLatch : Bool := false
  hostHeld : Bool := false
  /-- Failed attempts of the wake that runs; retries of the last wake (R470). -/
  attempts : Nat := 0
  retry : Nat := 0
deriving DecidableEq, Repr

/-- Power control: the domains by area and index, the wakes that wait for a ramp slot and those that hold one, and the
regulators found absent (R469, R475). -/
structure PowerState where
  dom : Vector DomainRec 1664 := Vector.replicate 1664 {}
  waiting : List Nat := []
  ramping : List Nat := []
  regAbsent : BitVec 9 := 0
deriving DecidableEq, Repr

/-- Thermal model and limit (R478 to R491). -/
structure ThermalState where
  channel : Nat := 0
  reading : Vector Half 64 := Vector.replicate 64 0
  /-- Readings of the round that runs, taken over at its end unless a self-check fails (R479). -/
  fresh : Vector Half 64 := Vector.replicate 64 0
  roundBad : Bool := false
  faulty : BitVec 24 := 0
  streak : Vector Nat 24 := Vector.replicate 24 0
  round : Nat := 0
  k : Nat := 4096
  kLimit : Nat := 0
  calibBad : Bool := false
  node : Vector Int 96 := Vector.replicate 96 0
  valid : Bool := false
  /-- Modelled die power and its VCORE part, 0.1 W, and the parts of SPLIT (Table 20.5). -/
  ptotal : Nat := 2400
  pcore : Nat := 0
  split : Vector Nat 8 := Vector.replicate 8 0
  cfg : ThermalCfg := {}
  /-- TD has reached TLIMIT and the limit has not cleared; FLAGS[2] follows at boundaries (R485, R487). -/
  limit : Bool := false
  /-- FLAGS[2] of the device status record, which follows `limit` at boundaries. -/
  flag2 : Bool := false
  sheds : Nat := 0
  /-- Air time of the last thermal shed (R486). -/
  lastShed : Option Nat := none
  /-- Air times at which thermal restarts began (R489). -/
  restarts : List Nat := []
  /-- Model steps in succession with TD below TLIMIT - THYST (R487). -/
  belowSteps : Nat := 0
  /-- Modelled VCORE power summed over the steps of the round, and the steps (R480). -/
  pcoreSum : Nat := 0
  pcoreSteps : Nat := 0
  /-- PMBus telemetry by regulator in address order: READ_VOUT, READ_IOUT, READ_TEMPERATURE_1 (R476). -/
  telemetry : Vector (Half × Half × Half) 9 := Vector.replicate 9 (0, 0, 0)
  /-- Consecutive conversions below 90 °C in M9, in conversions of 31.25 µs (R489). -/
  coolFor : Nat := 0
  hold : Bool := false
deriving DecidableEq, Repr

/-- A record of the event log (R504). -/
structure LogRec where
  index : Word
  type : Nat
  flags : Byte
  stamp : DWord
  payload : List Byte
deriving DecidableEq, Repr

/-- A HEALTH event that waits for its second to end, merged (R503). -/
structure MergeRec where
  hkind : Nat
  cls : Nat
  slot : Nat
  cell : Nat
  count : Nat
  payload : List Byte
deriving DecidableEq, Repr

/-- A remapped HBM row: stack, pseudo-channel and row, and whether hard repair has made it permanent (R309). -/
structure HbmRow where
  stack : Nat
  chan : Nat
  row : Nat
  hard : Bool := false
deriving DecidableEq, Repr

/-- The health manager (R492 to R505). -/
structure HealthState where
  leaky : Vector LeakyCfg 17 := Vector.replicate 17 {}
  /-- Buckets of the Ringroad links, by link number (R492). -/
  links : List (Nat × Nat) := []
  removed : List Nat := []
  log : List LogRec := []
  logNext : Word := 0
  merge : List MergeRec := []
  /-- Tests found and not yet started, (class, slot), oldest first (R497). -/
  testQueue : List (Nat × Nat) := []
  /-- Position of the rolling schedule (R498). -/
  rolling : Nat := 0
  /-- SERVICE condition latched (R500), its causes by Table 17.3, and FLAGS[3]. -/
  service : Bool := false
  causes : List Nat := []
  replaceOut : Bool := false
  /-- Air time of the last REPLACE_REQUEST. -/
  replaceAt : Nat := 0
  /-- The last whole second of air time at which buckets leaked. -/
  leakSecond : Nat := 0
  repeatCount : Nat := 0
  /-- Cause, class and slot of the outstanding REPLACE_REQUEST. -/
  replaceCause : Nat := 0
  replaceUnit : Nat × Nat := (0, 0)
  /-- A SPARES condition found and not yet taken at a boundary. -/
  sparesDue : Bool := false
  essentialDue : Bool := false
  /-- Spare rows used, by unit and array (R308): 65536 × (128 × class + slot) + array, and rows. -/
  spares : List (Nat × Nat) := []
  /-- Always-on control cores that have failed their test and stay idle (R496). -/
  idle : BitVec 2 := 0
  /-- HBM rows remapped, oldest first, and the air times of corrected errors of other rows in 24 h (R309). -/
  hbmRows : List HbmRow := []
  hbmErrors : List (HbmRow × List Nat) := []
deriving DecidableEq, Repr

/-- A reply entry without the ring's OWN bit (Table 16.4). -/
structure Reply where
  status : Half := 0
  opcode : Half := 0
  seq : Word := 0
  epoch : Word := 0
  len : Half := 0
  pending : Bool := false
  repeated : Bool := false
  event : Bool := false
  truncated : Bool := false
  data : List Byte := []
deriving DecidableEq, Repr

/-- A retained result (R398, R399); `reply` is none while the command is held. -/
structure Result where
  seq : Word
  crc : Word
  reply : Option Reply
deriving DecidableEq, Repr

/-- A held command (R393, R401): where its reply goes and what it waits for. -/
structure Held where
  seq : Word
  op : Nat
  slot : Nat
  /-- The ring generation its slot belongs to (R401). -/
  gen : Nat
  params : List Byte
  /-- RADDR and RLEN under IREPLY (R395). -/
  place : Option (Nat × Nat) := none
deriving DecidableEq, Repr

/-- One Chiop channel (R390, R398). -/
structure Channel where
  opened : Bool := false
  h : Option Word := none
  store : List Result := []
  held : List Held := []
deriving DecidableEq, Repr

/-- A staged command (R403): its channel's order, opcode and parameters. -/
structure Staged where
  seq : Word
  op : Nat
  params : List Byte
deriving DecidableEq, Repr

/-- A held COMMIT with its sealed stage (R405). -/
structure CommitHeld where
  chan : Nat
  seq : Word
  target : Word
  stage : List Staged
deriving DecidableEq, Repr

/-- A packet or frame the device sent toward a management peer (R376): channel, kind and packet. -/
structure MgmtFrame where
  chan : Nat
  kind : Nat
  bytes : List Byte
deriving DecidableEq, Repr

/-- An event record (R410). -/
structure EventRec where
  kind : Nat
  seq : Word
  epoch : Word
  payload : List Byte
deriving DecidableEq, Repr

/-- A cut (R407): the records of the status objects, by object and index. -/
structure Cut where
  epoch : Word := 0
  objs : List (Nat × List (List Byte)) := []
deriving DecidableEq, Repr

/-- The interpreter, the epochs and the events (R390 to R412). -/
structure ChiopState where
  chan : Vector Channel 17 := Vector.replicate 17 {}
  epoch : Word := 0
  configEpoch : Word := 0
  gran : Bool := false
  granPending : Option Bool := none
  /-- Air times of the current epoch's boundary and of the next. -/
  boundary : Nat := 0
  /-- The stamp taken at the current epoch's boundary. -/
  boundaryStamp : DWord := 0
  nextAt : Nat := 983040
  stage : List Staged := []
  owner : Option Nat := none
  /-- Air time at which a command last joined the stage (R403). -/
  stagedAt : Nat := 0
  commit : Option CommitHeld := none
  cut : Cut := {}
  prevCut : Cut := {}
  cutDone : Bool := true
  evSeq : Word := 0
  backlog : List EventRec := []
  evlost : Word := 0
  /-- Drops since the last OVERFLOW event and the first of them (R412). -/
  lostNow : Word := 0
  lostFirst : Word := 0
  /-- Ring set-ups so far: a held command of an older one completes into the store only (R401). -/
  gen : Nat := 0
  /-- Channels whose command frame or ring slot has arrived and is not yet read, in order (R376, R390). -/
  mgmtIn : List Nat := []
  /-- Frames to management peers, newest last: what the ports were handed to send (R376). -/
  mgmtOut : List MgmtFrame := []
  /-- Data written under IREPLY beyond what a reply carries is in host memory; the tracer's target (R417). -/
  trace : Option (Nat × Nat) := none
deriving DecidableEq, Repr

/-- A MODE_REQUEST that is held (R422 to R424). -/
structure ModeReq where
  chan : Nat
  seq : Word
  target : Nat
  /-- Air time at which it was read. -/
  readAt : Nat
  /-- Domains not yet in Run (R424). -/
  await : List Nat
  /-- Air time at which the last of them reached Run, where all have. -/
  allRunAt : Option Nat
deriving DecidableEq, Repr

/-- The operating mode (17_operating_modes.md). -/
structure ModeState where
  mode : Nat := 1
  req : Option ModeReq := none
  /-- M10: the mode to return to, units still to test, SELFTEST_RUN commands that wait, units retired (R427). -/
  from10 : Nat := 0
  todo : List (Nat × Nat) := []
  retired10 : Nat := 0
  /-- Triggers due at the next boundary (R426). -/
  hostLoss : Bool := false
  startDone : Bool := false
  capacity : Bool := false
  spares : Bool := false
  essential : Bool := false
  /-- The mode before the start that runs, for its MODE event (R429), and that event's cause. -/
  oldMode : Nat := 1
  startCause : Nat := 1
deriving DecidableEq, Repr

/-- A loaded customer image (R454). -/
structure Image where
  handle : Nat
  svn : Nat
  keyslot : Nat
  measurement : List Byte
  bound : List Nat
  payload : List Byte
deriving DecidableEq, Repr

/-- A customer key slot (Table 18.7): its 96 bytes of hashes and their CRC-16. -/
structure KeySlot where
  hashes : List Byte := []
  crc : Half := 0
  valid : Bool := false
  revoked : Bool := false
deriving DecidableEq, Repr

/-- The fuses (Table 18.7). -/
structure Fuses where
  uds : List Byte := []
  serial : DWord := 0
  vendorKey : Vector (List Byte) 2 := Vector.replicate 2 []
  vrevoke : BitVec 2 := 0
  cust : Vector KeySlot 4 := Vector.replicate 4 {}
  rbc0 : Nat := 0
  rbc1 : Nat := 0
  secureProg : Bool := false
  debugLock : Bool := false
  bootsrc : BitVec 2 := 0
  repair : List Byte := []
deriving DecidableEq, Repr

/-- The kinds of start (R430). -/
inductive StartKind where
  | cold | warm | recovery
deriving DecidableEq, Repr

/-- Start and security (18_start_and_security.md). -/
structure StartState where
  fuses : Fuses := {}
  kind : StartKind := .cold
  /-- Step code of Table 18.1; 0 before a start begins. -/
  step : Nat := 0
  cause : Nat := 0
  wfail : Nat := 0
  cfail : Nat := 0
  halted : Bool := false
  hostWait : Bool := false
  starts : Word := 0
  /-- Sources of step 0x06 still to try: 0 flash A, 1 flash B, 2 host (R440). -/
  sources : List Nat := []
  retain : Bool := false
  header : List Byte := []
  measurement : List Byte := []
  fwVersion : Word := 0
  fwSvn : Nat := 0
  recovery : Option (DWord × Word) := none
  keyStore : Bool := false
  debugOpen : Bool := false
  challenge : Option (List Byte) := none
  /-- Air time at which the challenge was issued (R457). -/
  challengeAt : Nat := 0
  images : List Image := []
  /-- Committed bindings that wait for their core to hold no job: core and handle (R455). -/
  bindDue : List (Nat × Nat) := []
  /-- BAR0 answers and the interpreter accepts commands: from the end of step 0x02 (R431, R532). -/
  ready : Bool := false
  /-- PD.AON is powered, and RESET_N is low. -/
  powered : Bool := false
  resetLow : Bool := true
  perstLow : Bool := true
  /-- A brown-out holds the device in reset; the rail named (R515). -/
  brownOut : Option Nat := none
  /-- A rail out of range holds the device in reset (R515). -/
  railHold : Bool := false
  /-- The directory of boot flash, empty where it is absent, and the IDs of the board record, Subsystem Vendor ID first
  (R440); LOGMIRROR, and LOGLEN where there is a log area. -/
  dir : List Byte := []
  subsystem : Option (Half × Half) := none
  logMirror : Bool := false
  logLen : Nat := 0
  /-- The log area of the boot flash (R505): repair and retirement records of its first sector; the circle of the others. -/
  flashFirst : List LogRec := []
  flashLog : List LogRec := []
  /-- REF_CLK_IN lay in one of its ranges at step 0x01 (R519). -/
  refClk : Bool := true
  /-- Bytes of the image in the firmware region of HBM (R440). -/
  fwLen : Nat := 0
  /-- The instruction in force at the JTAG port (R456). -/
  jtag : Sys2Proof.JtagOp := .idcode
deriving DecidableEq, Repr

/-- A port's host data ring block (Table 22.8). -/
structure PortRing where
  txBase : DWord := 0
  rxBase : DWord := 0
  txSize : Word := 0x100
  rxSize : Word := 0x100
  txen : Bool := false
  rxen : Bool := false
  cfgerr : Bool := false
  txTail : Half := 0
  txHead : Half := 0
  rxTail : Half := 0
  rxHead : Half := 0
  /-- Returned descriptors the host has not yet been told of (R374). -/
  txNotify : Bool := false
  rxNotify : Bool := false
  txTold : Option Nat := none
  rxTold : Option Nat := none
  /-- A descriptor without OWN has stopped the ring until its TAIL is written (R539). -/
  txStop : Bool := false
  rxStop : Bool := false
deriving DecidableEq, Repr

/-- BAR0 (22_host_registers.md) and the PCIe port (15_ethernet_and_host_port.md, R386 to R389). -/
structure HostState where
  scratch : Word := 0
  hbcount : Word := 0
  /-- Edge bits [13:8] of ALERT_CAUSE. -/
  alertEdge : Word := 0
  alertMask : Word := 0x0000000F
  cmdBase : DWord := 0
  rplBase : DWord := 0
  evtBase : DWord := 0
  evtSize : Word := 0x00001000
  enable : Bool := false
  cfgerr : Bool := false
  cmdTail : BitVec 12 := 0
  cmdHead : BitVec 12 := 0
  evtTail : BitVec 18 := 0
  evtHead : BitVec 18 := 0
  bootAddr : DWord := 0
  bootLen : Word := 0
  winbase : DWord := 0
  winEnable : Bool := false
  logidx : Word := 0
  port : Vector PortRing 4 := Vector.replicate 4 {}
  /-- MSI-X vectors raised and not yet served by the host, by number (R382). -/
  msix : BitVec 16 := 0
  /-- The MSI-X table (R381): 16 entries of 4 words; a vector is masked after reset. -/
  msixTable : Vector Word 64 := Vector.ofFn (fun i => if i.val % 4 = 3 then 1 else 0)
  linkUp : Bool := false
  busMaster : Bool := false
  d3hot : Bool := false
  flr : Bool := false
  hostlossMs : Nat := 0
  /-- Air time at which NI 244 last closed; the host has been judged lost since (R389). -/
  closedAt : Nat := 0
  lost : Bool := false
  /-- Air time of the last heartbeat (R388). -/
  hbAt : Nat := 0
  /-- The completion of the last BAR2 read: its bytes, or none for Unsupported Request (R381). -/
  barRead : Option (List Byte) := none
  /-- AER holds an error of a write to BAR0 that was dropped (R381). -/
  aer : Bool := false
deriving DecidableEq, Repr

/-- A committed cell (Table 16.12, R414). -/
structure Cell where
  cr : CellRec
  inService : Bool := false
  /-- The boundary at which it entered service: slots that start at or after it are served. -/
  since : Nat := 0
  /-- Bound equaliser engines, by subband (R142). -/
  engines : List Nat := []
  /-- The state of its gate group after the events derived so far, and for GSM whether the last timeslot was idle (R213). -/
  gateOn : Bool := false
  idleLast : Bool := false
  /-- What has been delivered of its uplink symbols (R227). -/
  arrived : List Arrival := []
  lastSlot : Word := 0
  missing : Nat := 0
  lateJobs : Nat := 0
  lateTb : Nat := 0
  skips : Nat := 0
deriving DecidableEq, Repr

/-- An accepted slot plan (R415) with its copied records, and the counts of the slot it serves (R545). -/
structure Plan where
  cell : Nat
  down : Bool
  at_ : Word
  /-- Air time at which the slot starts. -/
  start : Nat
  records : List (List Byte)
  /-- Jobs of the plan still to be released, skipped or removed. -/
  jobs : List Nat
  /-- It was accepted under R425, while a MODE_REQUEST into service was held. -/
  early : Bool := false
  running : Bool := false
  noPlan : Bool := false
  /-- Whether its slot carries its direction, and the slot's end, found when the slot starts (R545). -/
  carried : Bool := false
  endAt : Nat := 0
  /-- Missing containers by stream and symbol; late jobs; encoder jobs whose blocks were late; resource elements of ZERO. -/
  lost : List (Nat × Nat) := []
  lateJobs : Nat := 0
  lateDeps : List Word := []
  zero : Nat := 0
deriving DecidableEq, Repr

/-- What a COMMIT has put into force. -/
structure CommitState where
  cells : List Cell := []
  /-- Shed cells with their STATE of Table 16.12 (2, 3 or 4). -/
  shed : List (Nat × Nat) := []
  streams : List StreamRec := []
  ramps : Vector (List Byte) 8 := Vector.replicate 8 []
  lanes : Vector (List Byte) 32 := Vector.replicate 32 []
  groups : Vector (List Byte) 16 := Vector.replicate 16 []
  ports : Vector (List Byte) 4 := Vector.replicate 4 []
  plans : List Plan := []
  tallyAge : Nat := 10000
  pto : Nat := 64
  /-- Thresholds for crossing alerts: (subject, kind, bit, threshold) (R367). -/
  thresholds : List (Nat × Nat × Nat × Nat) := []
deriving DecidableEq, Repr

end Sys2Proof.Machine
end

