-- ==== Sys2Proof/Machine/State/Lane.lean ====
section
/-! DEFINITION. The state of the fronthaul lanes, protection groups and performance monitoring (13_ecner_framing.md,
14_link_performance.md; 08_transmit_chain.md, R211 to R216). -/

namespace Sys2Proof.Machine

/-- A gate event (R213): its air time, group, direction, radio-unit profile and the cell or TRX it belongs to. -/
structure GateEv where
  at_ : Nat
  group : Nat
  on : Bool
  prof : Nat
  cell : Nat
deriving DecidableEq, Repr

/-- An event word placed in a frame (R214): the frame's number since the transmitter started. -/
structure CtlSlot where
  frame : Nat
  ev : GateEv
  /-- Copies placed in all. -/
  copies : Nat := 2
deriving DecidableEq, Repr

/-- An event a lane in ETHERNET personality sends in messages (R348): copies sent, and when the first was. -/
structure CtlMsg where
  ev : GateEv
  sent : Nat := 0
  sentAt : Nat := 0
deriving DecidableEq, Repr

/-- A downlink container that is eligible or decided BLANK (R330): its due time, the air time of its symbol, its stream's
lane, and whether the working lane and the protection lane have sent it. -/
structure TxCont where
  due : Nat
  at_ : Nat
  cell : Nat
  lane : Nat
  sid : Nat
  ofs : Nat
  kind : Nat
  tag : Nat
  last : Bool
  body : List Byte
  sentWork : Bool := false
  sentProt : Bool := false
deriving DecidableEq, Repr

/-- The output of a job that ends a symbol's chain (R330): streams of a cell and symbol, before segmentation. -/
structure Ready where
  cell : Nat
  stream : Nat
  at_ : Nat
  sub : Nat
  first : Nat
  fd : Bool
  bytes : List Byte
deriving DecidableEq, Repr

/-- A candidate of the alignment search (R336): its bit offset, the MS last seen there, the frames that agreed. -/
structure Cand where
  off : Nat
  ms : Nat
  good : Nat
deriving DecidableEq, Repr

/-- ALIGN (Table 13.12). -/
inductive Align where
  | disabled | hunt | presync | sync
deriving DecidableEq, Repr

/-- The quantities of one second of a lane (Table 14.1), and whether it was not monitored (R356). -/
structure SecondCounts where
  err : Nat := 0
  corr : Nat := 0
  uncorr : Nat := 0
  defect : Bool := false
  losLof : Bool := false
  rdi : Bool := false
  rei : Nat := 0
  slip : Nat := 0
  disc : Nat := 0
  unmon : Bool := false
  /-- It was monitored at some moment (R359). -/
  mon : Bool := false
deriving DecidableEq, Repr

/-- The transmitter of a lane. -/
structure LaneTx where
  on : Bool := false
  /-- Number of the next frame since the transmitter started, and its start in millionths of a Tc. -/
  frame : Nat := 0
  next : Nat := 0
  ms : Nat := 0
  cfgt : Bool := false
  /-- CFGT is inverted in the next frame (R332). -/
  cfgtDue : Bool := false
  /-- BIP-8 over the payload of the frame sent last, as sent (R323). -/
  bip : Nat := 0
  slots : List CtlSlot := []
  msgs : List CtlMsg := []
  /-- Frames in which RDI is still set once the last defect of class SF has gone (R338). -/
  rdiHold : Nat := 0
  /-- Groups to force off, with the words still to send (R215). -/
  force : List (Nat × Nat) := []
  /-- Events whose time has not come, for STATE; the state of each group (R212). -/
  coming : List GateEv := []
  gate : BitVec 16 := 0
  gcc : List Byte := []
  /-- Overhead (24 bytes) and containers of the frame sent last, or the message sent last, before scrambling. -/
  sentHead : List Byte := []
  sent : List Byte := []
  /-- Sequence numbers of eCPRI messages by PC_ID (R348). -/
  seqs : List (Nat × Nat) := []
  stateAt : Nat := 0
  /-- The delay measurement under way: its identifier and the TAI nanoseconds at which it left; the next identifier. -/
  ask : Option (Nat × Nat) := none
  askNext : Nat := 0
deriving DecidableEq, Repr

/-- The receiver of a lane. -/
structure LaneRx where
  align : Align := .disabled
  cands : List Cand := []
  ms : Nat := 0
  /-- Frames in succession with more than 3 errors in the Waymark. -/
  bad : Nat := 0
  /-- The elastic store (R334): the codewords it holds, in millionths, when the frame that arrived last ended; when that frame
  began; a frame that lies in it whole and is not read yet. -/
  fill : Nat := 0
  lastAt : Nat := 0
  store : Option Sys2Proof.RxFrame := none
  los : Bool := false
  lof : Bool := false
  lom : Bool := false
  sf : Bool := false
  sd : Bool := false
  tim : Bool := false
  rdi : Bool := false
  maint : Bool := false
  /-- Parity of the payload before, unless the next check is skipped (R323). -/
  par : Option Nat := none
  /-- BIP errors of the frame checked last. -/
  bipLast : Nat := 0
  /-- Window of R337: frames, BIP errors, uncorrectable codewords; windows that ended and wait for their judgement. -/
  winFrames : Nat := 0
  winBip : Nat := 0
  winUnc : Nat := 0
  windows : List (Nat × Nat) := []
  /-- LOM: frames of the window of 64, whether its MS broke, whether that of the one before did, continuous frames. -/
  msFrames : Nat := 0
  msBroke : Bool := false
  msBroke1 : Bool := false
  msRun : Nat := 0
  /-- Frames in succession with STAT[7] as it is now, and that value. -/
  rdiRun : Nat := 0
  rdiBit : Bool := false
  tti : List Byte := []
  ttiPrev : List Byte := []
  ttiRun : Nat := 0
  ttiAcc : Option (List Byte) := none
  reiRx : Nat := 0
  role : Nat := 0
  /-- Arrival less TS of the last 64 frames with both times LOCKED, newest first (R324). -/
  delays : List Int := []
  /-- DR pair of the last frame, frames it has been the same, frames since it changed; the accepted pair (R340). -/
  dr : Nat × Nat := (0, 0)
  drRun : Nat := 0
  drSince : Nat := 0
  drAcc : Option (Nat × Nat) := none
  drBad : Bool := false
  drMis : Bool := false
  gcc : List Byte := []
  slips : Nat := 0
  drops : Nat := 0
  clip : Nat := 0
  /-- Discard counters of Table 14.4. -/
  disc : Vector Nat 10 := Vector.replicate 10 0
  /-- Entries of a defect in this second, by its bit in Table 13.12 (R338). -/
  entries : List (Nat × Nat) := []
  /-- eCPRI sequence numbers expected, by PC_ID; the delay its measurements found. -/
  seqs : List (Nat × Nat) := []
  ecpriDelay : Option Int := none
  /-- Air times of the defects of class SF and SD that HOLDOFF delays; FAIL and DEGRADE raised (R343). -/
  failSince : Option Nat := none
  fail : Bool := false
  degSince : Option Nat := none
  deg : Bool := false
  /-- Frames of the protection lane that have carried the FAIL of a test that waits (R344). -/
  testFrames : Nat := 0
  sec : SecondCounts := {}
deriving DecidableEq, Repr

/-- A lane. -/
structure Lane where
  tx : LaneTx := {}
  rx : LaneRx := {}
deriving DecidableEq, Repr

/-- A protection group (R339 to R343). -/
structure Group where
  /-- The host's request: code and channel. -/
  host : Option (Nat × Nat) := none
  /-- RESTORE_WAIT: its channel and the air time it ends; NONE of a non-revertive group: the channel it stays on. -/
  wtr : Option (Nat × Nat) := none
  stay : Nat := 0
  lreq : Nat := 0
  lch : Nat := 0
  /-- What is sent in DR1. -/
  req : Nat := 0
  ch : Nat := 0
  decided : Nat := 0
  sel : Nat := 0
  br : Nat := 0
  /-- Changes of SEL and whether the protection lane served, in this second. -/
  switches : Nat := 0
  served : Bool := false
  /-- Quantities of serving lanes in this second, by channel: errors, whether LOS or LOF, whether anything else (R359). -/
  sec : List (Nat × Nat × Bool × Bool) := []
deriving DecidableEq, Repr

/-- A second that is not yet final (R358): its air time, its counts, whether it was SES. -/
structure PmSecond where
  at_ : Nat
  ses : Bool
  es : Bool
  c : SecondCounts
  switches : Nat := 0
  served : Bool := false
  /-- It came before a clear and is not counted (R363). -/
  dropped : Bool := false
  /-- Bins that contain it, by number, quarter-hour and day. -/
  qbin : Nat
  dbin : Nat
deriving DecidableEq, Repr

/-- A bin of a lane or group (Tables 14.2, 14.3), numbered as it opened. -/
structure PmBin where
  num : Nat := 0
  start : DWord := 0
  incomplete : Bool := false
  suspect : Bool := false
  day : Bool := false
  eth : Bool := false
  mon : Nat := 0
  es : Nat := 0
  ses : Nat := 0
  uas : Nat := 0
  bbe : Nat := 0
  corr : Nat := 0
  uncorr : Nat := 0
  reis : Nat := 0
  rdis : Nat := 0
  disc : Nat := 0
  slips : Nat := 0
  switches : Nat := 0
  psec : Nat := 0
  tca : Nat := 0
deriving DecidableEq, Repr

/-- Performance monitoring of a lane or group (R356 to R364): current bins, history newest first, availability, seconds
that are not final, the number of the next bin, and the first second that counts after a clear. -/
structure PmState where
  opened : Bool := false
  quarter : PmBin := {}
  day : PmBin := {}
  quarters : List PmBin := []
  days : List PmBin := []
  avail : Bool := true
  waiting : List PmSecond := []
  nextNum : Nat := 1
  /-- A committed clear waits for the next PM second (R363). -/
  clearDue : Bool := false
deriving DecidableEq, Repr

/-- The fronthaul. -/
structure LinkState where
  lane : Vector Lane 32 := Vector.replicate 32 {}
  group : Vector Group 16 := Vector.replicate 16 {}
  pm : Vector PmState 48 := Vector.replicate 48 {}
  /-- Downlink containers not yet sent everywhere (R330). -/
  out : List TxCont := []
  /-- Streams and symbols of which a container was made, or for which BLANK was decided, by SID and air time (R330). -/
  made : List (Nat × Nat) := []
  /-- Delivered containers of the last 2 ms (R331): SID, TAG, OFS, when. -/
  delivered : List (Nat × Nat × Nat × Nat) := []
  /-- The last PM second, in whole seconds of air time (R352), and the quarter-hour and day of local time that runs. -/
  second : Int := 0
  quarterNo : Int := 0
  dayNo : Int := 0
  /-- A committed PM_TIME_SET that waits for the next PM second: LEAP, TZOFS (R353). The thresholds in force (R367). -/
  timeDue : Option (Byte × Half) := none
  thresholds : List (Nat × Nat × Nat × Nat) := []
  /-- Streams in force before the last boundary that changed the table, and that boundary (R332). -/
  oldStreams : List StreamRec := []
  streamsAt : Option Nat := none
deriving DecidableEq, Repr

end Sys2Proof.Machine
end

