-- ==== Sys2Proof/Machine/State/Psiah.lean ====
section
/-! DEFINITION. The state of one Psiah signal core (03_signal_cores.md, Tables 3.1 and 3.9) and of the matrix
coprocessor beside it (04_matrix_coprocessor.md, R100, R106, R120). -/

namespace Sys2Proof.Machine

/-- One vector register: 32 lanes of complex 16+16 data, real part in bits 15 to 0 (R64). -/
abbrev VReg := Vector Word 32

/-- One lane of an accumulator: two 40-bit components and the GOV flag (R78, R79). -/
structure AccLane where
  re : BitVec 40 := 0
  im : BitVec 40 := 0
  gov : Bool := false
deriving DecidableEq, Repr

/-- One accumulator. -/
abbrev Acc := Vector AccLane 32

/-- The three privilege levels (R89). -/
inductive Level where
  | task
  | supervisor
  | monitor
deriving DecidableEq, Repr

/-- The trap-state registers of one level (R90). -/
structure TrapRegs where
  tvb : Word := 0
  epc : Word := 0
  ecause : Word := 0
  eval : Word := 0
  tstat : Word := 0
deriving DecidableEq, Repr

/-- A matrix register: 8 x 8 elements, row by row, exponent E, flags F and P (R100). -/
structure MxReg where
  elem : Vector Word 64 := Vector.replicate 64 0
  exp : BitVec 8 := 0
  f : Bool := false
  p : Bool := false
deriving DecidableEq, Repr

/-- An entry of the MXC queue: the instruction, its scalar parameters and, for MXLD, the captured vector (R106). -/
structure MxEntry where
  fn : MxFn
  d : BitVec 4
  a : BitVec 4
  b : BitVec 4
  fnf : BitVec 6
  size : Word
  param : Word
  data : VReg
  seq : BitVec 12
deriving DecidableEq, Repr

/-- The matrix coprocessor of one core. -/
structure Mxc where
  regs : Vector MxReg 16 := Vector.replicate 16 {}
  queue : List MxEntry := []
  seq : BitVec 12 := 0
  rcause : BitVec 3 := 0
  late : Bool := false
  lovf : Bool := false
  lcause : BitVec 3 := 0
  lreg : BitVec 4 := 0
  lseq : BitVec 12 := 0
  /-- The start sequence has brought the domain to Run once (R120). -/
  started : Bool := false
  /-- A parity failure waits for the queue to drain before the targeted self-test (R118). -/
  testDue : Bool := false
  /-- A wake request posted by a refused instruction and not yet answered (R113). -/
  wakePosted : Bool := false
deriving DecidableEq, Repr

/-- A register that a slot writes (R70). -/
inductive RegName where
  | s (i : BitVec 4) | v (i : BitVec 5) | acc (i : BitVec 3) | a (i : BitVec 3)
  | m (i : BitVec 3) | b (i : BitVec 2) | l (i : BitVec 2)
  /-- A control register by its number. -/
  | csr (num : BitVec 12)
deriving DecidableEq, Repr

/-- One Psiah core. Data and program memory lie in the device memory. -/
structure Core where
  s : Vector Word 16 := Vector.replicate 16 0
  v : Vector VReg 32 := Vector.replicate 32 (Vector.replicate 32 0)
  acc : Vector Acc 8 := Vector.replicate 8 (Vector.replicate 32 {})
  a : Vector Word 8 := Vector.replicate 8 0
  m : Vector Word 8 := Vector.replicate 8 0
  b : Vector Word 4 := Vector.replicate 4 0
  l : Vector (BitVec 19) 4 := Vector.replicate 4 0
  pc : Word := 0x0001E000
  level : Level := .monitor
  repact : Bool := false
  waiting : Bool := false
  corectl : Word := 0
  vstat : Word := 0
  govmask : Word := 0
  bexpacc : BitVec 8 := 0
  repcnt : BitVec 13 := 0
  repmax : BitVec 13 := 0x1000
  mxen : BitVec 3 := 0
  trapS : TrapRegs := {}
  trapM : TrapRegs := { tvb := 0x0001E000 }
  ien : Word := 0
  ipend : BitVec 4 := 0
  twbase : Word := 0
  twlim : Word := 0
  tpbase : Word := 0
  tplim : Word := 0
  btcount : Word := 0
  /-- The registers whose data the bundle issued last makes visible only to the second bundle after it: a bundle that reads
  one next waits one bundle time (R74, R107, Table 3.8). -/
  loading : List RegName := []
  /-- The job stack: the job named in JOBID first, the pre-empted jobs beneath it (R97, R236). -/
  jobs : List Word := []
  wdog : BitVec 16 := 0
  /-- Ticks since the last write of WDOG (R94). -/
  wdogTicks : Nat := 0
  /-- Completions reported with DONE that Almanac has not yet taken: job and status, oldest first (R97). -/
  doneOut : List (Word × Word) := []
  mxc : Mxc := {}
deriving DecidableEq, Repr

end Sys2Proof.Machine
end

