-- ==== Sys2Proof/Machine/State.lean ====
section
/-! DEFINITION. The state of the device and of the queue of commands in front of it. -/

namespace Sys2Proof.Machine

/-- Everything the spec gives the device. -/
structure Dev where
  part : Part := .zg9812
  stepping : Byte := 0x10
  cores : Vector Core 128 := Vector.replicate 128 {}
  mem : Memory := {}
  /-- Unit slot s of class c at 128 × c + s (Table 0.5). -/
  units : Vector UnitRec 2048 := Vector.replicate 2048 {}
  time : TimeState := {}
  slack : SlackState := {}
  power : PowerState := {}
  thermal : ThermalState := {}
  health : HealthState := {}
  chiop : ChiopState := {}
  mode : ModeState := {}
  start : StartState := {}
  host : HostState := {}
  cfg : CommitState := {}
  alm : AlmState := {}
  ring : RingState := {}
  dma : DmaState := {}
  eng : EngineState := {}
  link : LinkState := {}
  eth : Vector EthPort 4 := Vector.replicate 4 {}
  /-- Number of the next fresh free value. -/
  free : Nat := 0
deriving DecidableEq, Repr

/-- Why a step can stop with a fault. No meaning raises one so far as the spec gives every command an effect: the one
constructor is for an access that the state's own bounds rule out. -/
inductive Fault where
  /-- Raised by no meaning: kept so that the type is inhabited. Safe: the machine stops. -/
  | unreachable
deriving DecidableEq, Repr

/-- Why a step can be refused. -/
inductive Refusal where
  /-- The command has no meaning yet; raised by arms of exec alone. Safe: the machine stops. -/
  | notModelled (mnemonic : String)
deriving DecidableEq, Repr

/-- The device and the commands that wait, first in first out. -/
structure State where
  dev : Dev := {}
  pending : List Sys2Proof.Instr := []
deriving DecidableEq, Repr


/-- The block right after reset: every field at its declared value, which is the reset value of the spec or, where it gives
none, the value that log entry 3 names; no command waits. -/
def State.reset : State := {}

end Sys2Proof.Machine
end

