-- ==== Sys2Proof/Machine/Ops.lean ====
section
/-! DEFINITION. The named operations every family shares: running a meaning on the device, units and capacity
(00_scope.md, R1 to R11; 20_thermal_and_health.md, R499), air-time stamps (R40), the CRCs (R394, Table 11.8), events,
health events and the event log (R410 to R412, R503, R504), alerts (R534) and power-domain lookup (R411, R458). -/

namespace Sys2Proof.Machine

/-- The meaning of a command that always has an effect: `f` on the device, the queue untouched. -/
def State.on (s : State) (f : Dev → Dev) : Host.Outcome State Fault Refusal := .next { s with dev := f s.dev }

/-- `f` on the device where the command's cause can hold in it; nothing otherwise (log entry 1). -/
def whenHolds (c : Bool) (f : Dev → Dev) (d : Dev) : Dev := if c then f d else d

/-! ### CRCs -/

/-- One bit of a CRC taken most significant bit first. -/
def crcStep (w poly : Nat) (r : Nat) (b : Bool) : Nat :=
  let top := r / 2 ^ (w - 1) % 2 == 1
  let s := r * 2 % 2 ^ w
  if top != b then s ^^^ poly else s

/-- A CRC of `w` bits over bits, most significant bit first. -/
def crcBits (w poly init : Nat) (bits : List Bool) : Nat := bits.foldl (crcStep w poly) init

/-- The bits of a byte, most significant first. -/
def bitsOfByte (b : Byte) : List Bool :=
  [b.getLsbD 7, b.getLsbD 6, b.getLsbD 5, b.getLsbD 4, b.getLsbD 3, b.getLsbD 2, b.getLsbD 1, b.getLsbD 0]

/-- The header CRC-16 (R394). -/
def crc16 (bs : List Byte) : Nat := crcBits 16 0x1021 0xFFFF (bs.flatMap bitsOfByte)

/-- One bit of the reflected CRC-32C. -/
def crc32cBit (r : Nat) : Nat := if r % 2 == 1 then (r / 2) ^^^ 0x82F63B78 else r / 2

/-- One byte of the reflected CRC-32C. -/
def crc32cByte (r : Nat) (b : Byte) : Nat :=
  let x := r ^^^ b.toNat
  crc32cBit (crc32cBit (crc32cBit (crc32cBit (crc32cBit (crc32cBit (crc32cBit (crc32cBit x)))))))

/-- CRC-32C (Table 11.8). -/
def crc32c (bs : List Byte) : Nat := (bs.foldl crc32cByte 0xFFFFFFFF) ^^^ 0xFFFFFFFF

/-! ### Units and capacity -/

/-- The slots of a unit class (Table 0.5). -/
def classSlots (c : Nat) : Nat :=
  match c with
  | 1 => 128 | 2 => 128 | 3 => 16 | 4 => 16 | 5 => 12 | 6 => 4 | 7 => 4 | 8 => 4 | 9 => 8 | 10 => 8 | 11 => 16
  | 12 => 2 | 13 => 32 | 14 => 4 | 15 => 8 | _ => 0

/-- The units of a class that a variant has (Table 0.1). -/
def classFused (p : Part) (c : Nat) : Nat :=
  let pick := fun (x y z : Nat) => match p with | .zg9812 => x | .zg9808 => y | .zg9804 => z
  match c with
  | 1 => pick 128 64 32 | 2 => pick 128 64 16 | 3 => pick 16 8 4 | 4 => pick 16 8 4 | 5 => pick 12 6 3
  | 6 => pick 4 2 1 | 7 => pick 4 2 1 | 8 => pick 4 2 1 | 9 => pick 8 4 2 | 10 => pick 8 4 2 | 11 => pick 16 16 8
  | 12 => pick 2 2 1 | 13 => pick 32 16 8 | 14 => 4 | 15 => 8 | _ => 0

/-- Whether a slot is fused present (R1, R2): the lowest indices of its class, but for the MXCs of the ZG9804. -/
def fusedPresent (p : Part) (c s : Nat) : Bool :=
  if c = 2 ∧ p = .zg9804 then decide (s / 16 < 2) && decide (s % 16 < 8) else decide (s < classFused p c)

/-- Where a unit slot lies in the table. -/
def unitIdx (c s : Nat) : Fin 2048 := ⟨(128 * c + s) % 2048, Nat.mod_lt _ (by decide)⟩

/-- The record of a unit slot. -/
def Dev.unit (d : Dev) (c s : Nat) : UnitRec := d.units[unitIdx c s]

/-- Change the record of a unit slot. -/
def Dev.updUnit (d : Dev) (c s : Nat) (f : UnitRec → UnitRec) : Dev :=
  { d with units := d.units.set (unitIdx c s) (f (d.unit c s)) }

/-- Whether a unit is PRESENT. -/
def Dev.present (d : Dev) (c s : Nat) : Bool := (d.unit c s).st == .present

/-- How many units of a class are PRESENT. -/
def Dev.presentCount (d : Dev) (c : Nat) : Nat := ((List.range (classSlots c)).filter (d.present c)).length

/-- CU_RATED in 1/8 CU (Table 0.1). -/
def cuRated (p : Part) : Nat := match p with | .zg9812 => 2048 | .zg9808 => 1024 | .zg9804 => 512

/-- CU_AVAIL in 1/8 CU (R499). -/
def Dev.cuAvail (d : Dev) : Nat :=
  ((List.range 13).map (fun i => cuRated d.part * d.presentCount (i + 1) / Nat.max 1 (classFused d.part (i + 1)))).foldl
    Nat.min (cuRated d.part)

/-- PART (Table 0.4). -/
def partCode (p : Part) : Nat := match p with | .zg9812 => 0x9812 | .zg9808 => 0x9808 | .zg9804 => 0x9804

/-- The code of a unit state (Table 0.6). -/
def unitCode : UnitState → Nat
  | .absent => 0 | .present => 1 | .retired => 2 | .failed => 3

/-! ### Air time -/

/-- Tc per frame (R38). -/
def frameTc : Nat := 19660800

/-- Tc after which HFN wraps. -/
def airWrap : Nat := 65536 * 1024 * 19660800

/-- The code of a time quality (Table 2.2). -/
def tqCode : TimeQuality → Nat
  | .locked => 0 | .acquiring => 1 | .holdover => 2 | .freeRun => 3

/-- An air-time stamp (Table 2.2) of an air time. -/
def TimeState.stampAt (t : TimeState) (air : Nat) : DWord :=
  BitVec.ofNat 64
    (air % frameTc + air / frameTc % 1024 * 2 ^ 25 + air / frameTc / 1024 % 65536 * 2 ^ 35 + t.src.toNat * 2 ^ 56
      + tqCode t.tq * 2 ^ 58)

/-- The live stamp. -/
def Dev.stamp (d : Dev) : DWord := d.time.stampAt d.time.air

/-- Microseconds as Tc: 1 µs is 1,966.08 Tc, rounded up. -/
def usToTc (us : Nat) : Nat := ceilDiv (us * 196608) 100

/-- Tc from one air time to a later one, modulo the cycle of HFN. -/
def airAhead (now t : Nat) : Nat := (t % airWrap + airWrap - now) % airWrap

/-- Whether an air time is past or present: less than half a cycle back (R40). -/
def airPast (now t : Nat) : Bool := airAhead now t == 0 || decide (airWrap / 2 ≤ airAhead now t)

/-- Air time moves on by some Tc. -/
def TimeState.elapse (t : TimeState) (n : Nat) : TimeState :=
  { t with air := (t.air + n) % airWrap, wraps := t.wraps + ((t.air + n) / airWrap : Nat) }

/-- Total Tc since the reference point of the GSM frame number (R39); whole seconds of it are the GPS seconds of R352 (log
entry 51). -/
def TimeState.total (t : TimeState) : Int := t.wraps * (airWrap : Nat) + (t.air : Nat)

/-- Subframes counted modulo 2^32, the window number of R49. -/
def TimeState.subframes (t : TimeState) : Word := BitVec.ofInt 32 (t.total / 1966080)

/-- The subframe that holds an air time now past. -/
def TimeState.subframeOf (t : TimeState) (at_ : Nat) : Word := BitVec.ofInt 32 ((t.total - (airAhead at_ t.air : Nat)) / 1966080)

/-- Change one Ethernet port. -/
def Dev.updEth (d : Dev) (p : Nat) (f : EthPort → EthPort) : Dev :=
  { d with eth := Vector.ofFn (fun i => if i.val = p then f d.eth[i] else d.eth[i]) }

/-- The state of an Ethernet port. -/
def Dev.ethPort (d : Dev) (p : Nat) : EthPort := d.eth.toList.getD p {}

/-! ### Power domains -/

/-- Where a domain code lies in the table (R411, R458). -/
def domIdx (code : Nat) : Fin 1664 := ⟨(code / 256 * 128 + code % 128) % 1664, Nat.mod_lt _ (by decide)⟩

/-- Whether a code names a switched domain (Table 19.1). -/
def domSwitched (code : Nat) : Bool :=
  let i := code % 256
  match code / 256 with
  | 1 => decide (i < 128) | 2 => decide (i < 128) | 3 => decide (i < 64) | 4 => decide (i < 16) | 5 => decide (i < 8)
  | 6 => decide (i < 4) | 7 => decide (i < 2) | 8 => decide (i < 1) | 9 => decide (2 ≤ i ∧ i < 8)
  | 12 => decide (i < 8) | _ => false

/-- Every switched domain's code in ascending order, with PD.M.c last (R474). -/
def allDomains : List Nat :=
  (List.range 128).map (0x100 + ·) ++ (List.range 128).map (0x200 + ·) ++ (List.range 64).map (0x300 + ·)
    ++ (List.range 16).map (0x400 + ·) ++ (List.range 8).map (0x500 + ·) ++ (List.range 4).map (0x600 + ·)
    ++ (List.range 2).map (0x700 + ·) ++ [0x800] ++ (List.range 6).map (0x902 + ·) ++ (List.range 8).map (0xC00 + ·)

/-- The record of a domain. -/
def Dev.dom (d : Dev) (code : Nat) : DomainRec := d.power.dom[domIdx code]

/-- Change the record of a domain. -/
def Dev.updDom (d : Dev) (code : Nat) (f : DomainRec → DomainRec) : Dev :=
  { d with power := { d.power with dom := d.power.dom.set (domIdx code) (f (d.dom code)) } }

/-- Whether a domain is in Run. -/
def Dev.domRun (d : Dev) (code : Nat) : Bool := (d.dom code).st == .run

/-- The unit class and slot of an accelerator domain index (R17). -/
def accelUnit (i : Nat) : Nat × Nat :=
  if i < 16 then (3, i) else if i < 32 then (4, i - 16) else if i < 44 then (5, i - 32) else if i < 48 then (6, i - 44)
  else if i < 52 then (7, i - 48) else if i < 56 then (8, i - 52) else (9, i - 56)

/-- The units of a domain (R17, R458, R541); PD.P has none. -/
def domUnits (code : Nat) : List (Nat × Nat) :=
  let i := code % 256
  match code / 256 with
  | 1 => [(1, i)] | 2 => [(2, i)] | 3 => [accelUnit i] | 4 => [(11, i)]
  | 5 => [(13, 4 * i), (13, 4 * i + 1), (13, 4 * i + 2), (13, 4 * i + 3)]
  | 6 => [(14, i)] | 7 => [(12, i)] | 9 => [(15, i)] | 12 => [(10, i)] | _ => []

/-- The domain of a unit; 0x0B00 (PD.AON) for control cores 0 and 1. -/
def unitDomain (c s : Nat) : Nat :=
  match c with
  | 1 => 0x100 + s | 2 => 0x200 + s | 3 => 0x300 + s | 4 => 0x310 + s | 5 => 0x320 + s | 6 => 0x32C + s
  | 7 => 0x330 + s | 8 => 0x334 + s | 9 => 0x338 + s | 10 => 0xC00 + s | 11 => 0x400 + s | 12 => 0x700 + s
  | 13 => 0x500 + s / 4 | 14 => 0x600 + s | 15 => if s < 2 then 0x0B00 else 0x900 + s | _ => 0x0B00

/-- Whether some unit of the domain is PRESENT, or the domain has no unit (R541). -/
def Dev.domPresent (d : Dev) (code : Nat) : Bool :=
  (domUnits code).isEmpty || (domUnits code).any (fun u => d.present u.1 u.2)

/-! ### Alerts and interrupts -/

/-- SERVICE_N asserted (R421, R433, R489). -/
def Dev.serviceN (d : Dev) : Bool :=
  d.mode.mode == 3 || d.mode.mode == 7 || d.health.service || d.thermal.hold || d.start.halted

/-- Chiop service: the interpreter is ready and at least one always-on control core runs (R419, R496). -/
def Dev.serves (d : Dev) : Bool := d.start.ready && d.health.idle != 3

/-- FLAGS[1] of the device status record (R421, R500). -/
def Dev.flagService (d : Dev) : Bool := d.serviceN

/-- ALERT_CAUSE (Table 22.5). -/
def Dev.alertCause (d : Dev) : Word :=
  d.host.alertEdge ||| (if d.serviceN then 1 else 0) ||| (if d.health.replaceOut then 2 else 0)
    ||| (if d.thermal.flag2 then 4 else 0) ||| (if d.start.halted || d.mode.mode == 3 then 8 else 0)

/-- ALERT_N asserted (R534). -/
def Dev.alertN (d : Dev) : Bool := (d.alertCause &&& d.host.alertMask) != 0

/-- Raise an MSI-X vector. -/
def Dev.raiseVector (d : Dev) (v : Nat) : Dev := { d with host := { d.host with msix := d.host.msix ||| (1 <<< v) } }

/-- Vector 2 for unmasked alert bits that went from 0 to 1 (R534). -/
def Dev.alertSince (d before : Dev) : Dev :=
  if (d.alertCause &&& ~~~before.alertCause) &&& d.host.alertMask ≠ 0 then d.raiseVector 2 else d

/-- Set an edge bit of ALERT_CAUSE; a bit set anew and unmasked raises vector 2. -/
def Dev.raiseAlert (d : Dev) (bit : Nat) : Dev :=
  let d' := { d with host := { d.host with alertEdge := d.host.alertEdge ||| (1 <<< bit) } }
  d'.alertSince d

/-! ### Events -/

/-- The address in the device map of a host address (R300). -/
def hostAddr (a : Nat) : Nat := 0x8000000000000000 + a

/-- The bytes of a reply or event header (Table 16.4), with OWN 0. -/
def Reply.header (r : Reply) : List Byte :=
  bytesOf 2 r.status.toNat ++ bytesOf 2 r.opcode.toNat ++ bytesOf 4 r.seq.toNat ++ bytesOf 4 r.epoch.toNat
    ++ bytesOf 2 r.len.toNat
    ++ bytesOf 2 (boolNat r.pending + 2 * boolNat r.repeated + 4 * boolNat r.event + 8 * boolNat r.truncated)

/-- The 64 bytes of an event record (R410). -/
def EventRec.bytes (e : EventRec) : List Byte :=
  ({ opcode := BitVec.ofNat 16 e.kind, seq := e.seq, epoch := e.epoch, len := 48, event := true } : Reply).header
    ++ padTo 48 e.payload

/-- NI 244 is OPEN (R386). -/
def Dev.ni244 (d : Dev) : Bool := d.ring.ni[(244 : Fin 256)].shell == .open_

/-- Change one NI. -/
def Dev.updNi (d : Dev) (k : Nat) (f : Ni → Ni) : Dev :=
  let i : Fin 256 := ⟨k % 256, Nat.mod_lt _ (by decide)⟩
  { d with ring := { d.ring with ni := d.ring.ni.set i (f d.ring.ni[i]) } }

/-- The record of an NI. -/
def Dev.niRec (d : Dev) (k : Nat) : Ni := d.ring.ni[(⟨k % 256, Nat.mod_lt _ (by decide)⟩ : Fin 256)]

/-- The device has power and no reset holds it (R515, R517). -/
def Dev.up (d : Dev) : Bool := d.start.powered && !d.start.resetLow && !d.start.railHold

/-- Whether firmware has been launched (Table 18.1, step 0x09): cores, engines and Almanac run. -/
def Dev.launched (d : Dev) : Bool :=
  d.up && !([1, 2, 3, 9].contains d.mode.mode && !(d.start.step == 10 && (d.mode.mode == 1 || d.mode.mode == 2)))

/-- The PCIe port's reset (Table 15.8, Table 22.1): its registers take their reset values, bus mastering is off; events that
waited for the old rings are gone (R387). -/
def Dev.pcieReset (d : Dev) : Dev :=
  let h := d.host
  let fresh : HostState := {}
  { d with host := { fresh with hbcount := h.hbcount
                                alertEdge := h.alertEdge
                                msix := 0
                                linkUp := h.linkUp
                                flr := h.flr
                                hostlossMs := h.hostlossMs
                                closedAt := h.closedAt
                                lost := h.lost
                                hbAt := h.hbAt
                                barRead := h.barRead }
           chiop := { d.chiop with backlog := [], lostNow := 0 } }

/-- Whether NI 244 may be OPEN (R386, R275): the port runs and answers, the link is up, bus mastering is enabled. -/
def Dev.hostOpen (d : Dev) : Bool :=
  d.up && d.start.ready && (d.dom 0x800).st == .run && d.host.linkUp && d.host.busMaster && !d.start.perstLow && !d.host.flr
    && !d.host.d3hot && d.mode.mode != 9

/-- NI 244 takes the state that the PCIe port gives it (R386): CLOSED with the time noted (R389), or OPEN, which ends a loss
of the host. -/
def Dev.settleHost (d : Dev) : Dev :=
  if d.hostOpen then
    if d.ni244 then d
    else ({ d with host := { d.host with lost := false } } : Dev).updNi 244 (fun n => { n with shell := .open_ })
  else if d.ni244 then
    ({ d with host := { d.host with closedAt := d.time.air } } : Dev).updNi 244 (fun n => { n with shell := .closed })
  else d

/-- The PCIe link is lost (R386). -/
def Dev.linkLost (d : Dev) : Dev :=
  (({ d with host := { d.host with linkUp := false, flr := false } } : Dev).pcieReset).settleHost

/-- Whether the event ring can take an entry (R410). -/
def Dev.eventRoom (d : Dev) : Bool :=
  d.host.enable && d.ni244
    && ((d.host.evtTail.toNat + 1) % d.host.evtSize.toNat != d.host.evtHead.toNat)

/-- Write one event entry to the ring. -/
def Dev.writeEvent (d : Dev) (e : EventRec) : Dev :=
  let a := hostAddr (d.host.evtBase.toNat + 64 * d.host.evtTail.toNat)
  let d' := { d with mem := d.mem.ifWrite a e.bytes
                     host := { d.host with evtTail := BitVec.ofNat 18 ((d.host.evtTail.toNat + 1) % d.host.evtSize.toNat) } }
  d'.raiseVector 1

/-- Copies of a packet to every open management channel (R376). -/
def Dev.toPeers (d : Dev) (kind : Nat) (bs : List Byte) : Dev :=
  let chans := ((List.range 17).drop 1).filter (fun c => (d.chiop.chan.toList.getD c {}).opened)
  { d with chiop := { d.chiop with mgmtOut := d.chiop.mgmtOut ++ chans.map (fun c => ⟨c, kind, bs⟩) } }

/-- Post an event (R410, R412): to the ring, else to the backlog, else dropped and counted; a copy to every peer. Where the
rings are not enabled the event is lost to the host (22_host_registers.md, Table 22.9). -/
def Dev.post (d : Dev) (kind : Nat) (payload : List Byte) : Dev :=
  let e : EventRec := ⟨kind, d.chiop.evSeq, d.chiop.epoch, padTo 48 payload⟩
  let d1 := { d with chiop := { d.chiop with evSeq := d.chiop.evSeq + 1 } }
  let d2 := d1.toPeers (if kind = 0xF001 then 4 else 3) e.bytes
  if !d2.host.enable then d2
  else if d2.chiop.backlog.isEmpty && d2.eventRoom then d2.writeEvent e
  else if d2.chiop.backlog.length < 65536 then
    { d2 with chiop := { d2.chiop with backlog := d2.chiop.backlog ++ [e] } }
  else
    let c := d2.chiop
    ({ d2 with chiop := { c with evlost := c.evlost + 1, lostNow := c.lostNow + 1
                                 lostFirst := if c.lostNow = 0 then e.seq else c.lostFirst } } : Dev).raiseAlert 10

/-- Write waiting events while the ring has room. -/
def Dev.drainEvents : Nat → Dev → Dev
  | 0, d => d
  | n + 1, d =>
    match d.chiop.backlog with
    | [] => d
    | e :: rest =>
      if d.eventRoom then
        Dev.drainEvents n (({ d with chiop := { d.chiop with backlog := rest } } : Dev).writeEvent e)
      else d

/-- Room in the event ring has come (R412): the backlog drains, and an OVERFLOW event tells of drops. -/
def Dev.eventSpace (d : Dev) : Dev :=
  let d1 := Dev.drainEvents d.chiop.backlog.length d
  if d1.chiop.lostNow ≠ 0 ∧ d1.chiop.backlog.isEmpty ∧ d1.eventRoom then
    let c := d1.chiop
    ({ d1 with chiop := { c with lostNow := 0 } } : Dev).post 0xF00A (bytesOf 4 c.lostNow.toNat ++ bytesOf 4 c.lostFirst.toNat)
  else d1

/-! ### The event log and health events -/

/-- The boot flash's copy of a log record (R505): repair and retirement records fill its first sector of 1,024, the others go
round in what is left of LOGLEN. -/
def StartState.mirror (s : StartState) (r : LogRec) : StartState :=
  if r.type = 4 ∨ r.type = 5 then
    if s.flashFirst.length < 1024 then { s with flashFirst := s.flashFirst ++ [r] } else s
  else
    let log := s.flashLog ++ [r]
    { s with flashLog := log.drop (log.length - (s.logLen / 65536 - 1) * 1024) }

/-- Append a record to the event log of 8,192, and to boot flash where the mirror takes its type (R504, R505); a first sector
that is full raises SPARES. -/
def Dev.logAdd (d : Dev) (type : Nat) (mirror : Bool) (payload : List Byte) : Dev :=
  let m := d.start.logMirror && mirror
  let r : LogRec := ⟨d.health.logNext, type, if m then 1 else 0, d.stamp, padTo 48 payload⟩
  let log := d.health.log ++ [r]
  let start := if m then d.start.mirror r else d.start
  { d with health := { d.health with log := log.drop (log.length - 8192)
                                     logNext := d.health.logNext + 1
                                     sparesDue := d.health.sparesDue || (m && (type == 4 || type == 5)
                                       && decide (1024 ≤ start.flashFirst.length)) }
           start := start }

/-- The parts of a HEALTH payload (Table 20.9). -/
structure HealthInfo where
  hkind : Nat
  action : Nat := 0
  cls : Nat := 0
  slot : Nat := 0
  causes : Nat := 0
  domain : Nat := 0
  level : Nat := 0
  cell : Nat := 0xFFFF
  count : Nat := 1
  addr : Nat := 0
  data : List Byte := []
deriving DecidableEq, Repr

/-- The 48 payload bytes (Table 20.9). -/
def healthPayload (stamp : DWord) (i : HealthInfo) : List Byte :=
  bytesOf 2 i.hkind ++ bytesOf 1 i.action ++ bytesOf 1 i.cls ++ bytesOf 1 i.slot ++ bytesOf 1 i.causes
    ++ bytesOf 2 i.domain ++ bytesOf 8 stamp.toNat ++ bytesOf 2 i.level ++ bytesOf 2 i.cell ++ bytesOf 4 i.count
    ++ bytesOf 8 i.addr ++ padTo 16 i.data

/-- Whether a waiting merge record is of the same kind for the same unit, link or cell (R503); missing containers and late
jobs of a cell share their limit (R57). An event that names none of them is that of the subject its DATA names (log entry 86). -/
def mergeSame (i : HealthInfo) (m : MergeRec) : Bool :=
  (m.hkind == i.hkind || (m.hkind - 1 < 2 && i.hkind - 1 < 2 && m.hkind != 0 && i.hkind != 0)) && m.cls == i.cls && m.slot == i.slot
    && m.cell == i.cell && pf m.payload 6 2 == i.domain % 65536
    && (i.cls != 0 || i.cell != 0xFFFF || i.domain != 0 || (m.payload.drop 32).take 16 == padTo 16 i.data)

/-- Raise a HEALTH event (R503): ACTION 2 or above is posted and logged at once; others at most once a second, the rest
merged into the next. -/
def Dev.healthEvent (d : Dev) (i : HealthInfo) : Dev :=
  let p := healthPayload d.stamp i
  if 2 ≤ i.action then
    let d1 := (d.post 0xF003 p).logAdd (if i.action = 6 ∨ i.action = 7 then 5 else 1) (decide (4 ≤ i.action)) p
    if 4 ≤ i.action then d1.raiseAlert 12 else d1
  else if d.health.merge.any (mergeSame i) then
    { d with health := { d.health with merge := d.health.merge.map (fun m =>
        if mergeSame i m then { m with count := m.count + i.count, payload := p } else m) } }
  else
    let d1 := d.post 0xF003 p
    { d1 with health := { d1.health with merge := d1.health.merge ++ [⟨i.hkind, i.cls, i.slot, i.cell, 0, p⟩] } }

/-- The payload of a merged event with its count in place. -/
def withCount (p : List Byte) (n : Nat) : List Byte := p.take 20 ++ bytesOf 4 n ++ p.drop 24

/-- A second of air time ends: merged events are posted with their counts (R503). -/
def Dev.flushMerges (d : Dev) : Dev :=
  let ms := d.health.merge
  let d1 := (ms.filter (fun m => m.count != 0)).foldl (fun d m => d.post 0xF003 (withCount m.payload m.count)) d
  { d1 with health := { d1.health with merge := (ms.filter (fun m => m.count != 0)).map (fun m => { m with count := 0 }) } }

/-! ### Buckets and self-tests -/

/-- Queue a targeted self-test of a unit, once (R493, R497). -/
def Dev.queueTest (d : Dev) (c s : Nat) : Dev :=
  let u := d.unit c s
  if u.queued || u.testing then d
  else
    let d1 := d.updUnit c s (fun u => { u with queued := true })
    { d1 with health := { d1.health with testQueue := d1.health.testQueue ++ [(c, s)] } }

/-- Charge weight to a unit's bucket (R492, R493); a direct error adds TESTLVL and starts the test at once. -/
def Dev.charge (d : Dev) (c s w : Nat) (direct : Bool) : Dev :=
  let cfg := d.health.leaky.toList.getD c {}
  let add := if direct then cfg.testlvl else w
  let u := d.unit c s
  let lvl := Nat.min 65535 (u.level + add)
  let d1 := d.updUnit c s (fun u => { u with level := lvl, weight := Nat.min 0xFFFFFFFF (u.weight + add) })
  if direct || decide (cfg.testlvl ≤ lvl) then d1.queueTest c s else d1

/-- A health event about a unit, with its charge (R492): the level after the event is reported. -/
def Dev.unitError (d : Dev) (hkind c s w : Nat) (direct : Bool) (addr : Nat) : Dev :=
  let d1 := d.charge c s w direct
  let lvl := (d1.unit c s).level
  d1.healthEvent { hkind := hkind, action := if direct then 2 else 1, cls := c, slot := s, domain := unitDomain c s
                   level := lvl, addr := addr }

/-- The unit that owns the store at a device address (R492): a core, cluster memory, global SRAM bank or HBM stack. -/
def storeUnit (a : Nat) : Option (Nat × Nat) :=
  if a < 0x4000000 then some (1, a / 0x80000)
  else if 0x10000000 ≤ a ∧ a < 0x14000000 then some (10, (a - 0x10000000) / 0x800000)
  else if 0x20000000 ≤ a ∧ a < 0x26000000 then some (11, (a - 0x20000000) / 0x600000)
  else if 0x800000000 ≤ a ∧ a < 0x1000000000 then some (12, (a - 0x800000000) / 0x400000000)
  else none

/-- The HBM row of a device address: its stack and pseudo-channel (R302) and its row there. -/
def hbmRowOf (a : Nat) : HbmRow :=
  let x := (a - 0x800000000) % 0x400000000
  { stack := (a - 0x800000000) / 0x400000000, chan := (x / 2048 % 32) ^^^ (x / 65536 % 32), row := Sys2Proof.Config.hbmRow a }

/-- 24 hours of air time. -/
def dayTc : Nat := 86400 * 1966080000

/-- Soft post-package repair of an HBM row (R309): a spare row of its pseudo-channel takes its place, the last one raises SPARES
(R500); with none left the stack has a lasting fault: stack 0 raises SPARES (R496), stack 1 is retired (log entry 82). -/
def Dev.hbmRepair (d : Dev) (r : HbmRow) (a : Nat) : Dev :=
  let used := (d.health.hbmRows.filter (fun x => x.stack == r.stack && x.chan == r.chan)).length
  let errors := d.health.hbmErrors.filter (fun x => x.1 != r)
  let ev := fun (d : Dev) (act : Nat) => d.healthEvent { hkind := 0x001A, action := act, cls := 12, slot := r.stack, addr := a }
  let due := fun (h : HealthState) => { h with sparesDue := true, replaceUnit := (12, r.stack) }
  if used < Sys2Proof.Config.hbmSpares then
    let h : HealthState := { d.health with hbmRows := d.health.hbmRows ++ [r], hbmErrors := errors }
    let d1 : Dev := { d with health := if used + 1 = Sys2Proof.Config.hbmSpares then due h else h }
    ev (d1.logAdd 4 true (healthPayload d.stamp { hkind := 0x001A, action := 0, cls := 12, slot := r.stack, addr := a })) 0
  else
    let d1 : Dev := { d with health := { d.health with hbmErrors := errors } }
    ev (if r.stack = 0 then { d1 with health := due d1.health } else d1.updUnit 12 r.stack (fun u => { u with markRetire := true })) 4

/-- An error in an HBM row (R309): it is remapped at an uncorrectable one, and at more than 16 corrected ones in 24 h. -/
def Dev.hbmError (d : Dev) (a : Nat) (corrected : Bool) : Dev :=
  let r := hbmRowOf a
  let old := ((d.health.hbmErrors.find? (fun x => x.1 == r)).map (fun x => x.2)).getD []
  let times := old.filter (fun t => decide (airAhead t d.time.air ≤ dayTc)) ++ [d.time.air]
  if corrected ∧ times.length ≤ 16 then
    { d with health := { d.health with hbmErrors := (r, times) :: d.health.hbmErrors.filter (fun x => x.1 != r) } }
  else d.hbmRepair r a

/-- A corrected bit in a store, counted (R93, R306); HBM errors charge no bucket (R542). -/
def Dev.eccCorrected (d : Dev) (a : Nat) : Dev :=
  match storeUnit a with
  | some (12, s) => (d.healthEvent { hkind := 0x0010, action := 1, cls := 12, slot := s, addr := a }).hbmError a true
  | some (c, s) => d.unitError 0x0010 c s 1 false a
  | none => d

/-- An uncorrectable word in a store (R93, R306): poison is marked by the reader; the bank's test starts. -/
def Dev.eccUncorrectable (d : Dev) (a : Nat) : Dev :=
  match storeUnit a with
  | some (12, s) => (d.healthEvent { hkind := 0x0011, action := 1, cls := 12, slot := s, addr := a }).hbmError a false
  | some (c, s) => d.unitError 0x0011 c s 0 true a
  | none => d

/-! ### Replies -/

/-- The 256 bytes of a reply entry. -/
def Reply.bytes (r : Reply) : List Byte := r.header ++ padTo 240 r.data

/-- Deliver a reply (R393, R401): to the reply slot of the rings the command came from, or as a frame to its peer. A
reply whose rings are gone stays in the result store, and a RESULT event tells of it where the command was held. -/
def Dev.deliver (d : Dev) (chan slot gen : Nat) (held : Bool) (r : Reply) : Dev :=
  if chan = 0 then
    if d.host.enable ∧ d.ni244 ∧ gen = d.chiop.gen then
      ({ d with mem := d.mem.ifWrite (hostAddr (d.host.rplBase.toNat + 256 * slot)) r.bytes } : Dev).raiseVector 0
    else if held then d.post 0xF00B (bytesOf 4 r.seq.toNat) else d
  else { d with chiop := { d.chiop with mgmtOut := d.chiop.mgmtOut ++ [⟨chan, 2, r.bytes⟩] } }

/-- The record of a channel. -/
def Dev.chan (d : Dev) (c : Nat) : Channel := d.chiop.chan.toList.getD c {}

/-- Change the record of a channel. -/
def Dev.updChan (d : Dev) (c : Nat) (f : Channel → Channel) : Dev :=
  { d with chiop := { d.chiop with chan := Vector.ofFn (fun i => if i.val = c then f d.chiop.chan[i] else d.chiop.chan[i]) } }

/-- A reply of a held or finished command, without its delivery. -/
def mkReply (op : Nat) (seq epoch : Word) (status : Nat) (data : List Byte) : Reply :=
  { status := BitVec.ofNat 16 status, opcode := BitVec.ofNat 16 op, seq := seq, epoch := epoch
    len := BitVec.ofNat 16 (Nat.min 240 data.length), truncated := decide (240 < data.length), data := data.take 240 }

/-- The error detail (Table 16.5). -/
def errDetail (offset reason unit extra : Nat) : List Byte :=
  bytesOf 2 offset ++ bytesOf 2 reason ++ bytesOf 2 unit ++ bytesOf 2 extra

/-- Complete a held command (R393, R399, R401): its reply is retained and delivered. -/
def Dev.complete (d : Dev) (chan : Nat) (seq : Word) (status : Nat) (data : List Byte) : Dev :=
  match (d.chan chan).held.find? (fun h => h.seq == seq) with
  | none => d
  | some h =>
    let r0 := mkReply h.op seq d.chiop.epoch status data
    let n := match h.place with | some p => Nat.min data.length p.2 | none => 0
    let r := if h.place.isSome ∧ status < 0x100 then
        { r0 with len := BitVec.ofNat 16 n, truncated := decide (n < data.length), data := [] } else r0
    let d0 : Dev := match h.place with
      | some p => if status < 0x100 then { d with mem := d.mem.ifWrite p.1 (data.take n) } else d
      | none => d
    let d1 := d0.updChan chan (fun c =>
      { c with held := c.held.filter (fun x => x.seq != seq)
               store := c.store.map (fun x => if x.seq == seq && x.reply.isNone then { x with reply := some r } else x) })
    d1.deliver chan h.slot h.gen true r

end Sys2Proof.Machine
end

