-- ==== Sys2Proof/Machine/Blocks.lean ====
section
/-! DEFINITION. Blocks of samples and symbols in memory: plain samples, FD16 and BFP9 (05_transform_and_equaliser.md, R126;
13_ecner_framing.md, Table 13.4). -/

namespace Sys2Proof.Machine

/-- Plain samples: 4 bytes each, 18-bit parts (R130: x = 4 × x_in). -/
def samplesOf (bs : List Byte) (n : Nat) : List (Int × Int) :=
  let a := bs.toArray
  let part := fun (i : Nat) => signedOf 16 ((a.getD i 0).toNat + 256 * (a.getD (i + 1) 0).toNat)
  (List.range n).map (fun i => (4 * part (4 * i), 4 * part (4 * i + 2)))

/-- FD16 as exact numbers (R126): 52 bytes a PRB, a part x with exponent E stands for x × 2^(E - 15). -/
def fd16Dyads (bs : List Byte) (n : Nat) : List Dyad :=
  let a := bs.toArray
  let part := fun (i : Nat) => signedOf 16 ((a.getD i 0).toNat + 256 * (a.getD (i + 1) 0).toNat)
  (List.range n).map (fun i =>
    let off := 52 * (i / 12) + 4 * (i % 12)
    ⟨part off, part (off + 2), signedOf 8 (a.getD (52 * (i / 12) + 48) 0).toNat - 15⟩)

/-- FD16 input (R126, R135): per-PRB exponents aligned to the largest; the samples and that exponent. -/
def fd16Of (bs : List Byte) (n : Nat) : List (Int × Int) × Int :=
  let xs := fd16Dyads bs n
  let e := xs.foldl (fun m x => max m (x.u + 15)) (-128)
  (xs.map (fun x => (roundPart 18 (4 * x.re) (e - 15 - x.u).toNat, roundPart 18 (4 * x.im) (e - 15 - x.u).toNat)), e)

/-- A field of `n` bits of a stream of bytes, most significant first. -/
def msbField (a : Array Byte) (off n : Nat) : Nat :=
  (List.range n).foldl (fun x i => 2 * x + boolNat (((a.getD ((off + i) / 8) 0).getLsbD (7 - (off + i) % 8)))) 0

/-- BFP9 as exact numbers (R126, Table 13.4): 220 bits a PRB; m expands to 128 m
with the exponent X. -/
def bfp9Dyads (bs : List Byte) (n : Nat) : List Dyad :=
  let a := bs.toArray
  (List.range n).map (fun i =>
    let off := 220 * (i / 12)
    let at_ := off + 4 + 18 * (i % 12)
    ⟨128 * signedOf 9 (msbField a at_ 9), 128 * signedOf 9 (msbField a (at_ + 9) 9), (msbField a off 4 : Int) - 15⟩)

/-- Bytes of a container of `n` values: FD16, or a BFP9 body. -/
def bodyLen (fd16 : Bool) (n : Nat) : Nat := if fd16 then 52 * ceilDiv n 12 else ceilDiv (220 * ceilDiv n 12) 8

/-- The values of a container. -/
def bodyDyads (fd16 : Bool) (bs : List Byte) (n : Nat) : List Dyad := if fd16 then fd16Dyads bs n else bfp9Dyads bs n

/-- The bytes of a container that value `i` rests on: its parts and its PRB's exponent. -/
def bodyBytes (fd16 : Bool) (i : Nat) : List Nat :=
  let p := i / 12
  if fd16 then [52 * p + 48] ++ (List.range 4).map (fun b => 52 * p + 4 * (i % 12) + b)
  else
    let at_ := 220 * p + 4 + 18 * (i % 12)
    ((List.range 4).map (fun b => (220 * p + b) / 8) ++ (List.range 18).map (fun b => (at_ + b) / 8)).eraseDups

/-- Which streams of a cell arrive in FD16 (Table 13.4); the others are BFP9. -/
def Dev.streamForms (d : Dev) (cell ns : Nat) : List Bool :=
  (List.range ns).map (fun k => d.cfg.streams.any (fun e => !e.down && e.cell == cell && e.stream == k && e.kind == 2))

/-- Bytes of a symbol's input: its streams one after another. -/
def symbolBytes (forms : List Bool) (nprb : Nat) : Nat := (forms.map (fun f => bodyLen f (12 * nprb))).sum

/-- Where a stream begins in a symbol's input. -/
def streamAt (forms : List Bool) (nprb k : Nat) : Nat := symbolBytes (forms.take k) nprb

/-- Samples as bytes. -/
def sampleBytes (xs : List (Int × Int)) : List Byte :=
  xs.flatMap (fun x => bytesOf 2 (BitVec.ofInt 16 x.1).toNat ++ bytesOf 2 (BitVec.ofInt 16 x.2).toNat)

/-- Samples as FD16 with one exponent (R126). -/
def fd16Bytes (xs : List (Int × Int)) (e : Int) : List Byte :=
  (List.range (ceilDiv xs.length 12)).flatMap (fun p =>
    padTo 48 (sampleBytes ((xs.drop (12 * p)).take 12)) ++ bytesOf 1 (BitVec.ofInt 8 e).toNat ++ [0, 0, 0])

end Sys2Proof.Machine
end

