-- ==== Sys2Proof/Machine/Air.lean ====
section
/-! DEFINITION. The arithmetic of air time: tick edges, slots and symbols, GSM/EDGE frames and timeslots
(02_timing_and_deadlines.md, R38, R39, R46, R47). -/

namespace Sys2Proof.Machine

/-- The place of a tick edge in its frame (R46): each within 1 Tc of its exact position. -/
def edgePos (code idx : Nat) : Nat := idx * 19660800 * 2 ^ code / 40000

/-- Tick edges per frame. -/
def edgesPerFrame (code : Nat) : Nat := 40000 / 2 ^ code

/-- The TDMA frame that holds a total, counted from the reference point. -/
def gsmFrameOf (total : Int) : Int := (13 * (total + 1) - 1) / 117964800

/-- The last GSM timeslot boundary at or before a total. -/
def gsmSlotOf (total : Int) : Int := (13 * (total + 1) - 1) / 14745600

/-- Tc from the reference point of the GSM frame number to an air time (R39). -/
def TimeState.gsmAt (t : TimeState) (air : Nat) : Int := (t.wraps - t.fnWraps) * (airWrap : Nat) + (air : Nat)

/-- FN (R39). -/
def TimeState.fn (t : TimeState) : Nat := (((t.fn0 : Nat) + gsmFrameOf (t.gsmAt t.air)) % 2715648).toNat

/-- An air time moved by a signed step. -/
def airShift (air : Nat) (step : Int) : Nat := (((air : Nat) + step) % (airWrap : Nat)).toNat

/-- A signed difference of air times. -/
def airDiff (a b : Nat) : Int := if airPast a b then (airAhead b a : Int) else -(airAhead a b : Int)

/-- Slots per frame of a cell type: NR slots, LTE subframes. -/
def slotsPerFrame (type : Nat) : Nat := match type with | 1 => 20 | 3 => 80 | _ => 10

/-- Where slot `n` starts in its frame, in Tc (R38). -/
def slotPos (type n : Nat) : Nat :=
  match type with
  | 1 => n * 983040
  | 3 => n / 4 * 983040 + (if n % 4 = 0 then 0 else 246528 + (n % 4 - 1) * 245504)
  | _ => n * 1966080

/-- Where symbol `l` of slot `n` starts, from the slot's start (R38): the first symbol of each 0.5 ms is 1,024 Tc longer. -/
def symPos (type n l : Nat) : Nat :=
  match type with
  | 1 => l * 70144 + (if 1 ≤ l then 1024 else 0)
  | 3 => l * 17536 + (if n % 4 = 0 ∧ 1 ≤ l then 1024 else 0)
  | _ => l * 140288 + (if 1 ≤ l then 1024 else 0) + (if 8 ≤ l then 1024 else 0)

/-- The slot of a frame that holds an offset. -/
def slotAtPos (type o : Nat) : Nat :=
  match type with
  | 1 => o / 983040
  | 3 => 4 * (o / 983040) + (if o % 983040 < 246528 then 0 else 1 + (o % 983040 - 246528) / 245504)
  | _ => o / 1966080

/-- The start of the slot (GSM/EDGE: TDMA frame) that holds an air time, and the start of the next. -/
def TimeState.slotSpan (t : TimeState) (type air : Nat) : Nat × Nat :=
  if type = 5 then
    let f := gsmFrameOf (t.gsmAt air)
    ((f * 117964800 / 13 % (airWrap : Nat)).toNat, ((f + 1) * 117964800 / 13 % (airWrap : Nat)).toNat)
  else
    let base := air / frameTc * frameTc
    let n := slotAtPos type (air % frameTc)
    (base + slotPos type n, (base + if n + 1 = slotsPerFrame type then frameTc else slotPos type (n + 1)) % airWrap)

/-- The slot number of the TDD pattern (R414): slots since HFN 0, SFN 0; TDMA frames for GSM/EDGE. -/
def TimeState.slotNumber (t : TimeState) (type start : Nat) : Nat :=
  if type = 5 then (((t.fn0 : Nat) + gsmFrameOf (t.gsmAt start)) % 2715648).toNat
  else start / frameTc * slotsPerFrame type + slotAtPos type (start % frameTc)

/-- AT of a slot (Tables 16.12, 16.14). -/
def TimeState.slotAt (t : TimeState) (type start : Nat) : Word :=
  if type = 5 then BitVec.ofNat 32 (t.slotNumber 5 start)
  else BitVec.ofNat 32 (slotAtPos type (start % frameTc) + start / frameTc % 1024 * 256)

/-- Symbols of a slot (LTE: subframe), timeslots of a TDMA frame. -/
def slotSymbols (type : Nat) : Nat := if type = 5 then 8 else 14

/-- Where a symbol of a slot starts, or a timeslot of a TDMA frame; the slot's end for the last. -/
def TimeState.symStart (t : TimeState) (type start sym : Nat) : Nat :=
  if type = 5 then
    let f := gsmFrameOf (t.gsmAt start)
    (((8 * f + (sym : Nat)) * 14745600 / 13) % (airWrap : Nat)).toNat
  else if slotSymbols type ≤ sym then (t.slotSpan type start).2
  else (start + symPos type (slotAtPos type (start % frameTc)) sym) % airWrap

/-- The tick number of the last tick edge at or before an air time near now, past or to come, at the present period (R46,
R48). -/
def TimeState.tickAt (t : TimeState) (at_ : Nat) : BitVec 40 :=
  let n := edgesPerFrame t.tickCode
  let pos : Int := (t.edgeAt % frameTc : Nat) + airDiff at_ t.edgeAt
  let o := (pos % (frameTc : Nat)).toNat
  let idx : Int := pos / (frameTc : Nat) * (n : Nat) + (((o + 1) * n - 1) / frameTc : Nat)
  t.tick + BitVec.ofInt 40 (idx - (t.tickIdx : Nat))

end Sys2Proof.Machine
end

