-- ==== Sys2Proof/Machine/Chiop.lean ====
section
/-! DEFINITION. The Chiop interpreter: reading a command, header checks, classification, retention, replies, the stage
(16_chiop_commands.md, R390 to R405). Every Chiop row calls `chiopRun` with its own body. -/

namespace Sys2Proof.Machine

/-- Status codes (Table 16.7). -/
def stBadOpcode : Nat := 0x0100
/-- BAD_PARAM. -/
def stBadParam : Nat := 0x0101
/-- UNIT_ABSENT. -/
def stUnitAbsent : Nat := 0x0102
/-- BUSY. -/
def stBusy : Nat := 0x0103
/-- WRONG_MODE. -/
def stWrongMode : Nat := 0x0104
/-- AUTH_FAIL. -/
def stAuthFail : Nat := 0x0105
/-- NO_CAPACITY. -/
def stNoCapacity : Nat := 0x0106
/-- SUPERSEDED. -/
def stSuperseded : Nat := 0x0107
/-- STOPPED. -/
def stStopped : Nat := 0x0108
/-- TIMEOUT. -/
def stTimeout : Nat := 0x0109
/-- INTERNAL. -/
def stInternal : Nat := 0x01FF

/-- An error answer: status and detail (Tables 16.5, 16.7). -/
structure ChErr where
  status : Nat
  reason : Nat := 0
  offset : Nat := 0xFFFF
  unit : Nat := 0
  extra : Nat := 0
deriving DecidableEq, Repr

/-- BAD_PARAM, reason RANGE, at an offset. -/
def errRange (off : Nat) : ChErr := { status := stBadParam, reason := 2, offset := off }
/-- BAD_PARAM, reason IN_USE. -/
def errInUse (off : Nat) : ChErr := { status := stBadParam, reason := 5, offset := off }
/-- BAD_PARAM, reason NOT_FOUND. -/
def errNotFound (off : Nat) : ChErr := { status := stBadParam, reason := 6, offset := off }
/-- BUSY, reason DEPENDS. -/
def errDepends : ChErr := { status := stBusy, reason := 0x0C }
/-- BUSY, reason OWNER. -/
def errOwner : ChErr := { status := stBusy, reason := 8 }
/-- UNIT_ABSENT naming a unit. -/
def errAbsent (c s : Nat) : ChErr := { status := stUnitAbsent, unit := 256 * c + s }

/-- What a command's body answers. -/
inductive Ans where
  | ok (d : Dev) (data : List Byte)
  | okCut (d : Dev) (epoch : Word) (data : List Byte)
  | err (e : ChErr)
  | hold (d : Dev) (aux : List Byte)

/-- The modes every command marked All is accepted in. -/
def modesAll : List Nat := [1, 2, 3, 4, 5, 6, 7, 8, 10, 11, 12]
/-- M4–M8, M11. -/
def modesCfg : List Nat := [4, 5, 6, 7, 8, 11]
/-- M4–M8, M11, M12. -/
def modesCfgQ : List Nat := [4, 5, 6, 7, 8, 11, 12]

/-- The header bytes 0 to 13 (Table 16.2). -/
def headerBytes (op : Nat) (h : Sys2Proof.ChiopHdr) : List Byte :=
  [h.version, h.flags] ++ bytesOf 2 op ++ bytesOf 4 h.seq.toNat ++ bytesOf 4 h.epoch.toNat ++ bytesOf 2 h.plen.toNat

/-- IPARAM set. -/
def hIparam (h : Sys2Proof.ChiopHdr) : Bool := h.flags.getLsbD 0
/-- IREPLY set. -/
def hIreply (h : Sys2Proof.ChiopHdr) : Bool := h.flags.getLsbD 1
/-- GUARD set. -/
def hGuard (h : Sys2Proof.ChiopHdr) : Bool := h.flags.getLsbD 2


/-- How many parameter bytes proper a command carries (R394, R395). -/
def paramCount (h : Sys2Proof.ChiopHdr) : Nat :=
  if hIparam h then h.ind.plen.toNat else if hIreply h then h.plen.toNat - 32 else h.plen.toNat

/-- The parameters as the interpreter sees them. -/
def paramsOf (h : Sys2Proof.ChiopHdr) (p : List Byte) : List Byte := padTo (paramCount h) p

/-- The CRC that identifies a command's content (R398): over the header and the parameters proper. -/
def contentCrc (op : Nat) (h : Sys2Proof.ChiopHdr) (p : List Byte) : Word :=
  BitVec.ofNat 32 (crc32c (headerBytes op h ++ bytesOf 2 h.hcrc.toNat ++ paramsOf h p))

/-- The header errors of R394: the status, if any. -/
def headerError (op : Nat) (h : Sys2Proof.ChiopHdr) : Option Nat :=
  if h.hcrc.toNat ≠ crc16 (headerBytes op h) ∨ 240 < h.plen.toNat ∨ h.flags &&& 0xF8 ≠ 0 then some stBadParam
  else if h.version ≠ 1 then some stBadOpcode
  else none

/-- Air time when a command is read: what has passed since the last time-bearing command is part of its header. -/
def nowOf (d : Dev) (h : Sys2Proof.ChiopHdr) : Nat := (d.time.air + h.sinceTick) % airWrap

/-- Whether the interpreter reads a command of a channel now: it is ready, and the ring or a frame holds one
(R392, R419, R376). -/
def canRead (d : Dev) (h : Sys2Proof.ChiopHdr) : Bool :=
  d.serves && d.mode.mode != 9
    && (if h.chan.val = 0 then d.host.enable && d.ni244 && (d.host.cmdHead != d.host.cmdTail)
        else d.chiop.mgmtIn.contains h.chan.val)

/-- The command is taken from its ring slot or frame (R392). -/
def takeCmd (d : Dev) (h : Sys2Proof.ChiopHdr) : Dev :=
  if h.chan.val = 0 then { d with host := { d.host with cmdHead := d.host.cmdHead + 1 } }
  else { d with chiop := { d.chiop with mgmtIn := d.chiop.mgmtIn.erase h.chan.val } }

/-- A reply that carries an error (R396). -/
def errReply (d : Dev) (op : Nat) (seq : Word) (e : ChErr) : Reply :=
  mkReply op seq d.chiop.epoch e.status (errDetail e.offset e.reason e.unit e.extra)

/-- The progress block of a held command (Table 16.8): for a MODE_REQUEST into service STEP counts the domains still
awaited (R424); other entries are estimates. -/
def progressBlock (d : Dev) (x : Held) : List Byte :=
  let step := match d.mode.req with
    | some r => if x.op = 0x0807 ∧ r.seq = x.seq then r.await.length else (Sys2Proof.Config.progressStep d.free).toNat
    | none => (Sys2Proof.Config.progressStep d.free).toNat
  bytesOf 2 (Sys2Proof.Config.progress d.free).toNat ++ bytesOf 2 step
    ++ bytesOf 4 (Sys2Proof.Config.progressEta d.free).toNat

/-- The reply while a command is held (R400). -/
def pendingReply (d : Dev) (x : Held) (rep : Bool) : Reply :=
  { mkReply x.op x.seq d.chiop.epoch 0x0001 (progressBlock d x) with pending := true, repeated := rep }

/-- Retain a result (R398): the last 4,096 are kept. -/
def retain (d : Dev) (chan : Nat) (r : Result) : Dev :=
  d.updChan chan (fun c => { c with store := (r :: c.store).take 4096 })

/-- The lookup of a retained sequence. -/
def retained (c : Channel) (seq : Word) : Option Result := c.store.find? (fun r => r.seq == seq)

/-- Whether a sequence is new on a channel (R398). -/
def isNew (c : Channel) (seq : Word) : Bool :=
  match c.h with
  | none => true
  | some h => let k := (seq - h).toNat; decide (1 ≤ k) && decide (k < 2 ^ 31)

/-- OPMASK of a management channel's port (Table 15.1). -/
def opmaskOf (d : Dev) (chan : Nat) : Nat := pf (d.cfg.ports.toList.getD ((chan - 1) / 4) []) 18 2

/-- Whether an opcode is refused on its channel (R376). -/
def refusedOnPeer (d : Dev) (chan op : Nat) : Bool :=
  chan != 0 && (op / 256 == 3 || op / 256 == 9 || !bitAt (opmaskOf d chan) (op / 256))

/-- The reply data, cut to the space and put inline or at RADDR (R395, R396). -/
def placeData (d : Dev) (h : Sys2Proof.ChiopHdr) (r : Reply) (data : List Byte) : Dev × Reply :=
  if hIreply h then
    let n := Nat.min data.length h.ind.rlen.toNat
    ({ d with mem := d.mem.ifWrite h.ind.raddr.toNat (data.take n) },
      { r with len := BitVec.ofNat 16 n, truncated := decide (n < data.length), data := [] })
  else (d, r)

/-- Finish a command that is new: retain its result and deliver its reply (R396, R398). -/
def finishNew (d : Dev) (op : Nat) (h : Sys2Proof.ChiopHdr) (slot : Nat) (crc : Word) (a : Ans) : Dev :=
  let chan := h.chan.val
  match a with
  | .err e =>
    let r := errReply d op h.seq e
    (retain d chan ⟨h.seq, crc, some r⟩).deliver chan slot d.chiop.gen false r
  | .ok d' data =>
    let pr := placeData d' h (mkReply op h.seq d.chiop.epoch 0 data) data
    (retain pr.1 chan ⟨h.seq, crc, some pr.2⟩).deliver chan slot d.chiop.gen false pr.2
  | .okCut d' e data =>
    let pr := placeData d' h (mkReply op h.seq e 0 data) data
    (retain pr.1 chan ⟨h.seq, crc, some pr.2⟩).deliver chan slot d.chiop.gen false pr.2
  | .hold d' aux =>
    let x : Held := ⟨h.seq, op, slot, d.chiop.gen, aux,
      if hIreply h then some (h.ind.raddr.toNat, h.ind.rlen.toNat) else none⟩
    let d1 := (retain d' chan ⟨h.seq, crc, none⟩).updChan chan (fun c => { c with held := c.held ++ [x] })
    if chan = 0 then d1 else d1.deliver chan slot d.chiop.gen false (pendingReply d1 x false)

/-- A length of the indirection block in its range (Table 16.3). -/
def indirectLen (n : Word) : Bool := n != 0 && decide (n.toNat ≤ 0x4000000)

/-- What is wrong with a command's indirection (R395): its block, the fetch, the parameters' CRC. -/
def indirectError (h : Sys2Proof.ChiopHdr) (p : List Byte) : Option ChErr :=
  if (hIparam h && h.plen != 32) || (hIreply h && decide (h.plen.toNat < 32)) then some { status := stBadParam, reason := 1 }
  else if (hIparam h && !indirectLen h.ind.plen) || (hIreply h && !indirectLen h.ind.rlen) then
    some { status := stBadParam, reason := 2 }
  else if hIparam h && h.ind.fetch != 0 then some { status := stBadParam, reason := 0x0A, extra := h.ind.fetch.toNat }
  else if hIparam h && crc32c (paramsOf h p) != h.ind.pcrc.toNat then some { status := stBadParam, reason := 0x0A }
  else none

/-- The checks before a command's own (R376, R395, R401, R419), the indirection first; `holds` says the command is held. -/
def preCheck (d : Dev) (op : Nat) (modeOk : Bool) (need : Nat) (holds : Bool) (h : Sys2Proof.ChiopHdr) (p : List Byte) :
    Option ChErr :=
  if let some e := indirectError h p then some e
  else if !modeOk then some { status := stWrongMode }
  else if refusedOnPeer d h.chan.val op then some { status := stAuthFail }
  else if paramCount h < need then some (errRange (paramCount h))
  else if holds && decide (64 ≤ (d.chan h.chan.val).held.length) then some { status := stBusy, reason := 0x0D }
  else none

/-- A command of a channel, from its reading to its reply (R390 to R401). `body` sees the device after the channel's
sequence state is updated. -/
def chiopRun (op : Nat) (modeOk : Dev → Bool) (need : Nat) (holds : Bool) (body : Dev → List Byte → Ans)
    (h : Sys2Proof.ChiopHdr) (p : List Byte) (d : Dev) : Dev :=
  if !canRead d h then d
  else
    let chan := h.chan.val
    let slot := d.host.cmdHead.toNat
    let d0 := takeCmd d h
    let gen := d0.chiop.gen
    match headerError op h with
    | some st => d0.deliver chan slot gen false (errReply d0 op h.seq { status := st, reason := 1 })
    | none =>
      let crc := contentCrc op h p
      let c := d0.chan chan
      if isNew c h.seq then
        let d1 := d0.updChan chan (fun c => { c with h := some h.seq, opened := true })
        match preCheck d1 op (modeOk d1) need holds h p with
        | some e => finishNew d1 op h slot crc (.err e)
        | none => finishNew d1 op h slot crc (body d1 (paramsOf h p))
      else match retained c h.seq with
        | some r =>
          if r.crc ≠ crc then d0.deliver chan slot gen false (errReply d0 op h.seq { status := stBadParam, reason := 4 })
          else match r.reply with
            | some rep => d0.deliver chan slot gen false { rep with repeated := true }
            | none =>
              match c.held.find? (fun x => x.seq == h.seq) with
              | some x => ({ d0 with free := d0.free + 1 } : Dev).deliver chan slot gen false (pendingReply d0 x true)
              | none => d0
        | none => d0.deliver chan slot gen false (errReply d0 op h.seq { status := stBadParam, reason := 3 })

/-- Accepted in the modes listed. -/
def inModes (ms : List Nat) (d : Dev) : Bool := ms.contains d.mode.mode

/-- An immediate or held command of the modes listed. -/
def chiopCmd (op : Nat) (ms : List Nat) (need : Nat) (holds : Bool) (body : Dev → List Byte → Ans)
    (h : Sys2Proof.ChiopHdr) (p : List Byte) (d : Dev) : Dev :=
  chiopRun op (inModes ms) need holds body h p d

/-- Join the stage (R403): the channel becomes its owner where it had none. -/
def stageAdd (d : Dev) (h : Sys2Proof.ChiopHdr) (op : Nat) (params : List Byte) : Dev :=
  { d with chiop := { d.chiop with stage := d.chiop.stage ++ [⟨h.seq, op, params⟩]
                                   owner := some (d.chiop.owner.getD h.chan.val)
                                   stagedAt := nowOf d h } }

/-- A staged command (R403, R404): GUARD, the owner, its own check, then the stage. -/
def chiopStaged (op : Nat) (ms : List Nat) (need : Nat) (check : Dev → List Byte → Option ChErr)
    (h : Sys2Proof.ChiopHdr) (p : List Byte) (d : Dev) : Dev :=
  chiopRun op (inModes ms) need false
    (fun d1 ps =>
      if hGuard h && decide (2 ^ 31 ≤ (h.epoch - d1.chiop.configEpoch).toNat) then
        .err { status := stSuperseded, reason := 9 }
      else if d1.chiop.owner.isSome && d1.chiop.owner != some h.chan.val then .err errOwner
      else match check d1 ps with
        | some e => .err e
        | none => .ok (stageAdd d1 h op ps) [])
    h p d

/-- The stage is discarded without a DISCARD (R403): a STAGE_DISCARDED event tells of it. -/
def Dev.dropStage (d : Dev) : Dev :=
  match d.chiop.owner with
  | none => d
  | some o =>
    let n := d.chiop.stage.length
    ({ d with chiop := { d.chiop with stage := [], owner := none } } : Dev).post 0xF00C (bytesOf 1 o ++ bytesOf 2 n)

/-- The signed 64-bit reading of 8 parameter bytes. -/
def pfSigned64 (p : List Byte) (off : Nat) : Int := signedOf 64 (pf p off 8)

end Sys2Proof.Machine
end

