-- ==== Sys2Proof/Machine/Cells.lean ====
section
/-! DEFINITION. Cells and capacity: the cell record and its checks (16_chiop_commands.md, R414), prices and admission
(01_architecture.md, R28 to R31, R543), the shedding order, and the configuration that committed and staged changes
give together (R403). -/

namespace Sys2Proof.Machine

/-- The record at an offset of parameter bytes (Table 16.17). -/
def parseCell (p : List Byte) : CellRec :=
  { cell := pf p 0 2, type := pf p 2 1, duplex := BitVec.ofNat 8 (pf p 3 1), bw := pf p 4 2, s := pf p 6 1
    ull := pf p 7 1, dll := pf p 8 1, efix := BitVec.ofNat 8 (pf p 9 1), txadv := pf p 10 2, shedrank := pf p 12 2
    pci := pf p 14 2, gategrp := BitVec.ofNat 8 (pf p 16 1), prof := BitVec.ofNat 8 (pf p 17 1), gonAdv := pf p 18 2
    goffDly := pf p 20 2, gmin := pf p 22 2, period := pf p 24 2, fsym := BitVec.ofNat 8 (pf p 26 1)
    pattern := (p.drop 28).take 40 }

/-- Resource blocks of a type and bandwidth in 100 kHz (R543, Table 1.12); none where Table 1.6 has no such row. -/
def nRb (type bw : Nat) : Option Nat :=
  match type with
  | 1 => match bw with
    | 200 => some 51 | 400 => some 106 | 500 => some 133 | 600 => some 162 | 800 => some 217 | 900 => some 245
    | 1000 => some 273 | _ => none
  | 2 => match bw with
    | 50 => some 25 | 100 => some 52 | 150 => some 79 | 200 => some 106 | 250 => some 133 | 300 => some 160
    | 400 => some 216 | 500 => some 270 | _ => none
  | 3 => match bw with
    | 500 => some 32 | 1000 => some 66 | 2000 => some 132 | 4000 => some 264 | _ => none
  | 4 => match bw with
    | 14 => some 6 | 30 => some 15 | 50 => some 25 | 100 => some 50 | 150 => some 75 | 200 => some 100 | _ => none
  | _ => none

/-- Whether TYPE, BW and S form a row of Table 1.6 (R29). -/
def priceRow (c : CellRec) : Bool :=
  match c.type with
  | 4 => (nRb 4 c.bw).isSome && [1, 2, 4, 8].contains c.s
  | 5 => c.bw == 2 && decide (1 ≤ c.s) && decide (c.s ≤ 2)
  | t => (nRb t c.bw).isSome && decide (1 ≤ c.s) && decide (c.s ≤ 32)

/-- The CU cost in 1/8 CU, rounded up (R29). -/
def cuCost (c : CellRec) : Nat :=
  match c.type with
  | 4 => ceilDiv (c.s * c.bw) 100
  | 5 => 1
  | _ => ceilDiv (c.s * c.bw) 250

/-- Stream-carriers per direction in 1/8 (R28, Table 1.6). -/
def streamCarriers (c : CellRec) : Nat :=
  match c.type with
  | 3 => c.s * c.bw / 125
  | 5 => 1
  | _ => 8 * c.s

/-- NR cell slots (Table 1.7). -/
def nrSlots (c : CellRec) : Nat :=
  match c.type with
  | 1 => 1 | 2 => 1 | 3 => ceilDiv c.bw 1000 | _ => 0

/-- The six quantities of Table 1.7 over a configuration. -/
def quantities (cs : List CellRec) : List Nat :=
  [ (cs.map cuCost).sum, (cs.map streamCarriers).sum, (cs.map nrSlots).sum,
    (cs.filter (fun c => c.type == 3)).length, (cs.filter (fun c => c.type == 4)).length,
    (cs.filter (fun c => c.type == 5)).length ]

/-- The six limits of Table 1.7. -/
def Dev.limits (d : Dev) : List Nat :=
  match d.part with
  | .zg9812 => [d.cuAvail, 4096, 16, 4, 64, 384]
  | .zg9808 => [d.cuAvail, 2048, 8, 0, 32, 192]
  | .zg9804 => [d.cuAvail, 1024, 4, 0, 16, 96]

/-- The row that a change breaks (R31): it raises the row's quantity and the result exceeds the limit. Of several rows EXTRA
names the lowest (DESIGN CHOICE, log entry 66: the spec does not say which). -/
def brokenRow (before after lim : List Nat) : Option Nat :=
  (List.range 6).find? (fun i =>
    decide (before.getD i 0 < after.getD i 0) && decide (lim.getD i 0 < after.getD i 0))

/-- The NO_CAPACITY answer of a row (R31). -/
def errCapacity (row : Nat) : ChErr :=
  { status := stNoCapacity, reason := 0x0B, extra := row + 1, offset := if row < 2 then 6 else 2 }

/-- One staged change of the cell list. -/
def applyCellChange (cs : List CellRec) (s : Staged) : List CellRec :=
  match s.op with
  | 0x0201 => cs ++ [parseCell s.params]
  | 0x0202 => cs.filter (fun c => c.cell != pf s.params 0 2)
  | 0x0203 => cs.map (fun c => if c.cell = pf s.params 0 2 then parseCell s.params else c)
  | _ => cs

/-- Staged changes that are not yet in force: a held COMMIT's and the open stage's (R403, R405). -/
def Dev.ahead (d : Dev) : List Staged :=
  (match d.chiop.commit with | some c => c.stage | none => []) ++ d.chiop.stage

/-- The cells of the committed configuration plus what is staged (R31, R403). -/
def Dev.plannedCells (d : Dev) : List CellRec := d.ahead.foldl applyCellChange (d.cfg.cells.map (fun c => c.cr))

/-- The entry of the stream table that 16 bytes spell (13_ecner_framing.md, Table 13.6). -/
def parseStream (p : List Byte) : StreamRec :=
  { down := pf p 2 1 == 1, sid := pf p 0 2, lane := pf p 3 1, cell := pf p 4 2, stream := pf p 6 1, kind := pf p 7 1
    xofs := signedOf 8 (pf p 8 1), sub := pf p 9 1 }

/-- The entries a STREAM_SET carries (0x0204): 8 bytes of head, then 16 bytes each. -/
def streamEntries (p : List Byte) : List StreamRec :=
  (List.range (Nat.min 4096 (pf p 4 4))).map (fun i => parseStream ((p.drop (8 + 16 * i)).take 16))

/-- Put one entry into a stream table: CELL 0xFFFF deletes its SID. -/
def putStream (ss : List StreamRec) (e : StreamRec) : List StreamRec :=
  let rest := ss.filter (fun x => !(x.down == e.down && x.sid == e.sid))
  if e.cell = 0xFFFF then rest else rest ++ [e]

/-- One staged change of the stream table. -/
def applyStreamChange (ss : List StreamRec) (s : Staged) : List StreamRec :=
  if s.op = 0x0204 then (streamEntries s.params).foldl putStream ss else ss

/-- The streams of the committed configuration plus what is staged. -/
def Dev.plannedStreams (d : Dev) : List StreamRec := d.ahead.foldl applyStreamChange d.cfg.streams

/-- A cell's lane set: the lanes its stream-table entries name, in both directions (R213). -/
def laneSet (ss : List StreamRec) (cell : Nat) : List Nat :=
  ((ss.filter (fun x => x.cell == cell)).map (fun x => x.lane)).eraseDups

/-- Whether a slot of the TDD pattern is marked with a value: 0 D, 1 U, 2 F, 3 reserved. -/
def patternAt (c : CellRec) (n : Nat) : Nat := (c.pattern.getD (n / 4) 0).toNat / 4 ^ (n % 4) % 4

/-- Whether some slot of the pattern is marked with a value. -/
def patternHas (c : CellRec) (v : Nat) : Bool := (List.range c.period).any (fun n => patternAt c n == v)

/-- The first field of a cell record that is out of range (Tables 16.17, 8.12; R414). -/
def cellFieldBad (c : CellRec) : Option Nat :=
  if 1023 < c.cell then some 0
  else if c.type < 1 ∨ 5 < c.type then some 2
  else if 3 < c.duplex.toNat then some 3
  else if !priceRow c then some (if c.type ≠ 5 ∧ (nRb c.type c.bw).isNone then 4 else 6)
  else if c.ull < 1 ∨ (if c.type = 4 then 4 else if c.type = 5 then 1 else 8) < c.ull then some 7
  else if c.dll < 1 ∨ (if c.type = 4 then 8 else if c.type = 5 then 1 else 16) < c.dll then some 8
  else if c.type ≠ 4 ∧ c.efix ≠ 0 then some 9
  else if c.txadv < 50 ∨ 300 < c.txadv then some 10
  else if (if c.type = 4 then 503 else if c.type = 5 then 63 else 1007) < c.pci then some 14
  else if 15 < c.gategrp.toNat ∧ c.gategrp ≠ 0xFF then some 16
  else if 2458 < c.gonAdv then some 18
  else if 2458 < c.goffDly then some 20
  else if 12288 < c.gmin then some 22
  else if c.duplex.getLsbD 0 ∧ (c.period < 1 ∨ 160 < c.period) then some 24
  else if !c.duplex.getLsbD 0 ∧ c.period ≠ 0 then some 24
  else if patternHas c 2 ∧ 14 < c.fsym.toNat % 16 + c.fsym.toNat / 16 then some 26
  else if patternHas c 3 then some 28
  else none

/-- Whether the cell's gate group is already given to a cell that shares a lane with it (R414). -/
def gateGroupTaken (d : Dev) (c : CellRec) : Bool :=
  let ss := d.plannedStreams
  let mine := laneSet ss c.cell
  c.gategrp != 0xFF && d.plannedCells.any (fun x =>
    x.cell != c.cell && x.gategrp == c.gategrp && (laneSet ss x.cell).any (fun l => mine.contains l))

/-- The admission of a changed cell list (R30, R31). -/
def admission (d : Dev) (after : List CellRec) : Option ChErr :=
  (brokenRow (quantities d.plannedCells) (quantities after) d.limits).map errCapacity

/-- The check of CELL_ADD (R414). -/
def checkCellAdd (d : Dev) (p : List Byte) : Option ChErr :=
  let c := parseCell p
  match cellFieldBad c with
  | some off => some (errRange off)
  | none =>
    if d.plannedCells.any (fun x => x.cell == c.cell) then some (errInUse 0)
    else if gateGroupTaken d c then some (errInUse 16)
    else admission d (d.plannedCells ++ [c])

/-- The check of CELL_REMOVE (R414). -/
def checkCellRemove (d : Dev) (p : List Byte) : Option ChErr :=
  if d.plannedCells.any (fun x => x.cell == pf p 0 2) then none else some (errNotFound 0)

/-- The check of CELL_MODIFY (R414): its net change is admitted. -/
def checkCellModify (d : Dev) (p : List Byte) : Option ChErr :=
  let c := parseCell p
  match d.plannedCells.find? (fun x => x.cell == c.cell) with
  | none => some (errNotFound 0)
  | some o =>
    match cellFieldBad c with
    | some off => some (errRange off)
    | none =>
      if o.type ≠ c.type then some (errRange 2)
      else if gateGroupTaken d c then some (errInUse 16)
      else admission d (d.plannedCells.map (fun x => if x.cell = c.cell then c else x))

/-- The committed cost in 1/8 CU (CU_USED). -/
def Dev.cuUsed (d : Dev) : Nat := (d.cfg.cells.map (fun c => cuCost c.cr)).sum

/-- Whether a cell goes before another in the host's shedding order (R414): ascending SHEDRANK, the higher handle
first among equals. -/
def shedBefore (a b : Cell) : Bool :=
  decide (a.cr.shedrank < b.cr.shedrank) || (a.cr.shedrank == b.cr.shedrank && decide (b.cr.cell < a.cr.cell))

/-- The next cell of the shedding order. -/
def nextShed (cs : List Cell) : Option Cell :=
  cs.foldl (fun best c =>
    match best with
    | none => some c
    | some b => if shedBefore c b then some c else some b) none

/-- A mode in which committed cells are in service (R420). -/
def modeServes (m : Nat) : Bool := m == 6 || m == 7 || m == 8

/-! ### Committed cells and those a held COMMIT brings -/

/-- The committed cell of a handle. -/
def Dev.cell? (d : Dev) (h : Nat) : Option Cell := d.cfg.cells.find? (fun c => c.cr.cell == h)

/-- Tc per epoch. -/
def epochTc (gran : Bool) : Nat := if gran then frameTc else 983040

/-- Tc from a moment to the boundary that lies `n` epochs ahead (R402): a change of GRAN that waits takes effect at the
first frame boundary. -/
def Dev.boundaryIn (d : Dev) (now n : Nat) : Nat :=
  let c := d.chiop
  let a := if airPast now c.nextAt then 0 else airAhead now c.nextAt
  let old := epochTc c.gran
  let k := (frameTc - c.nextAt % frameTc) % frameTc / 983040
  match c.granPending with
  | none => a + (n - 1) * old
  | some g => if n ≤ 1 + k then a + (n - 1) * old else a + k * old + (n - 1 - k) * epochTc g

/-- Air time of the boundary a held COMMIT waits for. -/
def Dev.commitAt (d : Dev) (x : CommitHeld) : Nat :=
  (d.time.air + d.boundaryIn d.time.air (x.target - d.chiop.epoch).toNat) % airWrap

/-- The record of a cell that is committed, or comes with a held COMMIT, and then the air time of its boundary (R415). -/
def Dev.planCell (d : Dev) (h : Nat) : Option (CellRec × Option Nat) :=
  match d.cell? h with
  | some c => some (c.cr, none)
  | none =>
    match d.chiop.commit with
    | none => none
    | some x => ((x.stage.foldl applyCellChange (d.cfg.cells.map (fun c => c.cr))).find? (fun c => c.cell == h)).map
        (fun c => (c, some (d.commitAt x)))

end Sys2Proof.Machine
end

