-- ==== Sys2Proof/Machine/Slack.lean ====
section
/-! DEFINITION. Deadlines, slack records and the slack loop (02_timing_and_deadlines.md, R48 to R60;
19_power_domains.md, R461, R462). -/

namespace Sys2Proof.Machine

/-- Tc per second. -/
def secondTc : Nat := 1966080000

/-- The tick period in quarters of a microsecond (R46). -/
def tickQuarters (code : Nat) : Nat := 2 ^ code

/-- The budget of a class for a cell type, as a fraction of microseconds (Table 2.4). -/
def budget (cls type : Nat) : Nat × Nat :=
  match cls, type with
  | 0, 1 => (500, 14) | 0, 2 => (1000, 14) | 0, 4 => (1000, 14) | 0, 3 => (125, 14) | 0, _ => (15000, 26)
  | _, 1 => (500, 1) | _, 2 => (1000, 1) | _, 4 => (1000, 1) | _, 3 => (125, 1) | _, _ => (480000, 26)

/-- A budget in ticks, rounded down or up. -/
def budgetTicks (b : Nat × Nat) (code : Nat) (up : Bool) : Nat :=
  let n := 4 * b.1
  let m := b.2 * tickQuarters code
  if up then ceilDiv n m else n / m

/-- MIN_FRAC of one job (Table 2.5). -/
def slackFrac (slack : Int) (code : Nat) (b : Nat × Nat) : Int :=
  clampInt (-32768) 32767 (4096 * slack * (tickQuarters code : Nat) * (b.2 : Nat) / ((4 * b.1 : Nat) : Int))

/-- The signed difference of two tick numbers (09_almanac_scheduler.md, Tables 9.2 to 9.5). -/
def tickDiff (a b : BitVec 40) : Int := (a - b).toInt

/-- The slack record with one completed job (R49). MIN_TICKS is the lowest slack in ticks of every job, a minimum of its own
(DESIGN CHOICE, log entry 57): Table 2.5 calls it the same slack, R48 lets jobs into it that have no fraction. -/
def SlackRec.add (r : SlackRec) (slack : Int) (frac : Option Int) : SlackRec :=
  let t := clampInt (-32768) 32767 slack
  { r with minFrac := match frac with | some f => if f < r.minFrac then f else r.minFrac | none => r.minFrac
           minTicks := if t < r.minTicks then t else r.minTicks
           misses := if slack < 0 then Nat.min 0xFFFF (r.misses + 1) else r.misses
           jobs := (r.jobs + 1) % 2 ^ 32 }


/-- Change a committed cell. -/
def Dev.updCell (d : Dev) (h : Nat) (f : Cell → Cell) : Dev :=
  { d with cfg := { d.cfg with cells := d.cfg.cells.map (fun c => if c.cr.cell = h then f c else c) } }

/-- Slack of a completed class A or B job (R48, R49): a cell that is neither committed nor comes with a held COMMIT gives no
fraction. -/
def Dev.recordSlack (d : Dev) (cls cell : Nat) (slack : Int) : Dev :=
  let frac := (d.planCell cell).map (fun c => slackFrac slack d.time.tickCode (budget cls c.1.type))
  let s := d.slack
  { d with slack := if cls = 0 then
      { s with recA := s.recA.add slack frac
               signals := if slack < 0 then s.signals + 1 else s.signals }
    else { s with recB := s.recB.add slack frac } }

/-- The assist band of a VCORE in 0.1 mV (Table 19.3): 0 A, 1 B, 2 C. -/
def bandOf (v : Nat) : Nat := if v < 6500 then 0 else if v < 7500 then 1 else 2

/-- V_CEIL in 0.1 mV. -/
def SlackState.ceil (s : SlackState) : Nat := 10 * s.cfg.vCeil

/-- V_FLOOR in 0.1 mV. -/
def SlackState.floor (s : SlackState) : Nat := 10 * s.cfg.vFloor

/-- Command VCORE (R51, R52, R55): a band that a lower voltage leaves is changed first (R462). -/
def SlackState.command (s : SlackState) (v : Nat) : SlackState :=
  if s.vLost then s
  else { s with vcore := v, phase := .write, band := if v < s.vconf then Nat.min s.band (bandOf v) else s.band }

/-- A boost trigger (R51, R52, R54): counted while a boost is in progress; at the thermal limit its steps are suppressed;
after step 5 of a boost a trigger begins a fresh one, and the step 6 of the one before stays due. -/
def SlackState.trigger (s : SlackState) (limit : Bool) : SlackState :=
  let n := { s with triggers := s.triggers + 1, boostInWindow := true }
  if (s.boost && !s.boostDone) || limit then n
  else
    let s1 := { n with boost := true
                       boostTake := s.boostTake || (s.boost && s.boostAtCeil)
                       boostAtCeil := decide (s.vconf = s.ceil ∧ s.vcore = s.ceil)
                       boostDone := s.vLost }
    s1.command s1.ceil

/-- TD has reached the thermal limit (R54): a boost under way ends, its bias leaves with it, and a raise of VCORE that is not
yet confirmed is taken back to the value confirmed last. -/
def SlackState.suppress (s : SlackState) : SlackState :=
  let s1 := { s with boost := false, boostDone := false, boostTake := false }
  if s1.vconf < s1.vcore then s1.command s1.vconf else s1

/-- The forward body bias applied, in 50 mV steps: full during a boost (R52). -/
def SlackState.bias (s : SlackState) : Nat := if s.boost then 4 else s.fbb

/-- MIN_FRAC at least a target plus 10 % of budget. -/
def aboveBand (min : Int) (target : Nat) : Bool := decide ((10 * target + 4096 : Nat) ≤ 10 * min)

/-- The decision of R51 from the records of the window that closed. At or above the thermal limit (R54) is read as the time
from TD's reaching TLIMIT until the limit clears under R487 (DEDUCED, log entry 59). -/
def SlackState.decide (s : SlackState) (limit : Bool) (a b : SlackRec) : SlackState :=
  let c := s.cfg
  if 0 < a.misses ∨ a.minFrac < (c.floorA : Int) then s.trigger limit
  else if a.minFrac < (c.targetA : Int) ∨ b.minFrac < (c.targetB : Int) then
    let s1 := { s with calm := 0 }
    if limit then s1
    else if s.vcore < s.ceil ∧ !s.vLost then s1.command (Nat.min (s.vcore + 100) s.ceil)
    else { s1 with fbb := Nat.min (s.fbb + 1) 4 }
  else if aboveBand a.minFrac c.targetA && aboveBand b.minFrac c.targetB then
    if 8 ≤ s.calm + 1 then
      let s1 := { s with calm := 0 }
      if 0 < s.fbb then { s1 with fbb := s.fbb - 1 }
      else if s.floor < s.vcore then s1.command (Nat.max (s.vcore - 50) s.floor)
      else s1
    else { s with calm := s.calm + 1 }
  else { s with calm := 0 }

/-- The windows in succession, newest first, in which the first condition of R59 holds, at most 16. -/
def condRun (h : List (Bool × Bool)) : List (Bool × Bool) := (h.take 16).takeWhile (fun x => x.1)

/-- The window count of R59 with one more window, and whether a shed falls due. A window counts as one in which the first
condition holds where it holds at the window's end (DESIGN CHOICE, log entry 60). -/
def SlackState.count (s : SlackState) (miss : Bool) : SlackState :=
  let cond := Decidable.decide (s.vconf = s.ceil ∧ s.vcore = s.ceil ∧ s.fbb = 4)
  let h := ((cond, miss) :: s.history).take 16
  { s with history := h
           shedDue := s.shedDue || Decidable.decide (4 ≤ ((condRun h).filter (fun x => x.2)).length) }

/-- Step 6 of Table 2.7 at a window edge, for the boosts whose step 5 is done. -/
def SlackState.endBoost (s : SlackState) : SlackState :=
  let s1 := { s with boostTake := false, fbb := if s.boostTake then 4 else s.fbb }
  if s.boost ∧ s.boostDone then
    { s1 with boost := false, boostDone := false, fbb := if s.boostAtCeil then 4 else s1.fbb }
  else s1

/-- Whether some cell is in service. -/
def Dev.anyInService (d : Dev) : Bool := d.cfg.cells.any (fun c => c.inService)

/-- The work of a window edge (R49, R51, R55, R59): the records go to the snapshot and are cleared, the count of R59
takes the window, and the loop decides where no boost stands in the way. -/
def Dev.windowEdge (d : Dev) : Dev :=
  let s := d.slack
  let w := d.time.subframes
  let a := s.recA
  let b := s.recB
  let s0 := { s with snapA := a, snapB := b, recA := { window := w }, recB := { window := w } }
  if !s0.started && !d.anyInService then { d with slack := s0 }
  else
    let t0 := { s0 with started := true, skipWindow := false }
    let s1 := if s0.skipWindow then t0 else t0.count (Decidable.decide (0 < a.misses))
    let s2 := if s1.boost || s1.boostInWindow then { s1.endBoost with calm := 0, boostInWindow := false }
      else s1.decide d.thermal.limit a b
    { d with slack := s2 }

/-- A PMBus failure of VCORE (R55): two retries at 100 µs; after the third failure control is given up, the last
confirmed value holds and a health event tells of it. A retry of the given-up state that fails changes nothing more. -/
def Dev.pmFail (d : Dev) : Dev :=
  let s := d.slack
  if s.vLost then { d with slack := { s with phase := .retry } }
  else if s.pmFails + 1 < 3 then { d with slack := { s with phase := .retry, pmFails := s.pmFails + 1 } }
  else
    ({ d with slack := { s with phase := .retry, pmFails := 0, vLost := true, vcore := s.vconf
                                boostDone := s.boost } } : Dev).healthEvent { hkind := 0x0030, action := 0 }

/-- READ_VOUT answers (R52, R55): within 20 mV the command is confirmed; a boost is done within 10 mV of V_CEIL. Between 10
and 20 mV a boost neither ends nor fails: the value is read again and not counted (DESIGN CHOICE, log entry 58). -/
def Dev.pmConfirm (d : Dev) (v : Nat) : Dev :=
  let s := d.slack
  let diff := if v ≤ s.vcore then s.vcore - v else v - s.vcore
  if 200 < diff then d.pmFail
  else
    let s1 := { s with phase := .idle, pmFails := 0, vLost := false, vconf := s.vcore, band := bandOf s.vcore }
    if s.boost ∧ !s.boostDone ∧ s.vcore = s.ceil then
      if diff ≤ 100 then { d with slack := { s1 with boostDone := true } } else { d with slack := { s with phase := .read } }
    else { d with slack := s1 }

/-- A change of V_CEIL or V_FLOOR commands VCORE at once where the confirmed value lies outside (R50); a boost in progress
goes on to the new V_CEIL (log entry 61). -/
def SlackState.setCfg (s : SlackState) (c : SlackCfg) : SlackState :=
  let s1 := { s with cfg := c }
  if s1.ceil < s1.vconf ∨ (s1.boost ∧ !s1.boostDone ∧ s1.vcore ≠ s1.ceil) then s1.command s1.ceil
  else if s1.vconf < s1.floor then s1.command s1.floor else s1

/-- A boost trigger on the device. -/
def Dev.boost (d : Dev) : Dev := { d with slack := d.slack.trigger d.thermal.limit }

end Sys2Proof.Machine
end

