-- ==== Sys2Proof/Machine/Almanac.lean ====
section
/-! DEFINITION. Almanac: objects, requests, gates, timers, dispatch, delivery, completion and release
(09_almanac_scheduler.md, R218 to R248, R544). The rows of the family call these operations. -/

namespace Sys2Proof.Machine

/-! ### Objects -/

/-- Reply codes (Table 9.9). -/
def almFull : Nat := 1
/-- NO_OBJ. -/
def almNoObj : Nat := 2
/-- BAD_REQ. -/
def almBadReq : Nat := 3
/-- WRONG_KIND. -/
def almWrongKind : Nat := 4
/-- UNIT_ABSENT. -/
def almUnitAbsent : Nat := 5
/-- EMPTY. -/
def almEmpty : Nat := 6

/-- The job of an identifier. -/
def AlmState.job? (a : AlmState) (id : Word) : Option Job := a.jobs.find? (fun j => j.id == id)
/-- The procession of an identifier. -/
def AlmState.proc? (a : AlmState) (id : Word) : Option Procession := a.procs.find? (fun p => p.id == id)
/-- The timer of an identifier. -/
def AlmState.timer? (a : AlmState) (id : Word) : Option Timer := a.timers.find? (fun t => t.id == id)
/-- The queue of an identifier. -/
def AlmState.queue? (a : AlmState) (id : Word) : Option Queue := a.queues.find? (fun q => q.id == id)

/-- Whether an identifier names an object (R219). -/
def AlmState.known (a : AlmState) (id : Word) : Bool :=
  (a.job? id).isSome || (a.proc? id).isSome || (a.timer? id).isSome || (a.queue? id).isSome

/-- Change one job. -/
def AlmState.updJob (a : AlmState) (id : Word) (f : Job → Job) : AlmState :=
  { a with jobs := a.jobs.map (fun j => if j.id = id then f j else j) }
/-- Change one procession. -/
def AlmState.updProc (a : AlmState) (id : Word) (f : Procession → Procession) : AlmState :=
  { a with procs := a.procs.map (fun p => if p.id = id then f p else p) }
/-- Change one queue. -/
def AlmState.updQueue (a : AlmState) (id : Word) (f : Queue → Queue) : AlmState :=
  { a with queues := a.queues.map (fun q => if q.id = id then f q else q) }

/-- Run a change of Almanac on the device. -/
def Dev.onAlm (d : Dev) (f : AlmState → AlmState) : Dev := { d with alm := f d.alm }

/-- The indices in use. -/
def AlmState.used (a : AlmState) : List Nat :=
  a.jobs.map (fun j => j.id.toNat % 2 ^ 23) ++ a.procs.map (fun j => j.id.toNat % 2 ^ 23)
    ++ a.timers.map (fun j => j.id.toNat % 2 ^ 23) ++ a.queues.map (fun j => j.id.toNat % 2 ^ 23)

/-- The objects of all kinds. -/
def AlmState.objects (a : AlmState) : Nat := a.jobs.length + a.procs.length + a.timers.length + a.queues.length

/-- A free index: a free choice where it is free, else the lowest. -/
def AlmState.pickIndex (a : AlmState) (n : Nat) : Nat :=
  let i := (Sys2Proof.Config.newIndex n).toNat
  if a.used.contains i then ((List.range (a.objects + 1)).find? (fun k => !a.used.contains k)).getD 0 else i

/-- A new identifier (R219): GEN follows the last one of its index. -/
def Dev.newId (d : Dev) : Word × Dev :=
  let i := d.alm.pickIndex d.free
  let g := match d.alm.gens.find? (fun p => p.1 == i) with
    | some p => if p.2 = 255 then 1 else p.2 + 1
    | none => 1
  let id := BitVec.ofNat 32 (i + g * 2 ^ 23)
  (id,
    { d with free := d.free + 1
             alm := { d.alm with gens := (i, g) :: d.alm.gens.filter (fun p => p.1 != i)
                                 skippedIds := d.alm.skippedIds.filter (· != id) } })

/-- Whether an outstanding deferred request names an object (R225, 5). -/
def AlmState.namedDeferred (a : AlmState) (id : Word) : Bool :=
  a.jobs.any (fun j => j.deferred.any (fun r =>
    natOf ((r.req.drop 4).take 4) == id.toNat || (natOf (r.req.take 1) == 4 && natOf ((r.req.drop 12).take 4) == id.toNat)
      || (natOf (r.req.take 1) == 8 && natOf ((r.req.drop 8).take 1) == 2 && natOf ((r.req.drop 20).take 4) == id.toNat)))

/-- Free the queues and processions in CLOSING that are empty or fully released and that no deferred request names. -/
def AlmState.sweep (a : AlmState) : AlmState :=
  { a with queues := a.queues.filter (fun q => !(q.closing && q.entries.isEmpty && !a.namedDeferred q.id))
           procs := a.procs.filter (fun p =>
             !(p.closing && !(a.jobs.any (fun j => j.link == p.id)) && !a.namedDeferred p.id)) }

/-! ### Ready lists and units -/

/-- Whether a deadline or expiry lies at or before a tick: a difference of 2^39 or more reads as in the past (R220). -/
def tickPast (now t : BitVec 40) : Bool := decide ((now - t).toNat ≤ 2 ^ 39)

/-- Whether one ready job goes before another in its list (R231). -/
def readyBefore (a b : Job) : Bool :=
  if a.cls = 2 then decide (a.order < b.order)
  else decide (tickDiff a.deadline b.deadline < 0) || (a.deadline == b.deadline && decide (a.order < b.order))

/-- The jobs of a ready list, sorted. -/
def insertReady (j : Job) : List Job → List Job
  | [] => [j]
  | x :: xs => if readyBefore j x then j :: x :: xs else x :: insertReady j xs

/-- The accelerator and DMA units of a pool's engines (Table 9.10). -/
def poolSlots (pool : Nat) : Nat := if pool = 0x10 then 8 else classSlots pool

/-- Pool membership of a unit; a DMA engine, which has no capability state, is always in its pool. -/
def Dev.inPool (d : Dev) (pool u : Nat) : Bool :=
  if pool = 0x10 then decide (u < 8)
  else
    let p := d.alm.pool[unitIdx pool u]
    p.joined && !p.leaving && !p.failing && d.present pool u

/-- Whether a unit goes on with what it has started (R247, L3; R467, S2): it is PRESENT, or leaves by the host's command, and
its domain is in Run or still drains. -/
def Dev.unitWorks (d : Dev) (c s : Nat) : Bool :=
  let x := d.dom (unitDomain c s)
  (d.present c s || ((d.unit c s).st == .retired && !(d.alm.pool[unitIdx c s]).failing))
    && (x.st == .run || (x.st == .stopping && x.step == .drain))

/-- Whether the unit's domain is in Run; DMA engines are in PD.FAB. -/
def Dev.unitRun (d : Dev) (pool u : Nat) : Bool := pool == 0x10 || d.domRun (unitDomain pool u)

/-- The jobs a unit holds. -/
def AlmState.heldBy (a : AlmState) (pool u : Nat) : List Job :=
  a.jobs.filter (fun j => j.st == .dispatched && j.pool == pool && j.runat == u)

/-- PRBs of subband `k` of an FR2 cell (05_transform_and_equaliser.md, R142). -/
def subbandPrbs (nrb k : Nat) : Nat := ceilDiv (nrb - k) 4

/-- The subband that holds a PRB. -/
def subbandOf (nrb prb : Nat) : Nat :=
  let a := subbandPrbs nrb 0
  let b := a + subbandPrbs nrb 1
  let c := b + subbandPrbs nrb 2
  if prb < a then 0 else if prb < b then 1 else if prb < c then 2 else 3

/-- The first bytes of a job's descriptor: of the device's copy, where a plan brought it (R415). -/
def Dev.descBytes (d : Dev) (j : Job) (n : Nat) : List Byte :=
  if j.copy.isEmpty then d.mem.ifBytes j.desc.toNat n else padTo n j.copy

/-- A field of a job's descriptor. -/
def Dev.descField (d : Dev) (j : Job) (off n : Nat) : Nat := natOf ((d.descBytes j (off + n)).drop off)

/-- Where PRB0 stands in an equaliser descriptor (05_transform_and_equaliser.md, Tables 5.9, 5.10). -/
def Dev.prb0At (d : Dev) (j : Job) : Nat := if d.descField j 0 1 = 1 then 4 else 8

/-- The equaliser engine bound to a job's cell; for FR2 that of the subband of its descriptor's PRB0 (R142, R230). -/
def Dev.boundEngine (d : Dev) (j : Job) : Option Nat :=
  match d.cell? j.cell with
  | none => none
  | some c =>
    let k := if c.cr.type = 3 then subbandOf ((nRb 3 c.cr.bw).getD 0) (d.descField j (d.prb0At j) 2) else 0
    c.engines[k]?.bind (fun e => if e < 16 then some e else none)

/-- The units of a pool that match a job's UNIT; `cluster` is the list that is dispatched for signal cores (R230). -/
def Dev.matching (d : Dev) (j : Job) (cluster : Option Nat) : List Nat :=
  if j.pool = 1 then
    let all := if j.unit < 0x80 then [j.unit]
      else if j.unit < 0x88 then (List.range 16).map (fun k => 16 * (j.unit - 0x80) + k)
      else List.range 128
    match cluster with
    | some c => all.filter (fun k => k / 16 == c)
    | none => all
  else if j.pool = 4 then (d.boundEngine j).toList
  else if j.unit = 0xFF then List.range (poolSlots j.pool)
  else [j.unit]

/-- Whether a core's UNIT_CFG mask takes a job and no expiry has excluded the core (R230, R238). -/
def Dev.coreTakes (d : Dev) (j : Job) (u : Nat) : Bool :=
  j.pool != 1 || ((d.alm.unitCfg.toList.getD u 0).getLsbD j.cls && !j.excluded.contains u)

/-- Eligibility of a unit for a job (R230, R238). -/
def Dev.eligible (d : Dev) (j : Job) (u : Nat) : Bool := d.inPool j.pool u && d.unitRun j.pool u && d.coreTakes j u

/-- Queued (dispatched and not running) jobs of an engine. -/
def queuedAt (held : List Job) : List Job := held.filter (fun j => !j.started && !j.paused)

/-- Whether an engine has room for a class (R232). -/
def engineRoom (held : List Job) (cls : Nat) : Bool :=
  let q := queuedAt held
  let general := (q.filter (fun j => !j.aslot)).length
  !(held.any (fun j => j.started)) || decide (general < 2) || (cls == 0 && !(q.any (fun j => j.aslot)))

/-- Whether a core can take a job: it holds none, or only jobs of lower class and no delivery is outstanding (R235). -/
def Dev.coreRoom (d : Dev) (j : Job) (u : Nat) : Bool :=
  let held := d.alm.heldBy 1 u
  !(d.alm.deliveries.any (fun x => x.core == u)) && held.all (fun h => decide (j.cls < h.cls))

/-- Whether a procession lets a job go now (R231). -/
def AlmState.passable (a : AlmState) (j : Job) : Bool :=
  if j.proc then
    match a.proc? j.link with
    | some p => decide ((j.pseq - p.headSeq).toNat < p.window) && (!j.barrier || j.pseq == p.headSeq)
    | none => true
  else true

/-- The eligible unit that gets a job: the one that holds the fewest jobs, lowest index first. -/
def Dev.pickUnit (d : Dev) (j : Job) (cands : List Nat) : Option Nat :=
  cands.foldl (fun best u =>
    match best with
    | none => some u
    | some b => if (d.alm.heldBy j.pool u).length < (d.alm.heldBy j.pool b).length then some u else best) none

/-- The order in which a core is chosen to be pre-empted (R237): lowest highest class first, then the top job with the
latest deadline, or for class C the most recent dispatch, then the lowest index. -/
def preemptBefore (a b : Nat × Job) : Bool :=
  if a.2.cls ≠ b.2.cls then decide (b.2.cls < a.2.cls)
  else if a.2.cls = 2 then decide (0 < tickDiff a.2.dtick b.2.dtick)
  else decide (0 < tickDiff a.2.deadline b.2.deadline)

/-- The top job of a core: the highest class it holds. -/
def topJob (held : List Job) : Option Job :=
  held.foldl (fun best j => match best with | none => some j | some b => if j.cls < b.cls then some j else best) none

/-- The core that takes a job (R233, R235, R237): an idle one, else for class A and B one that is pre-empted. -/
def Dev.pickCore (d : Dev) (j : Job) (cands : List Nat) : Option Nat :=
  let free := cands.filter (fun u => d.coreRoom j u)
  match free.find? (fun u => (d.alm.heldBy 1 u).isEmpty) with
  | some u => some u
  | none =>
    if j.cls = 2 then none
    else
      let tops := free.filterMap (fun u => (topJob (d.alm.heldBy 1 u)).map (fun t => (u, t)))
      (tops.foldl (fun best x => match best with | none => some x | some b => if preemptBefore x b then some x else best)
        (none : Option (Nat × Job))).map (fun x => x.1)

/-- The unit a ready job can be dispatched to now. -/
def Dev.placeFor (d : Dev) (j : Job) (cluster : Option Nat) : Option Nat :=
  let cands := (d.matching j cluster).filter (d.eligible j)
  if j.pool = 1 then d.pickCore j cands
  else d.pickUnit j (cands.filter (fun u => engineRoom (d.alm.heldBy j.pool u) j.cls))

/-- The ready list of a pool and class. -/
def Dev.readyList (d : Dev) (pool cls : Nat) : List Job :=
  (d.alm.jobs.filter (fun j => j.st == .ready && j.pool == pool && j.cls == cls)).foldl (fun l j => insertReady j l) []

/-- The first job of a pool's lists, class A first, that some unit can take, with that unit (R233). -/
def Dev.nextDispatch (d : Dev) (pool : Nat) (cluster : Option Nat) : Option (Job × Nat) :=
  (d.readyList pool 0 ++ d.readyList pool 1 ++ d.readyList pool 2).findSome? (fun j =>
    if d.alm.passable j && j.chip then (d.placeFor j cluster).map (fun u => (j, u)) else none)

/-- The bytes of a job's CTRL (Table 9.2). -/
def Job.ctrl (j : Job) : Nat :=
  j.cls + 4 * boolNat j.barrier + 8 * boolNat j.noretry + 16 * boolNat j.late + 32 * boolNat j.redisp
    + 64 * boolNat j.gateTimeout + 128 * boolNat j.skipped

/-- The job slot of Table 9.11. -/
def Dev.jobSlot (d : Dev) (j : Job) (tick : BitVec 40) : List Byte :=
  bytesOf 4 j.id.toNat ++ bytesOf 1 j.ctrl ++ [0] ++ bytesOf 2 j.cell ++ bytesOf 8 j.desc.toNat
    ++ bytesOf 8 j.deadline.toNat ++ bytesOf 8 tick.toNat ++ d.descBytes j 32

/-- The device address of a core's mailbox word. -/
def mailAddr (core off : Nat) : Nat := core * 0x80000 + off

/-- Change a core. -/
def Dev.updCore (d : Dev) (k : Nat) (f : Core → Core) : Dev :=
  let i : Fin 128 := ⟨k % 128, Nat.mod_lt _ (by decide)⟩
  { d with cores := d.cores.set i (f d.cores[i]) }

/-- A core. -/
def Dev.core (d : Dev) (k : Nat) : Core := d.cores[(⟨k % 128, Nat.mod_lt _ (by decide)⟩ : Fin 128)]

/-- Whether an identifier may be that of a job released and gone: its index has had its GEN, no record has it now, and it was not
skipped (DEDUCED from R219, log entry 78). -/
def Dev.wasReleased (d : Dev) (id : Word) : Bool :=
  let i := id.toNat % 2 ^ 23
  d.alm.gens.any (fun p => p.1 == i && decide (id.toNat / 2 ^ 23 ≤ p.2)) && (d.alm.job? id).isNone && !d.alm.skippedIds.contains id

/-- The DATA entries of a BUILD that name an encoder job not released when it starts (R202). -/
def Dev.lateEntries (d : Dev) (j : Job) : List Nat :=
  if j.pool ≠ 9 ∨ d.descField j 0 1 ≠ 1 then []
  else
    let plan := d.descField j 16 8
    (List.range (Nat.min 256 (d.descField j 8 2))).filter (fun i =>
      let at_ := fun (off n : Nat) => if j.copy.isEmpty then d.mem.ifField (plan + 56 * i + off) n else d.descField j (48 + 56 * i + off) n
      let dep := BitVec.ofNat 32 (at_ 24 4)
      at_ 0 1 == 1 && dep != 0 && !d.wasReleased dep)

/-- A job starts on its engine: a BUILD's late entries are those of its first start (R196). -/
def Dev.begun (d : Dev) (j : Job) : Job :=
  { j with started := true, aslot := false, paused := false, lateEnts := some (j.lateEnts.getD (d.lateEntries j)) }

/-- Whether an EST must still wait (R143): an APPLY of an earlier slot of its cell on its engine is not complete. A customer's job
names no slot, and its EST waits for the APPLYs that became READY before it (DEDUCED, log entry 42). -/
def Dev.estWaits (d : Dev) (pool u : Nat) (j : Job) : Bool :=
  pool == 4 && d.descField j 0 1 == 1 && d.alm.jobs.any (fun x =>
    x.pool == 4 && x.cell == j.cell && x.id != j.id && x.st != .complete && d.descField x 0 1 == 2
      && (d.boundEngine x == some u || (x.st == .dispatched && x.runat == u))
      && (match x.serves, j.serves with
        | some a, some b => decide (airDiff a.start b.start < 0)
        | _, _ => x.st != .waiting && j.st != .waiting && decide (x.order < j.order)))

/-- The subband of an equaliser job's cell that it works on; 0 where the cell is not FR2 (R142). -/
def Dev.eqSubband (d : Dev) (j : Job) : Nat :=
  match d.cell? j.cell with
  | some c => if c.cr.type = 3 then subbandOf ((nRb 3 c.cr.bw).getD 0) (d.descField j (d.prb0At j) 2) else 0
  | none => 0

/-- Whether an APPLY must still wait: its slot's EST is not complete, so there are no taps yet (DEDUCED from R148, log entry
42). -/
def Dev.applyWaits (d : Dev) (pool : Nat) (j : Job) : Bool :=
  pool == 4 && d.descField j 0 1 == 2 && j.serves.isSome && d.alm.jobs.any (fun x =>
    x.pool == 4 && x.cell == j.cell && x.serves == j.serves && x.st != .complete && d.descField x 0 1 == 1
      && d.eqSubband x == d.eqSubband j)

/-- Whether an engine may start a job now. -/
def Dev.mayStart (d : Dev) (pool u : Nat) (j : Job) : Bool := !d.estWaits pool u j && !d.applyWaits pool j

/-- Dispatch a job to a unit (R233, R235): an engine that is idle starts it; a core gets its job slot and MSG or
PREEMPT. -/
def Dev.dispatchTo (d : Dev) (j : Job) (u : Nat) : Dev :=
  let now := d.time.tick
  let held := d.alm.heldBy j.pool u
  if j.pool = 1 then
    let pre := !held.isEmpty
    let d1 := d.onAlm (fun a =>
      { a.updJob j.id (fun j => { j with st := .dispatched, runat := u, dtick := now, started := false }) with
        deliveries := a.deliveries ++ [⟨u, j.id, pre, now⟩] })
    let d2 := { d1 with mem := d1.mem.ifWrite (mailAddr u (0x5B000 + 64 * j.cls)) (d.jobSlot j now) }
    d2.updCore u (fun c => { c with ipend := c.ipend ||| (if pre then 1 else 2) })
  else
    let idle := !(held.any (fun h => h.started)) && d.mayStart j.pool u j
    let full := decide (2 ≤ ((queuedAt held).filter (fun h => !h.aslot)).length)
    d.onAlm (fun a => a.updJob j.id (fun j =>
      let x := { j with st := .dispatched, runat := u, dtick := now, started := false, aslot := !idle && full }
      if idle then d.begun x else x))

/-- The next job an engine runs when it has none: class order, then Almanac's order within a class (R148, R151, R175,
R194); a pre-empted run resumes before another of its class. -/
def nextForEngine (held : List Job) : Option Job :=
  held.foldl (fun best j =>
    match best with
    | none => some j
    | some b =>
      if j.cls < b.cls then some j
      else if j.cls = b.cls ∧ !b.paused ∧ (j.paused ∨ readyBefore j b) then some j else best) none

/-- Start the next job of an engine that runs none. -/
def Dev.startNext (d : Dev) (pool u : Nat) : Dev :=
  let held := d.alm.heldBy pool u
  if held.any (fun j => j.started) then d
  else match nextForEngine (held.filter (d.mayStart pool u)) with
    | some j =>
      d.onAlm (fun a => a.updJob j.id d.begun)
    | none => d

/-- The job an engine runs. -/
def Dev.running? (d : Dev) (pool u : Nat) : Option Job := (d.alm.heldBy pool u).find? (fun j => j.started)

/-! ### Becoming READY, events and timers -/

/-- A budget (Table 2.4) in Tc. -/
def budgetTc (b : Nat × Nat) : Nat := b.1 * 196608 / (100 * b.2)

/-- The deadline of a device-defined job (R48): its budget from its actual release; of a BUILD the downlink symbol-start event
of its symbol (R197). -/
def Dev.releaseDeadline (d : Dev) (j : Job) : BitVec 40 :=
  match j.serves, d.planCell j.cell with
  | some s, some (c, _) =>
    if j.cls = 2 then j.deadline
    else if j.pool = 9 ∧ !j.gateJob ∧ pf j.copy 0 1 = 1 then
      d.time.tickAt ((d.time.symStart c.type s.start j.sym + airWrap - usToTc c.txadv) % airWrap)
    else d.time.tickAt ((d.time.air + budgetTc (budget j.cls c.type)) % airWrap)
  | _, _ => j.deadline

/-! ### The on-chip store (R243, R244) -/

/-- Records of the shared partition that are on chip: all but dispatched jobs and those of class A and B; two queue entries make
a record. -/
def AlmState.shared (a : AlmState) : Nat :=
  (a.timers.filter (fun t => !t.spilled)).length + (a.procs.filter (fun p => p.chip)).length + (a.queues.filter (fun q => q.home)).length
    + (a.jobs.filter (fun j => decide (2 ≤ j.cls) && j.st != .dispatched && j.chip)).length
    + ceilDiv ((a.queues.map (fun q => q.chip)).sum) 2

/-- The shared partition's records. -/
def sharedRecords : Nat := 131072

/-- Whether a job is in the class C ready list of a pool; of signal cores, in that of a cluster (R231). -/
def Job.inList (j : Job) (pool cluster : Nat) : Bool :=
  j.st == .ready && j.cls == 2 && j.pool == pool
    && (pool != 1 || j.unit == 0xFF || (if j.unit < 0x80 then j.unit / 16 else j.unit - 0x80) == cluster)

/-- Whether a class C ready list takes a further record on chip (R244): the partition has room, and some list that the job joins
holds fewer than 256 with none spilled behind (DEDUCED, log entry 79). -/
def AlmState.listOnChip (a : AlmState) (j : Job) : Bool :=
  decide (a.shared < sharedRecords) && (List.range (if j.pool = 1 then 8 else 1)).any (fun c =>
    ({ j with st := .ready } : Job).inList j.pool c
      && (let l := a.jobs.filter (fun x => x.inList j.pool c); l.all (fun x => x.chip) && decide (l.length < 256)))

/-- What may leave the chip (R244). -/
inductive SpillItem where
  | timer (id : Word)
  | proc (id : Word)
  | queue (id : Word)
  | entries (id : Word)
  | ready (pool cluster : Nat)
deriving DecidableEq, Repr

/-- The items that may leave, each with the tick of its last use: timers far ahead, idle processions and queues, and the tails of
queues and class C ready lists. -/
def AlmState.spillable (a : AlmState) (now : BitVec 40) : List (BitVec 40 × SpillItem) :=
  (a.timers.filter (fun t => t.armed && !t.spilled && !tickPast now t.expiry && decide (2048 < (t.expiry - now).toNat))).map
      (fun t => (t.armedAt, .timer t.id))
    ++ (a.procs.filter (fun p => p.chip && !a.jobs.any (fun j => j.proc && j.link == p.id))).map (fun p => (p.used, .proc p.id))
    ++ (a.queues.filter (fun q => q.home && q.entries.isEmpty)).map (fun q => (q.used, .queue q.id))
    ++ (a.queues.filter (fun q => decide (0 < q.chip))).map (fun q => (q.used, .entries q.id))
    ++ ([1, 3, 4, 5, 6, 7, 8, 9, 0x10].flatMap (fun p => (List.range (if p = 1 then 8 else 1)).filterMap (fun c =>
      ((a.jobs.filter (fun j => j.inList p c && j.chip)).getLast?).map (fun j => (j.readyAt, SpillItem.ready p c)))))

/-- An item leaves the chip: of a queue or ready list, its last segment of 64. -/
def AlmState.evict (a : AlmState) : SpillItem → AlmState
  | .timer id => { a with timers := a.timers.map (fun t => if t.id = id then { t with spilled := true } else t) }
  | .proc id => a.updProc id (fun p => { p with chip := false })
  | .queue id => a.updQueue id (fun q => { q with home := false })
  | .entries id => a.updQueue id (fun q => { q with chip := q.chip - 64 })
  | .ready pool c =>
    let on := ((a.jobs.filter (fun j => j.inList pool c && j.chip)).foldl (fun l j => insertReady j l) []).map (fun j => j.id)
    let out := on.drop (on.length - 64)
    { a with jobs := a.jobs.map (fun j => if out.contains j.id then { j with chip := false } else j) }

/-- The least recently used item, the first of equal ones. -/
def leastUsed (now : BitVec 40) (xs : List (BitVec 40 × SpillItem)) : Option SpillItem :=
  (xs.foldl (fun (best : Option (BitVec 40 × SpillItem)) x =>
    match best with
    | none => some x
    | some b => if (now - b.1).toNat < (now - x.1).toNat then some x else best) none).map (fun x => x.2)

/-- Items leave while the shared partition holds more than it can (R244). -/
def AlmState.makeRoom (a : AlmState) (now : BitVec 40) : AlmState :=
  (List.range (a.shared - sharedRecords)).foldl (fun a _ =>
    if a.shared ≤ sharedRecords then a
    else match leastUsed now (a.spillable now) with | some x => a.evict x | none => a) a

/-- A queue or procession is used: its record is on chip. -/
def Dev.touch (d : Dev) (id : Word) : Dev :=
  d.onAlm (fun a => (a.updProc id (fun p => { p with chip := true, used := d.time.tick })).updQueue id
    (fun q => { q with home := true, used := d.time.tick }))

/-! ### Becoming READY -/

/-- A job becomes READY (R226): it joins its ready list; a gated device-defined job counts its deadline from now. -/
def Dev.makeReady (d : Dev) (id : Word) (gated : Bool) : Dev :=
  d.onAlm (fun a =>
    { a.updJob id (fun j => { j with st := .ready, gates := 0, order := a.nextOrder, readyAt := d.time.tick
                                     chip := j.cls != 2 || a.listOnChip j
                                     deadline := if gated then d.releaseDeadline j else j.deadline }) with
      nextOrder := a.nextOrder + 1 })

/-- The jobs of a MODE (1 EST, 2 APPLY) that are WAITING for the slot and subband of an equaliser job. -/
def Dev.eqWaiting (d : Dev) (j : Job) (mode : Nat) : List Job :=
  d.alm.jobs.filter (fun x => x.st == .waiting && x.pool == 4 && x.cell == j.cell && x.serves.isSome && x.serves == j.serves
    && d.descField x 0 1 == mode && d.eqSubband x == d.eqSubband j)

/-- A gated job has no gate left (R226). An APPLY whose symbol has arrived before its slot's EST was released stays until
that release and is then of class B (R148). -/
def Dev.gatesDone (d : Dev) (j : Job) : Dev :=
  let eq := j.pool == 4 && j.serves.isSome
  if eq && d.descField j 0 1 == 2 && !(d.eqWaiting j 1).isEmpty then
    d.onAlm (fun a => a.updJob j.id (fun x => { x with gates := 0, cls := 1 }))
  else
    let d1 := d.makeReady j.id true
    if eq && d.descField j 0 1 == 1 then
      ((d1.eqWaiting j 2).filter (fun x => x.gates == 0)).foldl (fun d x => d.makeReady x.id true) d1
    else d1

/-- One event to a job (R226). -/
def Dev.eventTo (d : Dev) (id : Word) : Dev :=
  match d.alm.job? id with
  | some j =>
    if j.st ≠ .waiting then d
    else if j.gates ≤ 1 then d.gatesDone j
    else d.onAlm (fun a => a.updJob id (fun j => { j with gates := j.gates - 1 }))
  | none => d

/-- RELEASE of a timer (R226): GATES to 0, GATE_TIMEOUT set. -/
def Dev.releaseGates (d : Dev) (id : Word) : Dev :=
  match d.alm.job? id with
  | some j =>
    if j.st ≠ .waiting then d
    else (d.onAlm (fun a => a.updJob id (fun j => { j with gateTimeout := j.gateTimeout || decide (j.gates ≠ 0) }))).gatesDone j
  | none => d

/-- Entries of all queues, those held for deferred Q_PUTs among them. -/
def AlmState.entries (a : AlmState) : Nat := (a.queues.map (fun q => q.entries.length + q.reserved)).sum

/-- A PUT refused with FULL is counted, up to the top (Table 9.5); one into a queue with HOSTEV is not. -/
def Queue.refuse (q : Queue) : Queue :=
  { q with overrun := if q.hostev ∨ q.overrun = 0xFFFFFFFF then q.overrun else q.overrun + 1 }

/-- Whether a queue has no room for an entry: its LIMIT, with the places held for deferred Q_PUTs, or that of all queues (R218,
R225). -/
def AlmState.queueFull (a : AlmState) (q : Queue) : Bool :=
  !q.hostev && (decide (q.limit ≤ q.entries.length + q.reserved) || decide (16777216 ≤ a.entries))

/-- Put an entry into a queue (R222, Table 9.5): forwarded where HOSTEV, refused with FULL and counted where there is no room. -/
def Dev.putQueue (d : Dev) (id : Word) (entry : List Byte) : Dev :=
  match d.alm.queue? id with
  | none => d
  | some q =>
    if q.hostev then d.post 0xF006 (bytesOf 4 id.toNat ++ bytesOf 4 0 ++ padTo 16 entry)
    else if d.alm.queueFull q then d.onAlm (fun a => a.updQueue id Queue.refuse)
    else
      d.onAlm (fun a => a.updQueue id (fun q =>
        { q with entries := q.entries ++ [padTo 16 entry]
                 home := true
                 used := d.time.tick
                 chip := if q.chip = q.entries.length ∧ q.chip < 256 ∧ a.shared < sharedRecords then q.chip + 1 else q.chip }))

/-- Refill one spilled segment of a queue (R244). -/
def Queue.refill (q : Queue) : Queue := { q with chip := Nat.min q.entries.length (q.chip + 64) }

/-- Remove a queue's head (R222); a head that is not on chip waits for its refill. -/
def Queue.pop (q : Queue) : Queue :=
  let q1 := if q.chip = 0 then q.refill else q
  { q1 with entries := q1.entries.drop 1, chip := q1.chip - 1 }

/-- The timer that fires first of those due: by calendar, EXPIRY, insertion (R228). -/
def firstDue (now : BitVec 40) (ts : List Timer) : Option Timer :=
  (ts.filter (fun t => t.armed && t.armedAt != now && tickPast now t.expiry)).foldl (fun best t =>
    match best with
    | none => some t
    | some b => if t.cal < b.cal ∨ (t.cal = b.cal ∧ tickDiff t.expiry b.expiry < 0) then some t else best) none

/-- The action of a timer (Table 9.4); a freed target makes it do nothing (R229). -/
def Dev.timerAction (d : Dev) (t : Timer) : Dev :=
  match t.action with
  | 1 => d.releaseGates t.target
  | 2 => d.eventTo t.target
  | _ => d.putQueue t.target (bytesOf 8 t.entry.toNat)

/-- A timer fires (R228): one-shot timers are freed, periodic ones re-armed behind later insertions. -/
def Dev.fireTimer (d : Dev) (t : Timer) : Dev :=
  let rest := d.alm.timers.filter (fun x => x.id != t.id)
  let ts := if t.period = 0 then rest else rest ++ [{ t with expiry := t.expiry + t.period.setWidth 40, armedAt := d.time.tick, spilled := false }]
  ({ d with alm := { d.alm with timers := ts } } : Dev).timerAction t

/-! ### Completion and release -/

/-- The completion record (Table 9.12). -/
def Job.record (j : Job) : List Byte :=
  bytesOf 4 j.id.toNat ++ bytesOf 4 j.status.toNat ++ bytesOf 1 j.aflags ++ bytesOf 1 j.cls ++ bytesOf 2 j.cell
    ++ bytesOf 4 j.doneTick.toNat

/-- A late job counts in its cell and plan (R57, R545), and a CELL_LATE event tells of it, merged within a second. -/
def Dev.noteLate (d : Dev) (j : Job) : Dev :=
  match d.cell? j.cell with
  | none => d
  | some _ =>
    let d1 := d.updCell j.cell (fun c => { c with lateJobs := c.lateJobs + 1 })
    let d2 := { d1 with cfg := { d1.cfg with plans := d1.cfg.plans.map (fun (p : Plan) =>
      match j.serves with
      | some s => if p.cell = j.cell ∧ p.down = s.down ∧ p.start = s.start then { p with lateJobs := p.lateJobs + 1 } else p
      | none => p) } }
    d2.healthEvent { hkind := 0x0002, cell := j.cell }

/-- A device-defined job that is not created (R243): counted in its cell and slot, and told of. -/
def Dev.jobLost (d : Dev) (cell : Nat) (serves : Option Sys2Proof.Serves) : Dev :=
  let d1 := d.updCell cell (fun c => { c with lateJobs := c.lateJobs + 1 })
  let d2 := { d1 with cfg := { d1.cfg with plans := d1.cfg.plans.map (fun (p : Plan) =>
    match serves with
    | some s => if p.cell = cell ∧ p.down = s.down ∧ p.start = s.start then { p with lateJobs := p.lateJobs + 1 } else p
    | none => p) } }
  d2.healthEvent { hkind := 0x0044, cell := cell }

/-- A job's record leaves: its plan no longer waits for it, and its fallback timer goes with it. -/
def Dev.freeJob (d : Dev) (id : Word) : Dev :=
  { d with alm := ({ d.alm with jobs := d.alm.jobs.filter (fun j => j.id != id) } : AlmState).sweep
           cfg := { d.cfg with plans := d.cfg.plans.map (fun p => { p with jobs := p.jobs.filter (· != id.toNat) }) } }

/-- Release heads of a procession while they are complete (R240). -/
def Dev.releaseHeads : Nat → Word → Dev → Dev
  | 0, _, d => d
  | n + 1, id, d =>
    match d.alm.proc? id with
    | none => d
    | some p =>
      match d.alm.jobs.find? (fun j => j.proc && j.link == id && j.pseq == p.headSeq && j.st == .complete) with
      | none => d
      | some j =>
        let d1 := d.putQueue p.relq j.record
        let d2 := (d1.onAlm (fun a => a.updProc id (fun p =>
          { p with headSeq := p.headSeq + 1, headSince := d.time.tick, used := d.time.tick }))).freeJob j.id
        Dev.releaseHeads n id d2

/-- A job is complete: outside a procession it is released at once, inside it is held and the heads are released. -/
def Dev.finishJob (d : Dev) (j : Job) (status : Word) (flags : Nat) : Dev :=
  let j1 := { j with st := .complete, started := false, status := status, doneTick := d.time.tick.setWidth 32
                     aflags := boolNat j.late + flags + 4 * boolNat j.redisp + 8 * boolNat j.gateTimeout }
  if j.skipped then d.freeJob j.id
  else if j.proc then
    let d1 := d.onAlm (fun a => a.updJob j.id (fun _ => j1))
    Dev.releaseHeads (d1.alm.jobs.length + 1) j.link d1
  else (d.putQueue j.link j1.record).freeJob j.id

/-- Slack of a completion and LATE (R239, R57). -/
def Dev.measure (d : Dev) (j : Job) : Dev × Job :=
  if 2 ≤ j.cls then (d, j)
  else
    let slack := tickDiff j.deadline d.time.tick
    let d1 := d.recordSlack j.cls j.cell slack
    if slack < 0 then (d1.noteLate j, { j with late := true }) else (d1, j)

/-! ### Requests -/

/-- A little-endian field of a request. -/
def rf (r : List Byte) (off n : Nat) : Nat := natOf ((r.drop off).take n)

/-- The bytes of a request that Tables 9.7 and 9.8 name, beyond OP and TAG. -/
def namedBytes (op kind : Nat) : List Nat :=
  match op with
  | 1 => List.range 32
  | 2 => [4, 5, 6, 7]
  | 3 => [4, 5, 6, 7]
  | 4 => [8, 9] ++ (List.range 20).map (· + 12)
  | 5 => [4, 5, 6, 7]
  | 6 => [4, 5, 6, 7] ++ (List.range 16).map (· + 8)
  | 7 => [4, 5, 6, 7]
  | 8 => if kind = 1 then [8, 9, 12, 13, 14, 15] else [8, 12, 13] ++ (List.range 8).map (· + 16)
  | 9 => [4, 5, 6, 7]
  | 10 => [4, 5, 6, 7]
  | _ => [8]

/-- Whether a reserved byte is nonzero (R222). -/
def reservedSet (r : List Byte) : Bool :=
  let op := rf r 0 1
  let named := namedBytes op (rf r 8 1)
  (op != 1 && rf r 1 1 != 0)
    || ((List.range 28).map (· + 4)).any (fun k => !named.contains k && r.getD k 0 != 0)

/-- Whether a UNIT value is allowed for a POOL (Table 9.10). -/
def unitAllowed (pool unit : Nat) : Bool :=
  if pool = 1 then decide (unit < 0x88) || unit == 0xFF
  else if pool = 3 ∨ (5 ≤ pool ∧ pool ≤ 9) then decide (unit < 0x10) || unit == 0xFF
  else if pool = 4 then unit == 0xFF
  else if pool = 0x10 then decide (unit < 8) || unit == 0xFF
  else false

/-- Whether UNIT names no PRESENT unit (Table 9.9). -/
def Dev.unitAbsent (d : Dev) (pool unit : Nat) : Bool :=
  if pool = 0x10 then false
  else if pool = 1 ∧ 0x80 ≤ unit ∧ unit < 0x88 then
    !((List.range 16).any (fun k => d.present 1 (16 * (unit - 0x80) + k)))
  else if unit = 0xFF then !((List.range (classSlots pool)).any (d.present pool))
  else !d.present pool unit

/-- Whether a port is a signal core's. -/
def isCorePort : Sys2Proof.AlmPort → Bool
  | .core _ => true
  | _ => false

/-- The class A and B jobs that occupy their partition (R243). -/
def AlmState.abJobs (a : AlmState) : Nat := (a.jobs.filter (fun j => decide (j.cls < 2) && j.st != .dispatched)).length

/-- Whether a link may take further records: 0, or the answer of Table 9.9. -/
def AlmState.linkCheck (a : AlmState) (proc : Bool) (link : Word) : Nat :=
  if link = 0 then (if proc then almNoObj else 0)
  else if !a.known link then almNoObj
  else if proc then
    match a.proc? link with
    | none => almBadReq
    | some p => if p.closing then almWrongKind else 0
  else match a.queue? link with
    | none => almBadReq
    | some q => if q.closing then almWrongKind else 0

/-- The check of JOB_ENQ (R223, R229, R243). -/
def Dev.checkJobEnq (d : Dev) (port : Sys2Proof.AlmPort) (r : List Byte) : Nat :=
  let flags := rf r 1 1
  let cls := rf r 21 1
  let proc := flags % 2 == 1
  let timeout := rf r 28 4
  let ahead := (BitVec.ofNat 40 (rf r 16 5) - d.time.tick).toNat
  if 8 ≤ flags ∨ 2 < cls ∨ !unitAllowed (rf r 22 1) (rf r 23 1) ∨ (bitAt flags 1 ∧ !proc) ∨ 15 < rf r 25 1 then almBadReq
  else if cls < 2 ∧ ahead < 2 ^ 39 ∧ 2 ^ 20 < ahead then almBadReq
  else if isCorePort port ∧ timeout ≠ 0 ∧ rf r 25 1 < 12 then almBadReq
  else
    let l := d.alm.linkCheck proc (BitVec.ofNat 32 (rf r 4 4))
    if l ≠ 0 then l
    else if d.unitAbsent (rf r 22 1) (rf r 23 1) then almUnitAbsent
    else if 8388608 < d.alm.objects + 1 + boolNat (decide (timeout ≠ 0)) then almFull
    else if timeout ≠ 0 ∧ 4194304 ≤ d.alm.timers.length then almFull
    else if cls < 2 ∧ 131072 ≤ d.alm.abJobs then almFull
    else 0

/-- The check of TIMER_SET (R222, R229). -/
def Dev.checkTimerSet (d : Dev) (port : Sys2Proof.AlmPort) (r : List Byte) : Nat :=
  let act := rf r 8 1
  let tgt := BitVec.ofNat 32 (rf r 12 4)
  if act < 1 ∨ 3 < act ∨ 15 < rf r 9 1 ∨ (isCorePort port ∧ rf r 9 1 < 12) then almBadReq
  else if !d.alm.known tgt then almNoObj
  else if act < 3 ∧ (d.alm.job? tgt).isNone then almWrongKind
  else if act == 3 && (match d.alm.queue? tgt with | some q => q.closing | none => true) then almWrongKind
  else if 4194304 ≤ d.alm.timers.length ∨ 8388608 ≤ d.alm.objects then almFull
  else 0

/-- The check of CREATE. -/
def Dev.checkCreate (d : Dev) (r : List Byte) : Nat :=
  let kind := rf r 8 1
  if kind = 1 then
    if 1 < rf r 9 1 ∨ rf r 12 4 < 1 ∨ 16777216 < rf r 12 4 then almBadReq
    else if 65536 ≤ d.alm.queues.length ∨ 8388608 ≤ d.alm.objects then almFull else 0
  else if kind = 2 then
    let q := BitVec.ofNat 32 (rf r 20 4)
    if rf r 12 2 < 1 ∨ 4096 < rf r 12 2 then almBadReq
    else if q ≠ 0 ∧ !d.alm.known q then almNoObj
    else if q ≠ 0 ∧ (d.alm.queue? q).isNone then almWrongKind
    else if 1048576 ≤ d.alm.procs.length ∨ 8388608 ≤ d.alm.objects then almFull else 0
  else almBadReq

/-- The check of a request (R218 to R225), 0 where it is accepted. -/
def Dev.checkReq (d : Dev) (port : Sys2Proof.AlmPort) (r : List Byte) : Nat :=
  let obj := BitVec.ofNat 32 (rf r 4 4)
  let kindOf := fun (ok : Bool) => if !d.alm.known obj then almNoObj else if ok then 0 else almWrongKind
  if reservedSet r then almBadReq
  else match rf r 0 1 with
    | 1 => d.checkJobEnq port r
    | 2 =>
      let k := kindOf (match d.alm.proc? obj with | some p => !p.closing | none => false)
      if k ≠ 0 then k else if 8388608 ≤ d.alm.objects then almFull else 0
    | 3 => kindOf (d.alm.job? obj).isSome
    | 4 => d.checkTimerSet port r
    | 5 => kindOf (d.alm.timer? obj).isSome
    | 6 =>
      match d.alm.queue? obj with
      | none => kindOf false
      | some q =>
        if q.closing then almWrongKind
        else if d.alm.queueFull q then almFull
        else 0
    | 7 =>
      match d.alm.queue? obj with
      | none => kindOf false
      | some q => if q.entries.isEmpty then almEmpty else 0
    | 8 => d.checkCreate r
    | 9 => kindOf ((d.alm.timer? obj).isSome || (d.alm.queue? obj).isSome || (d.alm.proc? obj).isSome)
    | 10 => kindOf true
    | 11 => if isCorePort port ∧ rf r 8 1 < 8 then 0 else almBadReq
    | _ => almBadReq

/-- The job a JOB_ENQ describes. -/
def jobOf (r : List Byte) (id : Word) (serves : Option Sys2Proof.Serves) : Job :=
  let flags := rf r 1 1
  { id := id, st := .pending, cls := rf r 21 1, barrier := bitAt flags 1, noretry := bitAt flags 2, pool := rf r 22 1
    unit := rf r 23 1, gates := rf r 24 1, cell := rf r 26 2, desc := BitVec.ofNat 64 (rf r 8 8)
    deadline := BitVec.ofNat 40 (rf r 16 5), link := BitVec.ofNat 32 (rf r 4 4), proc := bitAt flags 0
    serves := serves }

/-- The identifiers and places of an accepted request are allocated (R225, 1): the new object, 0 where there is none, and
the fallback timer's identifier. -/
def Dev.allocateRaw (d : Dev) (r : List Byte) (serves : Option Sys2Proof.Serves) : Word × Word × Dev :=
  match rf r 0 1 with
  | 1 =>
    let p := d.newId
    let d1 := p.2.onAlm (fun a => { a with jobs := a.jobs ++ [jobOf r p.1 serves] })
    if rf r 28 4 = 0 then (p.1, 0, d1)
    else
      let q := d1.newId
      (p.1, q.1, q.2.onAlm (fun a => { a with timers := a.timers ++
        [{ id := q.1, armed := false, action := 1, cal := rf r 25 1, target := p.1 }] }))
  | 2 =>
    let p := d.newId
    (p.1, 0, p.2.onAlm (fun a => { a with jobs := a.jobs ++
      [{ id := p.1, st := .pending, cls := 3, link := BitVec.ofNat 32 (rf r 4 4), proc := true }] }))
  | 4 =>
    let p := d.newId
    (p.1, 0, p.2.onAlm (fun a => { a with timers := a.timers ++
      [{ id := p.1, armed := false, action := rf r 8 1, cal := rf r 9 1, target := BitVec.ofNat 32 (rf r 12 4)
         expiry := BitVec.ofNat 40 (rf r 16 5), period := BitVec.ofNat 24 (rf r 21 3)
         entry := BitVec.ofNat 64 (rf r 24 8) }] }))
  | 6 =>
    (BitVec.ofNat 32 (rf r 4 4), 0,
      d.onAlm (fun a => a.updQueue (BitVec.ofNat 32 (rf r 4 4)) (fun q => { q with reserved := q.reserved + 1 })))
  | 8 =>
    let p := d.newId
    (p.1, 0, p.2.onAlm (fun a =>
      if rf r 8 1 = 1 then
        { a with queues := a.queues ++ [{ id := p.1, hostev := bitAt (rf r 9 1) 0, limit := rf r 12 4, pending := true
                                          used := d.time.tick }] }
      else
        { a with procs := a.procs ++ [{ id := p.1, window := rf r 12 2, stuckTo := BitVec.ofNat 32 (rf r 16 4)
                                        relq := BitVec.ofNat 32 (rf r 20 4), pending := true, used := d.time.tick }] }))
  | _ => (BitVec.ofNat 32 (rf r 4 4), 0, d)

/-- The allocation, and the queue or procession that the request uses; what no longer fits on chip leaves it (R244). -/
def Dev.allocate (d : Dev) (r : List Byte) (serves : Option Sys2Proof.Serves) : Word × Word × Dev :=
  let op := rf r 0 1
  let d0 := if op ∈ [1, 2, 6, 7, 9, 10] ∧ rf r 4 4 ≠ 0 then d.touch (BitVec.ofNat 32 (rf r 4 4)) else d
  let x := d0.allocateRaw r serves
  (x.1, x.2.1, if op ∈ [1, 2, 4, 8] then x.2.2.onAlm (fun a => a.makeRoom d.time.tick) else x.2.2)

/-- A job or marker takes the next PSEQ of its procession; the first of an empty procession becomes head now. -/
def Dev.joinProc (d : Dev) (id : Word) : Dev :=
  match d.alm.job? id with
  | none => d
  | some j =>
    if !j.proc then d
    else match d.alm.proc? j.link with
      | none => d
      | some p =>
        d.onAlm (fun a => (a.updJob id (fun j => { j with pseq := p.nextSeq })).updProc p.id (fun p =>
          { p with nextSeq := p.nextSeq + 1, headSince := if p.nextSeq = p.headSeq then d.time.tick else p.headSince
                   chip := true, used := d.time.tick }))

/-- DESTROY of an object (Table 9.7). -/
def AlmState.destroy (a : AlmState) (id : Word) : AlmState :=
  (({ a with timers := a.timers.filter (fun t => t.id != id) }.updQueue id (fun q => { q with closing := true })).updProc id
    (fun p => { p with closing := true })).sweep

/-- A timer is armed: it stands behind those inserted before (R228). -/
def AlmState.arm (a : AlmState) (id : Word) (f : Timer → Timer) : AlmState :=
  match a.timer? id with
  | some t => { a with timers := a.timers.filter (fun x => x.id != id) ++ [f t] }
  | none => a

/-- A job whose record was lost before it took effect completes with LOST and SKIP (R245). -/
def Dev.lostNow (d : Dev) (id : Word) : Dev :=
  match d.alm.job? id with
  | some j => (d.onAlm (fun a => { a with timers := a.timers.filter (fun t => t.target != id) })).finishJob j 0 (64 + 2)
  | none => d

/-- A request takes effect (R222, R225): `obj` and `tm` are what was allocated for it. -/
def Dev.takeEffect (d : Dev) (r : List Byte) (obj tm : Word) : Dev :=
  match rf r 0 1 with
  | 1 =>
    let d1 := (d.onAlm (fun a => a.updJob obj (fun j => { j with st := .waiting }))).joinProc obj
    let d2 := d1.onAlm (fun a => a.arm tm (fun t =>
      { t with armed := true, armedAt := d.time.tick, expiry := d.time.tick + BitVec.ofNat 40 (rf r 28 4) }))
    let d3 := match d2.alm.job? obj with
      | some j => match j.serves with
        | some s => { d2 with cfg := { d2.cfg with plans := d2.cfg.plans.map (fun (p : Plan) =>
            if p.cell = j.cell ∧ p.down = s.down ∧ p.start = s.start then { p with jobs := p.jobs ++ [obj.toNat] } else p) } }
        | none => d2
      | none => d2
    if (match d3.alm.job? obj with | some j => j.lost | none => false) then d3.lostNow obj
    else if rf r 24 1 = 0 then d3.makeReady obj false else d3
  | 2 =>
    let d1 := (d.onAlm (fun a => a.updJob obj (fun j =>
      { j with st := .complete, aflags := if j.lost then 66 else 2, doneTick := d.time.tick.setWidth 32 }))).joinProc obj
    Dev.releaseHeads (d1.alm.jobs.length + 1) (BitVec.ofNat 32 (rf r 4 4)) d1
  | 3 => d.eventTo obj
  | 4 =>
    let far := decide (2048 < (BitVec.ofNat 40 (rf r 16 5) - d.time.tick).toNat)
      && decide ((BitVec.ofNat 40 (rf r 16 5) - d.time.tick).toNat < 2 ^ 39)
    { d with free := d.free + 1
             alm := d.alm.arm obj (fun t =>
               { t with armed := true, armedAt := d.time.tick, spilled := far && Sys2Proof.Config.timerSpills d.free }) }
  | 5 => d.onAlm (fun a => { a with timers := a.timers.filter (fun t => t.id != obj) })
  | 6 => (d.onAlm (fun a => a.updQueue obj (fun q => { q with reserved := q.reserved - 1 }))).putQueue obj ((r.drop 8).take 16)
  | 7 => d.onAlm (fun a => (a.updQueue obj Queue.pop).sweep)
  | 8 => d.onAlm (fun a => (a.updQueue obj (fun q => { q with pending := false })).updProc obj
      (fun p => { p with pending := false, headSince := d.time.tick }))
  | 9 => d.onAlm (fun a => a.destroy obj)
  | _ => d

/-- Drop what was allocated for a deferred request (R225, 4). -/
def Dev.dropAllocated (d : Dev) (x : Deferred) : Dev :=
  match rf x.req 0 1 with
  | 6 => d.onAlm (fun a => a.updQueue x.obj (fun q => { q with reserved := q.reserved - 1 }))
  | 1 => d.onAlm (fun a => { a with jobs := a.jobs.filter (fun j => j.id != x.obj)
                                    timers := a.timers.filter (fun t => t.id != x.timer) })
  | 2 => d.onAlm (fun a => { a with jobs := a.jobs.filter (fun j => j.id != x.obj) })
  | 4 => d.onAlm (fun a => { a with timers := a.timers.filter (fun t => t.id != x.obj) })
  | 8 => d.onAlm (fun a => { a with queues := a.queues.filter (fun q => q.id != x.obj)
                                    procs := a.procs.filter (fun p => p.id != x.obj) })
  | _ => d

/-- The discarded deferred requests of an abandoned run. -/
def Dev.dropDeferred (d : Dev) (id : Word) : Dev :=
  match d.alm.job? id with
  | none => d
  | some j =>
    let d1 := j.deferred.foldl Dev.dropAllocated d
    d1.onAlm (fun a => (a.updJob id (fun j => { j with deferred := [] })).sweep)

/-- Bytes 0 to 23 of a record (Tables 9.2 to 9.5, R220). -/
def AlmState.recordBytes (a : AlmState) (id : Word) : List Byte :=
  match a.job? id with
  | some j =>
    let st : Nat := match j.st with | .waiting => 1 | .ready => 2 | .dispatched => 3 | .complete => 4 | .pending => 6
    bytesOf 1 st ++ bytesOf 1 j.ctrl ++ bytesOf 1 j.pool ++ bytesOf 1 j.unit ++ bytesOf 1 j.gates
      ++ bytesOf 1 (if j.st = .dispatched then j.runat else 0xFF) ++ bytesOf 2 j.cell ++ bytesOf 8 j.desc.toNat
      ++ bytesOf 5 j.deadline.toNat ++ bytesOf 3 0
  | none => match a.proc? id with
    | some p =>
      bytesOf 1 (if p.closing then 2 else 1) ++ [0] ++ bytesOf 2 p.window ++ bytesOf 4 p.nextSeq.toNat
        ++ bytesOf 4 p.headSeq.toNat ++ bytesOf 4 p.stuckTo.toNat ++ bytesOf 5 p.headSince.toNat ++ bytesOf 3 0
    | none => match a.timer? id with
      | some t =>
        bytesOf 1 1 ++ bytesOf 1 t.action ++ bytesOf 1 t.cal ++ [0] ++ bytesOf 4 t.target.toNat ++ bytesOf 5 t.expiry.toNat
          ++ bytesOf 3 t.period.toNat ++ bytesOf 8 t.entry.toNat
      | none => match a.queue? id with
        | some q =>
          bytesOf 1 (if q.closing then 2 else 1) ++ bytesOf 1 (boolNat q.hostev) ++ bytesOf 2 0 ++ bytesOf 4 q.limit
            ++ bytesOf 4 q.entries.length ++ bytesOf 4 q.overrun.toNat ++ bytesOf 8 0
        | none => []

/-- A reply (R224). -/
def almReply (r : List Byte) (status : Nat) (deferred : Bool) (obj : Word) (data : List Byte) : List Byte :=
  bytesOf 2 (rf r 2 2) ++ bytesOf 1 status ++ bytesOf 1 (boolNat deferred) ++ bytesOf 4 obj.toNat ++ padTo 24 data

/-- Whether an operation is deferred in a job (Table 9.7). -/
def opDeferred (op : Nat) : Bool := op == 1 || op == 2 || op == 3 || op == 4 || op == 5 || op == 6 || op == 8 || op == 9

/-- The job a port's requests are deferred to: the JOBID of a signal core. -/
def Dev.issuer (d : Dev) : Sys2Proof.AlmPort → Word
  | .core k => (d.cores[k].jobs).headD 0
  | _ => 0

/-- Whether a core still runs the job its JOBID names: what it asks for in an abandoned run is discarded (R225, 4). -/
def Dev.issues (d : Dev) (port : Sys2Proof.AlmPort) (me : Word) : Bool :=
  match port, d.alm.job? me with
  | .core k, some j => j.st == .dispatched && j.pool == 1 && j.runat == k.val
  | _, _ => false

/-- A request is handled: checked, allocated, and put into effect or deferred (R222 to R225). The reply comes first. -/
def Dev.request (d : Dev) (port : Sys2Proof.AlmPort) (r : List Byte) (serves : Option Sys2Proof.Serves) : List Byte × Dev :=
  let op := rf r 0 1
  let obj := BitVec.ofNat 32 (rf r 4 4)
  let st := d.checkReq port r
  let me := d.issuer port
  let deferred := opDeferred op && me != 0
  let held := match d.alm.job? me with | some j => j.deferred.length | none => 0
  let refused := fun (st : Nat) =>
    (almReply r st false obj [], if op = 6 ∧ st = almFull then d.onAlm (fun a => a.updQueue obj Queue.refuse) else d)
  if st ≠ 0 then refused st
  else if deferred ∧ 64 ≤ held then refused almFull
  else
    let x := d.allocate r serves
    if deferred ∧ !d.issues port me then (almReply r 0 true x.1 [], x.2.2.dropAllocated ⟨r, x.1, x.2.1⟩)
    else if deferred then
      (almReply r 0 true x.1 [],
        x.2.2.onAlm (fun a => a.updJob me (fun j => { j with deferred := j.deferred ++ [⟨r, x.1, x.2.1⟩] })))
    else
      let data := if op = 7 then (match d.alm.queue? obj with | some q => q.entries.headD [] | none => [])
        else if op = 10 then d.alm.recordBytes obj else []
      let d1 := x.2.2.takeEffect r x.1 x.2.1
      match op, port with
      | 11, .core k =>
        (almReply r 0 false obj [],
          d1.onAlm (fun a => { a with unitCfg := a.unitCfg.set k (BitVec.ofNat 3 (rf r 8 1)) }))
      | _, _ => (almReply r 0 false x.1 data, d1)

/-- Whether a request at a core's mailbox can be read: an entry waits and the reply ring has room (R221). -/
def Dev.mailReady (d : Dev) (k : Nat) : Bool :=
  let w := fun off => d.mem.field (mailAddr k off) 4 % 64
  w 0x5B0C0 != w 0x5B0C4 && (w 0x5B0C8 + 1) % 64 != w 0x5B0CC

/-- A request row (R221, R222): from a mailbox the next outbox entry, whose OP must be the row's; from another port the
bytes given. An OP that Table 9.7 does not list goes by the row JOB_ENQ (log entry 31). -/
def Dev.almRow (d : Dev) (op : Nat) (port : Sys2Proof.AlmPort) (bytes : List Byte) (serves : Option Sys2Proof.Serves) : Dev :=
  let opOk := fun (r : List Byte) => rf r 0 1 == op || (op == 1 && (rf r 0 1 == 0 || decide (11 < rf r 0 1)))
  match port with
  | .core k =>
    let w := fun off => d.mem.field (mailAddr k off) 4 % 64
    let head := w 0x5B0C4
    let r := d.mem.bytes (mailAddr k (0x5A000 + 32 * head)) 32
    if !d.unitWorks 1 k.val || !d.mailReady k || !opOk r then d
    else
      let tail := w 0x5B0C8
      let x := d.request port r none
      let m1 := x.2.mem.setBytes (mailAddr k (0x5A800 + 32 * tail)) x.1
      let m2 := m1.setBytes (mailAddr k 0x5B0C8) (bytesOf 4 ((tail + 1) % 64))
      { x.2 with mem := m2.setBytes (mailAddr k 0x5B0C4) (bytesOf 4 ((head + 1) % 64)) }
  | _ =>
    let r := padTo 32 bytes
    if !opOk r then d
    else
      let x := d.request port r serves
      -- a device-defined job that a limit keeps from being created (R243)
      let lost := rf r 0 1 == 1 && serves.isSome && rf x.1 2 1 == almFull
      (if lost then x.2.jobLost (rf r 26 2) serves else x.2).onAlm (fun a =>
        { a with replies := (port, x.1) :: a.replies.filter (fun p => p.1 != port) })

/-! ### Withdrawal, skips, faults -/

/-- Withdraw an outstanding delivery (R238): its slot's JOBID is written 0 and the interrupt bit cleared; the job goes
back to its ready list. -/
def Dev.withdraw (d : Dev) (x : Delivery) (exclude : Bool) : Dev :=
  let cls := match d.alm.job? x.job with | some j => j.cls | none => 0
  let d1 := d.onAlm (fun a =>
    { a.updJob x.job (fun j => { j with st := .ready, runat := 0xFF, excluded := if exclude then j.excluded ++ [x.core] else j.excluded })
      with deliveries := a.deliveries.filter (fun y => !(y == x)) })
  let d2 := { d1 with mem := d1.mem.setBytes (mailAddr x.core (0x5B000 + 64 * cls)) [0, 0, 0, 0] }
  d2.updCore x.core (fun c => { c with ipend := c.ipend &&& ~~~(if x.preempt then 1 else 2) })

/-- A core enters the handler of its delivery (R236): the job is pushed and has started. -/
def Dev.enterDelivery (d : Dev) (core : Nat) (preempt : Bool) : Dev :=
  match d.alm.deliveries.find? (fun x => x.core == core && x.preempt == preempt) with
  | none => d
  | some x =>
    let d1 := d.onAlm (fun a =>
      { a.updJob x.job (fun j => { j with started := true }) with deliveries := a.deliveries.filter (fun y => !(y == x)) })
    d1.updCore core (fun c => { c with jobs := x.job :: c.jobs })

/-- Skip a procession's head (R242). -/
def Dev.skipHead (d : Dev) (id : Word) : Dev :=
  match d.alm.proc? id with
  | none => d
  | some p =>
    let head := d.alm.jobs.find? (fun j => j.proc && j.link == id && j.pseq == p.headSeq && j.st != .pending)
    match head with
    | none => d
    | some j =>
      let now := d.time.air / secondTc
      let told := p.lastEvent == some now
      let rec_ := ({ j with status := 0, doneTick := d.time.tick.setWidth 32
                            aflags := 2 + 4 * boolNat j.redisp + 8 * boolNat j.gateTimeout } : Job).record
      let d0 := match d.alm.deliveries.find? (fun x => x.job == j.id) with | some x => d.withdraw x false | none => d
      let d1 := if j.st = .dispatched ∧ (j.started ∨ j.paused) then
          d0.onAlm (fun a => a.updJob j.id (fun j => { j with skipped := true, proc := false, link := 0 }))
        else (d0.dropDeferred j.id).freeJob j.id
      let d2 := ((d1.putQueue p.relq rec_).onAlm (fun a => { a with skippedIds := j.id :: a.skippedIds })).updCell j.cell
        (fun c => { c with skips := c.skips + 1 })
      let d3 := d2.onAlm (fun a => a.updProc id (fun p =>
        { p with headSeq := p.headSeq + 1, headSince := d.time.tick, used := d.time.tick, skips := if p.skips = 0xFFFFFFFF then p.skips else p.skips + 1
                 lastEvent := some now }))
      let d4 := if told then d3 else d3.healthEvent { hkind := 0x0043, cell := j.cell, addr := id.toNat }
      Dev.releaseHeads (d4.alm.jobs.length + 1) id d4

/-- Complete a job that never runs or never ran to its end: LOST, ABANDONED, NOUNIT or removed (R245, R247, R544). -/
def Dev.endJob (d : Dev) (id : Word) (flags : Nat) : Dev :=
  let d1 := d.dropDeferred id
  match d1.alm.job? id with
  | none => d1
  | some j => d1.finishJob j 0 flags

/-- Step F2 for one job (R247): ABANDONED with NORETRY, else back to its ready list with REDISP and its place. -/
def Dev.redispatch (d : Dev) (j : Job) : Dev :=
  let d1 := d.dropDeferred j.id
  if j.noretry then d1.endJob j.id 32
  else d1.onAlm (fun a => a.updJob j.id (fun j =>
    { j with st := .ready, redisp := true, runat := 0xFF, started := false, aslot := false, paused := false }))

/-- Mark a unit LEAVING (R247, L1 and L2): jobs not started go back to their lists. -/
def Dev.leaveUnit (d : Dev) (c s : Nat) : Dev :=
  let d1 := d.onAlm (fun a => { a with pool := a.pool.set (unitIdx c s) { a.pool[unitIdx c s] with leaving := true } })
  let d2 := if c = 1 then (d1.alm.deliveries.filter (fun x => x.core == s)).foldl (fun d x => d.withdraw x false) d1 else d1
  (d2.alm.heldBy c s).foldl (fun d j =>
    if j.started ∨ j.paused then d
    else d.onAlm (fun a => a.updJob j.id (fun j => { j with st := .ready, runat := 0xFF, aslot := false }))) d2

/-- A unit is drained: it holds no job (R247, L4). -/
def Dev.unitIdle (d : Dev) (c s : Nat) : Bool :=
  (d.alm.heldBy c s).isEmpty && (if c = 1 then (d.core s).jobs.isEmpty && (d.core s).waiting else true)

/-- A unit's report of a completed job is stored for Almanac. -/
def Dev.report (d : Dev) (pool slot : Nat) (job status : Word) : Dev :=
  d.onAlm (fun a => { a with reports := a.reports ++ [⟨pool, slot, job, status⟩] })

/-- Almanac takes a completion (R239, R225, R247 F3): deferred requests first, then slack, LATE and the record. -/
def Dev.completeJob (d : Dev) (pool slot : Nat) (id status : Word) : Dev :=
  match d.alm.job? id with
  | none => d.onAlm (fun a => { a with discarded := a.discarded + 1 })
  | some j =>
    if j.st ≠ .dispatched ∨ j.pool ≠ pool ∨ j.runat ≠ slot then d.onAlm (fun a => { a with discarded := a.discarded + 1 })
    else
      let d1 := j.deferred.foldl (fun d x => d.takeEffect x.req x.obj x.timer) d
      let d2 := d1.onAlm (fun a => a.updJob id (fun j => { j with deferred := [] }))
      let m := d2.measure { j with deferred := [] }
      let d3 := (m.1.onAlm AlmState.sweep).finishJob m.2 status 0
      if pool = 1 then d3 else d3.startNext pool slot

/-- Whether a calendar holds an entry, a customer's or the device's own (R46): the device's own do while a cell is in
service, or while a MODE_REQUEST into service is held with a committed cell (log entry 54). -/
def Dev.calendarBusy (d : Dev) : Bool :=
  !d.alm.timers.isEmpty || !d.cfg.plans.isEmpty || d.cfg.cells.any (fun c => c.inService)
    || ((match d.mode.req with | some r => r.target == 6 | none => false) && !d.cfg.cells.isEmpty)

end Sys2Proof.Machine
end

