-- ==== Sys2Proof/Machine/Binding.lean ====
section
/-! DEFINITION. Binding of cells to equaliser engines (05_transform_and_equaliser.md, R142, R148) and what Almanac does
when a unit fails (09_almanac_scheduler.md, R247, R248). -/

namespace Sys2Proof.Machine

/-- Bytes of a tap store that footprints may use (R142). -/
def tapRoom : Nat := 2555904

/-- The footprints of a cell, one for each subband (R142); GSM/EDGE uses no equaliser engine. -/
def footprints (c : CellRec) : List Nat :=
  let one := fun (prbs : Nat) => ceilDiv (12 * prbs * (3 * c.ull * c.s + c.ull)) 4096 * 4096
  match c.type with
  | 5 => []
  | 3 => (List.range 4).map (fun k => one (subbandPrbs ((nRb 3 c.bw).getD 0) k))
  | t => [one ((nRb t c.bw).getD 0)]

/-- The bytes bound on an engine by some cells. -/
def boundBytes (cs : List Cell) (e : Nat) : Nat :=
  (cs.flatMap (fun c => (c.engines.zip (footprints c.cr)).filter (fun p => p.1 == e))).foldl (fun n p => n + p.2) 0

/-- An engine may be bound: PRESENT, not host-held (R142). -/
def Dev.bindable (d : Dev) (e : Nat) : Bool :=
  d.present 4 e && !(d.dom (0x310 + e)).hostHeld && !d.alm.pool[unitIdx 4 e].failing

/-- The lowest engine with room for a footprint beside what `cs` and `mine` bind: one that holds no subband of the cell, as each
has its own engine, else one that does, so that every configuration of R30 binds (R142; DEDUCED, log entry 33). -/
def Dev.engineFor (d : Dev) (cs : List Cell) (mine : List (Nat × Nat)) (n : Nat) : Option Nat :=
  let own := fun (e : Nat) => ((mine.filter (fun p => p.1 == e)).map (fun p => p.2)).sum
  let fits := (List.range 16).filter (fun e => d.bindable e && decide (boundBytes cs e + own e + n ≤ tapRoom))
  match fits.find? (fun e => own e == 0) with
  | some e => some e
  | none => fits.head?

/-- First fit of a cell's footprints, subband by subband. -/
def Dev.placeCell (d : Dev) (cs : List Cell) : List Nat → List (Nat × Nat) → Option (List (Nat × Nat))
  | [], mine => some mine
  | n :: rest, mine =>
    match d.engineFor cs mine n with
    | some e => d.placeCell cs rest (mine ++ [(e, n)])
    | none => none

/-- Bind cells one after the other beside those already bound; none where one finds no room. -/
def Dev.placeAll (d : Dev) : List Cell → List Cell → Option (List Cell)
  | _, [] => some []
  | done, c :: rest =>
    match d.placeCell done (footprints c.cr) [] with
    | none => none
    | some m =>
      let c' := { c with engines := m.map (fun p => p.1) }
      (d.placeAll (done ++ [c']) rest).map (fun cs => c' :: cs)

/-- Bind a cell (R142): first fit, and where no engine has room the LTE carriers are moved to make it: the cell is placed
without them and they follow in the order of the cell list (log entry 33). None where the cell does not bind. -/
def Dev.bindCell (d : Dev) (cs : List Cell) (c : Cell) : Option (List Cell) :=
  let others := cs.filter (fun x => x.cr.cell != c.cr.cell)
  let put := fun (moved : List Cell) => cs.map (fun x => (moved.find? (fun y => y.cr.cell == x.cr.cell)).getD x)
  match d.placeAll others [c] with
  | some m => some (put m)
  | none =>
    let lte := others.filter (fun x => x.cr.type == 4 && !x.engines.isEmpty)
    let rest := others.filter (fun x => !(x.cr.type == 4 && !x.engines.isEmpty))
    (d.placeAll rest (c :: lte)).map put

/-- Where the status word of an equaliser descriptor lies (Tables 5.9, 5.10). -/
def Dev.eqStat (d : Dev) (j : Job) : Nat := d.descField j (if d.descField j 0 1 = 1 then 48 else 32) 8

/-- A job that has lost its engine completes with NO_ENGINE, code 0x13 of Table 5.7 (R148); an EST has no FOFS, and it alone
has a DONE_TICK (Tables 5.11, 5.12). -/
def Dev.noEngine (d : Dev) (j : Job) : Dev :=
  let rest := if d.descField j 0 1 = 1 then bytesOf 4 0x8000 ++ bytesOf 4 (d.time.tick.toNat % 2 ^ 32) else bytesOf 8 0
  let word := bytesOf 8 0x13 ++ rest
  let d1 : Dev := { d with mem := d.mem.ifWrite (d.eqStat j) word }
  let m := (d1.dropDeferred j.id).measure { j with deferred := [] }
  m.1.finishJob m.2 0x13 0

/-- Move the subbands bound to a lost engine to engines with room (R148); 0xFF marks one that found none. -/
def Dev.rebindFrom (d : Dev) (e : Nat) : Dev :=
  d.cfg.cells.foldl (fun d c0 =>
    match d.cell? c0.cr.cell with
    | none => d
    | some c =>
      if !c.engines.contains e then d
      else
        let kept := c.engines.map (fun x => if x = e then 0xFF else x)
        let fp := footprints c.cr
        let others := d.cfg.cells.filter (fun x => x.cr.cell != c.cr.cell)
        let mine := ((kept.zip fp).filter (fun p => p.1 != 0xFF))
        let engines := (kept.zip fp).foldl (fun (acc : List Nat × List (Nat × Nat)) p =>
          if p.1 != 0xFF then (acc.1 ++ [p.1], acc.2)
          else match d.engineFor others acc.2 p.2 with
            | some n => (acc.1 ++ [n], acc.2 ++ [(n, p.2)])
            | none => (acc.1 ++ [0xFF], acc.2)) (([] : List Nat), mine)
        d.updCell c.cr.cell (fun x => { x with engines := engines.1 })) d

/-- The ESTs of an engine that failed run again on the engines their cells are now bound to, where APPLYs of their slots remain
(R148): copies of the completed jobs, without a link. The failed engine keeps no taps. -/
def Dev.rerunEsts (d : Dev) (e : Nat) : Dev :=
  let sets := d.eng.taps.toList.getD e []
  let d1 : Dev := { d with eng := { d.eng with taps := Vector.ofFn (fun i => if i.val = e then [] else d.eng.taps[i]) } }
  sets.foldl (fun d t =>
    let j := t.est
    let left := d.alm.jobs.any (fun x => x.pool == 4 && x.cell == j.cell && x.serves == j.serves && x.st != .complete
      && d.descField x 0 1 == 2 && d.eqSubband x == d.eqSubband j)
    let held := d.alm.jobs.any (fun x => x.id == j.id)
    if !left || held || (d.boundEngine j).isNone then d
    else
      let p := d.newId
      let again : Job := { j with id := p.1, st := .waiting, link := 0, proc := false, started := false, redisp := true, runat := 0xFF
                                  aslot := false, paused := false, deferred := [] }
      (p.2.onAlm (fun a => { a with jobs := a.jobs ++ [again] })).makeReady p.1 false) d1

/-- Mark a unit FAILING and handle its jobs (R247, F1 and F2; R248): an equaliser's cells are rebound first, and jobs of a
cell that finds no engine complete with NO_ENGINE. -/
def Dev.failUnit (d : Dev) (c s : Nat) : Dev :=
  let d1 := d.onAlm (fun a => { a with pool := a.pool.set (unitIdx c s) { a.pool[unitIdx c s] with failing := true } })
  let d2 := if c = 1 then
      let ds := d1.alm.deliveries.filter (fun x => x.core == s)
      ds.foldl (fun d x => d.withdraw x false) d1
    else if c = 4 then d1.rebindFrom s
    else d1
  let d3 := (d2.alm.heldBy c s).foldl Dev.redispatch d2
  if c = 4 then
    ((d3.rerunEsts s).alm.jobs.filter (fun j => j.pool == 4 && (j.st == .waiting || j.st == .ready) && (d3.cell? j.cell).isSome
      && (d3.boundEngine j).isNone)).foldl Dev.noEngine (d3.rerunEsts s)
  else d3

end Sys2Proof.Machine
end

