-- ==== Sys2Proof/Machine/Power.lean ====
section
/-! DEFINITION. Power domains: requests, stopping, waking, pads (19_power_domains.md, R458 to R474, R541) and the NI
shells that open and close with them (10_ringroad.md, R275 to R278). -/

namespace Sys2Proof.Machine

/-- The NIs of a domain (Table 10.1). -/
def domNis (code : Nat) : List Nat :=
  let i := code % 256
  match code / 256 with
  | 1 => [i] | 3 => [128 + i] | 4 => [200 + i] | 5 => [232 + i] | 6 => [240 + i]
  | 7 => (List.range 4).map (fun q => 224 + 4 * i + q) | 8 => [244] | 9 => [245 + i] | 12 => [192 + i] | _ => []

/-- Set the shells of a domain's NIs; a shell in ABSENT stays so. -/
def Dev.setShells (d : Dev) (code : Nat) (s : Shell) : Dev :=
  (domNis code).foldl (fun d k => d.updNi k (fun n => if n.shell = .absent then n else { n with shell := s })) d

/-- A shell in CLOSING with nothing outstanding is CLOSED (R277): every response to it has arrived and every request it
took has its answer on the way. -/
def Dev.settleNi (d : Dev) (k : Nat) : Dev :=
  d.updNi k (fun n =>
    if n.shell = .closing ∧ n.trans.isEmpty ∧ !(d.ring.answers.any (fun a => a.target == k)) then { n with shell := .closed } else n)

/-- The pad groups of Table 19.1. -/
def domPads (code : Nat) : Bool :=
  code / 256 == 5 || code / 256 == 6 || code / 256 == 8 || decide (0x904 ≤ code ∧ code ≤ 0x907)

/-- The essential domains that are switched (R459). -/
def domEssential (code : Nat) : Bool := code == 0x700 || code == 0x800

/-- Whether the host may ask for a change of a domain from a channel (R465, Table 19.1). -/
def domHostRange (code : Nat) (run : Bool) (chan : Nat) : Bool :=
  domSwitched code && code / 256 != 9 && !(code == 0x700 && !run) && !(code == 0x800 && chan == 0)

/-- Whether a lane is DISABLED: PERS 0 in its record, or the lane is not PRESENT (R318, R541). -/
def Dev.laneDisabled (d : Dev) (l : Nat) : Bool := !d.present 13 l || pf (d.cfg.lanes.toList.getD l []) 0 1 % 4 == 0

/-- Whether a port is enabled by its record (Table 15.1). -/
def Dev.portEnabled (d : Dev) (p : Nat) : Bool := bitAt (pf (d.cfg.ports.toList.getD p []) 0 1) 0

/-- Whether the HARQ area touches HBM stack 1 (Table 19.1). -/
def Dev.harqOnStack1 (d : Dev) : Bool :=
  d.mem.harqSize != 0 && decide (0xC00000000 < d.mem.harqBase.toNat + d.mem.harqSize.toNat)

/-- The structural condition of Table 19.1 for a Stop (R465). -/
def Dev.stopAllowed (d : Dev) (code : Nat) : Bool :=
  let i := code % 256
  match code / 256 with
  | 3 => !(accelUnit i).1 == 4 || !(d.cfg.cells.any (fun c => c.engines.contains (accelUnit i).2))
  | 5 => (List.range 4).all (fun k => d.laneDisabled (4 * i + k))
  | 6 => !d.portEnabled i
  | 7 => !(d.harqOnStack1 && d.anyInService)
  | _ => true

/-- UNIT_ABSENT naming a domain's first unit. -/
def errDomain (code : Nat) : ChErr :=
  let u := (domUnits code).headD (0, 0)
  { status := stUnitAbsent, unit := 256 * u.1 + u.2 }

/-- UNIT_ABSENT for a domain none of whose units is PRESENT (R9). -/
def Dev.domAbsent (d : Dev) (code : Nat) : Option ChErr := if d.domPresent code then none else some (errDomain code)

/-- The check of a request when it is accepted (R465): a status and reason, or none. -/
def Dev.domCheck (d : Dev) (code : Nat) (run : Bool) : Option ChErr :=
  if let some e := d.domAbsent code then some e
  else if (d.dom code).st == .failed || (d.dom code).st == .absent then some (errDomain code)
  else if !run && !d.stopAllowed code then some errDepends
  else if run && code / 256 == 2 && !d.domRun (code - 0x100)
      && !((d.dom (code - 0x100)).cur.any (fun r => r.run)) then some errDepends
  else none

/-- A completion reaches its source (R463): the host its reply, Almanac its count, an MXC its state (R121). -/
def Dev.domDone (d : Dev) (src : ReqSource) (status : Nat) : Dev :=
  match src with
  | .host chan seq => d.complete chan seq status (if status < 0x100 then [] else errDetail 0xFFFF 0 0 0)
  | .almanac => d.onAlm (fun a => { a with wakeOutcomes := a.wakeOutcomes + 1 })
  | .mxc k => d.updCore k (fun c => { c with mxc := { c.mxc with wakePosted := false } })
  | .control => d

/-- Whether a targeted test of one of the domain's units runs (R468). -/
def Dev.domTesting (d : Dev) (code : Nat) : Bool := (domUnits code).any (fun u => (d.unit u.1 u.2).testing)

/-- Whether a domain's units are in an Almanac pool. -/
def domPooled (code : Nat) : Bool := code / 256 == 1 || code / 256 == 3

/-- Whether a domain that is stopping has nothing left to wait for (R467, S2); of a core that fails only that it holds no job
(R468). -/
def Dev.domDrained (d : Dev) (code : Nat) : Bool :=
  let i := code % 256
  match code / 256 with
  | 1 =>
    let x := (d.dom (0x200 + i)).st
    (if (d.alm.pool[unitIdx 1 i]).failing then (d.alm.heldBy 1 i).isEmpty else d.unitIdle 1 i)
      && (!d.present 2 i || x == .stop || x == .failed || x == .absent)
  | 2 => (d.core i).mxc.queue.isEmpty
  | 3 => d.unitIdle (accelUnit i).1 (accelUnit i).2
  | _ => true

/-- S2 is done: the shells close (R467, S3); the PCIe port loses its link. -/
def Dev.domClose (d : Dev) (code : Nat) : Dev :=
  let d0 := d.updDom code (fun x => { x with step := .closing })
  let d1 := if code = 0x800 then d0.linkLost else d0.setShells code .closing
  (domNis code).foldl Dev.settleNi d1

/-- Begin the request in progress (R463, R466, R467, R469); one that asks for the state held is complete at once. -/
def Dev.domBegin : Nat → Nat → Dev → Dev
  | 0, _, d => d
  | n + 1, code, d =>
    match (d.dom code).cur with
    | none => d
    | some r =>
      let x := d.dom code
      if (r.run && x.st == .run) || (!r.run && x.st == .stop) then
        let d1 := (d.updDom code (fun x => { x with cur := x.pend, pend := none })).domDone r.src 0
        Dev.domBegin n code d1
      else if r.run then
        let d1 := d.updDom code (fun x => { x with st := .waking, step := .waitSlot, attempts := 0, retry := 0 })
        { d1 with power := { d1.power with waiting := d1.power.waiting ++ [code] } }
      else
        let d1 := d.updDom code (fun x => { x with st := .stopping, step := .drain })
        let d2 := if domPooled code then (domUnits code).foldl (fun d u => d.leaveUnit u.1 u.2) d1 else d1
        let m := 0x200 + code % 256
        let d3 := if code / 256 = 1 ∧ d2.present 2 (code % 256) ∧ (d2.dom m).st ≠ .stop then
            match (d2.dom m).cur with
            | none => Dev.domBegin n m (d2.updDom m (fun x => { x with cur := some ⟨false, .control⟩ }))
            | some _ =>
              let d4 := match (d2.dom m).pend with | some p => d2.domDone p.src stSuperseded | none => d2
              d4.updDom m (fun x => { x with pend := some ⟨false, .control⟩ })
          else d2
        if !domPooled code && d3.domDrained code then d3.domClose code else d3

/-- A request enters the protocol (R463): in progress at once, or pending in place of the one that was. -/
def Dev.domEnter (d : Dev) (code : Nat) (r : DomReq) : Dev :=
  match (d.dom code).cur with
  | none =>
    if d.domTesting code then d.updDom code (fun x => { x with pend := some r })
    else Dev.domBegin 4 code (d.updDom code (fun x => { x with cur := some r }))
  | some _ =>
    let d1 := match (d.dom code).pend with | some p => d.domDone p.src stSuperseded | none => d
    d1.updDom code (fun x => { x with pend := some r })

/-- An implicit request (R463, R464, R465). -/
def Dev.domImplicit (d : Dev) (code : Nat) (run : Bool) (src : ReqSource) : Dev :=
  if run && (d.dom code).hostHeld then d.domDone src stStopped
  else match d.domCheck code run with
    | some e => d.domDone src e.status
    | none => d.domEnter code ⟨run, src⟩

/-- The request in progress is complete; the pending one follows (R463). -/
def Dev.domFinish (d : Dev) (code status : Nat) : Dev :=
  let x := d.dom code
  let d1 := d.updDom code (fun x => { x with step := .none, cur := x.pend, pend := none })
  let d2 := match x.cur with | some r => d1.domDone r.src status | none => d1
  if d2.domTesting code then d2 else Dev.domBegin 4 code d2

/-- A stopping domain whose shells are CLOSED enters retention (R467, S4 to S6; R472). -/
def Dev.domStopped (d : Dev) (code : Nat) : Dev :=
  let d0 := if !domPooled code && (d.dom code).step == .drain && d.domDrained code then d.domClose code else d
  let closed := (domNis code).all (fun k => (d0.niRec k).shell != .closing)
  if (d0.dom code).st = .stopping ∧ (d0.dom code).step = .closing ∧ closed then
    let d1 := d0.updDom code (fun x => { x with st := .stop, padLatch := domPads code || x.padLatch })
    let d2 := if domPooled code then (domUnits code).foldl (fun d u =>
        d.onAlm (fun a => { a with pool := a.pool.set (unitIdx u.1 u.2) {} })) d1 else d1
    d2.domFinish code 0
  else d

/-- A stopping unit has drained (R247, L4): its shell goes on to CLOSING. -/
def Dev.domDrain (d : Dev) (code : Nat) : Dev :=
  if (d.dom code).st = .stopping ∧ (d.dom code).step = .drain ∧ d.domDrained code then d.domClose code else d

/-- A waiting wake gets a ramp slot (R469, W2): the first in order of acceptance, at most 16 at a time. -/
def Dev.rampGrant (d : Dev) : Dev :=
  match d.power.waiting with
  | [] => d
  | code :: rest =>
    if 16 ≤ d.power.ramping.length then d
    else ({ d with power := { d.power with waiting := rest, ramping := d.power.ramping ++ [code] } } : Dev).updDom code
      (fun x => { x with step := .ramp })

/-- Power-good and, where needed, PLL lock arrive: W4 to W7 (R469); a core goes on in WAIT, an MXC has reached Run. -/
def Dev.domPowerGood (d : Dev) (code : Nat) : Dev :=
  if (d.dom code).step ≠ .ramp then d
  else
    let d1 := d.updDom code (fun x => { x with st := .run, retry := x.attempts })
    let d2 := { d1 with power := { d1.power with ramping := d1.power.ramping.erase code } }
    let d3 := if code = 0x800 then d2.settleHost else d2.setShells code .open_
    let d4 := if code / 256 = 2 then
        d3.updCore (code % 256) (fun c => { c with mxc := { c.mxc with started := true } })
      else d3
    d4.domFinish code 0

/-- Mark a unit FAILED at the next boundary (R11, R470). -/
def Dev.markFailed (d : Dev) (c s : Nat) : Dev := d.updUnit c s (fun u => { u with markFail := true })

/-- The class and slot a health event about a domain names (R541). -/
def domEventUnit (code : Nat) : Nat × Nat := (domUnits code).headD (0, 0)

/-- No power-good within 2 ms of W2 (R470, R471): the attempt fails, the third fails the domain. -/
def Dev.wakeFailed (d : Dev) (code : Nat) : Dev :=
  if (d.dom code).step ≠ .ramp then d
  else
    let u := domEventUnit code
    let n := (d.dom code).attempts + 1
    let d1 := { d with power := { d.power with ramping := d.power.ramping.erase code } }
    let d2 := (domUnits code).foldl (fun d u => if d.present u.1 u.2 then d.charge u.1 u.2 16 false else d) d1
    let lvl := (d2.unit u.1 u.2).level
    if n < 3 then
      (d2.updDom code (fun x => { x with step := .retryWait, attempts := n, retry := n })).healthEvent
        { hkind := 0x0018, action := 1, cls := u.1, slot := u.2, domain := code, level := lvl }
    else
      let x := d2.dom code
      let d3 := d2.updDom code (fun x => { x with st := .failed, step := .none, attempts := n, cur := none, pend := none })
      let d4 := match x.cur with | some r => d3.domDone r.src stTimeout | none => d3
      let d5 := match x.pend with | some r => d4.domDone r.src stUnitAbsent | none => d4
      let d6 := (domUnits code).foldl (fun d u => d.markFailed u.1 u.2) d5
      let d7 := d6.healthEvent { hkind := 0x0019, action := 0, cls := u.1, slot := u.2, domain := code, level := lvl }
      if domEssential code ∧ modeServes d7.mode.mode then { d7 with health := { d7.health with essentialDue := true } } else d7

/-- 100 µs after a failed attempt W2 runs again (R470); it waits where all 16 ramp slots are taken. -/
def Dev.wakeRetry (d : Dev) (code : Nat) : Dev :=
  if (d.dom code).step ≠ .retryWait then d
  else if 16 ≤ d.power.ramping.length then
    ({ d with power := { d.power with waiting := code :: d.power.waiting } } : Dev).updDom code (fun x => { x with step := .waitSlot })
  else
    ({ d with power := { d.power with ramping := d.power.ramping ++ [code] } } : Dev).updDom code (fun x => { x with step := .ramp })

/-- DOMAIN_REQUEST (R463 to R466): the check, HOSTHELD, and the request in progress or pending. -/
def bodyDomainRequest (chan : Nat) (seq : Word) (d : Dev) (p : List Byte) : Ans :=
  let code := pf p 0 2
  let run := pf p 2 1 == 1
  if 1 < pf p 2 1 then .err (errRange 2)
  else if !domHostRange code run chan then .err (errRange 0)
  else match d.domCheck code run with
    | some e => .err e
    | none =>
      let d1 := d.updDom code (fun x => { x with hostHeld := !run })
      let x := d1.dom code
      if x.cur.isNone ∧ ((run ∧ x.st = .run) ∨ (!run ∧ x.st = .stop)) then .ok d1 []
      else .hold (d1.domEnter code ⟨run, .host chan seq⟩) p

/-- RELEASE_PADS (R473). -/
def bodyReleasePads (chan : Nat) (d : Dev) (p : List Byte) : Ans :=
  let code := pf p 0 2
  if !domSwitched code ∨ !domPads code ∨ (code = 0x800 ∧ chan = 0) then .err (errRange 0)
  else if let some e := d.domAbsent code then .err e
  else if !d.domRun code then .err { status := stStopped }
  else .ok (d.updDom code (fun x => { x with padLatch := false })) []

/-- The 8-byte status record of a domain (Table 19.7). -/
def Dev.domRecord (d : Dev) (code : Nat) : List Byte :=
  if code = 0x0A00 ∨ code = 0x0B00 then
    let test := code = 0x0B00 ∧ ((d.unit 15 0).testing ∨ (d.unit 15 1).testing)
    bytesOf 2 code ++ [1] ++ bytesOf 1 (if test then 24 else 8) ++ bytesOf 1 d.slack.band ++ bytesOf 1 d.slack.bias ++ [0, 0]
  else
    let x := d.dom code
    let absent := (!(domUnits code).isEmpty) && (domUnits code).all (fun u => (d.unit u.1 u.2).st == .absent)
    let st : Nat := if absent then 5 else match x.st with
      | .stop => 0 | .run => 1 | .waking => 2 | .stopping => 3 | .failed => 4 | .absent => 5
    bytesOf 2 code ++ bytesOf 1 st
      ++ bytesOf 1 (boolNat x.padLatch + 2 * boolNat x.hostHeld + 4 * boolNat x.pend.isSome + 8 * boolNat (domEssential code)
          + 16 * boolNat (d.domTesting code))
      ++ bytesOf 1 (if x.st = .run then d.slack.band else 3) ++ bytesOf 1 (if x.st = .run then d.slack.bias else 0)
      ++ bytesOf 1 x.retry ++ [0]

end Sys2Proof.Machine
end

