-- ==== Sys2Proof/Machine/Sources.lean ====
section
/-! DEFINITION. What ends with a port's link: PTP as a source of time (02_timing_and_deadlines.md, R43; 15_ethernet_and_host_port.md,
R375) and the port's management channels (R376). -/

namespace Sys2Proof.Machine

/-- The source in use (R43, R546): 1 PPS, 2 PTP, 3 host, 0 none. -/
def TimeState.used (t : TimeState) : Nat :=
  let pps := t.sel.getLsbD 0 && t.ppsDelivering
  let ptp := t.sel.getLsbD 1 && t.ptpDelivering
  if pps && (!ptp || decide (t.prio.toNat % 4 ≤ t.prio.toNat / 4 % 4)) then 1
  else if ptp then 2 else if t.sel.getLsbD 2 then 3 else 0

/-- PTP has been locked for 64 s (R43). -/
def TimeState.ptpLocked (t : TimeState) : Bool :=
  t.ptpDelivering && (match t.ptpSince with | some a => decide (64 * secondTc ≤ airAhead a t.air) | none => false)

/-- SRC follows the source in use. -/
def TimeState.setSrc (t : TimeState) : TimeState := { t with src := BitVec.ofNat 2 t.used }

/-- LOCKED goes to HOLDOVER where no other selected source is LOCKED (R43). -/
def TimeState.lose (t : TimeState) (otherLocked : Bool) : TimeState :=
  let t1 := t.setSrc
  if t1.tq = .locked ∧ !otherLocked then { t1 with tq := .holdover } else t1

/-- Time quality left LOCKED: the TIME alert (Table 22.5), and the PM second is suspect (R354). -/
def Dev.timeAlert (d before : Dev) : Dev :=
  if before.time.tq = .locked ∧ d.time.tq ≠ .locked then ({ d with time := { d.time with unlocked := true } } : Dev).raiseAlert 13 else d

/-- A field of a port's record (Table 15.1). -/
def Dev.portField (d : Dev) (p off n : Nat) : Nat := pf (d.cfg.ports.toList.getD p []) off n

/-- A role of a port's record (Table 15.1). -/
def Dev.portRole (d : Dev) (p bit : Nat) : Bool := d.portEnabled p && bitAt (d.portField p 3 1) bit

/-- A port whose PTP the timing unit serves: enabled, PTP role, link up, its domain in Run. -/
def Dev.ptpUp (d : Dev) (p : Nat) : Bool := d.portRole p 1 && (d.ethPort p).link && d.domRun (0x600 + p) && !(d.dom (0x600 + p)).padLatch

/-- The PTP port in use: the SLAVE port of the best PTPPRIO, the lowest index among equals (R546). -/
def Dev.ptpBest (d : Dev) : Option Nat :=
  ((List.range 4).filter (fun p => d.ptpUp p && (d.ethPort p).ptp == 2)).foldl (fun best p =>
    match best with
    | none => some p
    | some b => if d.portField p 12 1 < d.portField b 12 1 then some p else best) none

/-- PTP no longer delivers through a port (R43, R375): announce timeout or loss of its link. -/
def Dev.ptpLost (d : Dev) (p : Nat) (st : Nat) : Dev :=
  let was := d.time.used
  let best := d.ptpBest
  let d1 := d.updEth p (fun e => { e with ptp := st, sync2 := none, masterToSlave := none, pathDelay := none, reqOut := none })
  if best ≠ some p ∨ d1.ptpBest.isSome then d1
  else
    let t : TimeState := { d1.time with ptpDelivering := false, ptpSince := none, disagree := 0 }
    ({ d1 with time := if was = 2 then t.lose (t.sel.getLsbD 0 && t.ppsDelivering && decide (16 ≤ t.ppsGood)) else t.setSrc } : Dev).timeAlert d

/-- The channels of a port's management peers (R376). -/
def portChans (p : Nat) : List Nat := (List.range 4).map (fun i => 1 + 4 * p + i)

/-- Management channels close (R376): frames for them are gone, and a stage that one of them owns is discarded (R403). -/
def Dev.closeChans (d : Dev) (cs : List Nat) : Dev :=
  let d1 := cs.foldl (fun d c => d.updChan c (fun x => { x with opened := false })) d
  let d2 : Dev := { d1 with chiop := { d1.chiop with mgmtOut := d1.chiop.mgmtOut.filter (fun m => !cs.contains m.chan)
                                                     mgmtIn := d1.chiop.mgmtIn.filter (fun c => !cs.contains c) } }
  match d2.chiop.owner with
  | some o => if cs.contains o then d2.dropStage else d2
  | none => d2

/-- A port's link goes down (R375, R376): PTP is lost there, its management channels close, what waits to be sent is gone. -/
def Dev.portDown (d : Dev) (p : Nat) : Dev :=
  let d1 := if d.portRole p 1 && (d.ethPort p).link then d.ptpLost p 1 else d
  (d1.updEth p (fun e => { e with link := false, an := false, queue := [] })).closeChans (portChans p)

end Sys2Proof.Machine
end

