-- ==== Sys2Proof/Machine/Health.lean ====
section
/-! DEFINITION. Device health: self-tests, leaky buckets, unit states at a boundary, replacement (20_thermal_and_health.md,
R492 to R503; 00_scope.md, R11; 09_almanac_scheduler.md, R247; 12_memory.md, R308). -/

namespace Sys2Proof.Machine

/-- Every unit slot of Table 0.5 in class record order. -/
def allUnits : List (Nat × Nat) :=
  (List.range 15).flatMap (fun c => (List.range (classSlots (c + 1))).map (fun s => (c + 1, s)))

/-- Mark a unit for retirement at the next boundary (R11). -/
def Dev.markRetired (d : Dev) (c s : Nat) : Dev := d.updUnit c s (fun u => { u with markRetire := true })

/-- The classes whose test keeps the unit in service (Table 20.7). -/
def testInService (c : Nat) : Bool := c == 2 || c == 10 || c == 11 || c == 12 || c == 13

/-- The tests that run (R497). -/
def Dev.testsRunning (d : Dev) : List (Nat × Nat) := allUnits.filter (fun u => (d.unit u.1 u.2).testing)

/-- The test of a working lane of a protection group waits until FAIL has been sent for 4 frames (R344). -/
def Dev.laneTestWaits (d : Dev) (l : Nat) : Bool :=
  let r := d.cfg.lanes.toList.getD l []
  pf r 0 1 == 1 && !(d.cfg.groups.toList.getD (pf r 2 1) []).isEmpty && pf r 3 1 != 0
    && decide ((d.link.lane.toList.getD l {}).rx.testFrames < 4)

/-- Units that cannot be retired (R496): control cores 0 and 1. -/
def neverRetired (c s : Nat) : Bool := c == 15 && decide (s < 2)

/-- Whether a unit can be tested at all beside the others: an always-on control core needs the other one (R496). -/
def Dev.testable (d : Dev) (u : Nat × Nat) : Bool := !(neverRetired u.1 u.2) || !d.health.idle.getLsbD (1 - u.2)

/-- Whether a test of a unit may start now (R497): its domain in Run, fewer than 4 tests, none of its class; in M10 the
limits are those of R427. An MXC's waits until its queue has drained (R118). A core and its MXC are one test. -/
def Dev.testCanStart (d : Dev) (u : Nat × Nat) : Bool :=
  let run := d.testsRunning.filter (fun x => x.1 != 2 || !(d.unit 1 x.2).testing)
  let dom := unitDomain u.1 u.2
  (dom == 0x0B00 || d.domRun dom) && d.present u.1 u.2 && ((u.1 != 1 && u.1 != 2) || (d.core u.2).mxc.queue.isEmpty)
    && !(u.1 == 13 && d.laneTestWaits u.2) && d.testable u && !(neverRetired u.1 u.2 && (d.unit 15 (1 - u.2)).testing)
    && (if d.mode.mode = 10 then
          (u.1 != 1 || decide ((run.filter (fun x => x.1 == 1)).length < 16))
            && ((u.1 != 10 && u.1 != 11) || decide ((run.filter (fun x => x.1 == 10 || x.1 == 11)).length < 8))
        else decide (run.length < 4) && !(run.any (fun x => x.1 == u.1)))

/-- A line under loopback has no link: an Ethernet port goes down, a lane in ETHERNET personality hunts (Table 20.7, R349). -/
def Dev.lineDown (d : Dev) (c s : Nat) : Dev :=
  if c = 14 then d.portDown s
  else if c = 13 ∧ pf (d.cfg.lanes.toList.getD s []) 0 1 = 2 then
    { d with link := { d.link with lane := Vector.ofFn (fun i =>
        if i.val = s then { d.link.lane[i] with rx := { d.link.lane[i].rx with align := .hunt } } else d.link.lane[i]) } }
  else d

/-- Start a test (R495): a unit whose test needs it out of service leaves its pool by F1 and F2; a core's MXC is under
test with it; the link of an Ethernet line goes down. -/
def Dev.testStart (d : Dev) (u : Nat × Nat) (rolling : Bool) : Dev :=
  let d1 := d.updUnit u.1 u.2 (fun x => { x with testing := true, queued := false, rolling := rolling })
  let d2 := if testInService u.1 ∨ 14 ≤ u.1 then d1 else d1.failUnit u.1 u.2
  let d3 := if u.1 = 1 then d2.updUnit 2 u.2 (fun x => { x with testing := d2.present 2 u.2 }) else d2.lineDown u.1 u.2
  d3.healthEvent { hkind := 0x0020, action := 2, cls := u.1, slot := u.2, domain := unitDomain u.1 u.2
                   level := (d3.unit u.1 u.2).level }

/-- Start every queued test that may start, in the order found (R497). -/
def Dev.startTests (d : Dev) : Dev :=
  d.health.testQueue.foldl (fun d u =>
    if d.testCanStart u then
      ({ d with health := { d.health with testQueue := d.health.testQueue.erase u } } : Dev).testStart u false
    else d) d

/-- A signal core as at start (R63, Table 20.7): registers and local memory cleared. -/
def Dev.freshCore (d : Dev) (k : Nat) : Dev :=
  let d1 := d.updCore k (fun c => { ({} : Core) with mxc := { c.mxc with queue := [] } })
  { d1 with mem := d1.mem.clearRange (k * 0x80000) 0x60000 }

/-- An MXC after a passing test (R118): elements and E 0, P set, F clear, the late-error record kept. -/
def Mxc.afterTest (x : Mxc) : Mxc := { x with regs := Vector.replicate 16 { p := true }, testDue := false }

/-- What a passing test leaves behind (Table 20.7). -/
def Dev.testRestores (d : Dev) (c s : Nat) : Dev :=
  match c with
  | 1 => (d.freshCore s).updCore s (fun k => { k with mxc := k.mxc.afterTest })
  | 2 => d.updCore s (fun k => { k with mxc := k.mxc.afterTest })
  | _ => d

/-- The held SELFTEST_RUN of a unit: its channel and sequence. -/
def Dev.heldTest (d : Dev) (c s : Nat) : Option (Nat × Word) :=
  (List.range 17).findSome? (fun ch =>
    ((d.chan ch).held.find? (fun h => h.op == 0x0602 && pf h.params 0 1 == c && pf h.params 1 1 == s)).map (fun h => (ch, h.seq)))

/-- An always-on control core is idle from now on (R496): the SPARES condition; with both of them Chiop service ends. -/
def Dev.loseAon (d : Dev) (s : Nat) : Dev :=
  { d with health := { d.health with idle := d.health.idle ||| (1 <<< s), sparesDue := true, replaceUnit := (15, s) } }

/-- A unit that a test has found unfit is RETIRED at the next boundary (R495), an always-on control core is idle (R496). -/
def Dev.unfit (d : Dev) (c s : Nat) : Dev := if neverRetired c s then d.loseAon s else d.markRetired c s

/-- Spare rows used of an array of a unit (R308). -/
def HealthState.sparesUsed (h : HealthState) (c s array : Nat) : Nat :=
  ((h.spares.find? (fun x => x.1 == 65536 * (128 * c + s) + array)).map (fun x => x.2)).getD 0

/-- A faulty row of an array takes one of its 5 spare rows, if one is left (R308); the last raises SPARES (R500). -/
def HealthState.remapRow (h : HealthState) (c s array : Nat) : HealthState :=
  let used := h.sparesUsed c s array
  let key := 65536 * (128 * c + s) + array
  if 5 ≤ used then h
  else
    let h1 : HealthState := { h with spares := (key, used + 1) :: h.spares.filter (fun x => x.1 != key) }
    if used = 4 then { h1 with sparesDue := true, replaceUnit := (c, s) } else h1

/-- Whether every faulty row that a test found has a spare row (R308). -/
def HealthState.rowsFit (h : HealthState) (c s : Nat) (rows : List Nat) : Bool :=
  rows.all (fun a => decide (h.sparesUsed c s a + rows.count a ≤ 5))

/-- The outcome of a test: one that found a row without a spare fails (R308). -/
def Dev.testOutcome (d : Dev) (c s : Nat) (rep : Sys2Proof.TestReport) : Sys2Proof.TestResult :=
  if d.health.rowsFit c s rep.rows then rep.result else .fail

/-- Rows remapped by a test (R308, R504): recorded in the event log and counted. -/
def Dev.noteRepair (d : Dev) (c s : Nat) (rows : List Nat) : Dev :=
  let d1 := d.logAdd 4 true (healthPayload d.stamp { hkind := 0x0020, action := 3, cls := c, slot := s, count := rows.length })
  { d1 with health := rows.foldl (fun h a => h.remapRow c s a) d1.health }

/-- The result of a test is taken (R493, R495, R496, R498, R308). -/
def Dev.testResult (d : Dev) (c s : Nat) (rep : Sys2Proof.TestReport) : Dev :=
  let cfg := d.health.leaky.toList.getD c {}
  let base := d.updUnit c s (fun u =>
    { u with testing := false, rolling := false, testEpoch := d.chiop.epoch, rate := rep.rate })
  let d0 := if c = 1 then base.updUnit 2 s (fun u => { u with testing := false }) else base
  let ev := fun (d : Dev) (a : Nat) => d.healthEvent
    { hkind := 0x0020, action := a, cls := c, slot := s, domain := unitDomain c s, level := (d.unit c s).level }
  let d1 := if rep.rows.isEmpty then d0 else d0.noteRepair c s rep.rows
  match d.testOutcome c s rep with
  | .pass =>
    let lvl := if c = 13 ∨ c = 14 then 0 else Nat.min 65535 ((d1.unit c s).level + cfg.passw)
    let d2 := (d1.updUnit c s (fun u =>
      { u with last := 1, level := lvl, transients := Nat.min 65535 (u.transients + 1) })).testRestores c s
    if cfg.retlvl ≤ lvl then
      ev (d2.unfit c s) 6
    else
      let p := d2.alm.pool[unitIdx c s]
      let p1 := { p with failing := false, joined := testInService c && p.joined }
      ev (d2.onAlm (fun a => { a with pool := a.pool.set (unitIdx c s) p1 })) 3
  | .fail =>
    let d2 := d1.updUnit c s (fun u => { u with last := 2 })
    ev (d2.unfit c s) 4
  | .slow => ev ((d1.updUnit c s (fun u => { u with last := 3 })).unfit c s) 5

/-- In M10 a unit has been tested by the device-wide pass (R427), a core's MXC with it; a SELFTEST_RUN of that MXC is then
its own test. -/
def Dev.passTested (d : Dev) (c s : Nat) : Dev :=
  let both := decide (c = 1) && d.mode.todo.contains (2, s)
  let d1 : Dev := { d with mode := { d.mode with todo := d.mode.todo.filter (fun u => u != (c, s) && !(both && u == (2, s)))
                                                 retired10 := d.mode.retired10 + boolNat (d.unit c s).markRetire } }
  if both && (d1.heldTest 2 s).isSome then d1.queueTest 2 s else d1

/-- SELFTEST_COMPLETE: the result, the reply of a SELFTEST_RUN (in M10 its own test follows that of the pass), a request
that waited for the test (R468), the progress of M10 and the next tests. -/
def Dev.testComplete (d : Dev) (c s : Nat) (rep : Sys2Proof.TestReport) : Dev :=
  if !(d.unit c s).testing then d
  else
    let d1 := d.testResult c s rep
    let d2 := match d1.heldTest c s with
      | some h => if d.mode.todo.contains (c, s) then d1.queueTest c s
        else d1.complete h.1 h.2 0 (bytesOf 1 (if d.testOutcome c s rep = Sys2Proof.TestResult.pass then 0 else 1))
      | none => d1
    let d3 := d2.passTested c s
    let code := unitDomain c s
    let d4 := match (d3.dom code).cur, (d3.dom code).pend with
      | none, some r => Dev.domBegin 4 code (d3.updDom code (fun x => { x with cur := some r, pend := none }))
      | _, _ => d3
    d4.startTests

/-- The units of the rolling schedule (R498): signal cores, then accelerators. -/
def rollingUnits : List (Nat × Nat) :=
  (List.range 128).map (fun s => (1, s)) ++ (List.range 64).map accelUnit

/-- Whether a unit's pool holds another eligible unit in Run with no job (R498). -/
def Dev.poolSpare (d : Dev) (u : Nat × Nat) : Bool :=
  let same := if u.1 = 1 then (List.range 16).map (fun k => u.2 / 16 * 16 + k) else List.range (classSlots u.1)
  same.any (fun k => k != u.2 && d.inPool u.1 k && d.domRun (unitDomain u.1 k) && d.unitIdle u.1 k)

/-- ROLLING_SELFTEST: the next unit of the schedule that can be taken starts its test; the schedule moves past it. -/
def Dev.rollingStep (d : Dev) : Dev :=
  if !([4, 5, 6, 7, 8].contains d.mode.mode) || !d.health.testQueue.isEmpty then d
  else
    let n := rollingUnits.length
    let order := (List.range n).map (fun k => (d.health.rolling + k) % n)
    match order.find? (fun k =>
      let u := rollingUnits.getD k (0, 0)
      d.present u.1 u.2 && !(d.unit u.1 u.2).testing && d.poolSpare u && d.testCanStart u) with
    | none => d
    | some k =>
      ({ d with health := { d.health with rolling := (k + 1) % n } } : Dev).testStart (rollingUnits.getD k (0, 0)) true

/-- The period of the rolling schedule in hours (R498). -/
def Dev.rollPeriod (d : Dev) : Nat := if d.slack.sinceShed.isSome then 1 else d.thermal.cfg.roll

/-- A whole second of air time (R493, R498, R503): buckets leak, merged events are posted. -/
def Dev.secondEdge (d : Dev) : Dev :=
  let leak := fun c => (d.health.leaky.toList.getD c {}).leak
  let units := Vector.ofFn (fun (i : Fin 2048) => { d.units[i] with level := d.units[i].level - leak (i.val / 128) })
  let links := d.health.links.map (fun l => (l.1, l.2 - leak 16))
  let since := match d.slack.sinceShed with | some n => if 86400 ≤ n + 1 then none else some (n + 1) | none => none
  ({ d with units := units, health := { d.health with links := links }
            slack := { d.slack with sinceShed := since } } : Dev).flushMerges

/-! ### Replacement -/

/-- Units in a state, in all classes. -/
def Dev.countState (d : Dev) (st : UnitState) : Nat := (allUnits.filter (fun u => (d.unit u.1 u.2).st == st)).length

/-- The payload of REPLACE_REQUEST (R501). -/
def Dev.replacePayload (d : Dev) : List Byte :=
  bytesOf 2 d.health.replaceCause ++ bytesOf 2 d.cuAvail ++ bytesOf 2 d.thermal.cfg.guarCu
    ++ bytesOf 1 d.health.replaceUnit.1 ++ bytesOf 1 d.health.replaceUnit.2 ++ bytesOf 8 d.stamp.toNat
    ++ bytesOf 2 (d.countState .retired) ++ bytesOf 2 (d.countState .failed) ++ bytesOf 2 d.health.repeatCount

/-- A replacement condition takes effect at its boundary (R500, R501); one that is latched already is not new. -/
def Dev.replaceCond (d : Dev) (cause : Nat) (u : Nat × Nat) : Dev :=
  if d.health.causes.contains cause then d
  else
    let d1 := { d with health := { d.health with service := true, causes := d.health.causes ++ [cause], replaceOut := true
                                                 repeatCount := 0, replaceCause := cause, replaceUnit := u
                                                 replaceAt := d.time.air } }
    (d1.post 0xF009 d1.replacePayload).alertSince d

/-- REPLACE_REQUEST repeats every 60 s until acknowledged (R501). -/
def Dev.replaceRepeat (d : Dev) : Dev :=
  if !d.health.replaceOut then d
  else
    let d1 := { d with health := { d.health with repeatCount := d.health.repeatCount + 1, replaceAt := d.time.air } }
    d1.post 0xF009 d1.replacePayload

/-! ### Unit states at a boundary -/

/-- A job that names only units that have left completes with NOUNIT (R247, N1). -/
def Dev.noUnitJobs (d : Dev) : Dev :=
  (d.alm.jobs.filter (fun j => (j.st == .waiting || j.st == .ready) && d.unitAbsent j.pool j.unit && j.cls < 3)).foldl
    (fun d j => d.endJob j.id 16) d

/-- Nothing to stop: the domain is no switched one, is not running, or still has a PRESENT lane (R541). -/
def Dev.domSwitchedOff (d : Dev) (code : Nat) : Bool :=
  !domSwitched code || !d.domRun code || (code / 256 == 5 && d.domPresent code)

/-- A unit that is no longer PRESENT: its test is forgotten and a SELFTEST_RUN of it completes, a class left with one unit
raises SPARES (R500), and its domain stops (R459). -/
def Dev.unitLeft (d : Dev) (c s : Nat) : Dev :=
  let d1 : Dev := { d with health := { d.health with testQueue := d.health.testQueue.erase (c, s) } }
  let d2 := match d1.heldTest c s with
    | some h => d1.complete h.1 h.2 stUnitAbsent (errDetail 0xFFFF 0 (256 * c + s) 0)
    | none => d1
  let d3 : Dev := if c ≤ 13 ∧ d2.presentCount c = 1 then { d2 with health := { d2.health with sparesDue := true, replaceUnit := (c, s) } }
    else d2
  if d3.domSwitchedOff (unitDomain c s) then d3 else d3.domEnter (unitDomain c s) ⟨false, .control⟩

/-- One marked unit takes its new state (R11): health events of both causes where both hold; its shell is ABSENT, its
domain stops. A core's marks pass to its MXC (Table 4.9), which `unitStates` takes after it: it takes its own state, with
the events of every cause that marks it. -/
def Dev.takeState (d : Dev) (c s : Nat) : Dev :=
  let u := d.unit c s
  if u.st ≠ .present ∨ (!u.markRetire ∧ !u.markFail) then d
  else
    let st : UnitState := if u.markFail then .failed else .retired
    let d1 := d.updUnit c s (fun x => { x with st := st, testing := false, queued := false })
    let d2 := if c = 1 ∧ d1.present 2 s then
        d1.updUnit 2 s (fun x => { x with markRetire := x.markRetire || u.markRetire, markFail := x.markFail || u.markFail })
      else d1
    let code := unitDomain c s
    let d3 := if c = 13 ∨ c = 2 then d2 else d2.setShells code .absent
    let d4 := d3.failUnit c s
    let ev := fun (d : Dev) (a : Nat) => d.healthEvent
      { hkind := 0x0021, action := a, cls := c, slot := s, domain := code, level := u.level }
    let d5 := if u.markRetire then ev d4 6 else d4
    let d6 := if u.markFail then ev d5 7 else d5
    d6.unitLeft c s

/-- Step 1 of R406: every marked unit. -/
def Dev.unitStates (d : Dev) : Dev := (allUnits.foldl (fun d u => d.takeState u.1 u.2) d).noUnitJobs

/-- Whether some unit is marked. -/
def Dev.anyMarked (d : Dev) : Bool :=
  allUnits.any (fun u => (d.unit u.1 u.2).st == .present && ((d.unit u.1 u.2).markRetire || (d.unit u.1 u.2).markFail))

/-- J1 and F5 of Table 9.13: units PRESENT and in Run join their pools at a boundary. -/
def Dev.joinPools (d : Dev) : Dev :=
  let join := fun (i : Fin 2048) =>
    let c := i.val / 128
    let s := i.val % 128
    let p := d.alm.pool[i]
    if (c = 1 ∨ (3 ≤ c ∧ c ≤ 9)) ∧ s < classSlots c ∧ !p.joined ∧ !p.failing ∧ !p.leaving ∧ d.present c s
        ∧ !(d.unit c s).testing ∧ d.domRun (unitDomain c s) then { p with joined := true } else p
  d.onAlm (fun a => { a with pool := Vector.ofFn join })

end Sys2Proof.Machine
end

