-- ==== Sys2Proof/Machine/Bins.lean ====
section
/-! DEFINITION. Bins of performance monitoring: local time, opening, closing, counting and alerts
(14_link_performance.md, R352 to R354, R357 to R368). -/

namespace Sys2Proof.Machine

/-- LEAP in force (R352): of the PTP announce messages while PTP is the source in use. -/
def TimeState.leapNow (t : TimeState) : Nat :=
  match t.ptpLeap with
  | some n => if t.used = 2 then n else t.leap.toNat
  | none => t.leap.toNat

/-- Local time of a GPS second, in seconds (R352). -/
def TimeState.local_ (t : TimeState) (gps : Int) : Int := gps - (t.leapNow : Nat) + 60 * t.tzofs.toInt

/-- The stamp of a GPS second. -/
def TimeState.secondStamp (t : TimeState) (gps : Int) : DWord :=
  t.stampAt ((gps * (secondTc : Nat) % (airWrap : Nat)).toNat)

/-! ### Opening and closing -/

/-- A bin that opens; `suspect` that time is not LOCKED at that moment (R354). -/
def PmState.newBin (p : PmState) (day : Bool) (start : DWord) (eth incomplete suspect : Bool) : PmBin × PmState :=
  ({ num := p.nextNum, start := start, incomplete := incomplete, suspect := suspect, day := day, eth := eth },
    { p with nextNum := p.nextNum + 1 })

/-- The quarter-hour bin ends: it becomes history record 1 and a fresh one opens (R360); `mark` sets TIME_SUSPECT on the one
that ends (R353). -/
def PmState.closeQuarter (p : PmState) (start : DWord) (eth early mark suspect : Bool) : PmState :=
  let old := { p.quarter with incomplete := p.quarter.incomplete || early, suspect := p.quarter.suspect || mark }
  let n := p.newBin false start eth early suspect
  { n.2 with quarter := n.1, quarters := (old :: p.quarters).take 96 }

/-- The day bin ends (R360). -/
def PmState.closeDay (p : PmState) (start : DWord) (eth early mark suspect : Bool) : PmState :=
  let old := { p.day with incomplete := p.day.incomplete || early, suspect := p.day.suspect || mark }
  let n := p.newBin true start eth early suspect
  { n.2 with day := n.1, days := (old :: p.days).take 7 }

/-- Both current bins start from zero, with INCOMPLETE (R362, R363). -/
def PmState.restart (p : PmState) (start : DWord) (eth suspect : Bool) : PmState :=
  let q := p.newBin false start eth true suspect
  let r := q.2.newBin true start eth true suspect
  { r.2 with opened := true, quarter := q.1, day := r.1 }

/-- Both current bins end early and new ones open (R353, R361, R362). -/
def PmState.reopen (p : PmState) (start : DWord) (eth mark suspect : Bool) : PmState :=
  (p.closeQuarter start eth true mark suspect).closeDay start eth true mark suspect

/-- The subject of monitoring at an index: lanes 0 to 31, groups from 32 on. -/
def Dev.pm (d : Dev) (k : Nat) : PmState := d.link.pm.toList.getD k {}

/-- Change what is kept of a subject. -/
def Dev.updPm (d : Dev) (k : Nat) (f : PmState → PmState) : Dev :=
  { d with link := { d.link with pm := Vector.ofFn (fun i => if i.val = k then f d.link.pm[i] else d.link.pm[i]) } }

/-- Whether a subject is monitored at all: a present lane, a configured group (R360). -/
def Dev.pmSubject (d : Dev) (k : Nat) : Bool :=
  if k < 32 then d.present 13 k else !(d.cfg.groups.toList.getD (k - 32) []).isEmpty

/-- Whether a subject is a lane in ETHERNET personality. -/
def Dev.pmEth (d : Dev) (k : Nat) : Bool := decide (k < 32) && (d.cfg.lanes.toList.getD k []).headD 0 == 2

/-- Whether time is other than LOCKED now (R354). -/
def Dev.timeSuspect (d : Dev) : Bool := d.time.tq != .locked

/-- The numbers of the quarter-hour and day of local time now. -/
def Dev.binsPlace (d : Dev) : Dev :=
  let t := d.time.local_ (d.time.total / (secondTc : Nat))
  { d with link := { d.link with quarterNo := t / 900, dayNo := t / 86400 } }

/-- Every current bin is closed now and opened anew (R353, R361): `mark` for a change of time. -/
def Dev.binsReopen (d : Dev) (mark : Bool) : Dev :=
  ((List.range 48).foldl (fun d k =>
    if (d.pm k).opened then d.updPm k (fun p => p.reopen d.stamp (d.pmEth k) (mark || d.time.unlocked) d.timeSuspect) else d) d).binsPlace

/-- Bins open for every subject that has none, and close for subjects that are gone (R360, R361). -/
def Dev.binsOpen (d : Dev) : Dev :=
  (List.range 48).foldl (fun d k =>
    if d.pmSubject k then
      if (d.pm k).opened then d else d.updPm k (fun p => p.restart d.stamp (d.pmEth k) d.timeSuspect)
    else if k < 32 then d
    else d.updPm k (fun _ => {})) d

/-! ### Counting -/

/-- 32-bit saturation. -/
def satWord (n : Nat) : Nat := Nat.min 0xFFFFFFFF n

/-- A second that is final enters a bin (R357, R365); groups saturate SWITCHES and PSEC at 16 bits. -/
def PmBin.add (b : PmBin) (s : PmSecond) (avail : Bool) : PmBin :=
  { b with mon := satWord (b.mon + 1)
           es := satWord (b.es + boolNat (avail && s.es))
           ses := satWord (b.ses + boolNat (avail && s.ses))
           uas := satWord (b.uas + boolNat (!avail))
           bbe := satWord (b.bbe + if avail && !s.ses then s.c.err else 0)
           corr := b.corr + s.c.corr
           uncorr := satWord (b.uncorr + s.c.uncorr)
           reis := satWord (b.reis + s.c.rei)
           rdis := satWord (b.rdis + boolNat s.c.rdi)
           disc := satWord (b.disc + s.c.disc)
           slips := Nat.min 0xFFFF (b.slips + s.c.slip)
           switches := Nat.min 0xFFFF (b.switches + s.switches)
           psec := Nat.min 0xFFFF (b.psec + boolNat s.served) }

/-- The counters with a TCA bit, by bit (Tables 14.2, 14.3). -/
def PmBin.counters (b : PmBin) (group : Bool) : List Nat :=
  if group then [b.es, b.ses, b.uas, b.switches, b.psec]
  else [b.es, b.ses, b.uas, b.bbe, b.corr, b.uncorr, b.reis, b.rdis, b.disc, b.slips]

/-- The code of a subject in commands and events: lanes 0 to 31, groups 0x80 to 0x8F. -/
def pmCode (k : Nat) : Nat := if k < 32 then k else 0x80 + (k - 32)

/-- The threshold of a counter; 0 disables its alert (R367). -/
def thresholdOf (thr : List (Nat × Nat × Nat × Nat)) (code kind bit : Nat) : Nat :=
  match thr.find? (fun t => t.1 == code && t.2.1 == kind && t.2.2.1 == bit) with
  | some t => t.2.2.2
  | none => 0

/-- The alerts a bin raises once a second has been added (R368): its TCA bits, and the payloads. -/
def PmBin.alerts (b : PmBin) (k : Nat) (thr : List (Nat × Nat × Nat × Nat)) : PmBin × List (List Byte) :=
  ((b.counters (decide (32 ≤ k))).zipIdx).foldl (fun (acc : PmBin × List (List Byte)) (x : Nat × Nat) =>
    let t := thresholdOf thr (pmCode k) (boolNat b.day) x.2
    if t = 0 ∨ x.1 < t ∨ bitAt acc.1.tca x.2 then acc
    else ({ acc.1 with tca := acc.1.tca + 2 ^ x.2 },
      acc.2 ++ [bytesOf 1 (pmCode k) ++ bytesOf 1 x.2 ++ bytesOf 1 (boolNat b.day) ++ [0] ++ bytesOf 8 b.start.toNat
        ++ bytesOf 8 x.1 ++ bytesOf 4 t])) (b, [])

/-- A final second enters the bin of a number, current or in the history (R358, R368). -/
def PmState.enter (p : PmState) (k num : Nat) (thr : List (Nat × Nat × Nat × Nat)) (f : PmBin → PmBin) : PmState × List (List Byte) :=
  let one := fun (b : PmBin) => if b.num = num then (f b).alerts k thr else (b, [])
  let q := one p.quarter
  let y := one p.day
  let qs := p.quarters.map one
  let ys := p.days.map one
  ({ p with quarter := q.1, day := y.1, quarters := qs.map (fun x => x.1), days := ys.map (fun x => x.1) },
    q.2 ++ y.2 ++ qs.flatMap (fun x => x.2) ++ ys.flatMap (fun x => x.2))

/-- A second becomes final under a state of availability: it enters its bins and the alerts are posted. -/
def Dev.pmFinal (d : Dev) (k : Nat) (s : PmSecond) (avail : Bool) : Dev :=
  if s.dropped then d
  else
    let f := fun (b : PmBin) => b.add s avail
    let a := (d.pm k).enter k s.qbin d.link.thresholds f
    let b := a.1.enter k s.dbin d.link.thresholds f
    (a.2 ++ b.2).foldl (fun d x => d.post 0xF005 x) (d.updPm k (fun _ => b.1))

/-- A monitored second ends (R357, R358): it is decided, or waits for the run it belongs to. -/
def Dev.pmMonitored (d : Dev) (k : Nat) (s : PmSecond) : Dev :=
  let p := d.pm k
  let flush := fun (d : Dev) (l : List PmSecond) (avail : Bool) =>
    l.foldl (fun d x => d.pmFinal k x avail) (d.updPm k (fun p => { p with waiting := [], avail := avail }))
  if p.avail = s.ses then
    -- it may belong to the run that changes the state
    if 10 ≤ p.waiting.length + 1 then flush d (p.waiting ++ [s]) (!p.avail)
    else d.updPm k (fun p => { p with waiting := p.waiting ++ [s] })
  else flush d (p.waiting ++ [s]) p.avail

/-- A second ends for a subject (R356): one that is not monitored marks its bins INCOMPLETE and breaks no run. -/
def Dev.pmSecond (d : Dev) (k : Nat) (s : PmSecond) (monitored : Bool) : Dev :=
  let p := d.pm k
  if !p.opened then d
  else
    let sus := d.timeSuspect || d.time.unlocked
    let mark := fun (b : PmBin) => { b with suspect := b.suspect || sus, incomplete := b.incomplete || !monitored }
    let d1 := d.updPm k (fun p => { p with quarter := mark p.quarter, day := mark p.day })
    if monitored then d1.pmMonitored k { s with qbin := p.quarter.num, dbin := p.day.num } else d1

/-- Whether a record waits for the decision of one of its seconds (R364). -/
def PmState.pendingBin (p : PmState) (num : Nat) : Bool := p.waiting.any (fun s => s.qbin == num || s.dbin == num)

/-- FLAGS of a bin (Table 14.2). -/
def PmState.binFlags (p : PmState) (b : PmBin) (current : Bool) : Nat :=
  boolNat b.incomplete + 2 * boolNat b.suspect + 4 * boolNat (!current && p.pendingBin b.num) + 8 * boolNat b.day + 16 * boolNat b.eth

/-- The record of a lane's bin (Table 14.2). -/
def PmState.laneRecord (p : PmState) (b : PmBin) (current : Bool) : List Byte :=
  bytesOf 8 b.start.toNat ++ bytesOf 2 (p.binFlags b current) ++ bytesOf 2 b.slips ++ bytesOf 4 b.mon ++ bytesOf 4 b.es
    ++ bytesOf 4 b.ses ++ bytesOf 4 b.uas ++ bytesOf 4 b.bbe ++ bytesOf 8 b.corr ++ bytesOf 4 b.uncorr ++ bytesOf 4 b.reis
    ++ bytesOf 4 b.rdis ++ bytesOf 4 b.disc ++ bytesOf 4 b.tca ++ bytesOf 4 0

/-- The record of a group's bin (Table 14.3). -/
def PmState.groupRecord (p : PmState) (b : PmBin) (current : Bool) : List Byte :=
  bytesOf 8 b.start.toNat ++ bytesOf 2 (p.binFlags b current) ++ bytesOf 2 b.tca ++ bytesOf 4 b.mon ++ bytesOf 4 b.es
    ++ bytesOf 4 b.ses ++ bytesOf 4 b.uas ++ bytesOf 2 b.switches ++ bytesOf 2 b.psec

end Sys2Proof.Machine
end

