-- ==== Sys2Proof/Machine/Thermal.lean ====
section
/-! DEFINITION. The housekeeping round, the thermal model, the thermal limit and the hardware shutdown
(20_thermal_and_health.md, R478 to R491), and PMBus (19_power_domains.md, R475 to R477; 02_timing_and_deadlines.md, R55). -/

namespace Sys2Proof.Machine

/-- Whether a diode is marked faulty (R479). -/
def ThermalState.isFaulty (t : ThermalState) (i : Nat) : Bool := t.faulty.getLsbD i

/-- How many diodes are faulty. -/
def ThermalState.faultyCount (t : ThermalState) : Nat := ((List.range 24).filter t.isFaulty).length

/-- A diode's reading that stands, in 1/16 °C. -/
def ThermalState.diode (t : ThermalState) (i : Nat) : Int := (t.reading.toList.getD i 0).toInt

/-- The diodes that count. -/
def ThermalState.goodDiodes (t : ThermalState) : List Nat := (List.range 24).filter (fun i => !t.isFaulty i)

/-- The index and value of the largest of some values, the first on ties. -/
def hottest (xs : List (Nat × Int)) : Nat × Int :=
  xs.foldl (fun best x => if best.2 < x.2 then x else best) (xs.headD (0, -640))

/-- The hottest non-faulty diode and its reading. -/
def ThermalState.dmax (t : ThermalState) : Nat × Int := hottest (t.goodDiodes.map (fun i => (i, t.diode i)))

/-- The hottest model node and its temperature. -/
def ThermalState.nmax (t : ThermalState) : Nat × Int :=
  hottest ((List.range 96).map (fun i => (i, t.node.toList.getD i 0)))

/-- The decision temperature TD (R484). -/
def ThermalState.td (t : ThermalState) : Int :=
  if t.valid then (if t.dmax.2 < t.nmax.2 then t.nmax.2 else t.dmax.2) else t.dmax.2

/-- TLIMIT as limit decisions use it (R479): 10 °C lower while more than 4 diodes are faulty. -/
def ThermalState.tlim (t : ThermalState) : Int :=
  (t.cfg.tlimit : Int) - (if 4 < t.faultyCount then 160 else 0)

/-- Air times of restarts in the last 60 minutes. -/
def Dev.recentRestarts (d : Dev) : Nat :=
  (d.thermal.restarts.filter (fun t => decide (airAhead t d.time.air < 3600 * secondTc))).length

/-- Every held command and the stage are dropped, without replies or events (R428). -/
def Dev.dropCommands (d : Dev) : Dev :=
  { d with chiop := { d.chiop with stage := [], owner := none, commit := none
                                   chan := d.chiop.chan.map (fun c => { c with held := [] }) }
           mode := { d.mode with req := none }
           time := { d.time with stepPending := none } }

/-- Every test is abandoned (R497). -/
def Dev.dropTests (d : Dev) : Dev :=
  { d with units := d.units.map (fun u => { u with testing := false, queued := false, rolling := false })
           health := { d.health with testQueue := [] }
           mode := { d.mode with todo := [], retired10 := 0 } }

/-- Every switched domain into Stop with latched pads and no request (R488, T3 and T4). -/
def Dev.freezeDomains (d : Dev) : Dev :=
  let d0 : Dev := { d with power := { d.power with waiting := [], ramping := [] } }
  allDomains.foldl (fun (d : Dev) code =>
    d.updDom code (fun x =>
      if x.st = .failed ∨ x.st = .absent then { x with cur := none, pend := none, step := .none }
      else { x with st := .stop, step := .none, cur := none, pend := none, padLatch := domPads code || x.padLatch })) d0

/-- The hardware shutdown path (R488, Table 20.3): M9 at once, domains frozen, HBM in self-refresh, VCORE off, the trip
recorded. A start that runs ends with it (R439). -/
def Dev.shutdown (d : Dev) (source : Nat) (temp : Int) : Dev :=
  if d.mode.mode = 9 then d
  else
    let td := d.thermal.td
    let d1 := (d.dropCommands.dropTests).freezeDomains
    let mode := { d1.mode with mode := 9, oldMode := d.mode.mode, hostLoss := false, startDone := false
                               capacity := false, spares := false, essential := false }
    let start := { d1.start with ready := false, retain := true, step := 0, hostWait := false, keyStore := false }
    let slack := { d1.slack with vcore := 0, vconf := 0, phase := .idle, boost := false, boostDone := false, started := false }
    let cfg := { d1.cfg with cells := d1.cfg.cells.map (fun c => { c with inService := false }), plans := [] }
    let d2 : Dev := { d1 with mode := mode, start := start, slack := slack, cfg := cfg
                              thermal := { d1.thermal with coolFor := 0, hold := false }
                              alm := {}, ring := {}, dma := {}, eng := {} }
    (d2.linkLost).logAdd 3 true (bytesOf 1 source ++ bytesOf 2 (BitVec.ofInt 16 temp).toNat ++ bytesOf 2 (BitVec.ofInt 16 td).toNat)

/-- A quotient whose rounding the spec leaves open (log entry 85): the floor, or one more where something remains. -/
def thermalQuot (figure : Nat) (n m : Int) : Int :=
  n / m + (if n % m ≠ 0 ∧ Sys2Proof.Config.thermalUp figure n m = true then 1 else 0)

/-- The measured VCORE power in 0.1 mW (R480): the VCORE reading times the sum of channels 33 to 40. -/
def ThermalState.measured (t : ThermalState) : Nat :=
  (t.reading.toList.getD 24 0).toNat * (((List.range 8).map (fun i => (t.reading.toList.getD (33 + i) 0).toNat)).sum)

/-- K one quarter of the way toward K × measured / modelled, limited to 0.80–1.25 in 1/4096 (R480); measured in 0.1 mW,
modelled as a sum in 0.1 W over some steps. -/
def nextK (k measured sum steps : Nat) : Nat :=
  if sum = 0 then k
  else Nat.min 5120 (Nat.max 3277 (thermalQuot 0 (3000 * k * sum + k * measured * steps : Nat) (4000 * sum : Nat)).toNat)

/-- The model node at a diode's location (R478, R479, R481): one of the nodes that cover its area. -/
def diodeNode (i : Nat) : Nat :=
  let pick := Sys2Proof.Config.diodePick i
  if i < 16 then (if i % 2 = 0 then 8 * (i / 2) + pick % 8 else 64 + 2 * (i / 2) + pick % 2)
  else match i with
    | 16 => 84 + pick % 2
    | 17 => 86 + pick % 2
    | 18 => 88 + pick % 2
    | 19 => 90
    | 20 => 91
    | 21 => 80 + pick % 4
    | 22 => 93
    | _ => 92

/-- The parts of SPLIT before the model is seeded: the 240 W of R33 in the proportions of Table 1.9 (R483). -/
def seedSplit : List Nat :=
  ([64, 12, 55, 22, 15, 14, 6, 17] : List Nat).mapIdx (fun i n => (thermalQuot (2 + i) (2400 * n : Nat) 205).toNat)

/-- The end of a round that is accepted (R479, R480, R482, R483, R55). -/
def Dev.roundEnd (d : Dev) : Dev :=
  let t0 := d.thermal
  let t := { t0 with reading := t0.fresh, round := t0.round + 1 }
  let far := fun (i : Nat) =>
    let n : Int := t.node.toList.getD (diodeNode i) 0
    t.valid && !t.isFaulty i && (decide (240 < t.diode i - n) || decide (240 < n - t.diode i))
  let streak := Vector.ofFn (fun (i : Fin 24) => if far i.val then t.streak[i] + 1 else 0)
  let newBad := (List.range 24).filter (fun i => !t.isFaulty i && decide (5 ≤ streak.toList.getD i 0))
  let faulty := newBad.foldl (fun f i => f ||| ((1 : BitVec 24) <<< i)) t.faulty
  let k := if t.valid then nextK t.k t.measured t.pcoreSum t.pcoreSteps else nextK t.k t.measured Sys2Proof.Config.seedPcore 1
  let lim := if k = 5120 ∨ k = 3277 then t.kLimit + 1 else 0
  let diffs := t.goodDiodes.map (fun i => t.diode i - t.node.toList.getD (diodeNode i) 0)
  let caseStep := if diffs.isEmpty then 0 else thermalQuot 1 diffs.sum (4 * diffs.length : Nat)
  let nodes := if t.valid then t.node.set (95 : Fin 96) (t.node[(95 : Fin 96)] + caseStep)
    else Vector.ofFn (fun n => Sys2Proof.Config.seedNode (t.goodDiodes.map t.diode) n)
  let t1 := { t with streak := streak, faulty := faulty, k := k, kLimit := lim, calibBad := t.calibBad || decide (3 ≤ lim)
                     node := nodes, valid := true, pcoreSum := 0, pcoreSteps := 0 }
  let d1 : Dev := { d with thermal := t1 }
  let d2 := newBad.foldl (fun d i => d.healthEvent { hkind := 0x0033, data := bytesOf 1 i }) d1
  let d3 := if 3 ≤ lim ∧ !t.calibBad then d2.healthEvent { hkind := 0x0032 } else d2
  let v := 10 * (t.reading.toList.getD 24 0).toNat
  let diff := if v ≤ d.slack.vconf then d.slack.vconf - v else v - d.slack.vconf
  if 300 < diff ∧ d.mode.mode ≠ 9 then d3.healthEvent { hkind := 0x0030 } else d3

/-- One conversion of the housekeeping ADC (R478, R479, R488, R489): `ok` is the outcome of a self-check channel. -/
def Dev.conversion (d : Dev) (value : Half) (ok : Bool) : Dev :=
  let t := d.thermal
  let ch := t.channel
  let isDiode := decide (ch < 24)
  let v := value.toInt
  let outRange := isDiode && !t.isFaulty ch && (decide (v < -640) || decide (2400 < v))
  let t1 : ThermalState :=
    { t with fresh := Vector.ofFn (fun i => if i.val = ch then value else t.fresh[i])
             channel := (ch + 1) % 64
             roundBad := t.roundBad || (decide (49 ≤ ch ∧ ch ≤ 51) && !ok)
             faulty := if outRange then t.faulty ||| ((1 : BitVec 24) <<< ch) else t.faulty }
  let hot := isDiode && !t1.isFaulty ch
  let t2 : ThermalState :=
    { t1 with coolFor := if d.mode.mode ≠ 9 ∨ (hot ∧ 1440 ≤ v) then 0 else t1.coolFor + 1 }
  let d1 : Dev := { d with thermal := t2 }
  let d2 : Dev := if outRange then d1.healthEvent { hkind := 0x0033, data := bytesOf 1 ch } else d1
  let d3 : Dev := if ch = 63 then
      let d4 : Dev := if t2.roundBad then d2 else d2.roundEnd
      { d4 with thermal := { d4.thermal with roundBad := false } }
    else d2
  let d5 := if hot ∧ 1920 ≤ v ∧ d3.up then d3.shutdown ch v else d3
  if d5.mode.mode = 9 ∧ 960000 ≤ d5.thermal.coolFor ∧ !d5.thermal.hold ∧ 3 ≤ d5.recentRestarts then
    ({ d5 with thermal := { d5.thermal with hold := true } } : Dev).logAdd 8 true []
  else d5

/-- Whether M9 may be left by a warm start (R489). -/
def Dev.restartDue (d : Dev) : Bool :=
  d.mode.mode == 9 && decide (960000 ≤ d.thermal.coolFor) && !d.thermal.hold && decide (d.recentRestarts < 3)

/-- One step of the thermal model (R482 to R485, R488): the engine's temperatures, the shutdown threshold, the limit. -/
def Dev.modelStep (d : Dev) (m : Sys2Proof.ModelStep) : Dev :=
  let t := d.thermal
  let t1 : ThermalState := if t.valid then
      { t with node := Vector.ofFn (fun i => m.nodes[i].toInt), pcore := m.pcore.toNat
               split := Vector.ofFn (fun i => m.split[i].toNat), ptotal := (m.split.toList.map (fun x => x.toNat)).sum
               pcoreSum := t.pcoreSum + m.pcore.toNat, pcoreSteps := t.pcoreSteps + 1 }
    else t
  let td := t1.td
  let below := decide (td < t1.tlim - 16 * (t1.cfg.thyst : Int))
  let t2 : ThermalState :=
    { t1 with belowSteps := if below then t1.belowSteps + 1 else 0 }
  let enter := !t.limit && decide (t1.tlim ≤ td)
  let d1 : Dev := { d with thermal := { t2 with limit := t2.limit || enter }
                           slack := if enter then d.slack.suppress else d.slack }
  let d2 : Dev := if enter then d1.healthEvent { hkind := 0x0049, data := [1] } else d1
  if t1.valid ∧ 1920 ≤ t1.nmax.2 ∧ d2.up then d2.shutdown (0x80 + t1.nmax.1) t1.nmax.2 else d2

/-- THERMAL_LIMIT_CLEAR (R487): TD has stayed below TLIMIT - THYST for 1 s, 20,000 model steps. -/
def Dev.limitClear (d : Dev) : Dev :=
  if d.thermal.limit ∧ 20000 ≤ d.thermal.belowSteps then
    ({ d with thermal := { d.thermal with limit := false } } : Dev).healthEvent { hkind := 0x0049, data := [0] }
  else d

/-- EMERGENCY (Table 20.5): TD at or above TLIMIT + 10 °C. -/
def Dev.emergency (d : Dev) : Bool := decide (d.thermal.tlim + 160 ≤ d.thermal.td)

/-- A node temperature as one byte, °C + 40. -/
def nodeByte (x : Int) : Nat := (clampInt 0 255 (x / 16 + 40)).toNat

/-- The thermal record (Table 20.5). -/
def Dev.thermalRecord (d : Dev) : List Byte :=
  let t := d.thermal
  let s16 := fun (x : Int) => bytesOf 2 (BitVec.ofInt 16 x).toNat
  let rd := fun (i : Nat) => (t.reading.toList.getD i 0).toNat
  padTo 256 (bytesOf 2 (boolNat t.valid + 2 * boolNat t.limit + 4 * boolNat d.emergency + 8 * boolNat t.calibBad
      + 16 * boolNat (decide (4 < t.faultyCount)))
    ++ s16 t.td ++ bytesOf 1 t.nmax.1 ++ bytesOf 1 t.dmax.1 ++ s16 t.dmax.2 ++ s16 (t.node.toList.getD 95 0)
    ++ bytesOf 2 (if t.valid then t.ptotal else 2400) ++ bytesOf 2 (thermalQuot 10 t.measured 1000).toNat ++ bytesOf 2 t.k
    ++ bytesOf 4 t.round
    ++ bytesOf 2 t.sheds ++ bytesOf 1 d.recentRestarts ++ bytesOf 1 t.faultyCount
    ++ (List.range 24).flatMap (fun i => if t.isFaulty i then bytesOf 2 0x8000 else s16 (t.diode i))
    ++ (List.range 96).flatMap (fun i => bytesOf 1 (nodeByte (t.node.toList.getD i 0)))
    ++ (List.range 9).flatMap (fun i => bytesOf 2 (rd (24 + i))) ++ bytesOf 2 0
    ++ (List.range 8).flatMap (fun i => bytesOf 2 (rd (41 + i)))
    ++ bytesOf 2 (((List.range 8).map (fun i => rd (33 + i))).sum)
    ++ (if t.valid then t.split.toList else seedSplit).flatMap (fun x => bytesOf 2 x))

/-! ### PMBus -/

/-- Store one regulator's telemetry reading. -/
def Dev.telem (d : Dev) (i : Nat) (f : Half × Half × Half → Half × Half × Half) : Dev :=
  { d with thermal := { d.thermal with telemetry := Vector.ofFn (fun k =>
    if k.val = i then f d.thermal.telemetry[k] else d.thermal.telemetry[k]) } }

/-- A PMBus transaction with regulator `r` (0x40 to 0x48) ends (R55, R475, R476): a wrong PEC counts as not acknowledged.
A voltage is in 0.1 mV. -/
def Dev.pmComplete (d : Dev) (r : Nat) (cmd : Sys2Proof.PmCmd) (ack : Bool) (value : Nat) : Dev :=
  let i := r - 0x40
  if r < 0x40 ∨ 0x48 < r then d
  else if r = 0x40 then
    match cmd with
    | .voutCommand =>
      if d.slack.phase ≠ .write then d
      else if ack then { d with slack := { d.slack with phase := .read } } else d.pmFail
    | .readVout =>
      if d.slack.phase ≠ .read then d else if ack then d.pmConfirm value else d.pmFail
    | .readIout => if ack then d.telem i (fun x => (x.1, BitVec.ofNat 16 value, x.2.2)) else d
    | .readTemp => if ack then d.telem i (fun x => (x.1, x.2.1, BitVec.ofNat 16 value)) else d
    | _ => d
  else if !ack then
    if d.start.step = 2 then { d with power := { d.power with regAbsent := d.power.regAbsent ||| ((1 : BitVec 9) <<< i) } } else d
  else
    match cmd with
    | .readVout => d.telem i (fun x => (BitVec.ofNat 16 (value / 10), x.2))
    | .readIout => d.telem i (fun x => (x.1, BitVec.ofNat 16 value, x.2.2))
    | .readTemp => d.telem i (fun x => (x.1, x.2.1, BitVec.ofNat 16 value))
    | _ => d

/-- A retry of the VCORE command (R55). -/
def Dev.pmRetry (d : Dev) : Dev :=
  if d.slack.phase = .retry then { d with slack := { d.slack with phase := .write } } else d

/-- PMBUS_ALERT_N (R477): the source and its STATUS_WORD go into a health event; CLEAR_FAULTS follows on the bus. -/
def Dev.pmAlert (d : Dev) (addr : Nat) (word : Half) : Dev :=
  d.healthEvent { hkind := 0x0031, data := bytesOf 1 addr ++ bytesOf 2 word.toNat }

end Sys2Proof.Machine
end

