-- ==== Sys2Proof/Machine/Time.lean ====
section
/-! DEFINITION. Air time: tick edges and what falls between them, slots and symbols, GSM/EDGE timing, PPS and PTP
(02_timing_and_deadlines.md, R38 to R47; 21_pins_and_electrical.md, R521, R522). Air time moves only with a command that
announces a moment, never past the next tick edge but by TICK_EDGE itself (log entry 34). -/

namespace Sys2Proof.Machine

/-! ### Moments -/

/-- Air time of the next tick edge. -/
def TimeState.nextEdge (t : TimeState) : Nat :=
  (t.edgeAt / frameTc * frameTc + edgePos t.tickCode (t.tickIdx + 1)) % airWrap

/-- Tc to the next tick edge. -/
def TimeState.nextEdgeIn (t : TimeState) : Nat := if airPast t.air t.nextEdge then 0 else airAhead t.air t.nextEdge

/-- The device at a moment that a command announces: none where it lies beyond the next tick edge. -/
def Dev.due (d : Dev) (t : Nat) : Option Dev :=
  if airPast d.time.air t then some d
  else if airAhead d.time.air t ≤ d.time.nextEdgeIn then
    some { d with time := d.time.elapse (airAhead d.time.air t) }
  else none

/-- The next moment of a period after the one counted last, and its count: at once where air time has passed it. -/
def Dev.atPeriod (d : Dev) (last period : Nat) : Option (Nat × Dev) :=
  if d.time.air / period ≠ last then some (d.time.air / period, d)
  else (d.due ((d.time.air / period + 1) * period % airWrap)).map (fun d1 => (d1.time.air / period, d1))

/-- The device once an interval has run since an air time: none where it ends beyond the next tick edge. -/
def Dev.after (d : Dev) (since span : Nat) : Option Dev := d.due ((since + span) % airWrap)

/-- The first boundary after an air time (R402). -/
def nextBoundary (gran : Bool) (air : Nat) : Nat :=
  (if gran then (air / frameTc + 1) * frameTc else (air / 983040 + 1) * 983040) % airWrap

/-- Air time steps (R44): tick edges follow the new place in the frame and go on counting, FN is counted anew from the
reference point, and intervals of the sources keep their lengths. -/
def Dev.stepTime (d : Dev) (step : Int) : Dev :=
  let t := d.time
  let total := t.total + step
  let air := (total % (airWrap : Nat)).toNat
  let n := edgesPerFrame t.tickCode
  let idx := ((List.range n).filter (fun i => decide (edgePos t.tickCode i ≤ air % frameTc))).length - 1
  let t1 : TimeState :=
    { t with air := air
             wraps := total / (airWrap : Nat)
             tickIdx := idx
             edgeAt := air / frameTc * frameTc + edgePos t.tickCode idx
             gsmSlots := gsmSlotOf (total - t.fnWraps * (airWrap : Nat))
             stepPending := none
             ppsLast := t.ppsLast.map (fun a => airShift a step)
             ptpSince := t.ptpSince.map (fun a => airShift a step) }
  ({ d with time := t1
            link := { d.link with second := t1.total / (secondTc : Nat) }
            chiop := { d.chiop with nextAt := nextBoundary d.chiop.gran air } } : Dev).binsReopen true

/-- What a frame boundary brings: a TICK_SET that waits (R46), a TIME_STEP that waits (R44). -/
def Dev.frameEdge (d : Dev) : Dev :=
  let d1 : Dev := match d.time.tickPending with
    | none => d
    | some c =>
      let d0 : Dev := { d with time := { d.time with tickPending := none } }
      if !d0.calendarBusy then { d0 with time := { d0.time with tickCode := c } }
      else d0.healthEvent { hkind := 0x0046, data := bytesOf 2 0x0504 }
  match d1.time.stepPending with
  | none => d1
  | some (step, chan, seq) =>
    let d2 : Dev := { d1 with time := { d1.time with stepPending := none } }
    if d2.anyInService then d2.complete chan seq stBadParam (errDetail 0 2 0 0)
    else (d2.stepTime step).complete chan seq 0 []

/-- A tick edge (R46): the count of the watchdogs of running cores goes on with it (R94). -/
def Dev.tickEdge (d : Dev) : Dev :=
  let edge := d.time.nextEdge
  let t := d.time.elapse d.time.nextEdgeIn
  let wrap := edgesPerFrame t.tickCode ≤ t.tickIdx + 1
  let t1 : TimeState :=
    { t with tick := t.tick + 1
             tickIdx := if wrap then 0 else t.tickIdx + 1
             edgeAt := edge }
  let cores := Vector.ofFn (fun (k : Fin 128) =>
    let c := d.cores[k]
    if c.wdog ≠ 0 ∧ d.domRun (0x100 + k.val) then { c with wdogTicks := c.wdogTicks + 1 } else c)
  let d1 : Dev := { d with time := t1, cores := cores }
  if wrap then d1.frameEdge else d1

/-! ### Slots and symbols -/

/-- Whether a slot carries a direction (R545). -/
def TimeState.carries (t : TimeState) (c : CellRec) (start : Nat) (down : Bool) : Bool :=
  if c.period = 0 then true
  else
    let m := patternAt c (t.slotNumber c.type start % c.period)
    m == 2 || (m == 0 && down) || (m == 1 && !down)

/-! ### Sources -/

/-- 100 ns against an error in Tc. -/
def within100ns (e : Int) : Bool := decide (e.natAbs * 1000 < 196608)

/-- Beyond 1 µs, in Tc. -/
def beyond1us (e : Int) : Bool := decide (196608 < e.natAbs * 100)

/-- The air time at which a GPS second starts (R41). -/
def gpsAir (s : Nat) : Nat := s * 100 * frameTc % airWrap

/-- The time quality after a delivery of the source in use, with its phase error (R43, R44). -/
def nextQuality (q : TimeQuality) (good locked : Bool) : TimeQuality :=
  match q with
  | .freeRun => .acquiring
  | .holdover => .acquiring
  | .acquiring => if good && locked then .locked else .acquiring
  | .locked => if good then .locked else .acquiring

/-- An accepted PPS edge (R43, R522). -/
def TimeState.ppsAccept (t : TimeState) (at_ num : Nat) : TimeState :=
  let e := airDiff at_ (gpsAir num)
  let good := within100ns e
  let t1 : TimeState :=
    { t with ppsDelivering := true
             ppsGood := if good then t.ppsGood + 1 else 0
             ppsPhase := e
             ppsLast := some at_
             ppsNum := some num
             ppsNext := none
             disagree := if t.sel.getLsbD 1 && t.ptpDelivering && beyond1us (e - t.ptpPhase) then t.disagree + 1 else 0 }
  let t2 := t1.setSrc
  if t2.used = 1 then { t2 with tq := nextQuality t2.tq good (decide (16 ≤ t2.ppsGood)) } else t2

/-- PPS_EDGE (R43, R522): a number supplied is that of the first edge stamped after it, whether or not PPS_IN is selected. -/
def Dev.ppsEdge (d : Dev) (at_ : Nat) : Dev :=
  let t := d.time
  if !t.sel.getLsbD 0 then { d with time := { t with ppsNext := none } }
  else
    let follow := t.ppsNum.map (fun n => n + 1)
    match (match t.ppsNext with | some n => some n | none => follow) with
    | none => d
    | some n =>
      let odd := match t.ppsNext, follow with | some a, some b => a != b | _, _ => false
      let d1 := if odd then d.healthEvent { hkind := 0x0040 } else d
      let reject := if t.tq = .locked then beyond1us (airDiff at_ (gpsAir n))
        else match t.ppsLast with | some a => decide (airAhead a at_ * 10 < 9 * secondTc) | none => false
      if reject then { d1 with time := { d1.time with ppsNext := none } } else ({ d1 with time := d1.time.ppsAccept at_ n } : Dev).timeAlert d

/-- PPS_LOSS (R43): no edge for 1.5 s. -/
def Dev.ppsLoss (d : Dev) : Dev :=
  match d.time.ppsLast with
  | none => d
  | some a =>
    if !d.time.ppsDelivering ∨ airAhead a d.time.air * 10 < 15 * secondTc then d
    else
      let was := d.time.used
      let t : TimeState := { d.time with ppsDelivering := false, ppsGood := 0, disagree := 0 }
      ({ d with time := if was = 1 then t.lose (t.sel.getLsbD 1 && t.ptpLocked) else t.setSrc } : Dev).timeAlert d

/-- SOURCE_DISAGREEMENT (R43). -/
def Dev.disagreement (d : Dev) : Dev :=
  if 16 ≤ d.time.disagree then
    ({ d with time := { d.time with disagree := 0 } } : Dev).healthEvent { hkind := 0x0040 }
  else d

/-- Put a frame on a port's transmit queue. -/
def Dev.ethSend (d : Dev) (p kind : Nat) (bytes : List Byte) : Dev :=
  d.updEth p (fun e => { e with queue := e.queue ++ [⟨kind, bytes⟩] })

/-- A phase error that PTP measured (R43, R44). -/
def TimeState.ptpOffset (t : TimeState) (e : Int) : TimeState :=
  let good := within100ns e
  let t1 : TimeState :=
    { t with ptpDelivering := true
             ptpPhase := e
             ptpSince := if good then (match t.ptpSince with | some a => some a | none => some t.air) else none }
  let t2 := t1.setSrc
  if t2.used = 2 then { t2 with tq := nextQuality t2.tq good t2.ptpLocked } else t2

/-! ### Rows -/

/-- TICK_EDGE (R46). -/
def execTickEdge (s : State) : Host.Outcome State Fault Refusal := s.on Dev.tickEdge

/-- GSM_TIMESLOT_EVENT (R39): the next timeslot boundary of the accumulator. -/
def execGsmTimeslotEvent (s : State) : Host.Outcome State Fault Refusal :=
  s.on (fun d =>
    let next := d.time.gsmSlots + 1
    match d.due (((next * 14745600 / 13) % (airWrap : Nat)).toNat) with
    | some d1 => { d1 with time := { d1.time with gsmSlots := next } }
    | none => d)

/-- PPS_EDGE (R43, R521, R522): an edge at an air time. -/
def execPpsEdge (at_ : Nat) (s : State) : Host.Outcome State Fault Refusal :=
  s.on (fun d => match d.due at_ with | some d1 => d1.ppsEdge (at_ % airWrap) | none => d)

/-- PPS_LOSS (R43). -/
def execPpsLoss (s : State) : Host.Outcome State Fault Refusal := s.on Dev.ppsLoss

/-- SOURCE_DISAGREEMENT (R43). -/
def execSourceDisagreement (s : State) : Host.Outcome State Fault Refusal := s.on Dev.disagreement

/-- ANNOUNCE_TIMEOUT (R43): the port listens again. -/
def execAnnounceTimeout (p : Fin 4) (s : State) : Host.Outcome State Fault Refusal :=
  s.on (fun d => if d.ptpUp p.val then d.ptpLost p.val 1 else d)

end Sys2Proof.Machine
end

