-- ==== Sys2Proof/Machine/Lane.lean ====
section
/-! DEFINITION. What every lane row uses: lane records, frame starts, gate events and their placement, containers from the
output of the downlink chain (08_transmit_chain.md, R211 to R216; 13_ecner_framing.md, R318 to R330). -/

namespace Sys2Proof.Machine

/-! ### Lanes and records -/

/-- A lane. -/
def Dev.lane (d : Dev) (l : Nat) : Lane := d.link.lane.toList.getD l {}

/-- Change a lane. -/
def Dev.updLane (d : Dev) (l : Nat) (f : Lane → Lane) : Dev :=
  { d with link := { d.link with lane := Vector.ofFn (fun i => if i.val = l then f d.link.lane[i] else d.link.lane[i]) } }

/-- Change a lane's transmitter. -/
def Dev.updTx (d : Dev) (l : Nat) (f : LaneTx → LaneTx) : Dev := d.updLane l (fun x => { x with tx := f x.tx })

/-- Change a lane's receiver. -/
def Dev.updRx (d : Dev) (l : Nat) (f : LaneRx → LaneRx) : Dev := d.updLane l (fun x => { x with rx := f x.rx })

/-- A field of a lane's committed record (Table 13.9); zero where none is committed. -/
def Dev.laneField (d : Dev) (l off n : Nat) : Nat := pf (d.cfg.lanes.toList.getD l []) off n

/-- PERS: 0 DISABLED, 1 ECNER, 2 ETHERNET. -/
def Dev.laneMode (d : Dev) (l : Nat) : Nat := if d.laneDisabled l then 0 else d.laneField l 0 1

/-- A lane's receiver and transmitter work: enabled, its quad in Run (R318). -/
def Dev.laneUp (d : Dev) (l : Nat) : Bool := !d.laneDisabled l && d.domRun (0x500 + l / 4) && !(d.dom (0x500 + l / 4)).padLatch

/-- Whether a lane is under targeted self-test (R344). -/
def Dev.laneTest (d : Dev) (l : Nat) : Bool := (d.unit 13 l).testing

/-- Whether a lane's line is taken up by a self-test: its own, or that of the whole device (Table 17.1). -/
def Dev.lineTest (d : Dev) (l : Nat) : Bool := d.laneTest l || d.mode.mode == 10

/-- A group's committed record (Table 13.11). -/
def Dev.groupRec (d : Dev) (g : Nat) : List Byte := d.cfg.groups.toList.getD g []

/-- Whether a group is configured. -/
def Dev.groupOn (d : Dev) (g : Nat) : Bool := !(d.groupRec g).isEmpty

/-- A group. -/
def Dev.group (d : Dev) (g : Nat) : Group := d.link.group.toList.getD g {}

/-- Change a group. -/
def Dev.updGroup (d : Dev) (g : Nat) (f : Group → Group) : Dev :=
  { d with link := { d.link with group := Vector.ofFn (fun i => if i.val = g then f d.link.group[i] else d.link.group[i]) } }

/-- The group a lane belongs to and its channel there (Table 13.9). -/
def Dev.laneGroup (d : Dev) (l : Nat) : Option (Nat × Nat) :=
  let g := d.laneField l 2 1
  if d.laneMode l = 1 ∧ g < 16 ∧ d.groupOn g then some (g, d.laneField l 3 1 % 16) else none

/-- A group's protection lane. -/
def Dev.protLane (d : Dev) (g : Nat) : Nat := pf (d.groupRec g) 2 1 % 32

/-- The working lane of a group's channel. -/
def Dev.workLane (d : Dev) (g c : Nat) : Option Nat :=
  (List.range 32).find? (fun l => c != 0 && d.laneGroup l == some (g, c))

/-- CTL_LEAD of a lane in Tc (Table 8.12). -/
def Dev.ctlLead (d : Dev) (l : Nat) : Nat := 16 * d.laneField l 16 2

/-- A LINK event (Table 16.13): a defect of a lane by its bit in Table 13.12, on entry or exit, with its count. -/
def Dev.linkEvent (d : Dev) (lane bit : Nat) (entry : Bool) (count : Nat) : Dev :=
  d.post 0xF004 (bytesOf 1 lane ++ bytesOf 1 bit ++ bytesOf 1 (boolNat entry) ++ [0] ++ bytesOf 4 count
    ++ bytesOf 8 d.stamp.toNat)

/-! ### Frame starts (R321, R324; log entry 35) -/

/-- A frame in millionths of a Tc: 3.2768 µs. -/
def frameStep : Nat := 6442450944

/-- Air time in millionths of a Tc wraps here. -/
def microWrap : Nat := airWrap * 1000000

/-- TS of the k-th frame from the next one. -/
def LaneTx.tsAt (t : LaneTx) (k : Nat) : Nat := (t.next + k * frameStep) % microWrap / 1000000

/-- The frames from the next one whose TS is at most an air time, counted; none where it is past. -/
def LaneTx.framesTo (t : LaneTx) (limit : Nat) : Option Nat :=
  let ahead := (limit * 1000000 + 999999 + microWrap - t.next) % microWrap
  if ahead < microWrap / 2 then some (ahead / frameStep) else none

/-- A transmitter starts: 10 µs of electrical idle, then frames (R318). -/
def LaneTx.start (air : Nat) (cfgt : Bool) : LaneTx :=
  { on := true, next := (air + usToTc 10) % airWrap * 1000000, cfgt := cfgt, stateAt := air }

/-! ### Gate events -/

/-- The check nibble (R211). -/
def ctlCheck (w : Nat) : Nat :=
  w / 2 ^ 28 % 16 ^^^ w / 2 ^ 24 % 16 ^^^ w / 2 ^ 20 % 16 ^^^ w / 2 ^ 12 % 16 ^^^ w / 2 ^ 8 % 16 ^^^ w / 2 ^ 4 % 16 ^^^ w % 16

/-- A CTL word (Table 8.11). -/
def ctlWord (kind group prof ofs : Nat) : Nat :=
  let w := kind * 2 ^ 28 + group % 16 * 2 ^ 24 + prof % 16 * 2 ^ 20 + ofs % 2 ^ 16
  w + ctlCheck w * 2 ^ 16

/-- The word of an event in a frame or message with a stamp. -/
def GateEv.word (e : GateEv) (ts : Nat) : Nat :=
  ctlWord (if e.on then 1 else 2) e.group e.prof (airAhead ts e.at_ / 16)

/-- FORCE_OFF for a group. -/
def forceWord (g : Nat) : Nat := ctlWord 7 g 0 0

/-- The STATE word. -/
def stateWord (gate : BitVec 16) : Nat := ctlWord 0 0 0 gate.toNat

/-- Events whose time has come set their group's bit (R212), in the order of their times. -/
def LaneTx.settle (t : LaneTx) (ts : Nat) : LaneTx :=
  let now := t.coming.filter (fun e => airPast ts e.at_)
  let order := now.foldl (fun l e => (l.filter (fun x => decide (0 ≤ airDiff e.at_ x.at_))) ++ [e]
    ++ l.filter (fun x => decide (airDiff e.at_ x.at_ < 0))) ([] : List GateEv)
  { t with coming := t.coming.filter (fun e => !airPast ts e.at_)
           gate := order.foldl (fun g e => if e.on then g ||| ((1 : BitVec 16) <<< e.group) else g &&& ~~~((1 : BitVec 16) <<< e.group)) t.gate }

/-- A GATE_LATE health event (Table 20.10). -/
def Dev.gateLate (d : Dev) (l : Nat) (e : GateEv) : Dev :=
  d.healthEvent { hkind := 0x004A, action := 1, cell := e.cell, data := bytesOf 1 l ++ bytesOf 1 e.group }

/-- A late event: discarded, and FORCE_OFF goes into the next two words that carry no event (R215). -/
def Dev.gateForce (d : Dev) (l : Nat) (e : GateEv) : Dev :=
  (d.updTx l (fun t => { t with force := t.force.filter (fun f => f.1 != e.group) ++ [(e.group, 2)] })).gateLate l e

/-- The free frames for an event, latest first (R214): those from `k` down whose TS is near enough. -/
def LaneTx.freeFrames (t : LaneTx) (e : GateEv) (k : Nat) : List Nat :=
  ((List.range (Nat.min (k + 1) 164)).map (fun i => k - i)).filter (fun i =>
    !(t.slots.any (fun s => s.frame == t.frame + i)) && decide (airAhead (t.tsAt i) e.at_ ≤ 16 * 65535))

/-- Whether an event goes before another on a lane: by time, the lower group first on equal times (R214). -/
def GateEv.before (a b : GateEv) : Bool :=
  decide (airDiff a.at_ b.at_ < 0) || (a.at_ == b.at_ && decide (a.group < b.group))

/-- Find an event its frames, or its place among the messages of an Ethernet lane (R214, R348). -/
def Dev.placeOne (d : Dev) (l : Nat) (e : GateEv) : Dev :=
  let t := (d.lane l).tx
  let limit := (e.at_ + airWrap - d.ctlLead l) % airWrap
  if !t.on then d
  else if d.laneMode l = 2 then
    if airPast d.time.air limit ∧ d.time.air ≠ limit then d.gateForce l e
    else d.updTx l (fun t => { t with msgs := t.msgs ++ [{ ev := e }], coming := t.coming ++ [e] })
  else match t.framesTo limit with
    | none => d.gateForce l e
    | some k =>
      match t.freeFrames e k with
      | [] => d.gateForce l e
      | [p] =>
        (d.updTx l (fun t => { t with slots := t.slots ++ [⟨t.frame + p, e, 1⟩], coming := t.coming ++ [e] })).gateLate l e
      | p :: q :: _ =>
        d.updTx l (fun t => { t with slots := t.slots ++ [⟨t.frame + p, e, 2⟩, ⟨t.frame + q, e, 2⟩], coming := t.coming ++ [e] })

/-- Whether no copy of an event has left a lane. -/
def LaneTx.unsent (t : LaneTx) (e : GateEv) : Bool :=
  let mine := t.slots.filter (fun s => s.ev == e)
  let msgs := t.msgs.filter (fun m => m.ev == e)
  (mine.all (fun s => s.copies == mine.length)) && !(mine.isEmpty && msgs.isEmpty) && msgs.all (fun m => m.sent == 0)

/-- Take an event back from a lane. -/
def LaneTx.takeBack (t : LaneTx) (e : GateEv) : LaneTx :=
  { t with slots := t.slots.filter (fun s => s.ev != e), msgs := t.msgs.filter (fun m => m.ev != e)
           coming := t.coming.filter (fun x => x != e) }

/-- Put an event among others in their order. -/
def insertEvent (e : GateEv) : List GateEv → List GateEv
  | [] => [e]
  | x :: xs => if e.before x then e :: x :: xs else x :: insertEvent e xs

/-- Place an event on a lane (R214): those that come after it and of which no copy has left find their frames anew after it. A lane
that holds 256 events takes no more, and the event is late (DESIGN CHOICE, log entry 17). -/
def Dev.placeGate (d : Dev) (l : Nat) (e : GateEv) : Dev :=
  let t := (d.lane l).tx
  if t.on && decide (256 ≤ t.coming.length) then d.gateForce l e
  else
    let after := (t.coming.filter (fun x => e.before x && t.unsent x)).foldl (fun xs x => insertEvent x xs) []
    (e :: after).foldl (fun d x => d.placeOne l x) (d.updTx l (fun t => after.foldl LaneTx.takeBack t))

/-- The lanes that carry a cell's events: its lane set, and the protection lanes that carry one of its channels (R214,
R342). -/
def Dev.gateLanes (d : Dev) (cell : Nat) : List Nat :=
  let ss := if (d.cfg.cells.any (fun c => c.cr.cell == cell)) then d.cfg.streams else d.plannedStreams
  let work := laneSet ss cell
  let prot := work.filterMap (fun l => match d.laneGroup l with
    | some (g, c) => if c != 0 && (d.group g).br == c then some (d.protLane g) else none
    | none => none)
  (work ++ prot).eraseDups

/-- Place an event on every lane of its cell. -/
def Dev.gateOut (d : Dev) (e : GateEv) : Dev := (d.gateLanes e.cell).foldl (fun d l => d.placeGate l e) d

/-- The last event of a cell's group that is still to come on a lane, in the order of derivation. -/
def LaneTx.lastEvent (t : LaneTx) (cell group : Nat) : Option GateEv :=
  (t.coming.filter (fun e => e.group == group && e.cell == cell)).getLast?

/-- The GATE_OFF of a group that a GATE_ON follows in less than GMIN and of which no copy has left (R213). -/
def Dev.gateOffPending (d : Dev) (on : GateEv) (gmin : Nat) : Option GateEv :=
  let lanes := d.gateLanes on.cell
  let off := lanes.findSome? (fun l => ((d.lane l).tx.lastEvent on.cell on.group).filter (fun e =>
    !e.on && decide (airDiff on.at_ e.at_ < 16 * gmin)))
  match off with
  | some e => if lanes.all (fun l => (d.lane l).tx.unsent e || !(d.lane l).tx.on) then some e else none
  | none => none

/-- Derive an event (R213): a GATE_OFF and a GATE_ON less than GMIN later are both omitted. -/
def Dev.gateDerive (d : Dev) (c : CellRec) (e : GateEv) : Dev :=
  match if e.on then d.gateOffPending e c.gmin else none with
  | some off => (d.gateLanes e.cell).foldl (fun d l => d.updTx l (fun t => t.takeBack off)) d
  | none => d.gateOut e

/-- GATE_ON of a cell, for a first downlink symbol at an air time. -/
def gateOnEv (c : CellRec) (at_ : Nat) : GateEv :=
  { at_ := (at_ + airWrap - 16 * c.gonAdv) % airWrap, group := c.gategrp.toNat % 16, on := true, prof := c.prof.toNat % 16, cell := c.cell }

/-- GATE_OFF of a cell, for the end of its last downlink symbol. -/
def gateOffEv (c : CellRec) (at_ : Nat) : GateEv :=
  { at_ := (at_ + 16 * c.goffDly) % airWrap, group := c.gategrp.toNat % 16, on := false, prof := c.prof.toNat / 16, cell := c.cell }

/-- Whether a symbol of a slot is downlink (R414). -/
def TimeState.symDown (t : TimeState) (c : CellRec) (start sym : Nat) : Bool :=
  if c.period = 0 then true
  else
    let m := patternAt c (t.slotNumber c.type start % c.period)
    m == 0 || (m == 2 && decide (sym < c.fsym.toNat % 16))

/-- Gate moves of a slot symbol by symbol: `want` says which are to be on; the device and the state at the end. -/
def Dev.gateWalk (d : Dev) (c : CellRec) (start : Nat) (on : Bool) (want : List Bool) : Dev × Bool :=
  want.zipIdx.foldl (fun (acc : Dev × Bool) x =>
    let at_ := d.time.symStart c.type start x.2
    if x.1 && !acc.2 then (acc.1.gateDerive c (gateOnEv c at_), true)
    else if !x.1 && acc.2 then (acc.1.gateDerive c (gateOffEv c at_), false)
    else acc) (d, on)

/-- The timeslots of a TDMA frame in which a TRX with GSMGATE keeps its gate open (R213): all but those in runs of two or
more idle ones; the frame before told whether its last was idle, and what follows counts as active (log entry 49). -/
def gsmWant (active : List Bool) (idleBefore : Bool) : List Bool :=
  (List.range active.length).map (fun k =>
    active.getD k true || !((if k = 0 then idleBefore else !active.getD (k - 1) true) || !active.getD (k + 1) true))

/-- The active timeslots of a TRX's TDMA frame: those its plan gives a burst that is not IDLE. -/
def Dev.gsmActive (d : Dev) (cell start : Nat) : List Bool :=
  let bursts := ((d.cfg.plans.filter (fun p => p.cell == cell && p.down && p.start == start)).flatMap (fun p => p.records)).filter
    (fun r => pf r 0 1 == 8)
  (List.range 8).map (fun tn => bursts.any (fun r => pf r (16 + 5) 1 == tn && !bitAt (pf r (16 + 1) 1) 2))

/-! ### Containers -/

/-- X of a BFP9 block of 24 parts (R329): the smallest that fits; none where none does. `s` is E + XOFS. -/
def bfpExp (parts : List Int) (s : Int) : Option Nat :=
  (List.range 16).find? (fun (x : Nat) => parts.all (fun p => fitsAt 9 p ((x : Int) + 7 - s)))

/-- The bits of a number, most significant first. -/
def numBits (n x : Nat) : List Bool := (List.range n).map (fun i => bitAt x (n - 1 - i))

/-- A PRB of FD16 (52 bytes) as BFP9: its 220 bits and the parts that saturated. -/
def bfpPrb (b : List Byte) (xofs : Int) : List Bool × Nat :=
  let e := signedOf 8 (pf b 48 1)
  let parts := (List.range 24).map (fun i => signedOf 16 (pf b (2 * i) 2))
  if e = -128 then (List.replicate 220 false, 0)
  else
    let x := bfpExp parts (e + xofs)
    let xv := x.getD 15
    let k := (xv : Int) + 7 - (e + xofs)
    let out := parts.map (fun p => clampInt (-256) 255 (rhuInt p k))
    let clip := (parts.filter (fun p => !fitsAt 9 p k)).length
    (numBits 4 xv ++ out.flatMap (fun m => numBits 9 (BitVec.ofInt 9 m).toNat), clip)

/-- A byte from up to 8 bits, most significant first. -/
def msbByte (bits : List Bool) : Byte :=
  BitVec.ofNat 8 ((List.range 8).foldl (fun n i => 2 * n + boolNat (bits.getD i false)) 0)

/-- Bits packed into bytes, the last zero-padded. -/
def msbBytes (bits : List Bool) : List Byte := (List.range (ceilDiv bits.length 8)).map (fun i => msbByte ((bits.drop (8 * i)).take 8))

/-- Two bytes of each 16-bit part exchanged: most significant byte first on the wire. -/
def swapParts : List Byte → List Byte
  | a :: b :: rest => b :: a :: swapParts rest
  | x => x

/-- The body of a container of a KIND from memory form, and the parts that saturated (R329, Table 13.4). -/
def wireBody (kind : Nat) (xofs : Int) (bytes : List Byte) : List Byte × Nat :=
  let prbs := (List.range (bytes.length / 52)).map (fun i => (bytes.drop (52 * i)).take 52)
  match kind with
  | 1 =>
    let x := prbs.map (fun b => bfpPrb b xofs)
    (msbBytes (x.flatMap (fun y => y.1)), (x.map (fun y => y.2)).sum)
  | 2 => (prbs.flatMap (fun b => (b.drop 48).take 1 ++ swapParts (b.take 48)), 0)
  | _ => (swapParts bytes, 0)

/-- TAG (Table 13.5) of a symbol of a slot or a timeslot of a TDMA frame. -/
def TimeState.tag (t : TimeState) (type start sym : Nat) : Nat :=
  if type = 5 then t.slotNumber 5 start % 8192 * 8 + sym % 8
  else
    let sfn := start / frameTc % 4
    let n := slotAtPos type (start % frameTc)
    if type = 4 then sfn * 2 ^ 14 + (2 * n + sym / 7) % 128 * 2 ^ 7 + sym % 7 * 8
    else sfn * 2 ^ 14 + n % 128 * 2 ^ 7 + sym * 8

/-- The stream table in force for an air time (R332). -/
def Dev.streamsFor (d : Dev) (at_ : Nat) : List StreamRec :=
  match d.link.streamsAt with
  | some b => if airDiff b at_ < 0 then d.link.oldStreams else d.cfg.streams
  | none => d.cfg.streams

/-- A downlink symbol's due time: its start less the cell's transmit advance (R47, R330). -/
def dueOf (c : CellRec) (at_ : Nat) : Nat := (at_ + airWrap - usToTc c.txadv) % airWrap

/-- Whether a lane has a transmitter for its cells' containers: it works and is not under self-test. -/
def Dev.laneSends (d : Dev) (l : Nat) : Bool := (d.lane l).tx.on && d.laneUp l && !d.lineTest l

/-- Whether some lane will send a container of a working lane. -/
def Dev.carried (d : Dev) (l : Nat) : Bool × Bool :=
  (d.laneSends l, match d.laneGroup l with
    | some (g, c) => c != 0 && (d.group g).br == c && d.laneSends (d.protLane g)
    | none => false)

/-- Put a container up for sending, where some lane sends it. -/
def Dev.putOut (d : Dev) (x : TxCont) : Dev :=
  let c := d.carried x.lane
  if c.1 || c.2 then { d with link := { d.link with out := d.link.out ++ [{ x with sentWork := !c.1, sentProt := !c.2 }] } } else d

/-- Time-domain samples of one segment: a container never spans two frames (R328). -/
def segBytes : Nat := 20520

/-- The segments of a body: first index and bytes of memory form. -/
def segments (fd : Bool) (first : Nat) (bytes : List Byte) : List (Nat × List Byte) :=
  if fd then [(first, bytes)]
  else (List.range (ceilDiv bytes.length segBytes)).map (fun i => (first + i * (segBytes / 8), (bytes.drop (segBytes * i)).take segBytes))

/-- The last job of a symbol's chain has completed (R330): its containers become eligible, unless the symbol's due event has
passed. -/
def Dev.offer (d : Dev) (r : Ready) (start sym : Nat) : Dev :=
  match d.cell? r.cell with
  | none => d
  | some c =>
    let due := dueOf c.cr r.at_
    if !c.inService || decide (airDiff start c.since < 0) || (airPast d.time.air due && d.time.air != due) then d
    else
      let es := (d.streamsFor r.at_).filter (fun e =>
        e.down && e.cell == r.cell && e.stream == r.stream && (c.cr.type != 3 || e.sub == r.sub)
          && (if r.fd then e.kind == 1 || e.kind == 2 else e.kind == 3))
      (es.filter (fun e => !d.link.made.contains (e.sid, r.at_))).foldl (fun d0 e =>
        let d : Dev := { d0 with link := { d0.link with made := d0.link.made ++ [(e.sid, r.at_)] } }
        let segs := segments r.fd r.first r.bytes
        segs.zipIdx.foldl (fun d s =>
          let b := wireBody e.kind e.xofs s.1.2
          (d.updRx e.lane (fun x => { x with clip := Nat.min 0xFFFF (x.clip + b.2) })).putOut
            { due := due, at_ := r.at_, cell := r.cell, lane := e.lane, sid := e.sid, ofs := s.1.1, kind := e.kind
              tag := d.time.tag c.cr.type start sym, last := s.2 + 1 == segs.length, body := b.1 }) d) d

/-- What a job that ends a chain has written for some streams, from its first: equal parts of its output (R330). -/
def Dev.offerAll (d : Dev) (j : Job) (sub first : Nat) (fd : Bool) (parts : List (List Byte)) : Dev :=
  match j.serves, d.cell? j.cell with
  | some s, some c =>
    if !s.down then d
    else parts.zipIdx.foldl (fun d p =>
      d.offer { cell := j.cell, stream := j.stream + p.2, at_ := d.time.symStart c.cr.type s.start j.sym, sub := sub
                first := first, fd := fd, bytes := p.1 } s.start j.sym) d
  | _, _ => d

end Sys2Proof.Machine
end

