-- ==== Sys2Proof/Machine/Detour.lean ====
section
/-! DEFINITION. Defects of lanes and what follows from them; protection groups (13_ecner_framing.md, R337 to R344). -/

namespace Sys2Proof.Machine

/-! ### Defects -/

/-- A defect by its bit in Table 13.12. -/
def LaneRx.defect (r : LaneRx) (bit : Nat) : Bool :=
  match bit with
  | 2 => r.los | 3 => r.lof | 4 => r.lom | 5 => r.sd | 6 => r.sf | 7 => r.tim | 8 => r.rdi | 10 => r.drBad | 11 => r.drMis
  | _ => false

/-- Set a defect. -/
def LaneRx.setDefect (r : LaneRx) (bit : Nat) (v : Bool) : LaneRx :=
  match bit with
  | 2 => { r with los := v } | 3 => { r with lof := v } | 4 => { r with lom := v } | 5 => { r with sd := v }
  | 6 => { r with sf := v } | 7 => { r with tim := v } | 8 => { r with rdi := v } | 10 => { r with drBad := v }
  | 11 => { r with drMis := v } | _ => r

/-- A defect of class SF is present (Table 13.7, R344). -/
def Dev.sfClass (d : Dev) (l : Nat) : Bool :=
  let r := (d.lane l).rx
  r.los || r.lof || r.lom || r.sf || (r.tim && bitAt (d.laneField l 4 1) 2) || d.laneTest l

/-- The entries of a defect in the second that runs. -/
def LaneRx.entriesOf (r : LaneRx) (bit : Nat) : Nat := ((r.entries.find? (fun e => e.1 == bit)).map (fun e => e.2)).getD 0

/-- The quantities of serving lanes of a group at this moment (R359): the lane of each channel. -/
def Dev.serving (d : Dev) (g : Nat) : List (Nat × Nat) :=
  (List.range 16).filterMap (fun c =>
    (d.workLane g c).map (fun l => (c, if (d.group g).sel = c then d.protLane g else l)))

/-- Put what a moment shows into a group's second: for a channel, errors, LOS or LOF, and any other cause of ES. -/
def Group.note (x : Group) (c err : Nat) (losLof other : Bool) : Group :=
  match x.sec.find? (fun s => s.1 == c) with
  | some _ => { x with sec := x.sec.map (fun s =>
      if s.1 = c then (c, s.2.1 + err, s.2.2.1 || losLof, s.2.2.2 || other) else s) }
  | none => { x with sec := x.sec ++ [(c, err, losLof, other)] }

/-- What holds now enters the second of a group (R359). -/
def Dev.groupNote (d : Dev) (g : Nat) : Dev :=
  if !d.groupOn g then d
  else
    let d1 := (d.serving g).foldl (fun d s =>
      let r := (d.lane s.2).rx
      d.updGroup g (fun x => x.note s.1 0 (r.los || r.lof) (d.sfClass s.2))) d
    d1.updGroup g (fun x => { x with served := x.served || x.sel != 0 })

/-- What holds now enters the second of a lane (R355, R356). -/
def Dev.laneNote (d : Dev) (l : Nat) : Dev :=
  let sf := d.sfClass l
  let d1 := d.updRx l (fun r =>
    { r with sec := { r.sec with defect := r.sec.defect || sf, losLof := r.sec.losLof || r.los || r.lof, rdi := r.sec.rdi || r.rdi
                                 unmon := r.sec.unmon || !d.laneUp l || d.laneTest l
                                 mon := r.sec.mon || (d.laneUp l && !d.laneTest l) } })
  match d1.laneGroup l with
  | some (g, _) => d1.groupNote g
  | none => d1

/-- HOLDOFF of a group in Tc. -/
def Dev.holdoff (d : Dev) (g : Nat) : Nat := usToTc (100 * pf (d.groupRec g) 4 2)

/-- The FAIL or DEGRADE of a channel has cleared (R343). -/
def Dev.detourCleared (d : Dev) (g c : Nat) : Dev :=
  let x := d.group g
  if c = 0 ∨ x.sel ≠ c then d
  else if bitAt (pf (d.groupRec g) 1 1) 2 then
    d.updGroup g (fun x => { x with wtr := some (c, (d.time.air + pf (d.groupRec g) 6 2 * secondTc) % airWrap) })
  else d.updGroup g (fun x => { x with stay := c })

/-- Follow the defects of classes SF and SD of a lane into its group's requests (R343). -/
def Dev.detourWatch (d : Dev) (l : Nat) : Dev :=
  match d.laneGroup l with
  | none => d.updRx l (fun r => { r with fail := false, failSince := none, deg := false, degSince := none })
  | some (g, c) =>
    let r := (d.lane l).rx
    let sf := d.sfClass l
    let sd := r.sd
    let hold := d.holdoff g != 0
    let r1 := if sf then (if r.fail || r.failSince.isSome then r else if hold then { r with failSince := some d.time.air } else { r with fail := true })
      else { r with fail := false, failSince := none }
    let r2 := if sd then (if r1.deg || r1.degSince.isSome then r1 else if hold then { r1 with degSince := some d.time.air } else { r1 with deg := true })
      else { r1 with deg := false, degSince := none }
    let d1 := d.updRx l (fun _ => r2)
    if (r.fail || r.deg) && !r2.fail && !r2.deg then d1.detourCleared g c else d1

/-- A defect enters or exits (R338): its LINK event, of at most 8 entries in a second, and what follows. -/
def Dev.setDefect (d : Dev) (l bit : Nat) (v : Bool) : Dev :=
  let r := (d.lane l).rx
  if r.defect bit = v then d
  else
    let n := r.entriesOf bit + boolNat v
    let d1 := d.updRx l (fun r =>
      { r.setDefect bit v with entries := (bit, n) :: r.entries.filter (fun e => e.1 != bit) })
    let d2 := if 8 < n then d1 else d1.linkEvent l bit v n
    (d2.detourWatch l).laneNote l

/-! ### Requests (Table 13.8, R341) -/

/-- A request: its rank in R341, channel and code. -/
structure DetourReq where
  rank : Nat
  ch : Nat
  code : Nat
deriving DecidableEq, Repr

/-- The rank of a request code and channel. -/
def detourRank (code ch : Nat) : Nat :=
  match code with
  | 0xF => 7 | 0xB => if ch = 0 then 6 else 4 | 0xD => 5 | 0x9 => 3 | 0x7 => 2 | 0x5 => 1 | _ => 0

/-- A request of a code for a channel. -/
def detourReq (code ch : Nat) : DetourReq := ⟨detourRank code ch, ch, code⟩

/-- Whether a request ranks higher: between equal requests the lower channel wins. -/
def DetourReq.above (a b : DetourReq) : Bool := decide (b.rank < a.rank) || (a.rank == b.rank && decide (a.ch < b.ch) && a.rank != 0)

/-- The channel a winning request decides. -/
def DetourReq.decides (r : DetourReq) : Nat := if r.code = 0xF then 0 else r.ch

/-- The local request of a group: the highest of its sources (Table 13.8). -/
def Dev.localReq (d : Dev) (g : Nat) : DetourReq :=
  let x := d.group g
  let lanes := (List.range 32).filterMap (fun l => match d.laneGroup l with
    | some (k, c) => if k = g then some (l, c) else none
    | none => none)
  let reqs := (x.host.toList.map (fun h => detourReq h.1 (if h.1 = 0xF then 0 else h.2)))
    ++ lanes.flatMap (fun p =>
      let r := (d.lane p.1).rx
      let due := (p.2 != 0 && (d.unit 13 p.1).queued) || d.laneTest p.1
      (if r.fail || due then [detourReq 0xB p.2] else []) ++ (if r.deg then [detourReq 0x9 p.2] else []))
    ++ (x.wtr.toList.map (fun w => detourReq 0x5 w.1))
  reqs.foldl (fun best r => if r.above best then r else best) ⟨0, x.stay, 0⟩

/-- A bridge moves to a channel: the protection lane takes over its events (R214, R342). -/
def Dev.setBridge (d : Dev) (g c : Nat) : Dev :=
  if (d.group g).br = c then d
  else
    let p := d.protLane g
    let d1 := d.updGroup g (fun x => { x with br := c })
    match d1.workLane g c with
    | none => d1.updTx p (fun t => { t with slots := [], coming := [], gate := 0 })
    | some w =>
      let src := (d1.lane w).tx
      let d2 := d1.updTx p (fun t => { t with slots := [], coming := [], gate := src.gate })
      let d3 := src.coming.foldl (fun d e => d.placeGate p e) d2
      let sends := d3.laneSends p
      { d3 with link := { d3.link with out := d3.link.out.map (fun o => if o.lane = w then { o with sentProt := !sends } else o) } }

/-- Rank the requests and decide (R341, R342); the selector moves at a received frame of the protection lane. -/
def Dev.groupEval (d : Dev) (g : Nat) (frame : Bool) : Dev :=
  if !d.groupOn g then d
  else
    let x := d.group g
    let fl := pf (d.groupRec g) 1 1
    let oneToOne := bitAt fl 0
    let bidir := bitAt fl 1
    let rx := (d.lane (d.protLane g)).rx
    let far := rx.drAcc.map (fun p => detourReq (p.1 / 16) (p.1 % 16))
    let loc := d.localReq g
    let farWins := match far with
      | some f => bidir && f.code != 0x3 && f.code != 0x0 && f.above loc
      | none => false
    let win : DetourReq := if farWins then far.getD loc else loc
    let d1 := d.updGroup g (fun x =>
      { x with lreq := loc.code, lch := loc.ch, decided := win.decides
               req := if farWins then 0x3 else loc.code
               ch := if farWins then (far.getD loc).ch else loc.ch
               wtr := if 1 < win.rank then none else x.wtr
               stay := if 1 < win.rank && (win.decides != x.stay) then 0 else x.stay })
    if rx.drMis then d1
    else
      let d2 := d1.setBridge g (if oneToOne then win.decides else 1)
      let farBr : Nat := (rx.drAcc.map (fun p => p.2 / 16)).getD 0
      let sel : Nat := if win.decides = 0 then 0
        else if !oneToOne && !bidir then win.decides
        else if decide (farBr = win.decides) then win.decides else 0
      if !frame ∨ sel = x.sel then d2
      else (d2.updGroup g (fun x => { x with sel := sel, switches := x.switches + 1 })).groupNote g

/-- Every group is ranked at a boundary (R341). -/
def Dev.groupsEval (d : Dev) : Dev := (List.range 16).foldl (fun d g => d.groupEval g false) d

/-! ### Rows -/

/-- HOLDOFF_EXPIRY (R343): of a lane's FAIL, or of its DEGRADE. -/
def execHoldoffExpiry (l : Fin 32) (s : State) : Host.Outcome State Fault Refusal :=
  s.on (fun d =>
    match d.laneGroup l.val with
    | none => d
    | some (g, _) =>
      let r := (d.lane l.val).rx
      match r.failSince, r.degSince with
      | some t, _ =>
        (match d.after t (d.holdoff g) with
          | some d1 => d1.updRx l.val (fun r => { r with failSince := none, fail := true })
          | none => d)
      | none, some t =>
        (match d.after t (d.holdoff g) with
          | some d1 => d1.updRx l.val (fun r => { r with degSince := none, deg := true })
          | none => d)
      | none, none => d)

/-- WTR_EXPIRY (R343): NONE 0 follows. -/
def execWtrExpiry (g : Fin 16) (s : State) : Host.Outcome State Fault Refusal :=
  s.on (fun d =>
    match (d.group g.val).wtr with
    | none => d
    | some w =>
      match d.due w.2 with
      | some d1 => d1.updGroup g.val (fun x => { x with wtr := none })
      | none => d)

/-- DR_INCONSISTENT (R340): no pair has been accepted within 12 frames of a change. -/
def execDrInconsistent (l : Fin 32) (s : State) : Host.Outcome State Fault Refusal :=
  s.on (fun d => if 12 ≤ (d.lane l.val).rx.drSince then d.setDefect l.val 10 true else d)

/-- DEFECT_WINDOW_END (R337): the oldest window of 3,052 frames that has ended is judged. -/
def execDefectWindowEnd (l : Fin 32) (s : State) : Host.Outcome State Fault Refusal :=
  s.on (fun d =>
    match (d.lane l.val).rx.windows with
    | [] => d
    | w :: rest =>
      let f := fun (off : Nat) => d.laneField l.val off 2
      let d1 := d.updRx l.val (fun r => { r with windows := rest })
      let r := (d1.lane l.val).rx
      let d2 := if !r.sf ∧ (f 12 ≤ w.1 ∨ 64 ≤ w.2) then d1.setDefect l.val 6 true
        else if r.sf ∧ w.1 < f 14 ∧ w.2 = 0 then d1.setDefect l.val 6 false else d1
      let r2 := (d2.lane l.val).rx
      if !r2.sd ∧ !r2.sf ∧ f 8 ≤ w.1 then d2.setDefect l.val 5 true
      else if r2.sd ∧ w.1 < f 10 then d2.setDefect l.val 5 false else d2)

end Sys2Proof.Machine
end

