-- ==== Sys2Proof/Machine/Route.lean ====
section
/-! DEFINITION. Where requests go: the device address map and its access rights (12_memory.md, R300, R301, R310), the
places of NIs, default itineraries and the links they use (10_ringroad.md, R251, R258 to R261), and the outcome of one
request through an interface (R256, R257, R275). -/

namespace Sys2Proof.Machine

/-! ### Address map -/

/-- The rows of Table 12.1. -/
inductive RegKind where
  | coreData | coreRuntime | coreProg | cluster | sram | dmaRegs | dmaStream | hbm | host
deriving DecidableEq, Repr

/-- A region: its row, first address, size, and the core, cluster, bank, engine or stack it belongs to. -/
structure Region where
  kind : RegKind
  base : Nat
  size : Nat
  idx : Nat
deriving DecidableEq, Repr

/-- The region that holds an address (R300). -/
def regionOf (a : Nat) : Option Region :=
  if a < 0x4000000 then
    let k := a / 0x80000
    let b := k * 0x80000
    let o := a % 0x80000
    if o < 0x5C000 then some ⟨.coreData, b, 0x5C000, k⟩
    else if o < 0x60000 then some ⟨.coreRuntime, b + 0x5C000, 0x4000, k⟩
    else some ⟨.coreProg, b + 0x60000, 0x20000, k⟩
  else if 0x10000000 ≤ a ∧ a < 0x14000000 then
    let c := (a - 0x10000000) / 0x800000
    some ⟨.cluster, 0x10000000 + c * 0x800000, 0x800000, c⟩
  else if 0x20000000 ≤ a ∧ a < 0x26000000 then
    let b := (a - 0x20000000) / 0x600000
    some ⟨.sram, 0x20000000 + b * 0x600000, 0x600000, b⟩
  else if 0x30000000 ≤ a ∧ a < 0x30080000 then
    let c := (a - 0x30000000) / 0x10000
    if a % 0x10000 < 0xA000 then some ⟨.dmaRegs, 0x30000000 + c * 0x10000, 0xA000, c⟩ else none
  else if 0x31000000 ≤ a ∧ a < 0x31800000 then
    let c := (a - 0x31000000) / 0x100000
    some ⟨.dmaStream, 0x31000000 + c * 0x100000, 0x100000, c⟩
  else if 0x800000000 ≤ a ∧ a < 0x1000000000 then
    let h := (a - 0x800000000) / 0x400000000
    some ⟨.hbm, 0x800000000 + h * 0x400000000, 0x400000000, h⟩
  else if 0x8000000000000000 ≤ a ∧ a < 0x10000000000000000 then
    some ⟨.host, 0x8000000000000000, 0x8000000000000000, 0⟩
  else none

/-- Whether a range lies within one mapped region (R285, R301). -/
def oneRegion (a n : Nat) : Bool :=
  match regionOf a with
  | some r => decide (a + n ≤ r.base + r.size)
  | none => false

/-- The NI that serves an address of a region (R300, R302). -/
def regionNi (r : Region) (a : Nat) : Nat :=
  match r.kind with
  | .coreData | .coreRuntime | .coreProg => r.idx
  | .cluster => 192 + r.idx
  | .sram => 200 + r.idx
  | .dmaRegs | .dmaStream => 216 + r.idx
  | .hbm => 224 + 4 * r.idx + a / 512 % 4
  | .host => 244

/-- Whether an NI is a control core's (Table 10.1). -/
def isControl (ni : Nat) : Bool := decide (245 ≤ ni ∧ ni ≤ 252)

/-- Whether the access column of Table 12.1 or Table 12.5 admits a requester (R301); DMA windows are judged by their own
rules (R280, R291). -/
def mayAccess (ni : Nat) (r : Region) (a : Nat) : Bool :=
  match r.kind with
  | .coreRuntime | .coreProg => isControl ni
  | .hbm =>
    if a < 0x820000000 then isControl ni else if a < 0x840000000 then ni == 253 else true
  | _ => true

/-! ### Places and itineraries -/

/-- The clusters a variant has (R2, R252). -/
def clusters (p : Part) : Nat := classFused p 10

/-- The ring (0 to 7 clusters, 8 global), junction and port of an NI (Tables 10.2, 10.3). -/
def niPlace (n : Nat) : Nat × Nat × Nat :=
  if n < 128 then (n / 16, n % 16, 0)
  else if n < 192 then
    let i := n - 128
    if i < 16 then (i / 2, 16 + i % 2, 0)
    else if i < 32 then ((i - 16) / 2, 18 + i % 2, 0)
    else if i < 44 then
      let k := i - 32
      match k % 3 with
      | 0 => (2 * (k / 3), 21, 0)
      | 1 => (2 * (k / 3), 22, 0)
      | _ => (2 * (k / 3) + 1, 21, 0)
    else if i < 48 then (2 * (i - 44), 23, 0)
    else if i < 52 then (2 * (i - 48) + 1, 22, 0)
    else if i < 56 then (2 * (i - 52) + 1, 23, 0)
    else (i - 56, 20, 0)
  else if n < 200 then (n - 192, 12, 1)
  else if n < 216 then
    let b := n - 200
    if b % 2 = 0 then (8, 4 * (b / 2), 1) else (8, 4 * (b / 2) + 1, 0)
  else if n < 224 then (8, 4 * (n - 216) + 1, 1)
  else if n < 232 then (8, 4 * (n - 224) + 2, 0)
  else if n < 240 then (8, 4 * (n - 232) + 2, 1)
  else if n < 244 then (8, 4 * (n - 240) + 3, 1)
  else if n = 244 then (8, 19, 1)
  else if n < 253 then (8, 4 * (n - 245) + 3, 0)
  else (8, 4 * (n - 253 + 5) + 3, 1)

/-- Junctions of a ring. -/
def ringSize (ring : Nat) : Nat := if ring = 8 then 32 else 24

/-- The default leg between two junctions of a ring (R261, Table 10.9). -/
def legWord (ring from_ to_ pair port : Nat) : Nat :=
  let n := ringSize ring
  let asc := (to_ + n - from_) % n
  let desc := (from_ + n - to_) % n
  (if asc ≤ desc then asc else desc + 32) + (if ring = 8 then 64 * pair else 0) + 256 * port

/-- The default entry of an NI for a destination (R261, Table 10.8): NLEGS 0, which is invalid, where a cluster is fused off. -/
def defaultEntry (p : Part) (src dst : Nat) : DWord :=
  let s := niPlace src
  let t := niPlace dst
  let off := fun (r : Nat) => r != 8 && decide (clusters p ≤ r)
  if off s.1 || off t.1 then 2
  else
    let pair := dst % 4
    let legs :=
      if s.1 = t.1 then [legWord s.1 s.2.1 t.2.1 pair t.2.2]
      else
        let out := if s.1 = 8 then [] else [legWord s.1 s.2.1 0 0 1]
        let at_ := if s.1 = 8 then s.2.1 else 4 * s.1
        if t.1 = 8 then out ++ [legWord 8 at_ t.2.1 pair t.2.2]
        else out ++ [legWord 8 at_ (4 * t.1) pair 0, legWord t.1 0 t.2.1 0 t.2.2]
    BitVec.ofNat 64 (2 + 4 * legs.length + legs.getD 0 0 * 2 ^ 16 + legs.getD 1 0 * 2 ^ 32 + legs.getD 2 0 * 2 ^ 48)

/-- The entry that an NI holds for a destination (R258): its reset value until the control complex has loaded the shells. -/
def Dev.entry (d : Dev) (src dst : Nat) : DWord :=
  if !d.ring.loaded then 2
  else match (d.niRec src).itin.find? (fun e => e.1 == dst) with
    | some e => e.2
    | none => defaultEntry d.part src dst

/-- Whether an entry is valid: NLEGS is not 0 (Table 10.8). -/
def entryValid (e : DWord) : Bool := bitsAt e.toNat 2 2 != 0

/-- The links of one leg, and the ring and junction behind it (R259). -/
def legLinks (ring j leg : Nat) : List Sys2Proof.LinkId × Nat × Nat :=
  let n := ringSize ring
  let hops := leg % 32
  let down := bitAt leg 5
  let stop := if down then (j + n - hops % n) % n else (j + hops) % n
  let bridge := if ring = 8 then stop % 4 == 0 && !bitAt leg 8 else stop == 0 && bitAt leg 8
  let links := (List.range hops).map (fun k =>
    ({ ring := ring, junction := if down then (j + n - k % n) % n else (j + k) % n, dir := down
       pair := bitsAt leg 6 2, lane := ring != 8 && bridge } : Sys2Proof.LinkId))
  if bridge then (if ring = 8 then (links, stop / 4, 0) else (links, 8, 4 * ring)) else (links, ring, stop)

/-- The links an itinerary uses (R259). -/
def pathLinks (src : Nat) (e : DWord) : List Sys2Proof.LinkId :=
  let legs := (List.range (bitsAt e.toNat 2 2)).map (fun k => bitsAt e.toNat (16 + 16 * k) 16)
  let s := niPlace src
  (legs.foldl (fun (acc : List Sys2Proof.LinkId × Nat × Nat) leg =>
    let l := legLinks acc.2.1 acc.2.2 leg
    (acc.1 ++ l.1, l.2.1, l.2.2)) (([] : List Sys2Proof.LinkId), s.1, s.2.1)).1

/-- Whether a packet of an NI to another meets a failed link (R270). -/
def Dev.pathCut (d : Dev) (src dst : Nat) : Bool :=
  d.ring.links.any (fun l => l.failed && !l.removed) &&
    (pathLinks src (d.entry src dst)).any (fun l => d.ring.links.any (fun r => r.failed && !r.removed && r.link == l))

/-! ### One request -/

/-- Status codes (Table 10.7). -/
def rsStopped : Nat := 1
/-- ABSENT. -/
def rsAbsent : Nat := 2
/-- ECC. -/
def rsEcc : Nat := 3
/-- DECODE. -/
def rsDecode : Nat := 4
/-- LINK. -/
def rsLink : Nat := 5
/-- ROUTE. -/
def rsRoute : Nat := 6
/-- TIMEOUT. -/
def rsTimeout : Nat := 7

/-- What an NI shell says to an arriving request (Table 10.13): 0 where it delivers it. -/
def Dev.shellSays (d : Dev) (ni : Nat) : Nat :=
  match (d.niRec ni).shell with
  | .open_ => 0
  | .closing | .closed => rsStopped
  | .absent => rsAbsent

/-- The status of a request to an address before the target acts (R256, R257, R301): `src` sends it, with the rights of
`rights` (a DMA channel's owner). Where it would be delivered, 0. -/
def Dev.reach (d : Dev) (src rights a n : Nat) : Nat :=
  match regionOf a with
  | none => rsDecode
  | some r =>
    let ni := regionNi r a
    if r.base + r.size < a + n then rsDecode
    else if !entryValid (d.entry src ni) then rsRoute
    else if d.pathCut src ni then rsTimeout
    else
      let s := d.shellSays ni
      if s ≠ 0 then s else if mayAccess rights r a then 0 else rsDecode

/-- Whether an address lies in the program memory of a core that holds a job: nothing writes there then (R67). -/
def Dev.progBusy (d : Dev) (a : Nat) : Bool :=
  (regionOf a).any (fun r => r.kind == .coreProg && !(d.core r.idx).jobs.isEmpty)

/-- A bit error at a target (R306): corrected and counted, or poisoned, with the bank's test due. -/
def Dev.eccHit (d : Dev) (a n : Nat) (e : Sys2Proof.EccHit) : Dev :=
  match e with
  | .none | .refused => d
  | .corrected off => if off < n then d.eccCorrected (a + off) else d
  | .uncorrectable off =>
    if off < n then ({ d with mem := d.mem.markPoison (a + off) } : Dev).eccUncorrectable (a + off) else d

/-- Whether an address is the host's (Table 12.1). -/
def isHost (a : Nat) : Bool := (regionOf a).any (fun r => r.kind == .host)

/-- What the host's completions say of a read (R383): a poisoned one ECC; none, or one that refuses it, DECODE. -/
def hostSays (n : Nat) (e : Sys2Proof.EccHit) : Nat :=
  match e with
  | .refused => rsDecode
  | .uncorrectable off => if off < n then rsEcc else 0
  | _ => 0

/-- A read of at most one packet (R306, R312, R383): its status, the bytes, and what an error leaves behind. -/
def Dev.netRead (d : Dev) (src rights a n : Nat) (e : Sys2Proof.EccHit) : Nat × List Byte × Dev :=
  let s := if isHost a ∧ d.reach src rights a n = 0 then hostSays n e else d.reach src rights a n
  if s ≠ 0 then (s, [], d)
  else
    let d1 := d.eccHit a n e
    if d1.mem.poisoned a n then (rsEcc, [], d1) else (0, d1.mem.ifBytes a n, d1)

/-- A write of at most one packet (R306, R312): a code word it covers only in part and finds bad keeps its bytes. -/
def Dev.netWrite (d : Dev) (src rights a : Nat) (bs : List Byte) (e : Sys2Proof.EccHit) : Nat × Dev :=
  let s := if d.reach src rights a bs.length = 0 ∧ d.progBusy a then rsDecode else d.reach src rights a bs.length
  if s ≠ 0 then (s, d)
  else
    let n := bs.length
    let part := fun (off : Nat) =>
      let w := codeWordOf (a + off)
      !isHost a && !(decide (a ≤ w) && decide (w + codeWidth w ≤ a + n))
    let d1 := match e with
      | .uncorrectable off => if part off then d.eccHit a n e else d
      | .corrected off => if part off then d.eccHit a n e else d
      | .none | .refused => d
    (if d1.mem.partialPoison a n then rsEcc else 0, { d1 with mem := d1.mem.ifWrite a bs })

/-- Fill bytes with free values: a destination that is unknown or undefined (R257). -/
def Dev.scramble (d : Dev) (a n : Nat) : Dev :=
  { d with mem := d.mem.ifWrite a ((List.range n).map (fun i => Sys2Proof.Config.freeByte (d.free + i))), free := d.free + n }

end Sys2Proof.Machine
end

