-- ==== Sys2Proof/Machine/Wire.lean ====
section
/-! DEFINITION. The line of an Ecner lane: the code RS(544,514) of IEEE 802.3 Clause 91, codewords, PAM4 symbols, and the frame
that a receiver gets (13_ecner_framing.md, R319 to R321, R336; log entry 83). -/

namespace Sys2Proof.Machine

/-! ### The field of 1,024 elements (Clause 91: x^10 + x^3 + 1) -/

/-- α times an element. -/
def gfDouble (x : Nat) : Nat := if x < 512 then 2 * x else (2 * x) ^^^ 0x409

/-- The product. -/
def gfMul (a b : Nat) : Nat :=
  (List.range 10).foldl (fun acc i => gfDouble acc ^^^ (if bitAt b (9 - i) then a else 0)) 0

/-- α^k. -/
def gfAlpha (k : Nat) : Nat := (List.range (k % 1023)).foldl (fun x _ => gfDouble x) 1

/-- The inverse of an element that is not 0: its power 1,022. -/
def gfInv (a : Nat) : Nat :=
  (List.range 9).foldl (fun (x : Nat × Nat) _ => let y := gfMul x.1 x.1; (y, gfMul x.2 y)) (a, 1) |>.2

/-- The value of a polynomial, its lowest coefficient first. -/
def gfEval (p : List Nat) (x : Nat) : Nat := p.foldr (fun c acc => gfMul acc x ^^^ c) 0

/-- The sum of two polynomials. -/
def gfAdd : List Nat → List Nat → List Nat
  | [], q => q
  | p, [] => p
  | a :: p, b :: q => (a ^^^ b) :: gfAdd p q

/-- A polynomial times an element. -/
def gfScale (k : Nat) (p : List Nat) : List Nat := p.map (gfMul k)

/-- The product of two polynomials. -/
def gfProd : List Nat → List Nat → List Nat
  | [], _ => []
  | a :: p, q => gfAdd (gfScale a q) (0 :: gfProd p q)

/-! ### RS(544,514) (R320) -/

/-- The generator polynomial: roots α^0 to α^29. -/
def codeGenerator : List Nat := (List.range 30).foldl (fun g j => gfProd g [gfAlpha j, 1]) [1]

/-- The 30 parity symbols of 514 message symbols, in the order sent: the remainder of the message times x^30. -/
def codeParity (msg : List Nat) : List Nat :=
  let g := codeGenerator.take 30
  (msg.foldl (fun rem m =>
    let k := rem.getD 29 0 ^^^ m
    gfAdd (0 :: rem.take 29) (gfScale k g)) (List.replicate 30 0)).reverse

/-- The 30 syndromes of a received codeword. -/
def codeSyndromes (cw : List Nat) : List Nat :=
  (List.range 30).map (fun j => let a := gfAlpha j; cw.foldl (fun s c => gfMul s a ^^^ c) 0)

/-- The state of the search for the error locator: the locator, the last one of another length, the length, the steps since
then, the discrepancy then. -/
structure Locator where
  c : List Nat
  b : List Nat
  len : Nat
  gap : Nat
  disc : Nat

/-- One syndrome enters the search. -/
def Locator.step (x : Locator) (s : List Nat) (n : Nat) : Locator :=
  let d := (List.range (x.len + 1)).foldl (fun acc i => acc ^^^ gfMul (x.c.getD i 0) (s.getD (n - i) 0)) 0
  if d = 0 then { x with gap := x.gap + 1 }
  else
    let c := gfAdd x.c (List.replicate x.gap 0 ++ gfScale (gfMul d (gfInv x.disc)) x.b)
    if 2 * x.len ≤ n then { c := c, b := x.c, len := n + 1 - x.len, gap := 1, disc := d } else { x with c := c, gap := x.gap + 1 }

/-- The error locator of some syndromes, and how many errors it stands for. -/
def codeLocator (s : List Nat) : List Nat × Nat :=
  let x := (List.range 30).foldl (fun x n => Locator.step x s n) { c := [1], b := [1], len := 0, gap := 1, disc := 1 }
  (x.c, x.len)

/-- The errors of a received codeword, as places in the order sent and values; none where it has more than 15 (R320). -/
def codeErrors (cw : List Nat) : Option (List (Nat × Nat)) :=
  let s := codeSyndromes cw
  if s.all (fun x => x == 0) then some []
  else
    let loc := codeLocator s
    let powers := (List.range 544).filter (fun p => gfEval loc.1 (gfAlpha (1023 - p)) == 0)
    if 15 < loc.2 ∨ powers.length ≠ loc.2 then none
    else
      let omega := (gfProd s loc.1).take 30
      let slope := loc.1.zipIdx.map (fun c => if c.2 % 2 = 1 then c.1 else 0) |>.drop 1
      some (powers.map (fun p =>
        let inv := gfAlpha (1023 - p)
        (543 - p, gfMul (gfAlpha p) (gfMul (gfEval omega inv) (gfInv (gfEval slope inv))))))

/-- A received codeword as it is passed on: its symbols, how many were corrected; none corrected and flagged where it has more
than 15 errors (R320). -/
def codeDecode (cw : List Nat) : List Nat × Option Nat :=
  match codeErrors cw with
  | none => (cw, none)
  | some es => (cw.zipIdx.map (fun c => es.foldl (fun v e => if e.1 = c.2 then v ^^^ e.2 else v) c.1), some es.length)

/-! ### Bits, symbols, codewords (R319, R321) -/

/-- The half-bytes of some bytes, in wire order. -/
def nibbles (bs : List Byte) : List Nat := bs.flatMap (fun b => [b.toNat / 16, b.toNat % 16])

/-- Bytes from half-bytes. -/
def fromNibbles : List Nat → List Byte
  | a :: b :: rest => BitVec.ofNat 8 (16 * a + b) :: fromNibbles rest
  | _ => []

/-- 10-bit symbols from half-bytes, most significant bit first. -/
def symbolsOf : List Nat → List Nat
  | a :: b :: c :: d :: e :: rest => (64 * a + 4 * b + c / 4) :: (c % 4 * 256 + 16 * d + e) :: symbolsOf rest
  | _ => []

/-- Half-bytes from 10-bit symbols. -/
def fromSymbols : List Nat → List Nat
  | x :: y :: rest => [x / 64, x / 4 % 16, x % 4 * 4 + y / 256, y / 16 % 16, y % 16] ++ fromSymbols rest
  | _ => []

/-- The Waymark (R321), in wire order. -/
def waymark : List Byte := [0x59, 0xE6, 0xC3, 0x0B, 0x7A]

/-- A frame on the line from its 20,560 message bytes, Waymark first: 32 codewords of 680 bytes (R320, R321). -/
def lineBytes (message : List Byte) : List Byte :=
  let ns := nibbles message
  fromNibbles ((List.range 32).flatMap (fun c =>
    let m := (ns.drop (1285 * c)).take 1285
    m ++ fromSymbols (codeParity (symbolsOf m))))

/-- The level, 0 to 3, of a PAM4 symbol from its earlier and later bit: the Gray mapping of IEEE 802.3 (R319). -/
def pam4Level (earlier later : Bool) : Nat := if earlier then (if later then 2 else 3) else (if later then 1 else 0)

/-- The PAM4 symbols of some bytes, in the order sent (R319). -/
def pam4Levels (bs : List Byte) : List Nat :=
  bs.flatMap (fun b => (List.range 4).map (fun i => pam4Level (bitAt b.toNat (7 - 2 * i)) (bitAt b.toNat (6 - 2 * i))))

/-! ### A frame as received -/

/-- Bits that differ in two bytes, counted. -/
def byteErrors (a b : Byte) : Nat := ((List.range 8).filter (fun i => bitAt (a ^^^ b).toNat i)).length

/-- The MS byte on the raw line (R336). -/
def rawMs (f : Sys2Proof.RxFrame) : Nat := (f.line.getD 5 0).toNat % 64

/-- The bit errors of the Waymark on the raw line (R336). -/
def waymarkErrors (f : Sys2Proof.RxFrame) : Nat := ((waymark.zipIdx).map (fun w => byteErrors w.1 (f.line.getD w.2 0))).sum

/-- What the code gives back of a frame (R320): its bytes from MS on, the codewords it could not correct, the symbols it
corrected. -/
structure RxRead where
  bytes : List Byte
  bad : List Nat
  corrected : Nat

/-- A frame through the code (R320). -/
def readFrame (f : Sys2Proof.RxFrame) : RxRead :=
  let ns := nibbles f.line
  let cws := (List.range 32).map (fun c =>
    let x := symbolsOf ((ns.drop (1360 * c)).take 1360)
    codeDecode (x ++ List.replicate (544 - x.length) 0))
  { bytes := (fromNibbles (cws.flatMap (fun c => (fromSymbols c.1).take 1285))).drop 5
    bad := (cws.zipIdx.filter (fun c => c.1.2.isNone)).map (fun c => c.2)
    corrected := (cws.map (fun c => c.2.getD 0)).sum }

end Sys2Proof.Machine
end

