-- ==== Sys2Proof/Machine/Link.lean ====
section
/-! DEFINITION. Ecner frames sent and received, containers, BLANK (13_ecner_framing.md, R318 to R336; 08_transmit_chain.md,
R211 to R216). -/

namespace Sys2Proof.Machine

/-! ### Scrambler, parity, header -/

/-- One step of the scrambler (R327): the keystream bit and the next state. -/
def scrStep (s : Nat) : Nat × Nat :=
  let k := (s / 2 ^ 30 + s / 2 ^ 27) % 2
  (k, (2 * s + k) % 2 ^ 31)

/-- Eight keystream bits, the first most significant, and the next state. -/
def scrKey : Nat → Nat → Nat → Nat × Nat
  | 0, s, acc => (acc, s)
  | n + 1, s, acc => let x := scrStep s; scrKey n x.2 (2 * acc + x.1)

/-- Bytes scrambled, or descrambled, from a state on. -/
def scrambleFrom : List Byte → Nat → List Byte
  | [], _ => []
  | b :: bs, s => let x := scrKey 8 s 0; (b ^^^ BitVec.ofNat 8 x.1) :: scrambleFrom bs x.2

/-- The scrambler's seed (R327). -/
def scrSeed (ms lane : Nat) : Nat := ms % 64 * 2 ^ 25 + lane * 2 ^ 20 + 0xB2E19

/-- Bytes of a frame's payload. -/
def payloadBytes : Nat := 20531

/-- BIP-8 over a payload as sent (R323). -/
def bip8 (bs : List Byte) : Nat := (bs.foldl (fun a b => a ^^^ b) (0 : Byte)).toNat

/-- Bits that differ. -/
def bitsDiffer (a b : Nat) : Nat := ((List.range 8).filter (fun i => bitAt a i != bitAt b i)).length

/-- A number from bytes, most significant first. -/
def msbNat (bs : List Byte) : Nat := natOf bs.reverse

/-- `n` bytes of a number, most significant first. -/
def msbOf (n x : Nat) : List Byte := (bytesOf n x).reverse

/-- The header of a container (Table 13.3). -/
def TxCont.header (c : TxCont) : List Byte :=
  msbOf 8 (c.kind * 2 ^ 60 + boolNat c.last * 2 ^ 59 + c.sid % 4096 * 2 ^ 44 + c.tag % 2 ^ 16 * 2 ^ 28 + c.ofs % 4096 * 2 ^ 16
    + c.body.length % 2 ^ 16)

/-- A container as sent. -/
def TxCont.bytes (c : TxCont) : List Byte := c.header ++ c.body

/-- Whether a container goes before another (R330): due time, then SID, then OFS. -/
def TxCont.before (a b : TxCont) : Bool :=
  decide (airDiff a.due b.due < 0) || (a.due == b.due && (decide (a.sid < b.sid) || (a.sid == b.sid && decide (a.ofs < b.ofs))))

/-- A container put into its place. -/
def insertCont (c : TxCont) : List TxCont → List TxCont
  | [] => [c]
  | x :: xs => if c.before x then c :: x :: xs else x :: insertCont c xs

/-! ### Sending -/

/-- The containers a lane can send, in order: its own, and those of the channel bridged onto it (R330, R342). -/
def Dev.sendable (d : Dev) (l : Nat) : List TxCont :=
  let mine := fun (c : TxCont) =>
    (c.lane == l && !c.sentWork)
      || (!c.sentProt && (match d.laneGroup c.lane with
        | some (g, ch) => ch != 0 && d.protLane g == l && (d.group g).br == ch
        | none => false))
  (d.link.out.filter mine).foldl (fun acc c => insertCont c acc) []

/-- The containers that fit one after the other. -/
def fitConts : Nat → List TxCont → List TxCont
  | _, [] => []
  | room, c :: rest => if 8 + c.body.length ≤ room then c :: fitConts (room - 8 - c.body.length) rest else []

/-- A lane has sent some containers. -/
def Dev.noteSent (d : Dev) (l : Nat) (cs : List TxCont) : Dev :=
  let out := d.link.out.map (fun c =>
    if cs.contains c then (if c.lane = l then { c with sentWork := true } else { c with sentProt := true }) else c)
  { d with link := { d.link with out := out.filter (fun c => !(c.sentWork && c.sentProt)) } }

/-- The CTL word of the next frame and what the transmitter keeps after it (R212 to R215). -/
def LaneTx.ctl (t : LaneTx) (ts : Nat) : Nat × LaneTx :=
  match t.slots.find? (fun s => s.frame == t.frame) with
  | some s => (s.ev.word ts, { t with slots := t.slots.filter (fun s => s.frame != t.frame) })
  | none =>
    match t.force with
    | (g, n) :: rest =>
      (forceWord g,
        { t with force := if n ≤ 1 then rest else (g, n - 1) :: rest
                 gate := if n = 2 then t.gate &&& ~~~((1 : BitVec 16) <<< g) else t.gate })
    | [] => (stateWord t.gate, t)

/-- STAT (Table 13.2, R338): RDI, REI, ROLE. -/
def Dev.statByte (d : Dev) (l : Nat) : Nat :=
  let sf := d.sfClass l
  let x := d.lane l
  let role := match d.laneGroup l with | some (_, 0) => 2 | some _ => 1 | none => 0
  128 * boolNat (sf || decide (0 < x.tx.rdiHold)) + (if sf then 0 else 8 * x.rx.bipLast) + role

/-- DR1 and DR2 (Table 13.2): on a protection lane alone (R339). -/
def Dev.drBytes (d : Dev) (l : Nat) : Nat × Nat :=
  match d.laneGroup l with
  | some (g, 0) =>
    let x := d.group g
    let fl := pf (d.groupRec g) 1 1
    (16 * x.req + x.ch, 16 * x.br + 8 * (fl % 2) + 4 * (fl / 2 % 2))
  | _ => (0, 0)

/-- Tests that wait for FAIL to be sent count the frames of their protection lane that carry it (R344). -/
def Dev.countTestFrames (d : Dev) (l : Nat) : Dev :=
  match d.laneGroup l with
  | some (g, 0) =>
    let x := d.group g
    (List.range 32).foldl (fun d w =>
      match d.laneGroup w with
      | some (k, c) =>
        if k ≠ g ∨ c = 0 then d
        else d.updRx w (fun r =>
          { r with testFrames := if (d.unit 13 w).queued && x.req == 0xB && x.ch == c then r.testFrames + 1 else 0 })
      | none => d) d
  | _ => d

/-- A transmitter whose frames have not been taken for more than 10 µs was idle: it starts anew with a frame now (log entry
35). -/
def LaneTx.catchUp (t : LaneTx) (air : Nat) : LaneTx :=
  if airPast air (t.tsAt 0) ∧ usToTc 10 < airAhead (t.tsAt 0) air then { t with next := air * 1000000 } else t

/-- The 20,560 message bytes of a frame (Table 13.1): Waymark and MS in the clear, the rest scrambled (R327). -/
def frameMessage (l : Nat) (head body : List Byte) : List Byte :=
  waymark ++ head.take 1 ++ scrambleFrom (head.drop 1 ++ padTo payloadBytes body) (scrSeed (head.headD 0).toNat l)

/-- The line of the frame that a transmitter sent last: its bytes in wire order (R320, R321), as PAM4 symbols (R319). -/
def LaneTx.line (t : LaneTx) (l : Nat) : List Byte := lineBytes (frameMessage l t.sentHead t.sent)
/-- See `LaneTx.line`. -/
def LaneTx.levels (t : LaneTx) (l : Nat) : List Nat := pam4Levels (t.line l)

/-- An Ecner lane sends a frame (R321 to R330). -/
def Dev.frameSend (d : Dev) (l : Nat) : Dev :=
  let t0 := ((d.lane l).tx.catchUp d.time.air).settle ((d.lane l).tx.catchUp d.time.air |>.tsAt 0)
  let ts := t0.tsAt 0
  let cfgt := t0.cfgt != t0.cfgtDue
  let ctl := t0.ctl ts
  let test := d.lineTest l
  let conts := if test then [] else fitConts payloadBytes (d.sendable l)
  let body := conts.flatMap TxCont.bytes
  let dr := d.drBytes l
  let rec_ := d.cfg.lanes.toList.getD l []
  let gcc := padTo 2 (t0.gcc.take 2 ++ List.replicate 2 0x7E)
  let head := [BitVec.ofNat 8 (128 * boolNat test + 64 * boolNat cfgt + t0.ms), BitVec.ofNat 8 t0.bip, BitVec.ofNat 8 (d.statByte l)
      , BitVec.ofNat 8 dr.1, BitVec.ofNat 8 dr.2]
    ++ msbOf 8 (d.time.stampAt ts).toNat ++ msbOf 4 ctl.1 ++ (padTo 1 ((rec_.drop (32 + t0.ms)).take 1)) ++ gcc ++ [0, 0, 0, 0]
  let sf := d.sfClass l
  let d1 := (d.noteSent l conts).updTx l (fun _ =>
    { ctl.2 with frame := t0.frame + 1
                 next := (t0.next + frameStep) % microWrap
                 ms := (t0.ms + 1) % 64
                 cfgt := cfgt
                 cfgtDue := false
                 bip := bip8 ((frameMessage l head body).drop 29)
                 rdiHold := if sf then 2 else ctl.2.rdiHold - 1
                 gcc := t0.gcc.drop 2
                 sentHead := head
                 sent := body })
  (((d1.countTestFrames l).detourWatch l).laneNote l).startTests

/-! ### Times of containers -/

/-- The air time nearest a moment among some that carry a TAG. -/
def nearestAir (now : Nat) (ts : List Nat) : Option Nat :=
  ts.foldl (fun best t =>
    match best with
    | none => some t
    | some b => if (airDiff t now).natAbs < (airDiff b now).natAbs then some t else best) none

/-- The air time a TAG resolves to for a cell type near a moment, its slot's start and symbol (R328, Table 13.5). -/
def TimeState.untag (t : TimeState) (type tag now : Nat) : Option (Nat × Nat × Nat) :=
  if type = 5 then
    let f := gsmFrameOf (t.gsmAt now)
    let starts := (List.range 11).filterMap (fun (k : Nat) =>
      let x := f + (k : Int) - 5
      if (((t.fn0 : Nat) + x) % 2715648).toNat % 8192 = tag / 8 then some ((x * 117964800 / 13 % (airWrap : Nat)).toNat) else none)
    (nearestAir now starts).map (fun s => (t.symStart 5 s (tag % 8), s, tag % 8))
  else
    let slot := tag / 2 ^ 7 % 2 ^ 7
    let sym := tag / 8 % 16
    let n := if type = 4 then slot / 2 else slot
    let s := if type = 4 then slot % 2 * 7 + sym else sym
    if tag % 8 ≠ 0 ∨ slotsPerFrame type ≤ n ∨ (if type = 4 then 7 else 14) ≤ sym then none
    else
      let frames := (List.range 9).map (fun k => (now / frameTc + k + airWrap / frameTc - 4) % (airWrap / frameTc))
      let starts := (frames.filter (fun f => f % 4 == tag / 2 ^ 14)).map (fun f => f * frameTc + slotPos type n)
      (nearestAir now (starts.map (fun x => (x + symPos type n s) % airWrap))).map (fun a =>
        (a, (a + airWrap - symPos type n s) % airWrap, s))

/-- The uplink entry of a SID that is in force for a TAG (R332), with the time the TAG resolves to. -/
def Dev.rxEntry (d : Dev) (sid tag now : Nat) : Option (StreamRec × Option (Nat × Nat × Nat)) :=
  let look := fun (ss : List StreamRec) => (ss.find? (fun e => !e.down && e.sid == sid)).map (fun e =>
    (e, (d.cell? e.cell).bind (fun c => d.time.untag c.cr.type tag now)))
  match d.link.streamsAt with
  | none => look d.cfg.streams
  | some b =>
    match look d.link.oldStreams with
    | some (e, some t) => if airDiff t.1 b < 0 then some (e, some t) else look d.cfg.streams
    | _ =>
      match look d.cfg.streams with
      | some (e, some t) => if airDiff t.1 b < 0 then none else some (e, some t)
      | x => x

/-- The lane selected for a stream's containers (R342). -/
def Dev.selectedLane (d : Dev) (e : StreamRec) : Nat :=
  match d.laneGroup e.lane with
  | some (g, c) => if c ≠ 0 ∧ (d.group g).sel = c then d.protLane g else e.lane
  | none => e.lane

/-! ### Delivery (R329, R331, R227) -/

/-- A container as received: its header's fields and body. -/
structure RxCont where
  kind : Nat
  last : Bool
  sid : Nat
  tag : Nat
  ofs : Nat
  body : List Byte
  /-- LEN fits; some byte lies in an uncorrectable codeword; the receive buffer is full. -/
  fits : Bool := true
  bad : Bool := false
  full : Bool := false
deriving DecidableEq, Repr

/-- FD16 wire PRBs of 49 bytes back in the memory form of 52 (R329). -/
def fd16Memory (body : List Byte) : List Byte :=
  (List.range (body.length / 49)).flatMap (fun i =>
    let p := (body.drop (49 * i)).take 49
    swapParts (p.drop 1) ++ p.take 1 ++ [0, 0, 0])

/-- The body in memory form, and how many PRBs or samples it carries. -/
def memoryBody (kind : Nat) (body : List Byte) : List Byte × Nat :=
  match kind with
  | 1 => (body, body.length * 8 / 220)
  | 2 => (fd16Memory body, body.length / 49)
  | _ => (swapParts body, body.length / 4)

/-- Put PRBs of a BFP9 body into a stream's area of an input buffer of packed PRBs: half-bytes, most significant first. -/
def packPrbs (area body : List Byte) (first count prb0 nprb : Nat) : List Byte :=
  let nib := fun (bs : List Byte) => bs.flatMap (fun b => [b.toNat / 16, b.toNat % 16])
  let src := nib body
  let old := nib area
  let new := (List.range old.length).map (fun i =>
    let prb := prb0 + i / 55
    if i / 55 < nprb ∧ first ≤ prb ∧ prb < first + count then src.getD (55 * (prb - first) + i % 55) 0 else old.getD i 0)
  (List.range area.length).map (fun i => BitVec.ofNat 8 (16 * new.getD (2 * i) 0 + new.getD (2 * i + 1) 0))

/-- The jobs of a plan that an arrival gates (R227): an EST whose DM-RS mask holds the symbol, an APPLY of the symbol; for
FR2 those of the stream's subband. -/
def Dev.gatedJobs (d : Dev) (cell start sym sub : Nat) : List Job :=
  let c := d.cell? cell
  d.alm.jobs.filter (fun j =>
    j.pool == 4 && j.cell == cell && !j.copy.isEmpty
      && (match j.serves with | some s => !s.down && s.start == start | none => false)
      && (match d.descField j 0 1 with
        | 1 => bitAt (d.descField j 8 4) sym && decide (sym < 14)
        | 2 => d.descField j 2 1 == sym
        | _ => false)
      && (match c with
        | some x => x.cr.type != 3 || subbandOf ((nRb 3 x.cr.bw).getD 0) (d.descField j (d.prb0At j) 2) == sub
        | none => false))

/-- A BFP9 or FD16 segment is written into the input buffers of the jobs that read it (R331; the places are the model's, log
entry 50): symbols of an EST in order, then streams, each a run of PRBs, those of BFP9 packed. -/
def Dev.storeSegment (d : Dev) (j : Job) (e : StreamRec) (sym first count : Nat) (body : List Byte) : Dev :=
  let est := d.descField j 0 1 == 1
  let nprb := d.descField j (if est then 6 else 10) 2
  let prb0 := d.descField j (d.prb0At j) 2
  let ns := if est then d.descField j 3 1 else match d.cell? e.cell with | some c => c.cr.s | none => 0
  let forms := d.streamForms e.cell ns
  let fd16 := e.kind == 2
  let step := bodyLen fd16 (12 * nprb)
  let order := if est then ((List.range sym).filter (fun s => bitAt (d.descField j 8 4) s)).length else 0
  let a := d.descField j (if est then 32 else 16) 8 + order * symbolBytes forms nprb + streamAt forms nprb e.stream
  if ns ≤ e.stream ∨ !oneRegion a step then d
  else if fd16 then
    (List.range count).foldl (fun d i =>
      if prb0 ≤ first + i ∧ first + i < prb0 + nprb then
        { d with mem := d.mem.ifWrite (a + 52 * (first + i - prb0)) ((body.drop (52 * i)).take 52) }
      else d) d
  else { d with mem := d.mem.ifWrite a (packPrbs (d.mem.ifBytes a step) body first count prb0 nprb) }

/-- Deliver a container (R331): the arrival map, the input buffers, the arrival event of the first LAST. -/
def Dev.deliverCont (d : Dev) (e : StreamRec) (c : RxCont) (at_ start sym now : Nat) : Dev :=
  let m := memoryBody c.kind c.body
  let first := if c.kind = 3 then 2 * c.ofs else c.ofs
  let a : Arrival := { sid := c.sid, stream := e.stream, at_ := at_, first := first, count := m.2, last := c.last, kind := c.kind, body := m.1 }
  let before := ((d.cell? e.cell).map (fun x => x.arrived)).getD []
  let told := before.any (fun x => x.sid == c.sid && x.at_ == at_ && x.last)
  let keep := before.filter (fun x => decide (airDiff now x.at_ < (usToTc 20000 : Nat)))
  let d1 := d.updCell e.cell (fun x => { x with arrived := keep ++ [a] })
  let seen := d1.link.delivered.filter (fun x => decide (airAhead x.2.2.2 now < usToTc 2000))
  let d2 : Dev := { d1 with link := { d1.link with delivered := seen ++ [(c.sid, c.tag, c.ofs, now)] } }
  let jobs := d2.gatedJobs e.cell start sym e.sub
  let d3 := if c.kind = 1 ∨ c.kind = 2 then jobs.foldl (fun d j => d.storeSegment j e sym first m.2 m.1) d2 else d2
  if c.last && !told then jobs.foldl (fun d j => d.eventTo j.id) d3 else d3

/-- A container is discarded and counted (R366, Table 14.4). -/
def Dev.discard (d : Dev) (l reason : Nat) : Dev :=
  d.updRx l (fun r =>
    { r with drops := Nat.min 0xFFFF (r.drops + 1)
             disc := Vector.ofFn (fun (i : Fin 10) => if i.val = reason then Nat.min 0xFFFFFFFF (r.disc[i] + 1) else r.disc[i])
             sec := { r.sec with disc := r.sec.disc + 1 } })

/-- A received container is delivered, or discarded under the first reason that applies (R331, R366). -/
def Dev.takeCont (d : Dev) (l : Nat) (c : RxCont) (now : Nat) : Dev :=
  if !c.fits then d.discard l 4
  else
    let x := d.rxEntry c.sid c.tag now
    let off := match (d.cfg.streams.find? (fun e => !e.down && e.sid == c.sid)) with
      | some e => d.selectedLane e != l
      | none => false
    if (match x with | some p => d.selectedLane p.1 != l | none => off) then d.discard l 0
    else if d.sfClass l then d.discard l 1
    else match x with
      | none => d.discard l 2
      | some (e, t) =>
        let serves := match d.cell? e.cell with
          | some x => x.inService && (match t with | some y => decide (0 ≤ airDiff y.2.1 x.since) | none => true)
          | none => false
        if !serves || e.kind != c.kind || !([1, 2, 3].contains c.kind) then d.discard l 2
        else if c.bad then d.discard l 3
        else match t with
          | none => d.discard l 5
          | some (at_, start, sym) =>
            let type := ((d.cell? e.cell).map (fun x => x.cr.type)).getD 1
            let span := airAhead at_ (d.time.symStart type start (sym + 1)) + usToTc (d.laneField l 18 2)
            if airDiff now at_ < 0 ∨ span < airAhead at_ now then d.discard l 5
            else if d.link.delivered.any (fun y => y.1 == c.sid && y.2.1 == c.tag && y.2.2.1 == c.ofs
                && decide (airAhead y.2.2.2 now < usToTc 2000)) then d.discard l 6
            else if c.full then d.discard l 7
            else d.deliverCont e c at_ start sym now

/-- A container from 8 header bytes and what follows. -/
def rxContOf (h rest : List Byte) (bad full : Bool) : RxCont :=
  let w := msbNat h
  { kind := w / 2 ^ 60, last := bitAt w 59, sid := w / 2 ^ 44 % 4096, tag := w / 2 ^ 28 % 2 ^ 16, ofs := w / 2 ^ 16 % 4096
    body := rest.take (w % 2 ^ 16), fits := decide (w % 2 ^ 16 ≤ rest.length), bad := bad, full := full }

/-- The codeword of a payload bit (Table 13.1). -/
def codewordOf (bit : Nat) : Nat := if bit < 4908 then 0 else 1 + (bit - 4908) / 5140

/-- The containers of a payload from a position on (R328): a zero byte ends them, and so does a LEN that does not fit. -/
def parseConts : Nat → Nat → List Byte → List Nat → Bool → List RxCont
  | 0, _, _, _, _ => []
  | n + 1, pos, bs, badCw, full =>
    match bs with
    | [] => []
    | b :: _ =>
      if b = 0 then []
      else if bs.length < 8 then [{ kind := 0, last := false, sid := 0, tag := 0, ofs := 0, body := [], fits := false }]
      else
        let len := msbNat (bs.take 8) % 2 ^ 16
        let cws := badCw.filter (fun w => decide (codewordOf (8 * pos) ≤ w ∧ w ≤ codewordOf (8 * (pos + 8 + len) - 1)))
        let c := rxContOf (bs.take 8) (bs.drop 8) (!cws.isEmpty) full
        if c.fits then c :: parseConts n (pos + 8 + len) (bs.drop (8 + len)) badCw full else [c]

/-! ### Receiving -/

/-- TS as an air time, and its TQ (Table 2.2). -/
def parseStamp (n : Nat) : Nat × Nat :=
  ((n % 2 ^ 25 + n / 2 ^ 25 % 1024 * frameTc + n / 2 ^ 35 % 65536 * (1024 * frameTc)) % airWrap, n / 2 ^ 58 % 4)

/-- Whether the accepted trace differs from the expected one in the part TIMMODE selects (R325). -/
def Dev.traceWrong (d : Dev) (l : Nat) : Bool :=
  match (d.lane l).rx.ttiAcc with
  | none => false
  | some t =>
    let mode := d.laneField l 4 1 % 4
    let exp := padTo 32 ((d.cfg.lanes.toList.getD l []).drop 96)
    (bitAt mode 0 && t.take 16 != exp.take 16) || (bitAt mode 1 && (t.drop 16).take 16 != exp.drop 16)

/-- The trail trace takes a byte (R325). -/
def LaneRx.trace (r : LaneRx) (ms : Nat) (b : Byte) : LaneRx :=
  let part := if ms = 0 then [b] else if r.tti.length = ms ∧ ms ≠ 0 ∧ !r.tti.isEmpty then r.tti ++ [b] else []
  if part.length = 64 then
    let run := if part = r.ttiPrev then r.ttiRun + 1 else 1
    { r with tti := [], ttiPrev := part, ttiRun := run, ttiAcc := if 3 ≤ run then some part else r.ttiAcc }
  else if part.isEmpty then { r with tti := [], ttiPrev := [], ttiRun := 0 }
  else { r with tti := part }

/-- A DR pair of the protection lane (R340). -/
def LaneRx.drPair (r : LaneRx) (p : Nat × Nat) : LaneRx :=
  let run := if p = r.dr then r.drRun + 1 else 1
  if 3 ≤ run then { r with dr := p, drRun := run, drSince := 0, drAcc := some p }
  else { r with dr := p, drRun := run, drSince := r.drSince + 1 }

/-- The MS of a frame in SYNC (R337, LOM). -/
def LaneRx.milestone (r : LaneRx) (ms : Nat) : LaneRx × Option Bool :=
  let ok := decide (ms = (r.ms + 1) % 64)
  let run := if ok then r.msRun + 1 else 0
  let broke := r.msBroke || !ok
  let ends := decide (64 ≤ r.msFrames + 1)
  let r1 := { r with ms := ms, msRun := run
                     msFrames := if ends then 0 else r.msFrames + 1
                     msBroke := if ends then false else broke
                     msBroke1 := if ends then broke else r.msBroke1 }
  (r1, if r.lom then (if 64 ≤ run then some false else none) else if ends ∧ broke ∧ r.msBroke1 then some true else none)

/-- A lane enters HUNT (R336). -/
def LaneRx.toHunt (r : LaneRx) : LaneRx := { r with align := .hunt, cands := [], bad := 0, fill := 0, store := none }

/-- A frame passes the elastic store (R334): the receiver, the frames it reads now in their order, and whether one was lost. The
store is read at 1.0003 times the line rate and down to 2 codewords; a frame that lies in it whole is read with the next one,
and where it would exceed 64 codewords, the oldest such frame is dropped. -/
def LaneRx.elastic (r : LaneRx) (f : Sys2Proof.RxFrame) : LaneRx × List Sys2Proof.RxFrame × Bool :=
  let read := airAhead r.lastAt f.at_ * (32 * 1000300 * 1000000) / frameStep
  let fill := Nat.max 2000000 (r.fill + 32000000 - read)
  let slip := decide (64000000 < fill) && r.store.isSome
  let whole := decide (32000000 < fill)
  ({ r with fill := if slip then fill - 32000000 else fill, lastAt := f.at_, store := if whole then some f else none
            par := if slip then none else r.par },
    (if slip then [] else r.store.toList) ++ (if whole then [] else [f]), slip)

/-- A frame period at an offset in HUNT or PRESYNC (R336, Table 13.7a). -/
def LaneRx.search (r : LaneRx) (f : Sys2Proof.RxFrame) : LaneRx :=
  let ms := rawMs f
  match r.cands.find? (fun c => c.off == f.off) with
  | some c =>
    let rest := r.cands.filter (fun x => x.off != f.off)
    if waymarkErrors f = 0 ∧ ms = (c.ms + 1) % 64 then
      if 3 ≤ c.good + 1 then
        { r with align := .sync, cands := [⟨f.off, ms, 3⟩], ms := ms, bad := 0, par := none, winFrames := 0, winBip := 0
                 fill := 2000000, lastAt := f.at_, store := none, winUnc := 0, windows := [], msFrames := 0, msBroke := false, msBroke1 := false, msRun := 0, delays := []
                 tti := [], ttiPrev := [], ttiRun := 0 }
      else { r with cands := rest ++ [⟨f.off, ms, c.good + 1⟩] }
    else { r with cands := rest, align := if rest.isEmpty then .hunt else .presync }
  | none =>
    if waymarkErrors f = 0 ∧ r.cands.length < 4 then { r with cands := r.cands ++ [⟨f.off, ms, 0⟩], align := .presync } else r

/-- The overhead and counts of a frame in SYNC enter the receiver (R323 to R326, R337 to R340). -/
def Dev.rxOverhead (d : Dev) (l at_ : Nat) (f : RxRead) (head wire : List Byte) : Dev :=
  let b := fun (i : Nat) => (head.getD i 0).toNat
  let r0 := (d.lane l).rx
  let err := match r0.par with | some p => bitsDiffer p (b 1) | none => 0
  let unc := f.bad.length
  let ts := parseStamp (msbNat ((head.drop 5).take 8))
  let locked := ts.2 == 0 && d.time.tq == .locked
  let rdiBit := bitAt (b 2) 7
  let rdiRun := if rdiBit = r0.rdiBit then r0.rdiRun + 1 else 1
  let win := decide (3052 ≤ r0.winFrames + 1)
  let rei := b 2 / 8 % 16
  let m := r0.milestone (b 0 % 64)
  let prot := match d.laneGroup l with | some (_, 0) => true | _ => false
  let r1 : LaneRx :=
    { m.1 with par := some (bip8 wire)
               bipLast := if r0.par.isSome then err else r0.bipLast
               winFrames := if win then 0 else r0.winFrames + 1
               winBip := if win then 0 else r0.winBip + err
               winUnc := if win then 0 else r0.winUnc + unc
               windows := if win then r0.windows ++ [(r0.winBip + err, r0.winUnc + unc)] else r0.windows
               maint := bitAt (b 0) 7
               rdiBit := rdiBit
               rdiRun := rdiRun
               reiRx := rei
               role := b 2 % 8
               delays := if locked then (airDiff at_ ts.1 :: r0.delays).take 64 else []
               gcc := r0.gcc ++ (head.drop 18).take 2
               sec := { r0.sec with err := r0.sec.err + err, corr := r0.sec.corr + f.corrected, uncorr := r0.sec.uncorr + unc
                                    rei := r0.sec.rei + rei } }
  let r2 := r1.trace (b 0 % 64) (head.getD 17 0)
  let r3 := if prot then r2.drPair (b 3, b 4) else r2
  let d2 := d.updRx l (fun _ => r3)
  let d3 := match m.2 with | some v => d2.setDefect l 4 v | none => d2
  let d4 := if 3 ≤ rdiRun then d3.setDefect l 8 rdiBit else d3
  let d5 := d4.setDefect l 7 (d4.traceWrong l)
  let d6 := match d5.laneGroup l with
    | some (g, 0) =>
      let x := (d5.lane l).rx
      let fl := pf (d5.groupRec g) 1 1
      let mis := match x.drAcc with | some p => p.2 / 8 % 2 != fl % 2 || p.2 / 4 % 2 != fl / 2 % 2 | none => false
      (if x.drRun ≥ 3 then d5.setDefect l 10 false else d5).setDefect l 11 mis
    | _ => d5
  let d7 := if unc = 0 ∨ d6.sfClass l then d6 else (d6.unitError 0x0014 13 l unc false 0).startTests
  match d7.laneGroup l with
  | some (g, _) =>
    ((d7.serving g).filter (fun s => s.2 == l)).foldl (fun d s =>
      d.updGroup g (fun x => x.note s.1 err false (decide (err + unc ≠ 0)))) d7
  | none => d7

/-- A frame is read from the elastic store (R321 to R333): its overhead, its containers, and the ranking of requests at its
end (R341). -/
def Dev.frameRead (d : Dev) (l : Nat) (f : Sys2Proof.RxFrame) : Dev :=
  let x := readFrame f
  let clear := scrambleFrom (x.bytes.drop 1) (scrSeed (x.bytes.headD 0).toNat l)
  let head := x.bytes.take 1 ++ clear.take 23
  let d1 := d.rxOverhead l f.at_ x head (x.bytes.drop 24)
  let conts := parseConts 2600 0 (clear.drop 23) x.bad f.full
  let d2 := conts.foldl (fun d c => d.takeCont l c f.at_) d1
  match d2.laneGroup l with
  | some (g, 0) => d2.groupEval g true
  | _ => d2

/-- A slip (R334): counted, with a link event. -/
def Dev.slip (d : Dev) (l : Nat) : Dev :=
  let n := Nat.min 0xFFFF ((d.lane l).rx.slips + 1)
  (d.updRx l (fun r => { r with slips := n, sec := { r.sec with slip := r.sec.slip + 1 } })).linkEvent l 64 true n

/-- A frame in SYNC (R334, R336): its Waymark on the raw line, the elastic store, and the frames that leave it. -/
def Dev.frameSync (d : Dev) (l : Nat) (f : Sys2Proof.RxFrame) : Dev :=
  let r := (d.lane l).rx
  let badFrames := if 3 < waymarkErrors f then r.bad + 1 else 0
  if 4 ≤ badFrames then (d.updRx l LaneRx.toHunt).setDefect l 3 true
  else
    let x := ({ r with bad := badFrames }).elastic f
    let d1 := d.updRx l (fun _ => x.1)
    x.2.1.foldl (fun d f => d.frameRead l f) (if x.2.2 then d1.slip l else d1)

/-! ### Starting and stopping a lane (R318, R351) -/

/-- A lane's personality changes at a boundary (R318): its transmitter idles for 10 µs, its receiver starts in HUNT. -/
def Dev.laneRestart (d : Dev) (l : Nat) : Dev :=
  let old := (d.lane l).rx
  let fresh : LaneRx :=
    { slips := old.slips, drops := old.drops, clip := old.clip, disc := old.disc, entries := old.entries
      sec := { old.sec with unmon := true } }
  let clearing := [2, 3, 4, 5, 6, 7, 8, 10, 11].foldl (fun d b => d.setDefect l b false) d
  let d1 := clearing.updLane l (fun x => { tx := { gcc := x.tx.gcc }, rx := { fresh with entries := x.rx.entries } })
  if d1.laneMode l = 0 then d1.updTx l (fun t => { t with gcc := [] })
  else
    let d2 := d1.updLane l (fun x => { tx := { LaneTx.start d1.time.air false with gcc := x.tx.gcc }, rx := { x.rx with align := .hunt } })
    d2.setDefect l 3 true

/-! ### Rows -/

/-- ECNER_FRAME_RECEIVE (R321, R336): what the receiver finds in one frame period. -/
def execEcnerFrameReceive (l : Fin 32) (f : Sys2Proof.RxFrame) (s : State) : Host.Outcome State Fault Refusal :=
  s.on (fun d =>
    match d.due f.at_ with
    | none => d
    | some d0 =>
      let r := (d0.lane l.val).rx
      if !d0.laneUp l.val ∨ d0.laneMode l.val ≠ 1 ∨ r.los then d
      else match r.align with
        | .disabled => d0
        | .sync => if (r.cands.headD ⟨f.off, 0, 0⟩).off = f.off then d0.frameSync l.val f else d0
        | _ =>
          let d1 := d0.updRx l.val (fun r => r.search f)
          if (d1.lane l.val).rx.align = .sync then d1.setDefect l.val 3 false else d1)

/-- ECNER_FRAME_TRANSMIT (R321, R322): the next frame, at its start. -/
def execEcnerFrameTransmit (l : Fin 32) (s : State) : Host.Outcome State Fault Refusal :=
  s.on (fun d =>
    if !(d.lane l.val).tx.on ∨ d.laneMode l.val ≠ 1 ∨ !d.laneUp l.val then d
    else match d.due ((d.lane l.val).tx.tsAt 0) with
      | some d1 => d1.frameSend l.val
      | none => d)

/-- CONTAINER_DUE (R330): at the due event of a symbol of a slot, BLANK is decided for the cell's downlink streams that have
no container. -/
def Dev.containerDue (d : Dev) (c : Cell) (start sym : Nat) : Dev :=
  let at_ := d.time.symStart c.cr.type start sym
  match d.due (dueOf c.cr at_) with
  | none => d
  | some d1 =>
    let es := (d1.streamsFor at_).filter (fun e => e.down && e.cell == c.cr.cell && !d1.link.made.contains (e.sid, at_))
    let keep := d1.link.made.filter (fun m => decide (airDiff d1.time.air m.2 < (usToTc 20000 : Nat)))
    es.foldl (fun d e =>
      ({ d with link := { d.link with made := d.link.made ++ [(e.sid, at_)] } } : Dev).putOut
        { due := dueOf c.cr at_, at_ := at_, cell := c.cr.cell, lane := e.lane, sid := e.sid, ofs := 0, kind := 4
          tag := d.time.tag c.cr.type start sym, last := true, body := [] })
      ({ d1 with link := { d1.link with made := keep } } : Dev)

/-- CONTAINER_DUE (R330): of a cell, the start of a slot or TDMA frame, and a symbol or timeslot. -/
def execContainerDue (cell start sym : Nat) (s : State) : Host.Outcome State Fault Refusal :=
  s.on (fun d =>
    match d.cell? cell with
    | some c =>
      if c.inService && decide (start < airWrap) && decide (0 ≤ airDiff start c.since) && (d.time.slotSpan c.cr.type start).1 == start
          && decide (sym < slotSymbols c.cr.type) && d.time.symDown c.cr start sym then d.containerDue c start sym
      else d
    | none => d)

end Sys2Proof.Machine
end

