-- ==== Sys2Proof/Machine/Pm.lean ====
section
/-! DEFINITION. The PM second (14_link_performance.md, R355 to R363): what a second of a lane or group was, its bins, defects
that entered too often to be told one by one (13_ecner_framing.md, R338). -/

namespace Sys2Proof.Machine

/-- A lane's second (R355, R356). -/
def Dev.laneSecond (d : Dev) (l : Nat) : Dev :=
  if !d.present 13 l then d
  else
    let c := (d.lane l).rx.sec
    let ses := c.losLof || decide (2400 ≤ c.err)
    let es := ses || decide (0 < c.err) || decide (0 < c.uncorr) || c.defect
    d.pmSecond l { at_ := d.time.air, ses := ses, es := es, c := c, qbin := 0, dbin := 0 }
      (!c.unmon && d.laneUp l && !d.laneTest l)

/-- A group's second (R359): from what its serving lanes showed. -/
def Dev.groupSecond (d : Dev) (g : Nat) : Dev :=
  if !d.groupOn g then d
  else
    let x := d.group g
    let ses := x.sec.any (fun s => s.2.2.1 || decide (2400 ≤ s.2.1))
    let es := ses || x.sec.any (fun s => decide (0 < s.2.1) || s.2.2.2)
    let lanes := (List.range 32).filter (fun l => match d.laneGroup l with | some (k, _) => k == g | none => false)
    d.pmSecond (32 + g) { at_ := d.time.air, ses := ses, es := es, c := {}, switches := x.switches, served := x.served, qbin := 0, dbin := 0 }
      (lanes.any (fun l => (d.lane l).rx.sec.mon || (d.laneUp l && !d.laneTest l)))

/-- Defects that entered more than 8 times are told of once (R338). -/
def Dev.laneEntries (d : Dev) (l : Nat) : Dev :=
  (((d.lane l).rx.entries.filter (fun e => decide (8 < e.2))).foldl (fun d e => d.linkEvent l e.1 true e.2) d).updRx l
    (fun r => { r with entries := [] })

/-- The quantities of the next second start from zero, with what holds at its start. -/
def Dev.secondAnew (d : Dev) : Dev :=
  let d1 := (List.range 32).foldl (fun d l => d.updRx l (fun r => { r with sec := {} })) d
  let d2 := (List.range 16).foldl (fun d g => d.updGroup g (fun x => { x with sec := [], switches := 0, served := false })) d1
  let d3 : Dev := { d2 with time := { d2.time with unlocked := d2.timeSuspect } }
  (List.range 32).foldl (fun d l => d.laneNote l) d3

/-- A committed clear takes effect (R363): current bins restart, seconds before it are not counted. -/
def Dev.pmClear (d : Dev) (k : Nat) : Dev :=
  if (d.pm k).clearDue then
    d.updPm k (fun p =>
      { p.restart (d.time.secondStamp d.link.second) (d.pmEth k) d.timeSuspect with
        clearDue := false, waiting := p.waiting.map (fun s => { s with dropped := true }) })
  else d

/-- Bins whose period has ended close (R360). -/
def Dev.binsTurn (d : Dev) : Dev :=
  let t := d.time.local_ d.link.second
  let q := decide (t / 900 ≠ d.link.quarterNo)
  let y := decide (t / 86400 ≠ d.link.dayNo)
  let start := d.time.secondStamp d.link.second
  let turn := fun (d : Dev) (k : Nat) =>
    d.updPm k (fun p =>
      let p1 := if q then p.closeQuarter start (d.pmEth k) false false d.timeSuspect else p
      if y then p1.closeDay start (d.pmEth k) false false d.timeSuspect else p1)
  let d1 := (List.range 48).foldl (fun d k => if (d.pm k).opened then turn d k else d) d
  { d1 with link := { d1.link with quarterNo := t / 900, dayNo := t / 86400 } }

/-- A committed PM_TIME_SET takes effect (R353). -/
def Dev.pmTime (d : Dev) : Dev :=
  match d.link.timeDue with
  | none => d
  | some (leap, tz) =>
    ({ d with time := { d.time with leap := leap, tzofs := tz }, link := { d.link with timeDue := none } } : Dev).binsReopen true

/-- A new bin opened at the second's start does not yet carry what the second before showed. -/
def Dev.secondTurn (d : Dev) : Dev :=
  let d1 := (List.range 32).foldl (fun d l => (d.laneSecond l).laneEntries l) d
  let d2 := (List.range 16).foldl (fun d g => d.groupSecond g) d1
  let d3 := d2.secondAnew.binsTurn.pmTime
  let d4 : Dev := { d3 with link := { d3.link with thresholds := d3.cfg.thresholds } }
  (List.range 48).foldl (fun d k => d.pmClear k) d4

/-- PM_SECOND (R352, R356): the second in progress ends. -/
def execPmSecond (s : State) : Host.Outcome State Fault Refusal :=
  s.on (fun d =>
    let next := d.link.second + 1
    match d.due ((next * (secondTc : Nat) % (airWrap : Nat)).toNat) with
    | some d1 => ({ d1 with link := { d1.link with second := next } } : Dev).secondTurn
    | none => d)

end Sys2Proof.Machine
end

