-- ==== Sys2Proof/Machine/Ports.lean ====
section
/-! DEFINITION. Ethernet: lines that fail and come up, eCPRI on lanes in ETHERNET personality (13_ecner_framing.md, R347, R348),
the four ports: classification, priority, host data rings, management frames (15_ethernet_and_host_port.md, R370 to R378). -/

namespace Sys2Proof.Machine

/-! ### Lines -/

/-- The bit of a defect in a lane's status word (Table 13.12). -/
def ethLaneBit : Sys2Proof.EthDefect → Nat
  | .los => 2 | .lof => 3 | .sf => 6 | .rdi => 8

/-- The bit of a defect in a port's status word (Table 15.4). -/
def ethPortBit : Sys2Proof.EthDefect → Nat
  | .los => 2 | .lof => 3 | .sf => 4 | .rdi => 5

/-- Whether a port has a defect. -/
def EthPort.defect (e : EthPort) : Sys2Proof.EthDefect → Bool
  | .los => e.los | .lof => e.lof | .sf => e.sf | .rdi => e.rdi

/-- Set a defect of a port. -/
def EthPort.setDefect (e : EthPort) (f : Sys2Proof.EthDefect) (v : Bool) : EthPort :=
  match f with
  | .los => { e with los := v }
  | .lof => { e with lof := v }
  | .sf => { e with sf := v }
  | .rdi => { e with rdi := v }

/-- A port works: enabled, its domain in Run, and no self-test takes its line up (Tables 17.1, 20.7). -/
def Dev.portUp (d : Dev) (p : Nat) : Bool :=
  d.portEnabled p && d.domRun (0x600 + p) && !(d.dom (0x600 + p)).padLatch && !(d.unit 14 p).testing && d.mode.mode != 10

/-- A defect of a port enters or exits (R370, R347); without signal or alignment there is no link. -/
def Dev.portDefect (d : Dev) (p : Nat) (f : Sys2Proof.EthDefect) (v : Bool) : Dev :=
  if !d.portUp p || (d.ethPort p).defect f == v then d
  else
    let d1 := (d.updEth p (fun e => e.setDefect f v)).linkEvent (0x40 + p) (ethPortBit f) v 1
    if v && (f == .los || f == .lof) then d1.portDown p else d1

/-- A signal or its alignment is lost (R336, R337, R347). -/
def Dev.lineLost (d : Dev) (w : Sys2Proof.LinePlace) : Dev :=
  match w with
  | .lane l =>
    if !d.laneUp l.val ∨ d.laneMode l.val ≠ 1 then d
    else
      let d1 := (d.setDefect l.val 2 true).updRx l.val LaneRx.toHunt
      d1.setDefect l.val 3 true
  | .eth l f =>
    if !d.laneUp l.val ∨ d.laneMode l.val ≠ 2 then d
    else
      let d1 := d.setDefect l.val (ethLaneBit f) true
      if f = .los ∨ f = .lof then d1.updRx l.val (fun r => { r with align := .hunt }) else d1
  | .port p f => d.portDefect p.val f true

/-- A signal or its alignment has come back. -/
def Dev.lineBack (d : Dev) (w : Sys2Proof.LinePlace) : Dev :=
  match w with
  | .lane l => if d.laneUp l.val ∧ d.laneMode l.val = 1 then d.setDefect l.val 2 false else d
  | .eth l f => if d.laneUp l.val ∧ d.laneMode l.val = 2 then d.setDefect l.val (ethLaneBit f) false else d
  | .port p f => d.portDefect p.val f false

/-- A link comes up (R318, R378). -/
def Dev.lineUp (d : Dev) (w : Sys2Proof.EthLink) : Dev :=
  match w with
  | .lane l =>
    if !d.laneUp l.val ∨ d.laneMode l.val ≠ 2 ∨ (d.lane l.val).rx.los ∨ d.lineTest l.val then d
    else (d.setDefect l.val 3 false).updRx l.val (fun r => { r with align := .sync })
  | .port p =>
    let e := d.ethPort p.val
    if !d.portUp p.val || e.los || e.link then d
    else (d.portDefect p.val .lof false).updEth p.val (fun e =>
      { e with link := true, an := bitAt (d.portField p.val 2 1) 0, ptp := if d.portRole p.val 1 then 1 else 0 })

/-! ### Delay measurement (R348, R377) -/

/-- TAI in nanoseconds of an air time (R41): GPS plus 19 s. -/
def TimeState.taiNs (t : TimeState) (air : Nat) : Nat :=
  let total := t.total + airDiff air t.air
  ((total + 19 * (secondTc : Nat)) * 1000000000 / (secondTc : Nat)).toNat

/-- The 10-byte time-stamp of an eCPRI delay message: seconds and nanoseconds, most significant byte first. -/
def ecpriStamp (ns : Nat) : List Byte := msbOf 6 (ns / 1000000000) ++ msbOf 4 (ns % 1000000000)

/-- The nanoseconds of a 10-byte time-stamp. -/
def ecpriNs (bs : List Byte) : Nat := msbNat (bs.take 6) * 1000000000 + msbNat ((bs.drop 6).take 4)

/-- An eCPRI message: revision 1, C clear, the type, the payload's size. -/
def ecpriMsg (type : Nat) (payload : List Byte) : List Byte := [0x10, BitVec.ofNat 8 type] ++ msbOf 2 payload.length ++ payload

/-- The answer to a delay message, where it asks for one: to a request its response, to a remote request a request. -/
def delayAnswer (payload : List Byte) (ns : Nat) : Option (List Byte) :=
  let id := payload.take 1
  match pf payload 1 1 with
  | 0 | 1 => some (ecpriMsg 5 (id ++ [2] ++ ecpriStamp ns ++ List.replicate 8 0))
  | 3 | 4 => some (ecpriMsg 5 (id ++ [0] ++ ecpriStamp ns ++ List.replicate 8 0))
  | _ => none

/-- The tag a device's frames carry where VLAN[15] is set: 0x8100 and PCP, VID. -/
def vlanTag (vlan : Nat) : List Byte := if bitAt vlan 15 then [0x81, 0x00] ++ msbOf 2 (vlan % 2 ^ 15) else []

/-! ### Lanes in ETHERNET personality -/

/-- A frame of a lane: its addresses, tag and an eCPRI message. -/
def Dev.laneFrame (d : Dev) (l : Nat) (msg : List Byte) : List Byte :=
  let r := padTo 128 (d.cfg.lanes.toList.getD l [])
  (r.drop 26).take 6 ++ (r.drop 20).take 6 ++ vlanTag (pf r 96 2) ++ [0xAE, 0xFE] ++ msg

/-- A lane in ETHERNET personality sends a message. -/
def Dev.laneSendMsg (d : Dev) (l : Nat) (msg : List Byte) : Dev := d.updTx l (fun t => { t with sentHead := [], sent := d.laneFrame l msg })

/-- Whether a lane in ETHERNET personality has a link. -/
def Dev.ethLaneUp (d : Dev) (l : Nat) : Bool :=
  d.laneUp l && d.laneMode l == 2 && !d.lineTest l && (d.lane l).rx.align == .sync

/-- The sequence number of a PC_ID's next message, and its successor (R348). -/
def nextSeq (seqs : List (Nat × Nat)) (id : Nat) : Nat × List (Nat × Nat) :=
  let n := ((seqs.find? (fun s => s.1 == id)).map (fun s => s.2)).getD 0
  (n, (id, (n + 1) % 256) :: seqs.filter (fun s => s.1 != id))

/-- SEQ_ID: the number, E = 1. -/
def seqId (n : Nat) : List Byte := [BitVec.ofNat 8 n, 0x80]

/-- A real-time control message with a CTL word (R348). -/
def Dev.sendCtl (d : Dev) (l : Nat) (w : Nat) : Dev :=
  let t := (d.lane l).tx
  let n := nextSeq t.seqs 0x0FFF
  let msg := ecpriMsg 2 (msbOf 2 0x0FFF ++ seqId n.1 ++ msbOf 4 w ++ msbOf 8 d.stamp.toNat)
  (d.updTx l (fun t => { t with seqs := n.2 })).laneSendMsg l msg

/-- A gate word's message leaves (R348). -/
def Dev.sendGate (d : Dev) (l : Nat) (m : CtlMsg) : Dev :=
  (d.updTx l (fun t =>
    { t with msgs := if m.sent = 0 then t.msgs.map (fun x => if x = m then { x with sent := 1, sentAt := d.time.air } else x)
               else t.msgs.filter (fun x => x != m) })).sendCtl l (m.ev.word d.time.air)

/-- The first gate word not yet sent, in event-time order, the lower group first (R214). -/
def LaneTx.firstMsg (t : LaneTx) : Option CtlMsg :=
  (t.msgs.filter (fun m => m.sent == 0)).foldl (fun best m =>
    match best with
    | none => some m
    | some b => if airDiff m.ev.at_ b.ev.at_ < 0 ∨ (m.ev.at_ = b.ev.at_ ∧ m.ev.group < b.ev.group) then some m else best) none

/-- Whole PRBs or sample pairs of a kind that fit a number of body bytes, as bytes and as OFS steps. -/
def cutBody (kind room : Nat) : Nat × Nat :=
  match kind with
  | 1 => let n := room / 55; (55 * n, 2 * n)
  | 2 => (room / 49 * 49, room / 49)
  | _ => (room / 8 * 8, room / 8)

/-- The next container of a lane leaves, or as much of it as the MTU lets through (R348, R328). -/
def Dev.sendContainer (d : Dev) (l : Nat) : Dev :=
  match d.sendable l with
  | [] => d
  | c :: _ =>
    let mtu := d.laneField l 98 2
    let cut := cutBody c.kind (mtu - 16)
    let whole := decide (16 + c.body.length ≤ mtu) || cut.1 == 0
    let now := if whole then c else { c with body := c.body.take cut.1, last := false }
    let n := nextSeq (d.lane l).tx.seqs c.sid
    let msg := ecpriMsg 0 (msbOf 2 c.sid ++ seqId n.1 ++ now.bytes)
    let d1 := if whole then d.noteSent l [c]
      else { d with link := { d.link with out := d.link.out.map (fun x =>
        if x = c then { x with body := x.body.drop cut.1, ofs := x.ofs + cut.2 } else x) } }
    (d1.updTx l (fun t => { t with seqs := n.2 })).laneSendMsg l msg

/-- A lane starts a delay measurement (R348). -/
def Dev.sendMeasure (d : Dev) (l : Nat) : Dev :=
  let t := (d.lane l).tx
  let ns := d.time.taiNs d.time.air
  (d.updTx l (fun t => { t with ask := some (t.askNext, ns), askNext := (t.askNext + 1) % 256 })).laneSendMsg l
    (ecpriMsg 5 (bytesOf 1 t.askNext ++ [0] ++ ecpriStamp ns ++ List.replicate 8 0))

/-- A sequence number arrives (R348): a gap is counted. -/
def Dev.seqArrived (d : Dev) (l id n : Nat) : Dev :=
  let r := (d.lane l).rx
  let gap := match r.seqs.find? (fun s => s.1 == id) with | some s => s.2 != n | none => false
  let d1 := d.updRx l (fun r => { r with seqs := (id, (n + 1) % 256) :: r.seqs.filter (fun s => s.1 != id) })
  if gap then d1.updRx l (fun r =>
    { r with disc := Vector.ofFn (fun (i : Fin 10) => if i.val = 9 then Nat.min 0xFFFFFFFF (r.disc[i] + 1) else r.disc[i]) })
  else d1

/-- A message of a type that is not handled, a pause or control frame: discarded and counted (R347, R348); a frame with an FCS
error counts as an error of the second (R355). -/
def Dev.ecpriOther (d : Dev) (l : Nat) (m : Sys2Proof.EcpriMsg) : Dev :=
  if m.type = 257 then d.updRx l (fun r => { r with sec := { r.sec with err := r.sec.err + 1 } }) else d.discard l 8

/-- A message with an identifier and SEQ_ID: `f` takes what follows, where E = 1 (R348). -/
def Dev.ecpriSeq (d : Dev) (l : Nat) (m : Sys2Proof.EcpriMsg) (f : Dev → Nat → List Byte → Dev) : Dev :=
  let id := msbNat (m.payload.take 2)
  let seq := msbNat ((m.payload.drop 2).take 2)
  if m.payload.length < 4 ∨ !bitAt seq 7 then d.discard l 8
  else f (d.seqArrived l id (seq / 256)) id (m.payload.drop 4)

/-- Whether a lane takes a message now. -/
def Dev.ecpriIn (d : Dev) (l : Nat) (m : Sys2Proof.EcpriMsg) : Option Dev := if d.ethLaneUp l then d.due m.at_ else none

/-- A lane receives a delay message (R348): it answers requests; a response to its own request gives DELAY. -/
def Dev.delayOnLane (d : Dev) (l : Nat) (m : Sys2Proof.EcpriMsg) : Dev :=
  let t := (d.lane l).tx
  match delayAnswer m.payload (d.time.taiNs m.at_) with
  | some a => d.laneSendMsg l a
  | none =>
    match t.ask with
    | some (id, ns) =>
      if pf m.payload 0 1 = id ∧ pf m.payload 1 1 = 2 then
        let t2 := ecpriNs ((m.payload.drop 2).take 10)
        let comp : Int := signedOf 64 (msbNat ((m.payload.drop 12).take 8)) / 65536
        let delta : Int := (t2 : Nat) - (ns : Nat) - comp
        (d.updTx l (fun t => { t with ask := none })).updRx l (fun r => { r with ecpriDelay := some (delta * 196608 / 100000) })
      else d
    | none => d

/-! ### Ports: transmission (R373, R374, R376) -/

/-- A frame a port originates. -/
def Dev.portFrame (d : Dev) (p : Nat) (dst : List Byte) (etype : Nat) (body : List Byte) : List Byte :=
  let r := padTo 64 (d.cfg.ports.toList.getD p [])
  padTo 6 dst ++ (r.drop 4).take 6 ++ vlanTag (pf r 20 2) ++ msbOf 2 etype ++ body

/-- A frame padded to 60 bytes, which with its FCS are 64. -/
def padFrame (bs : List Byte) : List Byte := bs ++ List.replicate (60 - bs.length) 0

/-- The management frame of a packet (R376). -/
def Dev.mgmtBytes (d : Dev) (m : MgmtFrame) : List Byte :=
  let p := (m.chan - 1) / 4
  let i := (m.chan - 1) % 4
  let r := padTo 64 (d.cfg.ports.toList.getD p [])
  padFrame (d.portFrame p ((r.drop (24 + 6 * i)).take 6) (pf r 16 2)
    (bytesOf 1 m.kind ++ bytesOf 1 i ++ bytesOf 2 m.bytes.length ++ m.bytes))

/-- The host address of a descriptor of a ring. -/
def descAddr (base : DWord) (i : Nat) : Nat := hostAddr (base.toNat + 32 * i)

/-- Change a port's host data rings. -/
def Dev.updPort (d : Dev) (p : Nat) (f : PortRing → PortRing) : Dev :=
  { d with host := { d.host with port := Vector.ofFn (fun i => if i.val = p then f d.host.port[i] else d.host.port[i]) } }

/-- A port's host data rings. -/
def Dev.portRing (d : Dev) (p : Nat) : PortRing := d.host.port.toList.getD p {}

/-- The 32 bytes of a descriptor, with their OWN and status as the device hands it back (Table 15.3). -/
def Dev.returnDesc (d : Dev) (a len flags status vlan : Nat) : Dev :=
  let m1 := d.mem.ifWrite (a + 8) (bytesOf 2 len)
  let m2 := m1.ifWrite (a + 11) (bytesOf 1 status ++ bytesOf 2 vlan)
  let m3 := m2.ifWrite (a + 16) (bytesOf 8 d.stamp.toNat)
  { d with mem := m3.ifWrite (a + 10) (bytesOf 1 flags) }

/-- The next transmit descriptor of a port's host ring is taken (R374, R539). -/
def Dev.hostTransmit (d : Dev) (p : Nat) : Dev :=
  let r := d.portRing p
  if !r.txen ∨ r.txStop ∨ r.txHead = r.txTail ∨ !d.ni244 then d
  else
    let a := descAddr r.txBase r.txHead.toNat
    let b := d.mem.ifBytes a 32
    let fl := pf b 10 1
    if !bitAt fl 0 then d.updPort p (fun r => { r with txStop := true })
    else
      let len := pf b 8 2
      let link := (d.ethPort p).link
      let status := if len < 60 ∨ 9234 < len then 2 else if link then 0 else 1
      let data := d.mem.ifBytes (hostAddr (pf b 0 8)) len
      let frame := if bitAt fl 1 then data.take 12 ++ [0x81, 0x00] ++ msbOf 2 (pf b 12 2) ++ data.drop 12 else data
      let d1 := if status = 0 then d.updEth p (fun e => { e with sent := frame }) else d
      (d1.returnDesc a len (fl / 2 * 2) status (pf b 12 2)).updPort p (fun r =>
        { r with txHead := BitVec.ofNat 16 ((r.txHead.toNat + 1) % r.txSize.toNat), txNotify := true })

/-- Where a PTP message begins in a frame: after the addresses, the tag and the EtherType. -/
def ptpOffsetIn (bytes : List Byte) : Nat := if (bytes.drop 12).take 2 = [0x81, 0x00] then 18 else 14

/-- A frame of a port's own leaves (R42, R373): a Sync carries the one-step time-stamp of its departure; the departure of a
Delay_Req is held for its response. -/
def Dev.depart (d : Dev) (p : Nat) (x : EthTx) : Dev :=
  let o := ptpOffsetIn x.bytes
  let ns := d.time.taiNs d.time.air
  let type := pf x.bytes o 1 % 16
  d.updEth p (fun e =>
    { e with queue := e.queue.erase x
             sent := if x.kind = 1 ∧ type = 0 then x.bytes.take (o + 34) ++ ecpriStamp ns ++ x.bytes.drop (o + 44) else x.bytes
             reqOut := if x.kind = 1 ∧ type = 1 then some (BitVec.ofNat 16 (msbNat ((x.bytes.drop (o + 30)).take 2)), ns) else e.reqOut })

/-- A port sends its next frame by the priority of R373. -/
def Dev.portSend (d : Dev) (p : Nat) : Dev :=
  if !d.portUp p then d
  else
    let e := d.ethPort p
    let best := e.queue.foldl (fun (b : Option EthTx) x =>
      match b with | none => some x | some y => if x.kind < y.kind then some x else b) none
    match e.link, best, d.chiop.mgmtOut.find? (fun m => (portChans p).contains m.chan) with
    | true, some x, _ => d.depart p x
    | true, none, some m =>
      ({ d with chiop := { d.chiop with mgmtOut := d.chiop.mgmtOut.erase m } } : Dev).updEth p (fun e => { e with sent := d.mgmtBytes m })
    | _, _, _ => d.hostTransmit p

/-! ### Ports: reception (R372) -/

/-- The parts of a frame: destination, source, tag, EtherType, what follows. -/
structure EthParts where
  dst : List Byte
  src : List Byte
  tag : Option Nat
  etype : Nat
  body : List Byte
deriving DecidableEq, Repr

/-- Take a frame apart. -/
def ethParts (bs : List Byte) : EthParts :=
  let t := msbNat ((bs.drop 12).take 2)
  if t = 0x8100 then
    { dst := bs.take 6, src := (bs.drop 6).take 6, tag := some (msbNat ((bs.drop 14).take 2)), etype := msbNat ((bs.drop 16).take 2), body := bs.drop 18 }
  else { dst := bs.take 6, src := (bs.drop 6).take 6, tag := none, etype := t, body := bs.drop 14 }

/-- A frame for the host (R374): into the next owned descriptor, or dropped and counted. -/
def Dev.hostReceive (d : Dev) (p : Nat) (bs : List Byte) (x : EthParts) : Dev :=
  let r := d.portRing p
  let drop := fun (d : Dev) => d.updEth p (fun e => { e with rxDrop := Nat.min 0xFFFF (e.rxDrop + 1) })
  if !r.rxen ∨ r.rxStop ∨ r.rxHead = r.rxTail ∨ !d.ni244 then drop d
  else
    let a := descAddr r.rxBase r.rxHead.toNat
    let b := d.mem.ifBytes a 32
    let data := if x.tag.isSome then bs.take 12 ++ bs.drop 16 else bs
    if !bitAt (pf b 10 1) 0 then drop (d.updPort p (fun r => { r with rxStop := true }))
    else if pf b 8 2 < data.length then d.updEth p (fun e => { e with tooBig := Nat.min 0xFFFF (e.tooBig + 1) })
    else
      let d1 : Dev := { d with mem := d.mem.ifWrite (hostAddr (pf b 0 8)) data }
      let d2 := d1.returnDesc a data.length (4 * boolNat x.tag.isSome) 0 (x.tag.getD 0)
      (d2.updPort p (fun r => { r with rxHead := BitVec.ofNat 16 ((r.rxHead.toNat + 1) % r.rxSize.toNat), rxNotify := true })).updEth p
        (fun e => { e with rxHost := Nat.min 0xFFFFFFFF (e.rxHost + 1) })

/-- The peer a management frame comes from (R376): the one its shim names, if the address is that peer's. -/
def Dev.peerOf (d : Dev) (p : Nat) (x : EthParts) : Option Nat :=
  let r := padTo 64 (d.cfg.ports.toList.getD p [])
  let i := pf x.body 1 1
  if i < pf r 14 1 ∧ i < 4 ∧ x.src = (r.drop (24 + 6 * i)).take 6 then some i else none

/-- A management frame (R376): a command joins the interpreter's arrival order; of an unknown peer it is refused. -/
def Dev.mgmtFrame (d : Dev) (p : Nat) (x : EthParts) : Dev :=
  match d.peerOf p x with
  | none => d.updEth p (fun e => { e with mgmtDrop := Nat.min 0xFFFF (e.mgmtDrop + 1) })
  | some i =>
    if pf x.body 0 1 = 1 ∧ pf x.body 2 2 ≤ 256 then
      { d with chiop := { d.chiop with mgmtIn := d.chiop.mgmtIn ++ [1 + 4 * p + i] } }
    else d

/-- The rows of Table 15.2 from the third on: what becomes of a frame that is whole and no control frame. -/
def Dev.classify (d : Dev) (p : Nat) (f : Sys2Proof.EthFrame) : Dev :=
  let x := ethParts f.bytes
  let station := (padTo 64 (d.cfg.ports.toList.getD p [])).drop 4 |>.take 6
  let ptp := d.portRole p 1
  let group := x.dst == [0x01, 0x1B, 0x19, 0, 0, 0] || x.dst == [0x01, 0x80, 0xC2, 0, 0, 0x0E]
  if x.dst ≠ station ∧ x.dst ≠ List.replicate 6 0xFF ∧ !(ptp && group) ∧ !d.portRole p 4 then d
  else if x.etype = 0x88F7 ∧ ptp then d
  else if x.etype = d.portField p 16 2 ∧ d.portRole p 2 then d.mgmtFrame p x
  else if x.etype = 0xAEFE ∧ pf x.body 1 1 = 5 ∧ d.portRole p 3 then
    if x.dst = station then
      match delayAnswer (x.body.drop 4) (d.time.taiNs f.at_) with
      | some a => d.ethSend p 3 (padFrame (d.portFrame p x.src 0xAEFE a))
      | none => d
    else d
  else if d.portRole p 0 then d.hostReceive p f.bytes x
  else d

/-- A frame arrives at a port (R372, Table 15.2). -/
def Dev.portReceive (d : Dev) (p : Nat) (f : Sys2Proof.EthFrame) : Dev :=
  let n := f.bytes.length + 4
  if !f.fcsOk ∨ n < 64 then d.updEth p (fun e => { e with fcsErr := Nat.min 0xFFFF (e.fcsErr + 1) })
  else if d.portField p 10 2 + 22 < n then d.updEth p (fun e => { e with tooBig := Nat.min 0xFFFF (e.tooBig + 1) })
  else if (ethParts f.bytes).etype = 0x8808 then d.updEth p (fun e => { e with ctrl := Nat.min 0xFFFF (e.ctrl + 1) })
  else d.classify p f

/-- A row that a frame at a port causes: its link is up. -/
def State.onPort (s : State) (p : Nat) (f : Sys2Proof.EthFrame) (g : Dev → Dev) : Host.Outcome State Fault Refusal :=
  s.on (fun d =>
    if !d.portUp p || !(d.ethPort p).link then d
    else match d.due f.at_ with
      | some d1 => g d1
      | none => d)

/-! ### Rows -/

/-- LOS_ENTRY (R336, R337, R347). -/
def execLosEntry (w : Sys2Proof.LinePlace) (s : State) : Host.Outcome State Fault Refusal := s.on (fun d => d.lineLost w)

/-- LOS_EXIT (R337, R347). -/
def execLosExit (w : Sys2Proof.LinePlace) (s : State) : Host.Outcome State Fault Refusal := s.on (fun d => d.lineBack w)

/-- ETHERNET_LINK_UP (R378). -/
def execEthernetLinkUp (w : Sys2Proof.EthLink) (s : State) : Host.Outcome State Fault Refusal := s.on (fun d => d.lineUp w)

/-- ECPRI_IQ_DATA (R348): one message of type 0; types that the lane does not handle are counted here. -/
def execEcpriIqData (l : Fin 32) (m : Sys2Proof.EcpriMsg) (s : State) : Host.Outcome State Fault Refusal :=
  s.on (fun d =>
    match d.ecpriIn l.val m with
    | none => d
    | some d1 =>
      if m.type = 0 then
        d1.ecpriSeq l.val m (fun d _ body =>
          if body.length < 8 then d.discard l.val 4
          else d.takeCont l.val (rxContOf (body.take 8) (body.drop 8) false m.full) m.at_)
      else if m.type = 2 ∨ m.type = 5 then d
      else d1.ecpriOther l.val m)

/-- ECPRI_REAL_TIME_CONTROL (R348): a received message of type 2 is checked and its sequence counted; the CTL word is the
radio unit's to obey. -/
def execEcpriRealTimeControl (l : Fin 32) (m : Sys2Proof.EcpriMsg) (s : State) : Host.Outcome State Fault Refusal :=
  s.on (fun d =>
    match d.ecpriIn l.val m with
    | none => d
    | some d1 => if m.type = 2 then d1.ecpriSeq l.val m (fun d _ _ => d) else d)

/-- ECPRI_DELAY_MEASUREMENT (R348, R377): at a lane, or at a port with ECPRI5 set. -/
def execEcpriDelayMeasurement (w : Sys2Proof.DelayMsg) (s : State) : Host.Outcome State Fault Refusal :=
  match w with
  | .lane l m => s.on (fun d =>
      match d.ecpriIn l.val m with
      | none => d
      | some d1 => if m.type = 5 then d1.delayOnLane l.val m else d)
  | .port p f => s.onPort p.val f (fun d =>
      let x := ethParts f.bytes
      if x.etype = 0xAEFE ∧ pf x.body 1 1 = 5 then d.portReceive p.val f else d)

/-- ECPRI_STATE_SEND (R348): every 100 µs; FORCE_OFF takes the place of STATE as in a frame (R215). -/
def execEcpriStateSend (l : Fin 32) (s : State) : Host.Outcome State Fault Refusal :=
  s.on (fun d =>
    if !d.ethLaneUp l.val then d
    else match d.after (d.lane l.val).tx.stateAt (usToTc 100) with
      | none => d
      | some d1 =>
        let t := ((d1.lane l.val).tx.settle d1.time.air).ctl d1.time.air
        ((d1.updTx l.val (fun _ => { t.2 with stateAt := d1.time.air })).sendCtl l.val t.1).laneNote l.val)

/-- ECPRI_MESSAGE_TRANSMIT (R348): a container, a gate word or its second copy, a delay measurement. -/
def execEcpriMessageTransmit (l : Fin 32) (w : Sys2Proof.EcpriSend) (s : State) : Host.Outcome State Fault Refusal :=
  s.on (fun d =>
    if !d.ethLaneUp l.val then d
    else
      let t := (d.lane l.val).tx
      match w with
      | .container => d.sendContainer l.val
      | .measure => d.sendMeasure l.val
      | .gate =>
        (match t.firstMsg with
          | none => d
          | some m =>
            let limit := (m.ev.at_ + airWrap - d.ctlLead l.val) % airWrap
            if airPast d.time.air limit ∧ d.time.air ≠ limit then
              (d.updTx l.val (fun t =>
                { t with msgs := t.msgs.filter (fun x => x != m), coming := t.coming.filter (fun x => x != m.ev) })).gateForce l.val m.ev
            else d.sendGate l.val m)
      | .second =>
        (match t.msgs.find? (fun m => m.sent == 1) with
          | none => d
          | some m =>
            match d.after m.sentAt (usToTc 4) with
            | some d1 => d1.sendGate l.val m
            | none => d))

/-- ETH_FRAME_RECEIVE (R372). -/
def execEthFrameReceive (p : Fin 4) (f : Sys2Proof.EthFrame) (s : State) : Host.Outcome State Fault Refusal :=
  s.onPort p.val f (fun d => d.portReceive p.val f)

/-- MANAGEMENT_FRAME (R376): a frame with the port's MGMT_ETYPE. -/
def execManagementFrame (p : Fin 4) (f : Sys2Proof.EthFrame) (s : State) : Host.Outcome State Fault Refusal :=
  s.onPort p.val f (fun d => if (ethParts f.bytes).etype = d.portField p.val 16 2 then d.portReceive p.val f else d)

/-- ETH_FRAME_TRANSMIT (R373, R374): the port's next frame. -/
def execEthFrameTransmit (p : Fin 4) (s : State) : Host.Outcome State Fault Refusal := s.on (fun d => d.portSend p.val)

/-- RING_NOTIFY (R374): of a port's transmit or receive ring, at most once every 16 µs. -/
def execRingNotify (p : Fin 4) (tx : Bool) (s : State) : Host.Outcome State Fault Refusal :=
  s.on (fun d =>
    let r := d.portRing p.val
    let due := match (if tx then r.txTold else r.rxTold) with
      | some t => d.after t (usToTc 16)
      | none => some d
    match due with
    | none => d
    | some d1 =>
      if tx && r.txNotify then
        (d1.updPort p.val (fun r => { r with txNotify := false, txTold := some d1.time.air })).raiseVector (7 + p.val)
      else if !tx && r.rxNotify then
        (d1.updPort p.val (fun r => { r with rxNotify := false, rxTold := some d1.time.air })).raiseVector (3 + p.val)
      else d)

end Sys2Proof.Machine
end

