-- ==== Sys2Proof/Machine/Settings.lean ====
section
/-! DEFINITION. The staged commands (16_chiop_commands.md, R413 to R417): their checks; the configuration that committed and
staged records give together. What a commit then does with them stands in Boundary. -/

namespace Sys2Proof.Machine

/-! ### The configuration ahead -/

/-- A vector of records with one replaced. -/
def setRec {n : Nat} (v : Vector (List Byte) n) (i : Nat) (r : List Byte) : Vector (List Byte) n :=
  Vector.ofFn (fun k => if k.val = i then r else v[k])

/-- One staged change of the lane records. -/
def applyLane (v : Vector (List Byte) 32) (s : Staged) : Vector (List Byte) 32 :=
  if s.op = 0x0401 then setRec v (pf s.params 0 1) ((s.params.drop 4).take 128) else v

/-- One staged change of the group records. -/
def applyGroup (v : Vector (List Byte) 16) (s : Staged) : Vector (List Byte) 16 :=
  if s.op = 0x0402 then setRec v (pf s.params 0 1) (s.params.take 16) else v

/-- Lane records, committed and staged. -/
def Dev.plannedLanes (d : Dev) : Vector (List Byte) 32 := d.ahead.foldl applyLane d.cfg.lanes

/-- Group records, committed and staged. -/
def Dev.plannedGroups (d : Dev) : Vector (List Byte) 16 := d.ahead.foldl applyGroup d.cfg.groups

/-- The HARQ area, committed and staged: base and size. -/
def Dev.plannedHarq (d : Dev) : Nat × Nat :=
  d.ahead.foldl (fun x s => if s.op = 0x0206 then (pf s.params 0 8, pf s.params 8 8) else x)
    (d.mem.harqBase.toNat, d.mem.harqSize.toNat)

/-- UNIT_ABSENT for a unit that is not PRESENT (R9). -/
def Dev.absentErr (d : Dev) (c s : Nat) : Option ChErr := if d.present c s then none else some (errAbsent c s)

/-- RANGE at an offset where a condition fails. -/
def rangeUnless (ok : Bool) (off : Nat) : Option ChErr := if ok then none else some (errRange off)

/-- The first answer of a list of checks. -/
def firstErr (es : List (Option ChErr)) : Option ChErr := es.findSome? (fun e => e)

/-! ### Gate limits -/

/-- The most gate events a cell can have in 1 ms (Table 8.12): two for each slot that touches it. -/
def gateBound (c : CellRec) : Nat :=
  if c.gategrp = 0xFF then 0
  else if c.type = 5 then (if c.duplex.getLsbD 1 then 2 else 0)
  else if c.period = 0 then 0
  else match c.type with | 1 => 6 | 3 => 18 | _ => 4

/-- Whether a symbol of the pattern is downlink, symbols counted from HFN 0, SFN 0 (R414). -/
def symIsDown (c : CellRec) (k : Nat) : Bool :=
  let m := patternAt c (k / 14 % c.period)
  m == 0 || (m == 2 && decide (k % 14 < c.fsym.toNat % 16))

/-- Where a symbol starts, from HFN 0, SFN 0. -/
def symAt (type k : Nat) : Nat :=
  let n := k / 14
  n / slotsPerFrame type * frameTc + slotPos type (n % slotsPerFrame type) + symPos type (n % slotsPerFrame type) (k % 14)

/-- The gate events of one HFN cycle from the pattern (R213): opens and closes, less the pairs that GMIN omits. -/
def gateCycle (c : CellRec) : List Nat :=
  if gateBound c = 0 ∨ c.type = 5 then []
  else
    let n := 1024 * slotsPerFrame c.type * 14
    let cyc := 1024 * frameTc
    let ks := List.range n
    let on := ks.filter (fun k => symIsDown c k && !symIsDown c ((k + n - 1) % n))
    let off := ks.filter (fun k => !symIsDown c k && symIsDown c ((k + n - 1) % n))
    let ons := on.map (fun k => (symAt c.type k + cyc - 16 * c.gonAdv) % cyc)
    let offs := off.map (fun k => (symAt c.type k + 16 * c.goffDly) % cyc)
    let near := fun (a b : Nat) => decide ((b + cyc - a) % cyc < 16 * c.gmin)
    ons.filter (fun b => !offs.any (fun a => near a b)) ++ offs.filter (fun a => !ons.any (fun b => near a b))

/-- Whether a lane may get more than 48 gate events in some 1 ms (Table 8.12). GSM/EDGE counts its most, since its
timeslots are not known before. -/
def laneGateFull (cs : List CellRec) (ss : List StreamRec) (l : Nat) : Bool :=
  let mine := cs.filter (fun c => (laneSet ss c.cell).contains l)
  if (mine.map gateBound).sum ≤ 48 then false
  else
    let gsm := ((mine.filter (fun c => c.type == 5)).map gateBound).sum
    let es := mine.flatMap gateCycle
    let cyc := 1024 * frameTc
    decide (48 < gsm) || es.any (fun e => decide (48 < gsm + (es.filter (fun x => decide ((x + cyc - e) % cyc < 1966080))).length))

/-- Whether some lane of a configuration gets too many gate events. -/
def gatesFull (cs : List CellRec) (ss : List StreamRec) : Bool := (List.range 32).any (laneGateFull cs ss)

/-! ### Cells and streams -/

/-- The check of a cell command with its gate limit. -/
def withGates (check : Dev → List Byte → Option ChErr) (op : Nat) (d : Dev) (p : List Byte) : Option ChErr :=
  match check d p with
  | some e => some e
  | none => rangeUnless (!gatesFull (applyCellChange d.plannedCells ⟨0, op, p⟩) d.plannedStreams) 16

/-- Where an entry of a STREAM_SET is out of range (Table 13.6). -/
def streamBad (dirn : Nat) (p : List Byte) : Option Nat :=
  if pf p 4 2 = 0xFFFF then (if 4095 < pf p 0 2 then some 0 else if pf p 2 1 ≠ dirn then some 2 else none)
  else if 4095 < pf p 0 2 then some 0
  else if pf p 2 1 ≠ dirn then some 2
  else if 31 < pf p 3 1 then some 3
  else if 1023 < pf p 4 2 then some 4
  else if 31 < pf p 6 1 then some 6
  else if pf p 7 1 < 1 ∨ 4 < pf p 7 1 then some 7
  else if signedOf 8 (pf p 8 1) < -32 ∨ 31 < signedOf 8 (pf p 8 1) then some 8
  else if 3 < pf p 9 1 then some 9
  else none

/-- Two cells with one gate group that share a lane (R213). -/
def gateClash (cs : List CellRec) (ss : List StreamRec) : Bool :=
  cs.any (fun a => a.gategrp != 0xFF && cs.any (fun b => a.cell != b.cell && a.gategrp == b.gategrp
    && (laneSet ss a.cell).any (fun l => (laneSet ss b.cell).contains l)))

/-- The check of STREAM_SET (0x0204, R213, R329). -/
def checkStreamSet (d : Dev) (p : List Byte) : Option ChErr :=
  let n := pf p 4 4
  let ents := (List.range n).map (fun i => (p.drop (8 + 16 * i)).take 16)
  if 1 < pf p 0 1 then some (errRange 0)
  else if n < 1 ∨ 4096 < n then some (errRange 4)
  else if p.length < 8 + 16 * n then some (errRange p.length)
  else
    let after := applyStreamChange d.plannedStreams ⟨0, 0x0204, p⟩
    firstErr
      [ (List.range n).findSome? (fun i => (streamBad (pf p 0 1) (ents.getD i [])).map (fun o => errRange (8 + 16 * i + o)))
      , ents.findSome? (fun e => if pf e 4 2 = 0xFFFF then none else d.absentErr 13 (pf e 3 1))
      , if decide (4096 < (after.filter (fun e => e.down)).length) || decide (4096 < (after.filter (fun e => !e.down)).length)
          then some { status := stNoCapacity, reason := 0x0B } else none
      , if gateClash d.plannedCells after then some (errInUse 8) else none
      , rangeUnless (!gatesFull d.plannedCells after) 8 ]

/-- The check of RAMP_SET (0x0205, Table 8.6). -/
def checkRampSet (_ : Dev) (p : List Byte) : Option ChErr :=
  firstErr [rangeUnless (decide (1 ≤ pf p 0 1 ∧ pf p 0 1 ≤ 7)) 0, rangeUnless (pf p 4 1 == 1) 4,
    (List.range 32).findSome? (fun k => rangeUnless (decide (pf p (8 + 2 * k) 2 ≤ 32767)) (8 + 2 * k))]

/-- The end of the general region of HBM (Table 12.4). -/
def Dev.hbmEnd (d : Dev) : Nat := if d.present 12 1 then 0x1000000000 else 0xC00000000

/-- The check of HARQ_SET (0x0206, R311). -/
def checkHarqSet (d : Dev) (p : List Byte) : Option ChErr :=
  let base := pf p 0 8
  let size := pf p 8 8
  firstErr [rangeUnless (base % 0x10000000 == 0) 0, rangeUnless (size % 0x10000000 == 0 && decide (size ≤ 0x300000000)) 8,
    rangeUnless (size == 0 || (decide (0x840000000 ≤ base) && decide (base + size ≤ d.hbmEnd))) 0]

/-- The check of HARQ_CLEAR (0x0207, R313): a range of pages inside the HARQ area. -/
def checkHarqClear (d : Dev) (p : List Byte) : Option ChErr :=
  let base := pf p 0 8
  let len := pf p 8 8
  let a := d.plannedHarq
  firstErr [rangeUnless (base % 4096 == 0 && decide (a.1 ≤ base ∧ base < a.1 + a.2)) 0,
    rangeUnless (len % 4096 == 0 && decide (base + len ≤ a.1 + a.2)) 8]

/-! ### Links -/

/-- Where a lane record is out of range (Table 13.9). -/
def laneBad (r : List Byte) : Option Nat :=
  if 2 < pf r 0 1 then some 0
  else if 2 < pf r 1 1 then some 1
  else if (15 < pf r 2 1 ∧ pf r 2 1 ≠ 0xFF) ∨ (pf r 0 1 = 2 ∧ pf r 2 1 ≠ 0xFF) then some 2
  else if 15 < pf r 3 1 then some 3
  else if 7 < pf r 4 1 then some 4
  else if pf r 8 2 < 1 then some 8
  else if pf r 8 2 ≤ pf r 10 2 then some 10
  else if pf r 12 2 < 1 then some 12
  else if pf r 12 2 ≤ pf r 14 2 then some 14
  else if pf r 16 2 < 615 ∨ 24576 < pf r 16 2 then some 16
  else if pf r 18 2 < 10 ∨ 1000 < pf r 18 2 then some 18
  else if pf r 0 1 ≠ 2 ∧ pf r 20 6 ≠ 0 then some 20
  else if pf r 0 1 ≠ 2 ∧ pf r 26 6 ≠ 0 then some 26
  else if pf r 0 1 = 2 ∧ (pf r 98 2 < 1500 ∨ 9216 < pf r 98 2) then some 98
  else none

/-- The working lanes and channels that name a group. -/
def groupWork (lanes : Vector (List Byte) 32) (g : Nat) : List (Nat × Nat) :=
  (List.range 32).filterMap (fun l =>
    let r := lanes.toList.getD l []
    if !r.isEmpty ∧ pf r 2 1 = g ∧ pf r 3 1 ≠ 0 then some (l, pf r 3 1) else none)

/-- Whether a configured group is valid (R339). -/
def groupValid (lanes : Vector (List Byte) 32) (g : Nat) (r : List Byte) : Bool :=
  let ws := groupWork lanes g
  let pl := lanes.toList.getD (pf r 2 1) []
  let pers := fun (l : Nat) => pf (lanes.toList.getD l []) 0 1
  let arch := bitAt (pf r 1 1) 0
  pf pl 0 1 == 1 && pf pl 2 1 == g && pf pl 3 1 == 0
    && (List.range 32).all (fun l => let x := lanes.toList.getD l []
          x.isEmpty || pf x 2 1 != g || (pers l == 1 && (pf x 3 1 != 0 || l == pf r 2 1)))
    && decide ((ws.map (fun w => w.2)).eraseDups.length = ws.length)
    && (arch || ws.length == 1) && (!arch || bitAt (pf r 1 1) 1)

/-- The check of LANE_SET (0x0401, R345): its record, and the groups it leaves. -/
def checkLaneSet (d : Dev) (p : List Byte) : Option ChErr :=
  let after := applyLane d.plannedLanes ⟨0, 0x0401, p⟩
  let gs := d.plannedGroups
  if 31 < pf p 0 1 then some (errRange 0)
  else firstErr
    [ d.absentErr 13 (pf p 0 1)
    , (laneBad (p.drop 4)).map (fun o => errRange (4 + o))
    , rangeUnless ((List.range 16).all (fun g => let r := gs.toList.getD g []
        r.isEmpty || !groupValid d.plannedLanes g r || groupValid after g r)) 6 ]

/-- The check of GROUP_SET (0x0402, Table 13.11, R339). -/
def checkGroupSet (d : Dev) (p : List Byte) : Option ChErr :=
  firstErr
    [ rangeUnless (decide (pf p 0 1 ≤ 15)) 0, rangeUnless (decide (pf p 1 1 ≤ 7)) 1, rangeUnless (decide (pf p 2 1 ≤ 31)) 2
    , d.absentErr 13 (pf p 2 1)
    , rangeUnless (decide (pf p 4 2 ≤ 100)) 4, rangeUnless (decide (1 ≤ pf p 6 2 ∧ pf p 6 2 ≤ 720)) 6
    , rangeUnless (groupValid d.plannedLanes (pf p 0 1) (p.take 16)) 1 ]

/-- The check of DETOUR_CMD (0x0403, R344). -/
def checkDetourCmd (d : Dev) (p : List Byte) : Option ChErr :=
  let g := pf p 0 1
  let r := pf p 1 1
  firstErr
    [ rangeUnless (decide (g ≤ 15) && !(d.plannedGroups.toList.getD g []).isEmpty) 0
    , rangeUnless (r == 0xF || r == 0xD || r == 7 || r == 0) 1
    , rangeUnless (r == 0xF || r == 0 || (groupWork d.plannedLanes g).any (fun w => w.2 == pf p 2 1)) 2 ]

/-- Where a port record is out of range (Table 15.1). -/
def portBad (r : List Byte) : Option Nat :=
  if 1 < pf r 0 1 then some 0
  else if 1 < pf r 1 1 then some 1
  else if 1 < pf r 2 1 then some 2
  else if 31 < pf r 3 1 then some 3
  else if pf r 10 2 < 1500 ∨ 9216 < pf r 10 2 then some 10
  else if 3 < pf r 12 1 then some 12
  else if 1 < pf r 13 1 then some 13
  else if 4 < pf r 14 1 then some 14
  else if pf r 18 2 &&& 0xFA09 ≠ 0 then some 18
  else none

/-- The check of PORT_SET (0x0404, R371). -/
def checkPortSet (d : Dev) (p : List Byte) : Option ChErr :=
  if 3 < pf p 0 1 then some (errRange 0)
  else firstErr [d.absentErr 14 (pf p 0 1), (portBad (p.drop 4)).map (fun o => errRange (4 + o))]

/-! ### Power, time, thermal, health, performance -/

/-- The check of SLACK_SET (0x0501, Table 2.6); fractions in 1/4096. -/
def checkSlackSet (_ : Dev) (p : List Byte) : Option ChErr :=
  let a := pf p 0 2
  firstErr
    [ rangeUnless (decide (4096 ≤ 10 * a ∧ 2 * a ≤ 4096)) 0, rangeUnless (decide (2 * 4096 ≤ 100 * pf p 2 2 ∧ pf p 2 2 ≤ a)) 2
    , rangeUnless (decide (4096 ≤ 20 * pf p 4 2 ∧ 2 * pf p 4 2 ≤ 4096)) 4, rangeUnless (decide (700 ≤ pf p 6 2 ∧ pf p 6 2 ≤ 850)) 6
    , rangeUnless (decide (550 ≤ pf p 8 2 ∧ pf p 8 2 ≤ pf p 6 2)) 8 ]

/-- The check of TIME_SOURCE_SET (0x0502, R546): reserved bits and bytes are 0. -/
def checkTimeSourceSet (_ : Dev) (p : List Byte) : Option ChErr :=
  firstErr [rangeUnless (decide (pf p 0 1 < 8)) 0, rangeUnless (decide (pf p 1 1 < 16)) 1, rangeUnless (pf p 2 2 == 0) 2,
    rangeUnless (decide (pf p 4 4 ≤ 2715647)) 4]

/-- The check of TICK_SET (0x0504, R46). -/
def checkTickSet (d : Dev) (p : List Byte) : Option ChErr :=
  rangeUnless (decide (pf p 0 1 ≤ 6) && !d.calendarBusy) 0

/-- The check of THERMAL_SET (0x0507, Table 20.4). -/
def checkThermalSet (d : Dev) (p : List Byte) : Option ChErr :=
  firstErr
    [ rangeUnless (decide (85 * 16 ≤ pf p 0 2 ∧ pf p 0 2 ≤ 110 * 16)) 0, rangeUnless (decide (2 ≤ pf p 2 1 ∧ pf p 2 1 ≤ 20)) 2
    , rangeUnless (decide (5 ≤ pf p 3 1 ∧ pf p 3 1 ≤ 250)) 3, rangeUnless (decide (pf p 4 2 ≤ cuRated d.part)) 4
    , rangeUnless (decide (1 ≤ pf p 6 1 ∧ pf p 6 1 ≤ 168)) 6 ]

/-- Whether bytes name a unit slot of Table 0.5. -/
def unitNamed (c s : Nat) : Bool := decide (1 ≤ c ∧ c ≤ 15) && decide (s < classSlots c)

/-- The units that cannot leave service (R432, R459, R496): HBM stack 0 and the always-on control cores. -/
def unitEssential (c s : Nat) : Bool := (c == 12 && s == 0) || neverRetired c s

/-- The check of UNIT_REMOVE (0x0603, R247, R9). -/
def checkUnitRemove (d : Dev) (p : List Byte) : Option ChErr :=
  let c := pf p 0 1
  let s := pf p 1 1
  firstErr [rangeUnless (decide (1 ≤ c ∧ c ≤ 15)) 0, rangeUnless (unitNamed c s && !unitEssential c s) 1, d.absentErr c s]

/-- The check of PM_TIME_SET (0x0701, R352). -/
def checkPmTimeSet (_ : Dev) (p : List Byte) : Option ChErr :=
  let z := signedOf 16 (pf p 2 2)
  rangeUnless (decide (-720 ≤ z ∧ z ≤ 840) && z % 15 == 0) 2

/-- The subject a PM command names: a lane, or a group from 0x80; its number among the PM states. -/
def pmNamed (code : Nat) : Option Nat :=
  if code < 32 then some code else if 0x80 ≤ code ∧ code < 0x90 then some (32 + (code - 0x80)) else none

/-- The check of a PM subject. -/
def checkPmSubject (d : Dev) (code : Nat) : Option ChErr :=
  match pmNamed code with
  | none => some (errRange 0)
  | some k => if k < 32 then d.absentErr 13 k else none

/-- The check of PM_THRESHOLD_SET (0x0702, R367). -/
def checkPmThresholdSet (d : Dev) (p : List Byte) : Option ChErr :=
  let bits := if pf p 0 1 < 32 then 9 else 4
  firstErr [checkPmSubject d (pf p 0 1), rangeUnless (decide (pf p 1 1 ≤ 1)) 1, rangeUnless (decide (pf p 2 1 ≤ bits)) 2]

/-- The check of LEAKY_SET (0x0A03, R494). -/
def checkLeakySet (_ : Dev) (p : List Byte) : Option ChErr :=
  firstErr
    [ rangeUnless (decide (1 ≤ pf p 0 1 ∧ pf p 0 1 ≤ 16)) 0, rangeUnless (decide (pf p 2 2 ≤ 1000)) 2
    , rangeUnless (decide (1 ≤ pf p 4 2 ∧ pf p 4 2 ≤ 32767)) 4, rangeUnless (decide (pf p 6 2 ≤ 32767)) 6
    , rangeUnless (decide (pf p 4 2 < pf p 8 2)) 8 ]

/-- The check of IMAGE_BIND (0x0302, R455). -/
def checkImageBind (d : Dev) (p : List Byte) : Option ChErr :=
  if !(d.start.images.any (fun i => i.handle == pf p 0 2)) then some (errNotFound 0)
  else ((List.range 128).filter (fun k => bitAt (pf p 4 16) k)).findSome? (fun k => d.absentErr 1 k)

/-! ### Rows -/

/-- CELL_ADD (R414). -/
def execCellAdd (h : Sys2Proof.ChiopHdr) (p : List Byte) (s : State) : Host.Outcome State Fault Refusal :=
  s.on (chiopStaged 0x0201 modesCfg 96 (withGates checkCellAdd 0x0201) h p)

/-- CELL_REMOVE (R414). -/
def execCellRemove (h : Sys2Proof.ChiopHdr) (p : List Byte) (s : State) : Host.Outcome State Fault Refusal :=
  s.on (chiopStaged 0x0202 modesCfg 2 checkCellRemove h p)

/-- CELL_MODIFY (R414). -/
def execCellModify (h : Sys2Proof.ChiopHdr) (p : List Byte) (s : State) : Host.Outcome State Fault Refusal :=
  s.on (chiopStaged 0x0203 modesCfg 96 (withGates checkCellModify 0x0203) h p)

/-- STREAM_SET (R329). -/
def execStreamSet (h : Sys2Proof.ChiopHdr) (p : List Byte) (s : State) : Host.Outcome State Fault Refusal :=
  s.on (chiopStaged 0x0204 modesCfg 8 checkStreamSet h p)

/-- RAMP_SET (R206). -/
def execRampSet (h : Sys2Proof.ChiopHdr) (p : List Byte) (s : State) : Host.Outcome State Fault Refusal :=
  s.on (chiopStaged 0x0205 modesCfg 72 checkRampSet h p)

/-- HARQ_SET (R311). -/
def execHarqSet (h : Sys2Proof.ChiopHdr) (p : List Byte) (s : State) : Host.Outcome State Fault Refusal :=
  s.on (chiopStaged 0x0206 modesCfg 16 checkHarqSet h p)

/-- HARQ_CLEAR (R313). -/
def execHarqClear (h : Sys2Proof.ChiopHdr) (p : List Byte) (s : State) : Host.Outcome State Fault Refusal :=
  s.on (chiopStaged 0x0207 modesCfg 16 checkHarqClear h p)

/-- IMAGE_BIND (R455). -/
def execImageBind (h : Sys2Proof.ChiopHdr) (p : List Byte) (s : State) : Host.Outcome State Fault Refusal :=
  s.on (chiopStaged 0x0302 [4, 5, 6, 7] 20 checkImageBind h p)

/-- LANE_SET (R345). -/
def execLaneSet (h : Sys2Proof.ChiopHdr) (p : List Byte) (s : State) : Host.Outcome State Fault Refusal :=
  s.on (chiopStaged 0x0401 modesCfg 132 checkLaneSet h p)

/-- GROUP_SET (R345). -/
def execGroupSet (h : Sys2Proof.ChiopHdr) (p : List Byte) (s : State) : Host.Outcome State Fault Refusal :=
  s.on (chiopStaged 0x0402 modesCfg 16 checkGroupSet h p)

/-- DETOUR_CMD (R344). -/
def execDetourCmd (h : Sys2Proof.ChiopHdr) (p : List Byte) (s : State) : Host.Outcome State Fault Refusal :=
  s.on (chiopStaged 0x0403 [6, 7, 8, 11] 3 checkDetourCmd h p)

/-- PORT_SET (R371). -/
def execPortSet (h : Sys2Proof.ChiopHdr) (p : List Byte) (s : State) : Host.Outcome State Fault Refusal :=
  s.on (chiopStaged 0x0404 modesCfg 68 checkPortSet h p)

/-- SLACK_SET (R50). -/
def execSlackSet (h : Sys2Proof.ChiopHdr) (p : List Byte) (s : State) : Host.Outcome State Fault Refusal :=
  s.on (chiopStaged 0x0501 modesCfgQ 10 checkSlackSet h p)

/-- TIME_SOURCE_SET (R546). -/
def execTimeSourceSet (h : Sys2Proof.ChiopHdr) (p : List Byte) (s : State) : Host.Outcome State Fault Refusal :=
  s.on (chiopStaged 0x0502 modesCfgQ 8 checkTimeSourceSet h p)

/-- TICK_SET (R46). -/
def execTickSet (h : Sys2Proof.ChiopHdr) (p : List Byte) (s : State) : Host.Outcome State Fault Refusal :=
  s.on (chiopStaged 0x0504 [4, 5] 1 checkTickSet h p)

/-- THERMAL_SET (R490). -/
def execThermalSet (h : Sys2Proof.ChiopHdr) (p : List Byte) (s : State) : Host.Outcome State Fault Refusal :=
  s.on (chiopStaged 0x0507 modesCfgQ 8 checkThermalSet h p)

/-- UNIT_REMOVE (R247). -/
def execUnitRemove (h : Sys2Proof.ChiopHdr) (p : List Byte) (s : State) : Host.Outcome State Fault Refusal :=
  s.on (chiopStaged 0x0603 modesCfg 2 checkUnitRemove h p)

/-- PM_TIME_SET (R353). -/
def execPmTimeSet (h : Sys2Proof.ChiopHdr) (p : List Byte) (s : State) : Host.Outcome State Fault Refusal :=
  s.on (chiopStaged 0x0701 modesCfg 4 checkPmTimeSet h p)

/-- PM_THRESHOLD_SET (R367). -/
def execPmThresholdSet (h : Sys2Proof.ChiopHdr) (p : List Byte) (s : State) : Host.Outcome State Fault Refusal :=
  s.on (chiopStaged 0x0702 modesCfg 8 checkPmThresholdSet h p)

/-- PM_CLEAR (R363). -/
def execPmClear (h : Sys2Proof.ChiopHdr) (p : List Byte) (s : State) : Host.Outcome State Fault Refusal :=
  s.on (chiopStaged 0x0703 modesCfg 1 (fun d p => checkPmSubject d (pf p 0 1)) h p)

/-- TALLY_AGE_SET (R417). -/
def execTallyAgeSet (h : Sys2Proof.ChiopHdr) (p : List Byte) (s : State) : Host.Outcome State Fault Refusal :=
  s.on (chiopStaged 0x0A01 modesCfg 4 (fun _ p => rangeUnless (decide (1000 ≤ pf p 0 4 ∧ pf p 0 4 ≤ 1000000)) 0) h p)

/-- PTO_SET (R417). -/
def execPtoSet (h : Sys2Proof.ChiopHdr) (p : List Byte) (s : State) : Host.Outcome State Fault Refusal :=
  s.on (chiopStaged 0x0A02 modesCfg 4 (fun _ p => rangeUnless (decide (4 ≤ pf p 0 2 ∧ pf p 0 2 ≤ 1024)) 0) h p)

/-- LEAKY_SET (R494). -/
def execLeakySet (h : Sys2Proof.ChiopHdr) (p : List Byte) (s : State) : Host.Outcome State Fault Refusal :=
  s.on (chiopStaged 0x0A03 modesCfg 10 checkLeakySet h p)

end Sys2Proof.Machine
end

