-- ==== Sys2Proof/Machine/Commands.lean ====
section
/-! DEFINITION. The Chiop commands that take effect when they are read or are held (16_chiop_commands.md, R391 to R417),
but for SLOT_SUBMIT, SNAPSHOT_READ and those of images, fuses and keys. -/

namespace Sys2Proof.Machine

/-! ### Identity and results -/

/-- The code of a start kind (Table 16.15). -/
def kindCode : StartKind → Nat
  | .cold => 0 | .warm => 1 | .recovery => 2

/-- The reply of GET_IDENTITY (Table 16.15). -/
def Dev.identity (d : Dev) : List Byte :=
  bytesOf 2 (partCode d.part) ++ [d.stepping] ++ bytesOf 1 (kindCode d.start.kind) ++ bytesOf 4 d.start.fwVersion.toNat
    ++ bytesOf 8 d.start.fuses.serial.toNat ++ bytesOf 4 d.start.starts.toNat

/-- Whether the variant is FR2 capable (Tables 0.1, 0.4). -/
def fr2Capable (p : Part) : Bool := match p with | .zg9812 => true | _ => false

/-- FEATURES (Table 0.4). -/
def Dev.features (d : Dev) : Nat :=
  boolNat (fr2Capable d.part) + 2 * boolNat d.start.fuses.secureProg + 4 * boolNat d.start.fuses.debugLock

/-- The record of a unit class (Table 0.5): head and 2 bits for each slot, padded to 4 bytes. -/
def Dev.classRecord (d : Dev) (c : Nat) : List Byte :=
  let n := classSlots c
  bytesOf 1 c ++ bytesOf 1 n ++ [0, 0]
    ++ (List.range (ceilDiv n 16 * 4)).map (fun i =>
      BitVec.ofNat 8 (((List.range 4).map (fun k => if 4 * i + k < n then unitCode (d.unit c (4 * i + k)).st * 4 ^ k else 0)).sum))

/-- The reply of GET_CAPABILITIES (Table 0.4). -/
def Dev.capabilities (d : Dev) : List Byte :=
  bytesOf 2 (partCode d.part) ++ [d.stepping] ++ bytesOf 1 d.features ++ bytesOf 2 (cuRated d.part) ++ bytesOf 2 d.cuAvail
    ++ [15, 0, 0, 0] ++ (List.range 15).flatMap (fun c => d.classRecord (c + 1))

/-- GET_RESULT (R400): classification is bypassed and nothing is retained. -/
def Dev.getResult (h : Sys2Proof.ChiopHdr) (p : List Byte) (d : Dev) : Dev :=
  if !canRead d h then d
  else
    let chan := h.chan.val
    let slot := d.host.cmdHead.toNat
    let d0 := takeCmd d h
    let gen := d0.chiop.gen
    let out := fun (d : Dev) (r : Reply) => d.deliver chan slot gen false r
    let fail := fun (e : ChErr) => out d0 (errReply d0 0x0103 h.seq e)
    match headerError 0x0103 h with
    | some st => fail { status := st, reason := 1 }
    | none =>
      match preCheck d0 0x0103 (inModes modesAll d0) 4 false h p with
      | some e => fail e
      | none =>
        let target := BitVec.ofNat 32 (pf (paramsOf h p) 0 4)
        match retained (d0.chan chan) target with
        | none => fail { status := stBadParam, reason := 3 }
        | some r =>
          match r.reply with
          | some rep => out d0 { rep with repeated := true }
          | none =>
            match (d0.chan chan).held.find? (fun x => x.seq == target) with
            | some x => out { d0 with free := d0.free + 1 } (pendingReply d0 x false)
            | none => d0

/-! ### Epochs and the stage -/

/-- The reply of EPOCH_GET (0x0801). -/
def Dev.epochGet (d : Dev) : List Byte :=
  let c := d.chiop
  bytesOf 4 c.epoch.toNat ++ bytesOf 1 (boolNat c.gran) ++ bytesOf 1 (c.owner.getD 0xFF) ++ bytesOf 2 c.stage.length
    ++ bytesOf 4 c.configEpoch.toNat ++ bytesOf 4 (match c.commit with | some x => x.target.toNat | none => 0xFFFFFFFF)
    ++ bytesOf 8 c.boundaryStamp.toNat

/-- 250 µs (R405). -/
def commitLead : Nat := 491520

/-- 200 µs (R53, R424). -/
def boostLead : Nat := 393216

/-- The target of a COMMIT (R405), in epochs ahead, or why there is none. -/
def Dev.commitAhead (d : Dev) (now : Nat) (target : Word) : Except ChErr Nat :=
  if target = 0xFFFFFFFF then
    .ok ((([1, 2, 3] : List Nat).find? (fun n => decide (commitLead ≤ d.boundaryIn now n))).getD 3)
  else
    let n := (target - d.chiop.epoch).toNat
    if n = 0 ∨ 2 ^ 31 ≤ n then .error { status := stBadParam, reason := 7, offset := 0 }
    else if 65536 < n then .error (errRange 0)
    else if d.boundaryIn now n < commitLead then .error { status := stBadParam, reason := 7, offset := 0 }
    else .ok n

/-- The CU of a list of cells. -/
def cuOf (cs : List CellRec) : Nat := (cs.map cuCost).sum

/-- The boost of R53: a sealed stage that raises the CU in service starts it now, or at the boundary where that is near. -/
def Dev.commitBoost (d : Dev) (now n : Nat) (stage : List Staged) : Dev :=
  let before := d.cfg.cells.map (fun c => c.cr)
  if modeServes d.mode.mode ∧ cuOf before < cuOf (stage.foldl applyCellChange before) then
    if boostLead ≤ d.boundaryIn now n then d.boost else { d with slack := { d.slack with boostAtBoundary := true } }
  else d

/-- COMMIT (R405): the stage is sealed and held until its boundary. -/
def bodyCommit (h : Sys2Proof.ChiopHdr) (d : Dev) (p : List Byte) : Ans :=
  let c := d.chiop
  if c.owner.isSome && c.owner != some h.chan.val then .err errOwner
  else if c.commit.isSome then .err errDepends
  else
    let target := BitVec.ofNat 32 (pf p 0 4)
    match d.commitAhead (nowOf d h) target with
    | .error e => .err e
    | .ok n =>
      let held : CommitHeld := ⟨h.chan.val, h.seq, c.epoch + BitVec.ofNat 32 n, c.stage⟩
      let d1 : Dev := { d with chiop := { c with stage := [], owner := none, commit := some held } }
      .hold (d1.commitBoost (nowOf d h) n c.stage) p

/-- DISCARD (R403). -/
def bodyDiscard (h : Sys2Proof.ChiopHdr) (d : Dev) (_ : List Byte) : Ans :=
  if d.chiop.owner.isSome && d.chiop.owner != some h.chan.val then .err errOwner
  else .ok { d with chiop := { d.chiop with stage := [], owner := none } } (bytesOf 2 d.chiop.stage.length)

/-- EPOCH_GRAN_SET (R402). -/
def bodyEpochGranSet (d : Dev) (p : List Byte) : Ans :=
  if 1 < pf p 0 1 then .err (errRange 0)
  else if d.chiop.owner.isSome || d.chiop.commit.isSome then .err errOwner
  else .ok { d with chiop := { d.chiop with granPending := some (pf p 0 1 == 1) } } []

/-- The reply of STAGE_LIST. -/
def Dev.stageList (d : Dev) : List Byte :=
  bytesOf 2 d.chiop.stage.length ++ [0, 0] ++ d.chiop.stage.flatMap (fun s => bytesOf 4 s.seq.toNat)

/-! ### Modes -/

/-- The domains that an entry into service waits for (R424): of the cores, MXCs and accelerators that are PRESENT and not
host-held, where some cell is committed. -/
def Dev.serviceDomains (d : Dev) : List Nat :=
  if d.plannedCells.isEmpty then []
  else allDomains.filter (fun c => decide (c < 0x400) && d.domPresent c && !(d.dom c).hostHeld)

/-- Post Run requests for domains; those that are not in Run and wake. -/
def Dev.wakeAll (d : Dev) (cs : List Nat) : Dev := cs.foldl (fun d c => if d.domRun c then d else d.domImplicit c true .control) d

/-- Domains among some that are on their way to Run. -/
def Dev.waking (d : Dev) (cs : List Nat) : List Nat :=
  cs.filter (fun c => !d.domRun c && ((d.dom c).cur.any (fun r => r.run) || (d.dom c).pend.any (fun r => r.run)))

/-- A held MODE_REQUEST whose last domain has reached Run, or is no longer awaited: the boost of R53 starts (R424). -/
def Dev.reqProgress (d : Dev) (now : Nat) : Dev :=
  match d.mode.req with
  | none => d
  | some r =>
    if r.allRunAt.isSome ∨ r.target ≠ 6 ∨ (d.mode.mode ≠ 4 ∧ d.mode.mode ≠ 5) then d
    else
      let await := d.waking r.await
      let r1 : ModeReq := { r with await := await, allRunAt := if await.isEmpty then some now else none }
      let d1 : Dev := { d with mode := { d.mode with req := some r1 } }
      if await.isEmpty then d1.boost else d1

/-- MODE_REQUEST (R422, R424). -/
def bodyModeRequest (h : Sys2Proof.ChiopHdr) (d : Dev) (p : List Byte) : Ans :=
  let m := pf p 0 1
  if m < 1 ∨ 12 < m then .err (errRange 0)
  else if d.mode.req.isSome then .err errDepends
  else
    let serve := m = 6 ∧ (d.mode.mode = 4 ∨ d.mode.mode = 5)
    let need := if serve then d.serviceDomains else []
    let d1 := d.wakeAll need
    let r : ModeReq :=
      { chan := h.chan.val
        seq := h.seq
        target := m
        readAt := nowOf d h
        await := need
        allRunAt := none }
    .hold (({ d1 with mode := { d1.mode with req := some r } } : Dev).reqProgress (nowOf d h)) p

/-! ### Links, time, health -/

/-- GCC_WRITE (R326). -/
def bodyGccWrite (d : Dev) (p : List Byte) : Ans :=
  let l := pf p 0 1
  let n := pf p 2 2
  if 31 < l then .err (errRange 0)
  else if n < 1 ∨ 224 < n then .err (errRange 2)
  else if p.length < 4 + n then .err (errRange p.length)
  else match d.absentErr 13 l with
    | some e => .err e
    | none =>
      if (d.lane l).rx.align ≠ .sync then .err { status := stStopped }
      else .ok (d.updTx l (fun t => { t with gcc := t.gcc ++ (p.drop 4).take n })) []

/-- GCC_READ (R326). -/
def bodyGccRead (d : Dev) (p : List Byte) : Ans :=
  let l := pf p 0 1
  if 31 < l then .err (errRange 0)
  else match d.absentErr 13 l with
    | some e => .err e
    | none =>
      let g := (d.lane l).rx.gcc
      .ok (d.updRx l (fun r => { r with gcc := g.drop 240 })) (g.take 240)

/-- TIME_STEP (R44): held to a frame boundary. -/
def bodyTimeStep (h : Sys2Proof.ChiopHdr) (d : Dev) (p : List Byte) : Ans :=
  if d.anyInService then .err (errRange 0)
  else if d.time.stepPending.isSome then .err errDepends
  else .hold { d with time := { d.time with stepPending := some (pfSigned64 p 0, h.chan.val, h.seq) } } p

/-- The 64 bytes of a log record (R504). -/
def LogRec.bytes (r : LogRec) : List Byte :=
  bytesOf 4 r.index.toNat ++ bytesOf 1 r.type ++ [r.flags, 0, 0] ++ bytesOf 8 r.stamp.toNat ++ padTo 48 r.payload

/-- Records of the event log from an index up (R504). -/
def Dev.logFrom (d : Dev) (first count : Nat) : List LogRec :=
  (d.health.log.filter (fun r => decide (first ≤ r.index.toNat))).take count

/-- The answer of HEALTH_LOG_READ (R504). -/
def Dev.logRead (d : Dev) (p : List Byte) : List Byte :=
  (d.logFrom (pf p 0 4) (Nat.min 1024 (pf p 4 2))).flatMap LogRec.bytes

/-- SELFTEST_RUN (R427, R495, R497): in M10 a unit that the device-wide pass has still to test waits for it. -/
def bodySelftestRun (d : Dev) (p : List Byte) : Ans :=
  let c := pf p 0 1
  let s := pf p 1 1
  if c < 1 ∨ 15 < c ∨ c = 12 then .err (errRange 0)
  else if classSlots c ≤ s then .err (errRange 1)
  else match d.absentErr c s with
    | some e => .err e
    | none => .hold (if d.mode.todo.contains (c, s) then d else d.queueTest c s) p

/-! ### Rows -/

/-- GET_IDENTITY (R391). -/
def execGetIdentity (h : Sys2Proof.ChiopHdr) (p : List Byte) (s : State) : Host.Outcome State Fault Refusal :=
  s.on (chiopCmd 0x0101 modesAll 0 false (fun d _ => .ok d d.identity) h p)

/-- GET_CAPABILITIES (R7). -/
def execGetCapabilities (h : Sys2Proof.ChiopHdr) (p : List Byte) (s : State) : Host.Outcome State Fault Refusal :=
  s.on (chiopCmd 0x0102 modesAll 0 false (fun d _ => .ok d d.capabilities) h p)

/-- GET_RESULT (R400). -/
def execGetResult (h : Sys2Proof.ChiopHdr) (p : List Byte) (s : State) : Host.Outcome State Fault Refusal :=
  s.on (Dev.getResult h p)

/-- EPOCH_GET (R402). -/
def execEpochGet (h : Sys2Proof.ChiopHdr) (p : List Byte) (s : State) : Host.Outcome State Fault Refusal :=
  s.on (chiopCmd 0x0801 modesAll 0 false (fun d _ => .ok d d.epochGet) h p)

/-- EPOCH_GRAN_SET (R402). -/
def execEpochGranSet (h : Sys2Proof.ChiopHdr) (p : List Byte) (s : State) : Host.Outcome State Fault Refusal :=
  s.on (chiopCmd 0x0802 modesCfg 1 false bodyEpochGranSet h p)

/-- COMMIT (R405). -/
def execCommit (h : Sys2Proof.ChiopHdr) (p : List Byte) (s : State) : Host.Outcome State Fault Refusal :=
  s.on (chiopCmd 0x0803 modesCfgQ 4 true (bodyCommit h) h p)

/-- DISCARD (R403). -/
def execDiscard (h : Sys2Proof.ChiopHdr) (p : List Byte) (s : State) : Host.Outcome State Fault Refusal :=
  s.on (chiopCmd 0x0804 modesCfgQ 0 false (bodyDiscard h) h p)

/-- STAGE_LIST (R403). -/
def execStageList (h : Sys2Proof.ChiopHdr) (p : List Byte) (s : State) : Host.Outcome State Fault Refusal :=
  s.on (chiopCmd 0x0805 modesAll 0 false (fun d _ => .ok d d.stageList) h p)

/-- MODE_REQUEST (R422). -/
def execModeRequest (h : Sys2Proof.ChiopHdr) (p : List Byte) (s : State) : Host.Outcome State Fault Refusal :=
  s.on (chiopCmd 0x0807 modesAll 1 true (bodyModeRequest h) h p)

/-- GCC_WRITE (R326). -/
def execGccWrite (h : Sys2Proof.ChiopHdr) (p : List Byte) (s : State) : Host.Outcome State Fault Refusal :=
  s.on (chiopCmd 0x0405 modesCfg 4 false bodyGccWrite h p)

/-- GCC_READ (R326). -/
def execGccRead (h : Sys2Proof.ChiopHdr) (p : List Byte) (s : State) : Host.Outcome State Fault Refusal :=
  s.on (chiopCmd 0x0406 modesCfg 1 false bodyGccRead h p)

/-- PPS_SECOND (R522). -/
def execPpsSecond (h : Sys2Proof.ChiopHdr) (p : List Byte) (s : State) : Host.Outcome State Fault Refusal :=
  s.on (chiopCmd 0x0503 modesAll 8 false
    (fun d ps => .ok { d with time := { d.time with ppsNext := some (pf ps 0 8) } } []) h p)

/-- DOMAIN_REQUEST (R463). -/
def execDomainRequest (h : Sys2Proof.ChiopHdr) (p : List Byte) (s : State) : Host.Outcome State Fault Refusal :=
  s.on (chiopCmd 0x0505 modesCfgQ 3 true (bodyDomainRequest h.chan.val h.seq) h p)

/-- RELEASE_PADS (R473). -/
def execReleasePads (h : Sys2Proof.ChiopHdr) (p : List Byte) (s : State) : Host.Outcome State Fault Refusal :=
  s.on (chiopCmd 0x0506 modesCfgQ 2 false (bodyReleasePads h.chan.val) h p)

/-- HOSTLOSS_SET (R389): 0, or 10 to 60,000 ms. -/
def bodyHostlossSet (d : Dev) (p : List Byte) : Ans :=
  let n := pf p 0 4
  if n = 0 ∨ (10 ≤ n ∧ n ≤ 60000) then .ok { d with host := { d.host with hostlossMs := n } } [] else .err (errRange 0)

/-- HOSTLOSS_SET (R389). -/
def execHostlossSet (h : Sys2Proof.ChiopHdr) (p : List Byte) (s : State) : Host.Outcome State Fault Refusal :=
  s.on (chiopCmd 0x0508 modesAll 4 false bodyHostlossSet h p)

/-- TIME_STEP (R44). -/
def execTimeStep (h : Sys2Proof.ChiopHdr) (p : List Byte) (s : State) : Host.Outcome State Fault Refusal :=
  s.on (chiopCmd 0x0509 [4, 5] 8 true (bodyTimeStep h) h p)

/-- HEALTH_LOG_READ (R504). -/
def execHealthLogRead (h : Sys2Proof.ChiopHdr) (p : List Byte) (s : State) : Host.Outcome State Fault Refusal :=
  s.on (chiopCmd 0x0601 modesAll 6 false (fun d ps => .ok d (d.logRead ps)) h p)

/-- SELFTEST_RUN (R495): the test starts at once where nothing stands in its way. -/
def execSelftestRun (h : Sys2Proof.ChiopHdr) (p : List Byte) (s : State) : Host.Outcome State Fault Refusal :=
  s.on (fun d => (chiopCmd 0x0602 [4, 5, 6, 7, 8, 10, 11] 2 true bodySelftestRun h p d).startTests)

/-- REPLACE_ACK (R501). -/
def execReplaceAck (h : Sys2Proof.ChiopHdr) (p : List Byte) (s : State) : Host.Outcome State Fault Refusal :=
  s.on (chiopCmd 0x0604 modesAll 0 false
    (fun d _ => .ok { d with health := { d.health with replaceOut := false } } []) h p)

/-- What a diagnostic command answers (R417): its parameters and its reply are not given (log entry 53). -/
def bodyDiag (op : Nat) (d : Dev) (p : List Byte) : Ans :=
  .ok { d with free := d.free + 1 } (Sys2Proof.Config.diagData d.free op p)

/-- REG_READ (R417). -/
def execRegRead (h : Sys2Proof.ChiopHdr) (p : List Byte) (s : State) : Host.Outcome State Fault Refusal :=
  s.on (chiopCmd 0x0A10 [11] 0 false (bodyDiag 0x0A10) h p)

/-- REG_WRITE (R417). -/
def execRegWrite (h : Sys2Proof.ChiopHdr) (p : List Byte) (s : State) : Host.Outcome State Fault Refusal :=
  s.on (chiopCmd 0x0A11 [11] 0 false (bodyDiag 0x0A11) h p)

/-- LOOPBACK (R417). -/
def execLoopback (h : Sys2Proof.ChiopHdr) (p : List Byte) (s : State) : Host.Outcome State Fault Refusal :=
  s.on (chiopCmd 0x0A12 [11] 0 false (bodyDiag 0x0A12) h p)

/-- TRACE (R417): tracing to the host memory that IREPLY names. -/
def bodyTrace (h : Sys2Proof.ChiopHdr) (d : Dev) (p : List Byte) : Ans :=
  let tr : Option (Nat × Nat) := if hIreply h then some (h.ind.raddr.toNat, h.ind.rlen.toNat) else d.chiop.trace
  bodyDiag 0x0A13 { d with chiop := { d.chiop with trace := tr } } p

/-- TRACE (R417). -/
def execTrace (h : Sys2Proof.ChiopHdr) (p : List Byte) (s : State) : Host.Outcome State Fault Refusal :=
  s.on (chiopCmd 0x0A13 [11] 0 false (bodyTrace h) h p)

/-! ### Time-outs -/

/-- STAGE_TIMEOUT (R403): 60 s after a staging command last joined. -/
def execStageTimeout (s : State) : Host.Outcome State Fault Refusal :=
  s.on (fun d =>
    if d.chiop.owner.isNone then d
    else match d.after d.chiop.stagedAt (60 * secondTc) with
      | some d1 => d1.dropStage
      | none => d)

end Sys2Proof.Machine
end

