-- ==== Sys2Proof/Machine/Dma.lean ====
section
/-! DEFINITION. The DMA engines: register blocks, chains, beats, codes, completion, halting and hand-over (11_dma.md, R279 to
R298). A channel has one beat in flight at a time; it writes as soon as a whole write packet has been read. -/

namespace Sys2Proof.Machine

/-! ### Channels -/

/-- Where a channel lies in the table. -/
def dmaIdx (e n : Nat) : Fin 2560 := ⟨(320 * (e % 8) + n % 320) % 2560, Nat.mod_lt _ (by decide)⟩

/-- A channel. -/
def Dev.dmaChan (d : Dev) (e n : Nat) : DmaChan := d.dma.chan[dmaIdx e n]

/-- Change a channel. -/
def Dev.updDma (d : Dev) (e n : Nat) (f : DmaChan → DmaChan) : Dev :=
  { d with dma := { d.dma with chan := d.dma.chan.set (dmaIdx e n) (f (d.dmaChan e n)) } }

/-- Idle and not halted. -/
def DmaChan.idle (c : DmaChan) : Bool := c.run.isNone && !c.halt

/-- CHCTL as it reads (Table 11.3). -/
def DmaChan.ctl (c : DmaChan) : Nat :=
  boolNat c.mode + 2 * boolNat c.rerun + 256 * c.prio + 2048 * c.burst + 65536 * c.owner

/-- Bytes a block still has to issue for writing, for reading in CHECK: the stored code counts with the data (R281, R287). -/
def DmaChan.remain (c : DmaChan) (total : DmaRun → Nat) (moved : DmaRun → Nat) : Nat :=
  match c.run with | some r => total r - moved r | none => 0

/-! ### Descriptors (Table 11.5) -/

/-- A field of a descriptor. -/
def DmaRun.f (r : DmaRun) (off n : Nat) : Nat := natOf ((r.desc.drop off).take n)

/-- LEN. -/
def DmaRun.len (r : DmaRun) : Nat := r.f 4 4
/-- SRC. -/
def DmaRun.src (r : DmaRun) : Nat := r.f 8 8
/-- DST. -/
def DmaRun.dst (r : DmaRun) : Nat := r.f 16 8
/-- CHECK: read and compute only. -/
def DmaRun.check (r : DmaRun) : Bool := r.f 0 1 == 2
/-- A bit of FLAGS: 0 CHAIN, 1 STW, 2 CQV, 3 EVV, 4 DL. -/
def DmaRun.flag (r : DmaRun) (i : Nat) : Bool := bitAt (r.f 1 1) i
/-- The code selected. -/
def DmaRun.crcSel (r : DmaRun) : Nat := r.f 2 1 % 8
/-- STORE. -/
def DmaRun.store (r : DmaRun) : Bool := bitAt (r.f 2 1) 3

/-- The width of a code (Table 11.8). -/
def crcWidth (sel : Nat) : Nat := match sel with | 1 => 4 | 2 => 3 | 3 => 3 | 4 => 2 | 5 => 2 | _ => 0

/-- Bytes stored behind the data. -/
def DmaRun.tail (r : DmaRun) : Nat := if r.store then crcWidth r.crcSel else 0

/-- Bytes a block moves: written, or read in CHECK. -/
def DmaRun.total (r : DmaRun) : Nat := if r.check then r.len else r.len + r.tail

/-- Bytes moved so far. -/
def DmaRun.moved (r : DmaRun) : Nat := if r.check then r.got else r.written

/-- The rounded read range (R286): its first address and its size. -/
def DmaRun.readBase (r : DmaRun) : Nat := r.src / 64 * 64
/-- See `DmaRun.readBase`. -/
def DmaRun.readSize (r : DmaRun) : Nat := ceilDiv (r.src + r.len) 64 * 64 - r.readBase

/-- ERR_DESC of R285, with its DETAIL; none where the block may run. -/
def DmaRun.bad (r : DmaRun) : Option Nat :=
  let op := r.f 0 1
  if (op ≠ 1 ∧ op ≠ 2) ∨ 32 ≤ r.f 1 1 ∨ 5 < r.crcSel ∨ 16 ≤ r.f 2 1 ∨ r.len = 0 ∨ 0x4000000 < r.len
      ∨ (r.flag 1 ∧ r.f 32 8 % 16 ≠ 0) then some 0
  else if r.store ∧ (r.check ∨ r.crcSel = 0) then some 0
  else if !oneRegion r.readBase r.readSize then some rsDecode
  else if !r.check ∧ !oneRegion r.dst (r.len + r.tail) then some rsDecode
  else none

/-- Whether source and destination bytes overlap (R285). -/
def DmaRun.overlaps (r : DmaRun) : Bool :=
  !r.check && decide (r.src < r.dst + r.len + r.tail) && decide (r.dst < r.src + r.len)

/-! ### Codes (R289) -/

/-- The register of a code before the first byte. -/
def crcInit (sel : Nat) : Nat := if sel = 1 then 0xFFFFFFFF else 0

/-- The ones'-complement sum with one more byte at a place (Table 11.8). -/
def csumByte (acc pos : Nat) (b : Byte) : Nat :=
  let x := acc + (if pos % 2 = 0 then 256 * b.toNat else b.toNat)
  x % 65536 + x / 65536

/-- One byte more of a code; `pos` counts the bytes before it. -/
def crcNext (sel acc pos : Nat) (b : Byte) : Nat :=
  match sel with
  | 1 => crc32cByte acc b
  | 2 => crcBits 24 0x864CFB acc (bitsOfByte b)
  | 3 => crcBits 24 0x800063 acc (bitsOfByte b)
  | 4 => crcBits 16 0x1021 acc (bitsOfByte b)
  | 5 => csumByte acc pos b
  | _ => 0

/-- The code's value from its register. -/
def crcValue (sel acc : Nat) : Nat :=
  match sel with
  | 1 => acc ^^^ 0xFFFFFFFF
  | 5 => 65535 - acc
  | 0 => 0
  | _ => acc

/-- The code over some bytes from its start. -/
def crcOver (sel : Nat) (bs : List Byte) : Nat :=
  crcValue sel (bs.foldl (fun (a : Nat × Nat) b => (crcNext sel a.1 a.2 b, a.2 + 1)) (crcInit sel, 0)).1

/-- The stored bytes of a code (Table 11.8). -/
def crcBytes (sel v : Nat) : List Byte :=
  if sel = 1 then bytesOf 4 v else (bytesOf (crcWidth sel) v).reverse

/-! ### Starting blocks -/

/-- Whether a block's requests are marked DL: a stream channel's, a descriptor's with DL, and a class A job's (Table 11.1, R298). -/
def Dev.dmaDl (d : Dev) (e n : Nat) (r : DmaRun) : Bool :=
  decide (n < 64) || r.flag 4 || (n == 319 && ((d.dmaChan e n).job.bind d.alm.job?).any (fun j => j.cls == 0))

/-- A block begins (R285): it is checked, and where source and destination overlap the source is taken as it stands. -/
def Dev.dmaBegin (d : Dev) (e n : Nat) (r : DmaRun) : Dev :=
  let r1 := { r with crc := crcInit r.crcSel, dl := d.dmaDl e n r, begun := d.time.air }
  let r2 := match r1.bad with
    | some x => { r1 with done := some (0x20, x) }
    | none => if r1.overlaps then { r1 with saved := some (d.mem.ifBytes r1.src r1.len) } else r1
  d.updDma e n (fun c => { c with run := some r2 })

/-- A descriptor is read and its block begins; ERR_FETCH halts the channel (Table 11.10). `flush` completes it with
FLUSHED instead. -/
def Dev.dmaFetch (d : Dev) (e n : Nat) (a : DWord) (flush : Bool) : Dev :=
  let c := d.dmaChan e n
  let x := if a.toNat % 64 ≠ 0 then (rsDecode, [], d) else d.netRead (216 + e) c.owner a.toNat 64 .none
  if x.1 ≠ 0 then
    x.2.2.updDma e n (fun c =>
      { c with run := none, halt := true, flushing := false, lastResult := 0x21, lastDetail := x.1, failed := some { desc := [], at_ := a } })
  else if flush then x.2.2.updDma e n (fun c => { c with run := some { desc := x.2.1, at_ := a, done := some (0x26, 0) } })
  else x.2.2.dmaBegin e n { desc := x.2.1, at_ := a }

/-- The next queued chain of a channel that is idle (R283). -/
def Dev.dmaNext (d : Dev) (e n : Nat) : Dev :=
  let c := d.dmaChan e n
  if !c.idle || c.mode then d
  else match c.queue with
    | [] => d
    | a :: rest => (d.updDma e n (fun c => { c with queue := rest })).dmaFetch e n a false

/-- A hand-over of a REG-mode channel (R296), where `cont` the block before it completed with OK. -/
def Dev.dmaHandOver (d : Dev) (e n : Nat) (cont : Bool) : Dev :=
  let c := d.dmaChan e n
  if c.armed then
    (d.updDma e n (fun c => { c with active := c.shadow, armed := false, taken := true })).dmaBegin e n { desc := c.shadow }
  else if cont then
    let d1 := d.updDma e n (fun c => { c with taken := false })
    if c.rerun then d1.dmaBegin e n { desc := c.active } else d1
  else d

/-! ### Register writes (R281, R283, R294, R296) -/

/-- DOORBELL (R283). -/
def Dev.dmaDoorbell (d : Dev) (e n : Nat) (a : DWord) : Dev :=
  let c := d.dmaChan e n
  if c.mode ∨ 64 ≤ c.queue.length then d.updDma e n (fun c => { c with dbovf := true })
  else (d.updDma e n (fun c => { c with queue := c.queue ++ [a] })).dmaNext e n

/-- ABORT (R294): the block in progress ends with ABORTED. -/
def Dev.dmaAbort (d : Dev) (e n : Nat) : Dev :=
  d.updDma e n (fun c =>
    { c with run := c.run.map (fun r => if r.done.isSome then r else { r with done := some (0x25, 0) }) })

/-- RESUME (R294): the rest of the halted chain is flushed, one descriptor after the other; then HALT clears. -/
def Dev.dmaResume (d : Dev) (e n : Nat) : Dev :=
  let c := d.dmaChan e n
  if !c.halt ∨ c.run.isSome then d
  else match c.failed with
    | some r =>
      if !c.mode ∧ !r.desc.isEmpty ∧ r.flag 0 then
        (d.updDma e n (fun c => { c with flushing := true, failed := none })).dmaFetch e n (BitVec.ofNat 64 (r.f 24 8)) true
      else (d.updDma e n (fun c => { c with halt := false, failed := none })).dmaNext e n
    | none => (d.updDma e n (fun c => { c with halt := false })).dmaNext e n

/-- RETRY (R294): the failed block runs again, its descriptor read again. -/
def Dev.dmaRetry (d : Dev) (e n : Nat) : Dev :=
  let c := d.dmaChan e n
  if !c.halt ∨ c.run.isSome then d
  else
    let d1 := d.updDma e n (fun c => { c with halt := false, failed := none })
    if c.mode then d1.dmaBegin e n { desc := c.active }
    else match c.failed with
      | some r => d1.dmaFetch e n r.at_ false
      | none => d1.dmaNext e n

/-- A write of CHCTL (Table 11.3). -/
def Dev.dmaCtl (d : Dev) (e n v : Nat) : Dev :=
  let d1 := d.updDma e n (fun c => if c.idle then { c with mode := bitAt v 0, rerun := bitAt v 1 } else c)
  let d2 := if bitAt v 2 then d1.dmaAbort e n else d1
  let d3 := if bitAt v 3 then d2.dmaResume e n else d2
  if bitAt v 4 then d3.dmaRetry e n else d3

/-- Put bytes at an offset of an image. -/
def overlay (img : List Byte) (off : Nat) (bs : List Byte) : List Byte :=
  (List.range img.length).map (fun i => if off ≤ i ∧ i < off + bs.length then bs.getD (i - off) 0 else img.getD i 0)

/-- One register write: one WR packet, whatever its length (R281). Bytes are given from offset `off` of the block. -/
def Dev.dmaWrite (d : Dev) (e n off : Nat) (bs : List Byte) : Dev :=
  let last := off + bs.length
  let covers := fun (x : Nat) => decide (off ≤ x ∧ x < last)
  let byte := fun (x : Nat) => if covers x then (bs.getD (x - off) 0).toNat else 0
  let d1 := if covers 0 then d.dmaCtl e n (byte 0) else d
  let d2 := if covers 4 ∧ bitAt (byte 4) 2 then d1.updDma e n (fun c => { c with dbovf := false }) else d1
  let d3 := if covers 8 then d2.dmaDoorbell e n (BitVec.ofNat 64 (natOf ((List.range 8).map (fun i => BitVec.ofNat 8 (byte (8 + i)))))) else d2
  let d4 := if 0x40 < last ∧ off < 0x80 then
      d3.updDma e n (fun c =>
        { c with armed := false, shadow := overlay c.shadow (off - 0x40) (bs.drop (0x40 - off)) })
    else d3
  if covers 0x3C then
    if bitAt (byte 0x3C) 0 then
      let d5 := d4.updDma e n (fun c => { c with armed := true })
      if (d5.dmaChan e n).idle ∧ (d5.dmaChan e n).mode then d5.dmaHandOver e n false else d5
    else d4.updDma e n (fun c => { c with armed := false })
  else d4

/-- Whether a register access takes effect (R280): the channel is assigned and the requester owns it. -/
def Dev.dmaOwned (d : Dev) (ni e n : Nat) : Bool := (d.dmaChan e n).assigned && (d.dmaChan e n).owner == ni

/-- The 128 bytes of a channel's register block (Tables 11.2 to 11.4). -/
def DmaChan.bytes (c : DmaChan) : List Byte :=
  padTo 0x3C (bytesOf 4 c.ctl
    ++ bytesOf 4 (boolNat c.run.isSome + 2 * boolNat c.halt + 4 * boolNat c.dbovf + 8 * boolNat c.taken + 16 * boolNat c.armed
        + 32 * c.queue.length + 4096 * c.lastResult + 1048576 * c.lastDetail)
    ++ bytesOf 8 0 ++ bytesOf 4 (c.remain DmaRun.total DmaRun.moved))
  ++ bytesOf 4 (boolNat c.armed) ++ c.shadow

/-! ### Beats -/

/-- The end of the packet of `a` up to a limit: packets end at 512-byte boundaries. -/
def packetLen (a left : Nat) : Nat := Nat.min left (512 - a % 512)

/-- A read beat has answered (R286). -/
def Dev.dmaReadBeat (d : Dev) (e n : Nat) (r : DmaRun) (m : Sys2Proof.Mishap) (ecc : Sys2Proof.EccHit) (bufBad : Bool) : Dev :=
  let a := r.readBase + r.readPos
  let k := packetLen a (r.readSize - r.readPos)
  let x := d.netRead (216 + e) (d.dmaChan e n).owner a k ecc
  let st := match m with
    | .none | .slow => if x.1 = 0 ∧ bufBad then rsEcc else x.1
    | .poison => rsLink
    | .lost => rsTimeout
  let put := fun (d : Dev) (r : DmaRun) => d.updDma e n (fun c => { c with run := some r })
  if st ≠ 0 then
    if r.check ∨ r.buf.isEmpty then put x.2.2 { r with done := some (0x22, st) } else put x.2.2 { r with readFail := some st }
  else
    let lo := if a < r.src then r.src - a else 0
    let hi := Nat.min k (r.src + r.len - a)
    let bs := match r.saved with
      | some s => (s.drop r.got).take (hi - lo)
      | none => (x.2.1.take hi).drop lo
    let crc := (bs.foldl (fun (acc : Nat × Nat) b => (crcNext r.crcSel acc.1 acc.2 b, acc.2 + 1)) (r.crc, r.got)).1
    let got := r.got + bs.length
    let tail := if got = r.len ∧ r.store then crcBytes r.crcSel (crcValue r.crcSel crc) else []
    let r1 : DmaRun :=
      { r with readPos := r.readPos + k
               got := got
               crc := crc
               buf := if r.check then [] else r.buf ++ bs ++ tail
               okBytes := if r.check then got else r.okBytes }
    put x.2.2 (if r.check ∧ got = r.len then { r1 with done := some (0, 0) } else r1)

/-- A write beat has answered (R287, R295). Where it failed, the bytes from it to the end are unknown (R257). -/
def Dev.dmaWriteBeat (d : Dev) (e n : Nat) (r : DmaRun) (k : Nat) (m : Sys2Proof.Mishap) (ecc : Sys2Proof.EccHit) (bufBad : Bool) : Dev :=
  let a := r.dst + r.written
  let bs := r.buf.take k
  let x := if bufBad then (rsEcc, d) else d.netWrite (216 + e) (d.dmaChan e n).owner a bs ecc
  let st := match m with
    | .none | .slow => x.1
    | .poison => rsLink
    | .lost => rsTimeout
  let d1 := x.2
  let put := fun (r : DmaRun) => d1.updDma e n (fun c => { c with run := some r })
  let r1 : DmaRun := { r with written := r.written + k, buf := r.buf.drop k }
  let last := decide (r1.written = r.total)
  if st ≠ 0 then
    let d2 := d1.scramble a (r.total - r.written)
    d2.updDma e n (fun c => { c with run := some { r1 with done := some (if last then 0x24 else 0x23, st) } })
  else
    let r2 : DmaRun := { r1 with okBytes := Nat.min r.len r1.written }
    if last then put { r2 with done := some (0, 0) }
    else match r.readFail with
      | some f => if r2.buf.isEmpty then put { r2 with done := some (0x22, f) } else put r2
      | none => put r2

/-- Bytes of a block's next write beat: a whole packet, or all there is once a read has failed. -/
def DmaRun.writeLen (r : DmaRun) : Nat :=
  let want := packetLen (r.dst + r.written) (r.total - r.written)
  if r.readFail.isSome then Nat.min want r.buf.length else want

/-- Whether a block's next beat is a write: its bytes lie ready. -/
def DmaRun.writes (r : DmaRun) : Bool := !r.check && decide (0 < r.writeLen ∧ r.writeLen ≤ r.buf.length)

/-- The next beat of a channel's block: a write where its bytes lie ready; else a read. -/
def Dev.dmaBeat (d : Dev) (e n : Nat) (m : Sys2Proof.Mishap) (ecc : Sys2Proof.EccHit) (bufBad : Bool) : Dev :=
  match (d.dmaChan e n).run with
  | none => d
  | some r =>
    if r.done.isSome then d
    else if r.writes then d.dmaWriteBeat e n r r.writeLen m ecc bufBad
    else d.dmaReadBeat e n r m ecc bufBad

/-! ### Turns (R290, R292) -/

/-- The block of a channel that has a beat to issue. -/
def DmaChan.going (c : DmaChan) : Option DmaRun := c.run.filter (fun r => r.done.isNone)

/-- The turns of an engine. -/
def Dev.dmaTurns (d : Dev) (e : Nat) : DmaTurn := d.dma.turn[(⟨e % 8, Nat.mod_lt _ (by decide)⟩ : Fin 8)]

/-- The first of some channels, in rising order, after the one served last (round-robin). -/
def afterLast (last : Nat) (xs : List Nat) : Option Nat := (xs.find? (fun x => decide (last < x))).or xs.head?

/-- Control channels ready to issue. -/
def Dev.dmaReady (d : Dev) (e : Nat) : List Nat :=
  ((List.range 256).map (fun k => 64 + k)).filter (fun n => (d.dmaChan e n).going.isSome)

/-- Bursts for which a ready channel has been passed over. -/
def DmaTurn.passedOver (t : DmaTurn) (n : Nat) : Nat := ((t.passed.find? (fun x => x.1 == n)).map (fun x => x.2)).getD 0

/-- Whether the burst that the control engine serves goes on (R292): BURST bytes, or the rest of the block. -/
def Dev.dmaInBurst (d : Dev) (e n : Nat) : Bool :=
  let c := d.dmaChan e n
  c.going.any (fun r => decide (r.moved - (d.dmaTurns e).since < 512 * 2 ^ c.burst))

/-- The control channel whose burst comes next (R292): one passed over for 64 bursts, else by priority and in turn. -/
def Dev.dmaChoose (d : Dev) (e : Nat) : Option Nat :=
  let t := d.dmaTurns e
  let rs := d.dmaReady e
  match rs.filter (fun n => decide (64 ≤ t.passedOver n)) with
  | n :: late => some (late.foldl (fun best n => if t.passedOver best < t.passedOver n then n else best) n)
  | [] =>
    let top := rs.foldl (fun m n => Nat.max m (d.dmaChan e n).prio) 0
    afterLast (t.last.toList.getD top 0) (rs.filter (fun n => (d.dmaChan e n).prio == top))

/-- The control channel that the engine serves now. -/
def Dev.dmaServed (d : Dev) (e : Nat) : Option Nat :=
  match (d.dmaTurns e).serving with
  | some n => if d.dmaInBurst e n then some n else d.dmaChoose e
  | none => d.dmaChoose e

/-- Whether a stream channel can read its next packet (R290): its region has room, and its reads stay below its rate cap. -/
def Dev.dmaMayRead (d : Dev) (c : DmaChan) (r : DmaRun) : Bool :=
  let k := packetLen (r.readBase + r.readPos) (r.readSize - r.readPos)
  decide (r.buf.length + k ≤ 4096 * c.region) && c.bound.isNone
    && (c.rateCap == 0 || decide (r.readPos * secondTc ≤ c.rateCap * 512000000 * airAhead r.begun d.time.air))

/-- Stream channels ready on one side (R290): with a packet to write, or with room to read one. -/
def Dev.dmaSide (d : Dev) (e : Nat) (write : Bool) : List Nat :=
  (List.range 64).filter (fun n =>
    let c := d.dmaChan e n
    c.going.any (fun r => if write then r.writes else !r.writes && d.dmaMayRead c r))

/-- Whether the next beat of a channel's block is the one that its engine issues next. -/
def Dev.dmaTurn (d : Dev) (e n : Nat) : Bool :=
  if n < 64 then
    let t := d.dmaTurns e
    match (d.dmaChan e n).going with
    | none => false
    | some r => afterLast (if r.writes then t.lastWrite else t.lastRead) (d.dmaSide e r.writes) == some n
  else d.dmaServed e == some n

/-- The engine turns to a channel: a burst begins for a control channel that was not being served, and the other ready channels are
passed over. -/
def Dev.dmaTake (d : Dev) (e n : Nat) : Dev :=
  let t := d.dmaTurns e
  let c := d.dmaChan e n
  let t1 : DmaTurn :=
    if n < 64 then
      if c.going.any DmaRun.writes then { t with lastWrite := n } else { t with lastRead := n }
    else if t.serving = some n ∧ d.dmaInBurst e n then t
    else
      { t with serving := some n
               since := (c.run.map DmaRun.moved).getD 0
               passed := ((d.dmaReady e).filter (fun m => m != n)).map (fun m => (m, t.passedOver m + 1))
               last := t.last.setIfInBounds c.prio n }
  { d with dma := { d.dma with turn := d.dma.turn.set (⟨e % 8, Nat.mod_lt _ (by decide)⟩ : Fin 8) t1 } }

/-- The block that an engine's burst served has ended; so has the burst. -/
def Dev.dmaBurstEnd (d : Dev) (e n : Nat) : Dev :=
  let t := d.dmaTurns e
  if t.serving = some n then
    { d with dma := { d.dma with turn := d.dma.turn.set (⟨e % 8, Nat.mod_lt _ (by decide)⟩ : Fin 8) { t with serving := none } } }
  else d

/-! ### Completion (R293) -/

/-- The status word (Table 11.9). -/
def DmaRun.status (r : DmaRun) (sht stwf : Bool) (tick : Nat) : List Byte :=
  let res := r.done.getD (0, 0)
  let all := decide (r.got = r.len) && r.crcSel != 0
  let crcv := all && (if r.store then res.1 == 0 else res.1 == 0 || res.1 == 0x24)
  bytesOf 1 res.1 ++ bytesOf 1 res.2 ++ bytesOf 1 (boolNat crcv + 2 * boolNat sht + 4 * boolNat stwf) ++ [0]
    ++ bytesOf 4 (if res.1 = 0x20 ∨ res.1 = 0x26 then 0 else r.okBytes)
    ++ bytesOf 4 (if all then crcValue r.crcSel r.crc else 0) ++ bytesOf 4 tick

/-- A Q_PUT or an EVENT of an engine (R293): what Almanac refuses is counted. -/
def Dev.dmaAsk (d : Dev) (req : List Byte) : Dev :=
  let x := d.request .event (padTo 32 req) none
  if natOf ((x.1.drop 2).take 1) = 0 then x.2 else { x.2 with dma := { x.2.dma with refused := x.2.dma.refused + 1 } }

/-- The Almanac job of C255 completes (R298). -/
def Dev.dmaJobDone (d : Dev) (e : Nat) (status : Word) : Dev :=
  match (d.dmaChan e 319).job with
  | some j => (d.updDma e 319 (fun c => { c with job := none })).report 0x10 e j status
  | none => d

/-- Where a channel goes after a block (R283, R293, R294, R296): halted, the next descriptor, the next chain, or idle. -/
def Dev.dmaAfter (d : Dev) (e n : Nat) (r : DmaRun) (status : Word) : Dev :=
  let res := r.done.getD (0, 0)
  let d0 := d.updDma e n (fun c => { c with run := none })
  let c := d0.dmaChan e n
  if c.flushing then
    if r.flag 0 then d0.dmaFetch e n (BitVec.ofNat 64 (r.f 24 8)) true
    else (d0.updDma e n (fun c => { c with flushing := false, halt := false })).dmaNext e n
  else if res.1 ≠ 0 then
    let d1 := d0.updDma e n (fun c => { c with halt := true, failed := some r })
    if n = 319 ∧ c.job.isSome then (d1.dmaJobDone e status).dmaResume e n else d1
  else if c.mode then d0.dmaHandOver e n true
  else if r.flag 0 then d0.dmaFetch e n (BitVec.ofNat 64 (r.f 24 8)) false
  else
    let d1 := if n = 319 ∧ c.job.isSome then d0.dmaJobDone e status else d0
    d1.dmaNext e n

/-- A block whose beats have all answered completes (R293): hand-over decided, status word, queue entry, event. -/
def Dev.dmaComplete (d : Dev) (e n : Nat) : Dev :=
  let c := d.dmaChan e n
  match c.run with
  | none => d
  | some r =>
    match r.done with
    | none => d
    | some res =>
      let sht := c.mode && res.1 == 0 && c.armed
      let tick := d.time.tick.toNat % 2 ^ 32
      let word := r.status sht false tick
      let d0 := if r.overlaps ∧ res.1 ≠ 0x20 ∧ res.1 ≠ 0x26 then
          let lo := Nat.max r.src r.dst
          let hi := Nat.min (r.src + r.len) (r.dst + Nat.min r.written (r.len + r.tail))
          d.scramble lo (hi - lo)
        else d
      let w := if r.flag 1 then d0.netWrite (216 + e) c.owner (r.f 32 8) word .none else (0, d0)
      let stwf := w.1 != 0
      let status := BitVec.ofNat 32 (natOf ((r.status sht stwf tick).take 4))
      let d2 := if r.flag 2 then
          w.2.dmaAsk (bytesOf 1 6 ++ bytesOf 3 0 ++ bytesOf 4 (r.f 40 4) ++ bytesOf 4 (r.f 48 4) ++ bytesOf 4 status.toNat
            ++ bytesOf 4 0 ++ bytesOf 4 tick)
        else w.2
      let d3 := if r.flag 3 then d2.dmaAsk (bytesOf 1 3 ++ bytesOf 3 0 ++ bytesOf 4 (r.f 44 4)) else d2
      let d4 := d3.updDma e n (fun c => { c with lastResult := res.1, lastDetail := res.2 })
      (d4.dmaBurstEnd e n).dmaAfter e n r status

/-- C255 takes the Almanac job its engine runs (R298): its chain runs as one submission at the priority of its class. -/
def Dev.dmaTakeJob (d : Dev) (e n : Nat) : Dev :=
  let c := d.dmaChan e n
  if n ≠ 319 ∨ c.job.isSome ∨ !c.idle ∨ c.mode then d
  else match d.running? 0x10 e with
    | none => d
    | some j =>
      (d.updDma e n (fun c => { c with assigned := true, owner := 253, job := some j.id, prio := if j.cls = 2 then 1 else 7 })).dmaDoorbell e n j.desc

/-- A job whose descriptor could not be read completes too, with what LASTRESULT and LASTDETAIL record (R298). -/
def Dev.dmaJobHalt (d : Dev) (e n : Nat) : Dev :=
  let c := d.dmaChan e n
  if n = 319 ∧ c.halt ∧ c.run.isNone ∧ c.job.isSome then
    (d.dmaJobDone e (BitVec.ofNat 32 (c.lastResult + 256 * c.lastDetail))).dmaResume e n
  else d

/-! ### Rows -/

/-- A register write to a channel by an NI (R280). -/
def State.onDma (s : State) (e : Fin 8) (n : Fin 320) (ni : Fin 256) (off : Nat) (bs : List Byte) :
    Host.Outcome State Fault Refusal :=
  s.on (fun d =>
    if !d.up || d.reach ni.val ni.val (0x30000000 + e.val * 0x10000 + n.val * 128 + off) bs.length != 0
        || !d.dmaOwned ni.val e.val n.val then d
    else d.dmaWrite e.val n.val off bs)

/-- DOORBELL (R283). -/
def execDoorbell (e : Fin 8) (n : Fin 320) (ni : Fin 256) (addr : DWord) (s : State) : Host.Outcome State Fault Refusal :=
  s.onDma e n ni 8 (bytesOf 8 addr.toNat)

/-- ABORT (R294): a write of CHCTL with ABORT set. -/
def execAbort (e : Fin 8) (n : Fin 320) (ni : Fin 256) (value : Word) (s : State) : Host.Outcome State Fault Refusal :=
  s.onDma e n ni 0 (bytesOf 4 (value ||| 4).toNat)

/-- RESUME (R294): a write of CHCTL with RESUME set. -/
def execResume (e : Fin 8) (n : Fin 320) (ni : Fin 256) (value : Word) (s : State) : Host.Outcome State Fault Refusal :=
  s.onDma e n ni 0 (bytesOf 4 (value ||| 8).toNat)

/-- RETRY (R294): a write of CHCTL with RETRY set. -/
def execRetry (e : Fin 8) (n : Fin 320) (ni : Fin 256) (value : Word) (s : State) : Host.Outcome State Fault Refusal :=
  s.onDma e n ni 0 (bytesOf 4 (value ||| 16).toNat)

/-- SHADOW_WRITE (R296): bytes from an offset of SHADOW. -/
def execShadowWrite (e : Fin 8) (n : Fin 320) (ni : Fin 256) (off : Fin 64) (bytes : List Byte) (s : State) :
    Host.Outcome State Fault Refusal :=
  s.onDma e n ni (0x40 + off.val) (bytes.take (64 - off.val))

/-- ARM (R296). -/
def execArm (e : Fin 8) (n : Fin 320) (ni : Fin 256) (s : State) : Host.Outcome State Fault Refusal :=
  s.onDma e n ni 0x3C (bytesOf 4 1)

/-- A beat of a channel, where it is the channel's turn (R290, R292; log entry 81). -/
def Dev.dmaBeatAt (d : Dev) (e n : Nat) (m : Sys2Proof.Mishap) (ecc : Sys2Proof.EccHit) (bufBad : Bool) : Dev :=
  if d.dmaTurn e n then (d.dmaTake e n).dmaBeat e n m ecc bufBad else d

/-- DMA_BEAT_RESPONSE (R286, R287, R293): what became of the beat on its way, a bit error at its target, and whether the
engine's buffer lost its data (R279). -/
def execDmaBeatResponse (e : Fin 8) (n : Fin 320) (mishap : Sys2Proof.Mishap) (ecc : Sys2Proof.EccHit) (bufBad : Bool)
    (s : State) : Host.Outcome State Fault Refusal :=
  s.on (fun d => if d.up then (((d.dmaTakeJob e.val n.val).dmaBeatAt e.val n.val mishap ecc bufBad).dmaJobHalt e.val n.val).startTests else d)

/-- DMA_BLOCK_COMPLETE (R293). -/
def execDmaBlockComplete (e : Fin 8) (n : Fin 320) (s : State) : Host.Outcome State Fault Refusal :=
  s.on (fun d => if d.up then ((d.dmaTakeJob e.val n.val).dmaComplete e.val n.val).dmaJobHalt e.val n.val else d)

end Sys2Proof.Machine
end

