-- ==== Sys2Proof/Machine/Hash.lean ====
section
/-! DEFINITION. SHA-512 and SHA-384 (FIPS 180-4), HKDF-SHA-384 (RFC 5869), SHAKE128 and SHAKE256 (FIPS 202): what
18_start_and_security.md, R442 to R453, names of them (log entry 52). -/

namespace Sys2Proof.Machine

/-! ### SHA-2 -/

/-- The first 80 primes. -/
def firstPrimes : List Nat := ((List.range 410).filter (fun n => decide (2 ≤ n) && ((List.range 21).all (fun k => k < 2 || n % k != 0 || n == k))))

/-- The largest number of `bits` bits whose power of an exponent is at most n, from its leading bit down. -/
def rootFloor (e n : Nat) : Nat → Nat → Nat
  | 0, acc => acc
  | b + 1, acc => rootFloor e n b (if (acc + 2 ^ b) ^ e ≤ n then acc + 2 ^ b else acc)

/-- The first 64 bits of the fractional part of a root of a prime. -/
def rootWord (e p : Nat) : DWord := BitVec.ofNat 64 (rootFloor e (p * 2 ^ (64 * e)) 70 0)

/-- The round constants of SHA-512: cube roots of the first 80 primes. -/
def shaRounds : List DWord := firstPrimes.map (rootWord 3)

/-- The initial hash value: square roots of 8 primes, the first of SHA-512, the ninth and on of SHA-384. -/
def shaInit (skip : Nat) : List DWord := ((firstPrimes.drop skip).take 8).map (rootWord 2)

/-- The 64-bit words of some bytes, most significant byte first. -/
def shaWords (n : Nat) (bs : List Byte) : List DWord :=
  (List.range n).map (fun i => BitVec.ofNat 64 (natOf ((bs.drop (8 * i)).take 8).reverse))

/-- One round: the eight working variables and the window of 16 schedule words. -/
def shaRound (x : List DWord × List DWord) (k : DWord) : List DWord × List DWord :=
  match x.1, x.2 with
  | [a, b, c, d, e, f, g, h], w =>
    let g0 := fun (i : Nat) => w.getD i 0
    let s1 := e.rotateRight 14 ^^^ e.rotateRight 18 ^^^ e.rotateRight 41
    let ch := (e &&& f) ^^^ (~~~e &&& g)
    let t1 := h + s1 + ch + k + g0 0
    let s0 := a.rotateRight 28 ^^^ a.rotateRight 34 ^^^ a.rotateRight 39
    let maj := (a &&& b) ^^^ (a &&& c) ^^^ (b &&& c)
    let z0 := (g0 1).rotateRight 1 ^^^ (g0 1).rotateRight 8 ^^^ (g0 1) >>> 7
    let z1 := (g0 14).rotateRight 19 ^^^ (g0 14).rotateRight 61 ^^^ (g0 14) >>> 6
    ([t1 + s0 + maj, a, b, c, d + t1, e, f, g], w.drop 1 ++ [z1 + g0 9 + z0 + g0 0])
  | _, _ => x

/-- One block of 128 bytes. -/
def shaBlock (h : List DWord) (bs : List Byte) : List DWord :=
  ((shaRounds.foldl shaRound (h, shaWords 16 bs)).1.zip h).map (fun x => x.1 + x.2)

/-- A message with its padding. -/
def shaPad (m : List Byte) : List Byte :=
  m ++ [0x80] ++ List.replicate ((239 - m.length % 128) % 128) 0 ++ (bytesOf 16 (8 * m.length)).reverse

/-- The hash of a message from an initial value. -/
def shaRun (init : List DWord) (m : List Byte) : List Byte :=
  let p := shaPad m
  ((List.range (p.length / 128)).foldl (fun h i => shaBlock h ((p.drop (128 * i)).take 128)) init).flatMap
    (fun w => (bytesOf 8 w.toNat).reverse)

/-- SHA-512. -/
def sha512 (m : List Byte) : List Byte := shaRun (shaInit 0) m
/-- SHA-384. -/
def sha384 (m : List Byte) : List Byte := (shaRun (shaInit 8) m).take 48

/-- HMAC-SHA-384, for keys of at most 128 bytes. -/
def hmac384 (key m : List Byte) : List Byte :=
  let k := key ++ List.replicate (128 - key.length) 0
  sha384 (k.map (· ^^^ 0x5C) ++ sha384 (k.map (· ^^^ 0x36) ++ m))

/-- The first 32 bytes of HKDF-SHA-384 (RFC 5869). -/
def hkdf32 (ikm salt info : List Byte) : List Byte := (hmac384 (hmac384 salt ikm) (info ++ [1])).take 32

/-! ### SHA-3 -/

/-- A bit of the round constants: the register x^8 + x^6 + x^5 + x^4 + 1 after some steps. -/
def keccakBit (t : Nat) : Bool :=
  bitAt ((List.range (t % 255)).foldl (fun r _ => if r < 128 then 2 * r else (2 * r) ^^^ 0x171) 1) 0

/-- The round constants. -/
def keccakRounds : List DWord :=
  (List.range 24).map (fun i => BitVec.ofNat 64
    (((List.range 7).map (fun j => if keccakBit (j + 7 * i) then 2 ^ (2 ^ j - 1) else 0)).sum))

/-- The place of each lane after rotation and where it goes: for each lane of the result the lane it comes from and its
rotation. -/
def keccakMoves : List (Nat × Nat) :=
  let walk := (List.range 24).foldl (fun (a : (Nat × Nat) × List ((Nat × Nat) × Nat)) t =>
    ((a.1.2, (2 * a.1.1 + 3 * a.1.2) % 5), a.2 ++ [(a.1, (t + 1) * (t + 2) / 2 % 64)])) ((1, 0), [])
  let turn := fun (x y : Nat) => ((walk.2.find? (fun m => m.1 == (x, y))).map (fun m => m.2)).getD 0
  (List.range 25).map (fun i =>
    let x := (i % 5 + 3 * (i / 5)) % 5
    let y := i % 5
    (x + 5 * y, turn x y))

/-- One round of Keccak-f[1600] on 25 lanes, lane x + 5y. -/
def keccakRound (a : List DWord) (rc : DWord) : List DWord :=
  let v := a.toArray
  let g := fun (i : Nat) => v.getD i 0
  let col := fun (x : Nat) => g x ^^^ g (x + 5) ^^^ g (x + 10) ^^^ g (x + 15) ^^^ g (x + 20)
  let cs := ((List.range 5).map col).toArray
  let ds := ((List.range 5).map (fun x => cs.getD ((x + 4) % 5) 0 ^^^ (cs.getD ((x + 1) % 5) 0).rotateLeft 1)).toArray
  let b := (keccakMoves.map (fun m => (g m.1 ^^^ ds.getD (m.1 % 5) 0).rotateLeft m.2)).toArray
  (List.range 25).map (fun i =>
    let y := i / 5 * 5
    let r := b.getD i 0 ^^^ (~~~(b.getD (y + (i + 1 - y) % 5) 0) &&& b.getD (y + (i + 2 - y) % 5) 0)
    if i = 0 then r ^^^ rc else r)

/-- Keccak-f[1600]. -/
def keccak (a : List DWord) : List DWord := keccakRounds.foldl keccakRound a

/-- A block of `rate` bytes enters the state. -/
def spongeIn (rate : Nat) (a : List DWord) (bs : List Byte) : List DWord :=
  keccak (a.zipIdx.map (fun x => if 8 * x.2 < rate then x.1 ^^^ BitVec.ofNat 64 (natOf ((bs.drop (8 * x.2)).take 8)) else x.1))

/-- The state of SHAKE after a message: rate 168 for SHAKE128, 136 for SHAKE256. -/
def shakeStart (rate : Nat) (m : List Byte) : List DWord :=
  let n := m.length / rate + 1
  let pad := m ++ [0x1F] ++ List.replicate (n * rate - m.length - 1) 0
  let p := pad.take (n * rate - 1) ++ [(pad.getD (n * rate - 1) 0) ^^^ 0x80]
  (List.range n).foldl (fun a i => spongeIn rate a ((p.drop (rate * i)).take rate)) (List.replicate 25 0)

/-- The block of output that a state gives. -/
def shakeBlock (rate : Nat) (a : List DWord) : List Byte := (a.flatMap (fun w => bytesOf 8 w.toNat)).take rate

/-- `n` blocks of output. -/
def shakeBlocks (rate : Nat) : Nat → List DWord → List Byte
  | 0, _ => []
  | n + 1, a => shakeBlock rate a ++ shakeBlocks rate n (keccak a)

/-- H of FIPS 204: SHAKE256 with an output of some bytes. -/
def shake256 (m : List Byte) (n : Nat) : List Byte := (shakeBlocks 136 (n / 136 + 1) (shakeStart 136 m)).take n

/-- SHAKE128 with an output of some bytes. -/
def shake128 (m : List Byte) (n : Nat) : List Byte := (shakeBlocks 168 (n / 168 + 1) (shakeStart 168 m)).take n

end Sys2Proof.Machine
end

