-- ==== Sys2Proof/Machine/Signatures.lean ====
section
/-! DEFINITION. Ed25519 (RFC 8032, pure) and ML-DSA-65 (FIPS 204): keys from a seed, signing, verification
(18_start_and_security.md, R442 to R457; log entry 52). -/

namespace Sys2Proof.Machine

/-! ### The curve edwards25519 -/

/-- The field's prime 2^255 - 19. -/
def edP : Nat := 2 ^ 255 - 19
/-- The order of the base point. -/
def edL : Nat := 2 ^ 252 + 27742317777372353535851937790883648493

/-- A power modulo n, by the bits of the exponent from the lowest. -/
def powMod (n : Nat) : Nat → Nat → Nat → Nat → Nat
  | 0, _, _, acc => acc
  | k + 1, a, e, acc => powMod n k (a * a % n) (e / 2) (if e % 2 = 1 then acc * a % n else acc)

/-- The inverse in the field. -/
def edInv (x : Nat) : Nat := powMod edP 256 x (edP - 2) 1
/-- The constant d of the curve: -121665 / 121666. -/
def edD : Nat := (edP - 121665) * edInv 121666 % edP
/-- A square root of -1. -/
def edRootMinus1 : Nat := powMod edP 256 2 ((edP - 1) / 4) 1

/-- A point in extended coordinates. -/
structure EdPoint where
  x : Nat
  y : Nat
  z : Nat
  t : Nat

/-- The neutral point. -/
def edZero : EdPoint := ⟨0, 1, 1, 0⟩

/-- The sum of two points. -/
def EdPoint.add (p q : EdPoint) : EdPoint :=
  let a := (p.y + edP - p.x) * (q.y + edP - q.x) % edP
  let b := (p.y + p.x) * (q.y + q.x) % edP
  let c := 2 * p.t * q.t % edP * edD % edP
  let d := 2 * p.z * q.z % edP
  let e := (b + edP - a) % edP
  let f := (d + edP - c) % edP
  let g := (d + c) % edP
  let h := (b + a) % edP
  ⟨e * f % edP, g * h % edP, f * g % edP, e * h % edP⟩

/-- A multiple of a point, for factors below 2^n. -/
def EdPoint.mul : Nat → Nat → EdPoint → EdPoint → EdPoint
  | 0, _, _, acc => acc
  | n + 1, k, p, acc => EdPoint.mul n (k / 2) (p.add p) (if k % 2 = 1 then acc.add p else acc)

/-- k times a point. -/
def EdPoint.times (p : EdPoint) (k : Nat) : EdPoint := EdPoint.mul 512 k p edZero

/-- Whether two points are the same. -/
def EdPoint.same (p q : EdPoint) : Bool := p.x * q.z % edP == q.x * p.z % edP && p.y * q.z % edP == q.y * p.z % edP

/-- The 32 bytes of a point. -/
def EdPoint.encode (p : EdPoint) : List Byte :=
  let i := edInv p.z
  bytesOf 32 (p.y * i % edP + p.x * i % edP % 2 * 2 ^ 255)

/-- The point that 32 bytes name, if they name one. -/
def edDecode (bs : List Byte) : Option EdPoint :=
  let n := natOf (bs.take 32)
  let y := n % 2 ^ 255
  let sign := n / 2 ^ 255 % 2
  let u := (y * y + edP - 1) % edP
  let v := (edD * (y * y % edP) + 1) % edP
  let w := u * edInv v % edP
  let r := powMod edP 256 w ((edP + 3) / 8) 1
  let x := if r * r % edP = w then r else r * edRootMinus1 % edP
  if bs.length < 32 ∨ edP ≤ y ∨ x * x % edP ≠ w ∨ (x = 0 ∧ sign = 1) then none
  else
    let x1 := if x % 2 = sign then x else edP - x
    some ⟨x1, y, 1, x1 * y % edP⟩

/-- The base point. -/
def edBase : EdPoint := (edDecode (bytesOf 32 (4 * edInv 5 % edP))).getD edZero

/-- A hash as a number below the order. -/
def edNumber (bs : List Byte) : Nat := natOf (sha512 bs) % edL

/-- The secret scalar of a seed. -/
def edScalar (seed : List Byte) : Nat := natOf ((sha512 seed).take 32) % 2 ^ 254 / 8 * 8 + 2 ^ 254

/-- The public key of a seed. -/
def edPublic (seed : List Byte) : List Byte := (edBase.times (edScalar seed)).encode

/-- A signature. -/
def edSign (seed m : List Byte) : List Byte :=
  let pub := edPublic seed
  let r := edNumber ((sha512 seed).drop 32 ++ m)
  let big := (edBase.times r).encode
  big ++ bytesOf 32 ((r + edNumber (big ++ pub ++ m) * edScalar seed) % edL)

/-- Whether a signature verifies, by the equation without the cofactor (DESIGN CHOICE, log entry 52). -/
def edVerify (pub m sig : List Byte) : Bool :=
  let s := natOf ((sig.drop 32).take 32)
  match edDecode pub, edDecode (sig.take 32) with
  | some a, some r =>
    sig.length == 64 && decide (s < edL) && (edBase.times s).same (r.add (a.times (edNumber (sig.take 32 ++ pub.take 32 ++ m))))
  | _, _ => false

/-! ### Polynomials of ML-DSA -/

/-- The modulus. -/
def mlQ : Nat := 8380417

/-- The bits of k, 8 of them, in reverse. -/
def bitRev8 (k : Nat) : Nat := ((List.range 8).map (fun i => if bitAt k i then 2 ^ (7 - i) else 0)).sum

/-- The root of a node of the transform's tree. -/
def mlZeta (k : Nat) : Nat := powMod mlQ 9 1753 (bitRev8 k) 1

/-- The number-theoretic transform of 2^n coefficients from a node of its tree on. -/
def nttFrom : Nat → Nat → List Nat → List Nat
  | 0, _, w => w
  | n + 1, node, w =>
    let a := w.take (2 ^ n)
    let b := (w.drop (2 ^ n)).map (fun x => mlZeta node * x % mlQ)
    nttFrom n (2 * node) ((a.zip b).map (fun x => (x.1 + x.2) % mlQ))
      ++ nttFrom n (2 * node + 1) ((a.zip b).map (fun x => (x.1 + mlQ - x.2) % mlQ))

/-- The inverse without its factor. -/
def nttBack : Nat → Nat → List Nat → List Nat
  | 0, _, w => w
  | n + 1, node, w =>
    let a := nttBack n (2 * node) (w.take (2 ^ n))
    let b := nttBack n (2 * node + 1) (w.drop (2 ^ n))
    let z := powMod mlQ 9 1753 ((512 - bitRev8 node) % 512) 1
    (a.zip b).map (fun x => (x.1 + x.2) % mlQ) ++ (a.zip b).map (fun x => (x.1 + mlQ - x.2) * z % mlQ)

/-- NTT. -/
def mlNtt (w : List Nat) : List Nat := nttFrom 8 1 w
/-- Its inverse. -/
def mlBack (w : List Nat) : List Nat := (nttBack 8 1 w).map (fun x => x * 8347681 % mlQ)

/-- The sum, difference and pointwise product of polynomials. -/
def plAdd (a b : List Nat) : List Nat := (a.zip b).map (fun x => (x.1 + x.2) % mlQ)
/-- See `plAdd`. -/
def plSub (a b : List Nat) : List Nat := (a.zip b).map (fun x => (x.1 + mlQ - x.2) % mlQ)
/-- See `plAdd`. -/
def plMul (a b : List Nat) : List Nat := (a.zip b).map (fun x => x.1 * x.2 % mlQ)

/-- A matrix times a vector, all transformed. -/
def matMul (m : List (List (List Nat))) (v : List (List Nat)) : List (List Nat) :=
  m.map (fun row => ((row.zip v).map (fun x => plMul x.1 x.2)).foldl plAdd (List.replicate 256 0))

/-- A coefficient as a number around 0. -/
def mlCentre (x : Nat) : Int := if x ≤ (mlQ - 1) / 2 then (x : Int) else (x : Int) - mlQ
/-- A number around 0 as a coefficient. -/
def mlCoef (x : Int) : Nat := (x % (mlQ : Int)).toNat

/-- The greatest magnitude in some polynomials. -/
def plNorm (v : List (List Nat)) : Nat := (v.flatMap (fun p => p.map (fun x => (mlCentre x).natAbs))).foldl Nat.max 0

/-! ### Sampling -/

/-- Coefficients below the modulus from output of SHAKE128, up to 256, over the blocks that it takes. -/
def rejNtt : Nat → List DWord → List Nat → List Nat
  | 0, _, acc => acc
  | n + 1, a, acc =>
    if 256 ≤ acc.length then acc.take 256
    else
      let b := (shakeBlock 168 a).toArray
      let new := (List.range 56).filterMap (fun i =>
        let z := (b.getD (3 * i) 0).toNat + 256 * (b.getD (3 * i + 1) 0).toNat + 65536 * ((b.getD (3 * i + 2) 0).toNat % 128)
        if z < mlQ then some z else none)
      rejNtt n (keccak a) (acc ++ new)

/-- Coefficients of magnitude at most 4 from output of SHAKE256. -/
def rejBounded : Nat → List DWord → List Nat → List Nat
  | 0, _, acc => acc
  | n + 1, a, acc =>
    if 256 ≤ acc.length then acc.take 256
    else
      let halves : List Nat := (shakeBlock 136 a).flatMap (fun b => [b.toNat % 16, b.toNat / 16])
      let new := halves.filterMap (fun z => if z < 9 then some (mlCoef (4 - (z : Int))) else none)
      rejBounded n (keccak a) (acc ++ new)

/-- ExpandA: 6 rows of 5 transformed polynomials. -/
def mlMatrix (rho : List Byte) : List (List (List Nat)) :=
  (List.range 6).map (fun r => (List.range 5).map (fun s => rejNtt 64 (shakeStart 168 (rho ++ bytesOf 1 s ++ bytesOf 1 r)) []))

/-- ExpandS. -/
def mlSecret (rho : List Byte) (i : Nat) : List Nat := rejBounded 64 (shakeStart 136 (rho ++ bytesOf 2 i)) []

/-- Numbers of `w` bits packed, lowest bit first. -/
def mlPack (w : Nat) (xs : List Nat) : List Byte :=
  let bits := (xs.flatMap (fun x => (List.range w).map (fun i => bitAt x i))).toArray
  (List.range (bits.size / 8)).map (fun i =>
    BitVec.ofNat 8 (((List.range 8).map (fun k => if bits.getD (8 * i + k) false then 2 ^ k else 0)).sum))

/-- 256 numbers of `w` bits unpacked. -/
def mlUnpack (w : Nat) (bs : List Byte) : List Nat :=
  let a := bs.toArray
  (List.range 256).map (fun i => ((List.range w).map (fun k =>
    let p := w * i + k
    if bitAt (a.getD (p / 8) 0).toNat (p % 8) then 2 ^ k else 0)).sum)

/-- 256 coefficients of the mask or of z: 2^19 less a number of 20 bits. -/
def mlMask (bs : List Byte) : List Nat := (mlUnpack 20 bs).map (fun z => mlCoef ((2 : Int) ^ 19 - z))

/-- SampleInBall: the challenge of 49 coefficients 1 or -1. -/
def mlChallenge (seed : List Byte) : List Nat :=
  let out := shakeBlocks 136 8 (shakeStart 136 seed)
  let signs := natOf (out.take 8)
  let r := (List.range 49).foldl (fun (a : List Nat × List Byte) n =>
    let i := 207 + n
    let rest := a.2.dropWhile (fun j => decide (i < j.toNat))
    let j := (rest.headD 0).toNat
    ((a.1.set i (a.1.getD j 0)).set j (if bitAt signs n then mlQ - 1 else 1), rest.drop 1)) (List.replicate 256 0, out.drop 8)
  r.1

/-! ### Rounding and hints -/

/-- Power2Round: the high part and the low part of 13 bits, around 0. -/
def power2Round (x : Nat) : Nat × Int :=
  let r0 : Int := if x % 8192 ≤ 4096 then (x % 8192 : Nat) else (x % 8192 : Nat) - (8192 : Int)
  ((((x : Int) - r0) / 8192).toNat, r0)

/-- Decompose: high part of 16 values, low part around 0. -/
def mlDecompose (x : Nat) : Nat × Int :=
  let r0 : Int := if x % 523776 ≤ 261888 then (x % 523776 : Nat) else (x % 523776 : Nat) - (523776 : Int)
  if (x : Int) - r0 = 8380416 then (0, r0 - 1) else ((((x : Int) - r0) / 523776).toNat, r0)

/-- UseHint. -/
def useHint (h : Bool) (x : Nat) : Nat :=
  let r := mlDecompose x
  if !h then r.1 else if 0 < r.2 then (r.1 + 1) % 16 else (r.1 + 15) % 16

/-- The commitment's encoding. -/
def w1Encode (w : List (List Nat)) : List Byte := w.flatMap (mlPack 4)

/-- The encoding of the hints of 6 polynomials: at most 55 places, and how many up to each polynomial. -/
def hintPack (h : List (List Bool)) : List Byte :=
  let idx := h.map (fun p => (p.zipIdx.filter (fun x => x.1)).map (fun x => x.2))
  let all := idx.flatten
  all.map (BitVec.ofNat 8) ++ List.replicate (55 - all.length) 0
    ++ (List.range 6).map (fun i => BitVec.ofNat 8 ((idx.take (i + 1)).map List.length).sum)

/-- Whether numbers rise strictly. -/
def rising : List Nat → Bool
  | a :: b :: rest => decide (a < b) && rising (b :: rest)
  | _ => true

/-- The hints that 61 bytes stand for, if they are well formed. -/
def hintUnpack (bs : List Byte) : Option (List (List Bool)) :=
  let y := bs.map BitVec.toNat
  let ends := (List.range 7).map (fun i => if i = 0 then 0 else y.getD (55 + i - 1) 0)
  let parts := (List.range 6).map (fun i => (y.drop (ends.getD i 0)).take (ends.getD (i + 1) 0 - ends.getD i 0))
  if (List.range 6).all (fun i => decide (ends.getD i 0 ≤ ends.getD (i + 1) 0) && decide (ends.getD (i + 1) 0 ≤ 55))
      && parts.all rising && ((y.take 55).drop (ends.getD 6 0)).all (fun x => x == 0) then
    some (parts.map (fun p => (List.range 256).map (fun i => p.contains i)))
  else none

/-! ### ML-DSA-65 -/

/-- A key pair from its seed (ML-DSA.KeyGen_internal): the public key, and of the private one ρ, K, tr, s1, s2 and t0. -/
structure MlKey where
  pub : List Byte
  rho : List Byte
  k : List Byte
  tr : List Byte
  s1 : List (List Nat)
  s2 : List (List Nat)
  t0 : List (List Nat)

/-- ML-DSA.KeyGen_internal. -/
def mlKeyGen (seed : List Byte) : MlKey :=
  let h := shake256 (seed ++ [6, 5]) 128
  let rho := h.take 32
  let rhoS := (h.drop 32).take 64
  let s1 := (List.range 5).map (mlSecret rhoS)
  let s2 := (List.range 6).map (fun i => mlSecret rhoS (5 + i))
  let t := ((matMul (mlMatrix rho) (s1.map mlNtt)).zip s2).map (fun x => plAdd (mlBack x.1) x.2)
  let pub := rho ++ (t.map (fun p => mlPack 10 (p.map (fun x => (power2Round x).1)))).flatten
  { pub := pub, rho := rho, k := h.drop 96, tr := shake256 pub 64, s1 := s1, s2 := s2
    t0 := t.map (fun p => p.map (fun x => mlCoef (power2Round x).2)) }

/-- The message as it is hashed, with an empty context. -/
def mlMessage (tr m : List Byte) : List Byte := shake256 (tr ++ [0, 0] ++ m) 64

/-- One attempt at a signature; none where it is rejected. -/
def mlAttempt (key : MlKey) (a : List (List (List Nat))) (mu seed : List Byte) (kappa : Nat) : Option (List Byte) :=
  let y := (List.range 5).map (fun r => mlMask (shake256 (seed ++ bytesOf 2 (kappa + r)) 640))
  let w := (matMul a (y.map mlNtt)).map mlBack
  let ct := shake256 (mu ++ w1Encode (w.map (fun p => p.map (fun x => (mlDecompose x).1)))) 48
  let c := mlNtt (mlChallenge ct)
  let by_ := fun (p : List Nat) => mlBack (plMul c (mlNtt p))
  let z := (y.zip key.s1).map (fun x => plAdd x.1 (by_ x.2))
  let low := (w.zip key.s2).map (fun x => plSub x.1 (by_ x.2))
  let ct0 := key.t0.map by_
  let hints := (low.zip ct0).map (fun x => (x.1.zip x.2).map (fun v =>
    (mlDecompose ((v.1 + v.2) % mlQ)).1 != (mlDecompose v.1).1))
  let r0 := (low.flatMap (fun p => p.map (fun x => (mlDecompose x).2.natAbs))).foldl Nat.max 0
  if 524288 - 196 ≤ plNorm z ∨ 261888 - 196 ≤ r0 ∨ 261888 ≤ plNorm ct0 ∨ 55 < (hints.flatten.filter id).length then none
  else some (ct ++ z.flatMap (fun p => mlPack 20 (p.map (fun x => ((2 : Int) ^ 19 - mlCentre x).toNat))) ++ hintPack hints)

/-- Attempts one after the other. -/
def mlTry (key : MlKey) (a : List (List (List Nat))) (mu seed : List Byte) : Nat → Nat → List Byte
  | 0, _ => []
  | n + 1, kappa => match mlAttempt key a mu seed kappa with
    | some s => s
    | none => mlTry key a mu seed n (kappa + 5)

/-- A hedged signature with an empty context, from 32 random bytes. -/
def mlSign (seed rnd m : List Byte) : List Byte :=
  let key := mlKeyGen seed
  let mu := mlMessage key.tr m
  mlTry key (mlMatrix key.rho) mu (shake256 (key.k ++ rnd ++ mu) 64) 13107 0

/-- Whether a signature verifies, with an empty context. -/
def mlVerify (pub m sig : List Byte) : Bool :=
  let ct := sig.take 48
  let z := (List.range 5).map (fun i => mlMask ((sig.drop (48 + 640 * i)).take 640))
  match hintUnpack (sig.drop 3248) with
  | none => false
  | some h =>
    let t1 := (List.range 6).map (fun i => (mlUnpack 10 ((pub.drop (32 + 320 * i)).take 320)).map (fun x => x * 8192 % mlQ))
    let mu := mlMessage (shake256 pub 64) m
    let c := mlNtt (mlChallenge ct)
    let w := ((matMul (mlMatrix (pub.take 32)) (z.map mlNtt)).zip t1).map (fun x => mlBack (plSub x.1 (plMul c (mlNtt x.2))))
    let w1 := (w.zip h).map (fun x => (x.1.zip x.2).map (fun v => useHint v.2 v.1))
    pub.length == 1952 && sig.length == 3309 && decide (plNorm z < 524288 - 196) && shake256 (mu ++ w1Encode w1) 48 == ct

end Sys2Proof.Machine
end

