-- ==== Sys2Proof/Machine/Security.lean ====
section
/-! DEFINITION. Images, fuses, identity and debug (18_start_and_security.md, R442 to R457), and the completion of the held
commands whose work is internal (16_chiop_commands.md, R393). -/

namespace Sys2Proof.Machine

/-! ### Images -/

/-- Whether bytes are all 0. -/
def allZero (bs : List Byte) : Bool := bs.all (fun b => b == 0)

/-- PARTMASK's bit for a variant (Table 18.6). -/
def partBit (p : Part) : Nat := match p with | .zg9812 => 0 | .zg9808 => 1 | .zg9804 => 2

/-- The range of PLEN by TYPE (Table 18.6). -/
def payloadOk (type n : Nat) : Bool :=
  if type = 3 then decide (16 ≤ n ∧ n ≤ 122880) && n % 16 == 0 else decide (16 ≤ n ∧ n ≤ 0x2000000)

/-- Check 1 of R443 for an image of a TYPE. -/
def imageFormat (part : Part) (type : Nat) (b : List Byte) : Bool :=
  decide (5488 ≤ b.length) && pf b 0 4 == 0x31494E47 && pf b 4 1 == type && pf b 5 1 == 1 && pf b 6 2 == 0
    && payloadOk type (pf b 8 4) && pf b 15 1 == 0 && decide (pf b 16 1 < 8) && bitAt (pf b 16 1) (partBit part)
    && allZero ((b.drop 17).take 7) && allZero ((b.drop 80).take 48) && allZero ((b.drop 5485).take 3)
    && decide (5488 + pf b 8 4 ≤ b.length)

/-- SVN of an image. -/
def imageSvn (b : List Byte) : Nat := pf b 12 2
/-- KEYSLOT of an image. -/
def imageSlot (b : List Byte) : Nat := pf b 14 1
/-- The payload of an image. -/
def imagePayload (b : List Byte) : List Byte := (b.drop 5488).take (pf b 8 4)
/-- The measurement of an image: SHA-384 of header bytes 0 to 127 (R442). -/
def imageMeasure (b : List Byte) : List Byte := sha384 (b.take 128)

/-- Check 2 of R443: PDIGEST is the SHA-384 of a payload. -/
def digestOk (header payload : List Byte) : Bool := sha384 payload == (header.drop 32).take 48

/-- A text of ASCII characters. -/
def ascii (t : String) : List Byte := t.toList.map (fun c => BitVec.ofNat 8 c.toNat)

/-- Whether keys have the hashes of a fused pair (R443, check 3). -/
def keysMatch (hashes edKey mlKey : List Byte) : Bool := sha384 edKey ++ sha384 mlKey == padTo 96 hashes

/-- Whether a message carries both signatures (R443, checks 4 and 5). -/
def bothVerify (edKey mlKey m edSig mlSig : List Byte) : Bool := edVerify edKey m edSig && mlVerify mlKey m mlSig

/-- Whether the CRC-16 of a key slot is right (Tables 18.7, 11.8). -/
def KeySlot.crcOk (k : KeySlot) : Bool := crcOver 4 (padTo 96 k.hashes) == k.crc.toNat

/-- Whether a customer key slot may be used: VALID, its CRC right, not revoked (Table 18.7). -/
def KeySlot.usable (k : KeySlot) : Bool := k.valid && k.crcOk && !k.revoked

/-- A customer key slot. -/
def Fuses.slot (f : Fuses) (i : Nat) : KeySlot := f.cust.toList.getD i {}

/-- Whether a vendor slot may be used. -/
def Fuses.vendorOk (f : Fuses) (i : Nat) : Bool := decide (i < 2) && !f.vrevoke.getLsbD i

/-- The fused hashes of a vendor slot. -/
def Fuses.vendorHashes (f : Fuses) (i : Nat) : List Byte := f.vendorKey.toList.getD i []

/-- Checks 3 to 5 of R443 (R442): keys, then both signatures on "ZORALO-GN-IMG-V1" and the header. -/
def Fuses.signed (f : Fuses) (type : Nat) (b : List Byte) : Bool :=
  let k := imageSlot b
  let edKey := (b.drop 128).take 32
  let mlKey := (b.drop 160).take 1952
  (if type = 3 then decide (k < 4) && (f.slot k).usable else f.vendorOk k)
    && keysMatch (if type = 3 then (f.slot k).hashes else f.vendorHashes k) edKey mlKey
    && bothVerify edKey mlKey (ascii "ZORALO-GN-IMG-V1" ++ b.take 128) ((b.drop 2112).take 64) ((b.drop 2176).take 3309)

/-- The answer to a format error. -/
def errFormat : ChErr := errRange 0

/-- The lowest free handle. -/
def Dev.freeHandle (d : Dev) : Nat :=
  ((List.range 64).find? (fun n => !d.start.images.any (fun i => i.handle == n))).getD 64

/-- Why an image of IMAGE_LOAD is refused (R454). -/
def Dev.loadError (d : Dev) (b : List Byte) : Option ChErr :=
  let f := d.start.fuses
  if !imageFormat d.part 3 b || !digestOk b (imagePayload b) then some errFormat
  else if f.secureProg && !f.signed 3 b then some { status := stAuthFail }
  else if imageSvn b < f.rbc1 then some { status := stAuthFail, reason := 2, offset := 12 }
  else none

/-- The detail of an error as reply data. -/
def ChErr.data (e : ChErr) : List Byte := errDetail e.offset e.reason e.unit e.extra

/-- IMAGE_LOAD's check has run (R454). -/
def Dev.loadDone (d : Dev) (chan : Nat) (x : Held) : Dev :=
  let b := x.params
  let fail := fun (e : ChErr) => d.complete chan x.seq e.status e.data
  match d.loadError b with
  | some e => fail e
  | none =>
    let m := imageMeasure b
    match d.start.images.find? (fun i => i.measurement == m) with
    | some i => d.complete chan x.seq 0 (bytesOf 2 i.handle ++ m)
    | none =>
      let n := d.freeHandle
      if n = 64 then fail { status := stNoCapacity, reason := 0x0B }
      else
        let img : Image :=
          { handle := n
            svn := imageSvn b
            keyslot := if d.start.fuses.secureProg then imageSlot b else 0xFF
            measurement := m
            bound := []
            payload := imagePayload b }
        let d1 : Dev := { d with start := { d.start with images := d.start.images ++ [img] } }
        d1.complete chan x.seq 0 (bytesOf 2 n ++ m)

/-- Whether an image is bound, or a binding is staged, in a held COMMIT or due. -/
def Dev.imageBound (d : Dev) (n : Nat) : Bool :=
  d.start.images.any (fun i => i.handle == n && !i.bound.isEmpty) || d.start.bindDue.any (fun b => b.2 == n)
    || d.ahead.any (fun s => s.op == 0x0302 && pf s.params 0 2 == n)

/-- IMAGE_DROP (Table 16.21). -/
def bodyImageDrop (d : Dev) (p : List Byte) : Ans :=
  let n := pf p 0 2
  if !d.start.images.any (fun i => i.handle == n) then .err (errNotFound 0)
  else if d.imageBound n then .err errDepends
  else .ok { d with start := { d.start with images := d.start.images.filter (fun i => i.handle != n) } } []

/-- Whether a command of an opcode is held on some channel. -/
def Dev.heldOp (d : Dev) (op : Nat) : Bool := d.chiop.chan.toList.any (fun c => c.held.any (fun x => x.op == op))

/-- RECOVERY_LOAD is read (R445): the image with the host address and length it came from. -/
def bodyRecoveryLoad (h : Sys2Proof.ChiopHdr) (d : Dev) (p : List Byte) : Ans :=
  if d.heldOp 0x0304 then .err errDepends
  else .hold d (bytesOf 8 h.ind.paddr.toNat ++ bytesOf 4 h.ind.plen.toNat ++ p)

/-- Why the image of a RECOVERY_LOAD is refused (R445). -/
def Dev.recoveryError (d : Dev) (b : List Byte) : Option ChErr :=
  let f := d.start.fuses
  if !imageFormat d.part 2 b || !digestOk b (imagePayload b) then some errFormat
  else if !f.signed 2 b then some { status := stAuthFail }
  else if imageSvn b < f.rbc0 then some { status := stAuthFail, reason := 2, offset := 12 }
  else none

/-! ### Fuses -/

/-- Whether a fuse write is held (R447). -/
def Dev.fuseBusy (d : Dev) : Bool := d.heldOp 0x0903 || d.heldOp 0x0904

/-- KEY_ENROLL is read (R448, Table 18.8). -/
def bodyKeyEnroll (d : Dev) (p : List Byte) : Ans :=
  let op := pf p 0 1
  let k := pf p 1 1
  let f := d.start.fuses
  let usable := (List.range 4).filter (fun i => (f.slot i).usable)
  if 3 < op then .err (errRange 0)
  else if 3 < k then .err (errRange 1)
  else if op ≠ 0 ∧ !allZero ((p.drop 4).take 96) then .err (errRange 4)
  else if d.fuseBusy then .err errDepends
  else if op = 0 ∧ (f.slot k).valid then .err (errInUse 1)
  else if op = 1 ∧ !(f.slot k).valid then .err (errNotFound 1)
  else if op = 1 ∧ f.secureProg ∧ usable = [k] then .err (errRange 1)
  else if op = 2 ∧ usable.isEmpty then .err (errRange 0)
  else .hold d p

/-- Change a customer key slot. -/
def Fuses.setSlot (f : Fuses) (k : Nat) (s : KeySlot) : Fuses :=
  { f with cust := Vector.ofFn (fun i => if i.val = k then s else f.cust[i]) }

/-- The fuses after a KEY_ENROLL. -/
def Fuses.enroll (f : Fuses) (p : List Byte) : Fuses :=
  let k := pf p 1 1
  match pf p 0 1 with
  | 0 => let h := padTo 96 ((p.drop 4).take 96); f.setSlot k { hashes := h, crc := BitVec.ofNat 16 (crcOver 4 h), valid := true }
  | 1 => f.setSlot k { f.slot k with revoked := true }
  | 2 => { f with secureProg := true }
  | _ => { f with debugLock := true }

/-- ROLLBACK_ADVANCE is read (R449). -/
def bodyRollbackAdvance (d : Dev) (p : List Byte) : Ans :=
  let c := pf p 0 1
  let v := pf p 1 2
  let f := d.start.fuses
  let cur := if c = 0 then f.rbc0 else f.rbc1
  let top := if c = 0 then d.start.fwSvn else (d.start.images.map (fun i => i.svn)).foldl Nat.max 0
  if 1 < c then .err (errRange 0)
  else if 128 < v then .err (errRange 1)
  else if v ≤ cur then .ok d []
  else if top < v then .err (errRange 1)
  else if d.fuseBusy then .err errDepends
  else .hold d p

/-- The fuses after a ROLLBACK_ADVANCE to a value. -/
def Fuses.advance (f : Fuses) (c v : Nat) : Fuses := if c = 0 then { f with rbc0 := v } else { f with rbc1 := v }

/-- The fuses after a write that did not end as it should (R447): a counter somewhere between its values; a key slot empty,
or with VALID and a wrong CRC, which reads as revoked; other bits as before or burnt. -/
def Dev.burnPart (d : Dev) (x : Held) : Dev :=
  let f := d.start.fuses
  let n := Sys2Proof.Config.burnt d.free
  let f1 := if x.op = 0x0904 then
      let c := pf x.params 0 1
      let cur := if c = 0 then f.rbc0 else f.rbc1
      f.advance c (cur + n % (pf x.params 1 2 - cur + 1))
    else if pf x.params 0 1 = 0 then
      f.setSlot (pf x.params 1 1) (if Sys2Proof.Config.burntSlot d.free then
        let h := padTo 96 ((x.params.drop 4).take 96)
        { hashes := h, crc := ~~~ BitVec.ofNat 16 (crcOver 4 h), valid := true } else {})
    else if Sys2Proof.Config.burntSlot d.free then f.enroll x.params else f
  { d with start := { d.start with fuses := f1 }, free := d.free + 1 }

/-- A fuse write has ended (R447): its read-back decides. -/
def Dev.fuseDone (d : Dev) (chan : Nat) (x : Held) (ok : Bool) : Dev :=
  let f := d.start.fuses
  if ok then
    let f1 := if x.op = 0x0904 then f.advance (pf x.params 0 1) (pf x.params 1 2) else f.enroll x.params
    ({ d with start := { d.start with fuses := f1 } } : Dev).complete chan x.seq 0 []
  else ((d.burnPart x).healthEvent { hkind := 0x0048 }).complete chan x.seq stInternal (errDetail 0xFFFF 0 0 0)

/-- Power is lost while a fuse write is held (R447). -/
def Dev.interruptFuses (d : Dev) : Dev :=
  match d.chiop.chan.toList.findSome? (fun c => c.held.find? (fun x => x.op == 0x0903 || x.op == 0x0904)) with
  | some x => d.burnPart x
  | none => d

/-! ### Identity and attestation -/

/-- A seed of the device's identity (R450): HKDF-SHA-384 of UDS with PART and SERIAL as the salt. -/
def Dev.idSeed (d : Dev) (info : String) : List Byte :=
  let f := d.start.fuses
  hkdf32 (padTo 32 f.uds) (bytesOf 2 (partCode d.part) ++ bytesOf 8 f.serial.toNat) (ascii info)

/-- The seeds of the Ed25519 and the ML-DSA-65 key (R450). -/
def Dev.edSeed (d : Dev) : List Byte := d.idSeed "ZG-ID-ED25519"
/-- See `Dev.edSeed`. -/
def Dev.mlSeed (d : Dev) : List Byte := d.idSeed "ZG-ID-MLDSA65"

/-- The reply of GET_DEVICE_KEYS (R452). -/
def Dev.deviceKeys (d : Dev) : List Byte :=
  bytesOf 2 (partCode d.part) ++ List.replicate 6 0 ++ bytesOf 8 d.start.fuses.serial.toNat
    ++ edPublic d.edSeed ++ (mlKeyGen d.mlSeed).pub

/-- An image's place in an attestation report (Table 18.9). -/
def Image.report (i : Image) : List Byte :=
  bytesOf 2 i.handle ++ bytesOf 2 i.svn ++ bytesOf 1 i.keyslot ++ bytesOf 1 (boolNat !i.bound.isEmpty)
    ++ List.replicate 10 0 ++ padTo 48 i.measurement

/-- The images in handle order. -/
def Dev.imagesInOrder (d : Dev) : List Image :=
  (List.range 64).filterMap (fun n => d.start.images.find? (fun i => i.handle == n))

/-- The attestation report (Table 18.9). -/
def Dev.report_ (d : Dev) (nonce : List Byte) : List Byte :=
  let f := d.start.fuses
  let bits := fun (g : KeySlot → Bool) => ((List.range 4).map (fun k => boolNat (g (f.slot k)) * 2 ^ k)).sum
  bytesOf 2 1 ++ bytesOf 2 (partCode d.part) ++ [d.stepping] ++ bytesOf 1 d.mode.mode ++ bytesOf 1 (kindCode d.start.kind)
    ++ bytesOf 1 (boolNat f.secureProg + 2 * boolNat f.debugLock + 4 * f.vrevoke.toNat) ++ bytesOf 8 f.serial.toNat
    ++ padTo 32 nonce ++ bytesOf 4 d.chiop.epoch.toNat ++ bytesOf 4 d.start.starts.toNat ++ bytesOf 1 f.rbc0
    ++ bytesOf 1 f.rbc1 ++ bytesOf 1 (bits (fun s => s.valid) + 16 * bits (fun s => s.revoked || (s.valid && !s.crcOk)))
    ++ bytesOf 1 d.start.images.length ++ List.replicate 4 0 ++ padTo 48 d.start.measurement ++ bytesOf 2 d.start.fwSvn
    ++ List.replicate 14 0 ++ d.imagesInOrder.flatMap Image.report

/-- ATTEST is read (R451, R453). -/
def bodyAttest (d : Dev) (p : List Byte) : Ans :=
  if !d.start.keyStore then .err { status := stAuthFail } else .hold d p

/-- ATTEST's report is signed (R453): "ZORALO-GN-ATT-V1" and the report under both keys. -/
def Dev.attestDone (d : Dev) (chan : Nat) (x : Held) : Dev :=
  if !d.start.keyStore then d.complete chan x.seq stAuthFail (errDetail 0xFFFF 0 0 0)
  else
    let rep := d.report_ x.params
    let m := ascii "ZORALO-GN-ATT-V1" ++ rep
    let rnd := (List.range 32).map (Sys2Proof.Config.signRandom d.free)
    ({ d with free := d.free + 1 } : Dev).complete chan x.seq 0 (rep ++ edSign d.edSeed m ++ mlSign d.mlSeed rnd m)

/-! ### Debug -/

/-- Whether a debug slot names a key pair: vendor 0x10 and 0x11, customer 0 to 3. -/
def debugSlot (k : Nat) : Bool := decide (k < 4) || k == 0x10 || k == 0x11

/-- Whether the slot's keys may be used. -/
def Fuses.debugKey (f : Fuses) (k : Nat) : Bool := if k < 4 then (f.slot k).usable else f.vendorOk (k - 0x10)

/-- The check of a DEBUG_UNLOCK response and the challenge it answers (R457): STEP, slot, 3 bytes, both signatures, both
keys; the message is "ZORALO-GN-DBG-V1" and the challenge. -/
def Fuses.unlocks (f : Fuses) (p c : List Byte) : Bool :=
  let k := pf p 1 1
  let edKey := (p.drop 3378).take 32
  let mlKey := (p.drop 3410).take 1952
  f.debugKey k && keysMatch (if k < 4 then (f.slot k).hashes else f.vendorHashes (k - 0x10)) edKey mlKey
    && bothVerify edKey mlKey (ascii "ZORALO-GN-DBG-V1" ++ c) ((p.drop 5).take 64) ((p.drop 69).take 3309)

/-- DEBUG_UNLOCK is read (R457): a response spends the challenge. -/
def bodyDebugUnlock (h : Sys2Proof.ChiopHdr) (d : Dev) (p : List Byte) : Ans :=
  if 1 < pf p 0 1 then .err (errRange 0)
  else if pf p 0 1 = 0 then .hold d p
  else if p.length < 5362 then .err (errRange p.length)
  else if !debugSlot (pf p 1 1) then .err (errRange 1)
  else if d.start.challenge.isNone ∨ 60 * secondTc < airAhead d.start.challengeAt (nowOf d h) then .err { status := stAuthFail }
  else .hold { d with start := { d.start with challenge := none } } (p.take 5362 ++ d.start.challenge.getD [])

/-- DEBUG_UNLOCK's step is done (R457): the challenge, or the check of the response. -/
def Dev.debugDone (d : Dev) (chan : Nat) (x : Held) : Dev :=
  if pf x.params 0 1 = 0 then
    let c := (List.range 32).map (Sys2Proof.Config.challenge d.free) ++ bytesOf 8 d.start.fuses.serial.toNat
      ++ bytesOf 2 (partCode d.part) ++ List.replicate 6 0
    let st : StartState := { d.start with challenge := some c, challengeAt := d.time.air }
    ({ d with start := st, free := d.free + 1 } : Dev).complete chan x.seq 0 c
  else if d.start.fuses.unlocks (x.params.take 5362) (x.params.drop 5362) then
    (({ d with start := { d.start with keyStore := false, debugOpen := true } } : Dev).logAdd 7 true []).complete chan x.seq 0 []
  else d.complete chan x.seq stAuthFail (errDetail 0xFFFF 0 0 0)

/-! ### Rows -/

/-- IMAGE_LOAD (R454). -/
def execImageLoad (h : Sys2Proof.ChiopHdr) (p : List Byte) (s : State) : Host.Outcome State Fault Refusal :=
  s.on (chiopCmd 0x0301 [4, 5, 6, 7] 0 true (fun d ps => .hold d ps) h p)

/-- IMAGE_DROP (Table 16.21). -/
def execImageDrop (h : Sys2Proof.ChiopHdr) (p : List Byte) (s : State) : Host.Outcome State Fault Refusal :=
  s.on (chiopCmd 0x0303 [4, 5, 6, 7] 2 false bodyImageDrop h p)

/-- RECOVERY_LOAD (R445). -/
def execRecoveryLoad (h : Sys2Proof.ChiopHdr) (p : List Byte) (s : State) : Host.Outcome State Fault Refusal :=
  s.on (chiopCmd 0x0304 [3] 0 true (bodyRecoveryLoad h) h p)

/-- ATTEST (R453). -/
def execAttest (h : Sys2Proof.ChiopHdr) (p : List Byte) (s : State) : Host.Outcome State Fault Refusal :=
  s.on (chiopCmd 0x0901 modesAll 32 true bodyAttest h p)

/-- GET_DEVICE_KEYS (R452). -/
def execGetDeviceKeys (h : Sys2Proof.ChiopHdr) (p : List Byte) (s : State) : Host.Outcome State Fault Refusal :=
  s.on (chiopCmd 0x0902 modesAll 0 false (fun d _ => .ok d d.deviceKeys) h p)

/-- KEY_ENROLL (R448). -/
def execKeyEnroll (h : Sys2Proof.ChiopHdr) (p : List Byte) (s : State) : Host.Outcome State Fault Refusal :=
  s.on (chiopCmd 0x0903 [4] 100 true bodyKeyEnroll h p)

/-- ROLLBACK_ADVANCE (R449). -/
def execRollbackAdvance (h : Sys2Proof.ChiopHdr) (p : List Byte) (s : State) : Host.Outcome State Fault Refusal :=
  s.on (chiopCmd 0x0904 [4] 3 true bodyRollbackAdvance h p)

/-- DEBUG_UNLOCK (R457). -/
def execDebugUnlock (h : Sys2Proof.ChiopHdr) (p : List Byte) (s : State) : Host.Outcome State Fault Refusal :=
  s.on (chiopCmd 0x0905 [11] 1 true (bodyDebugUnlock h) h p)

/-- DEBUG_CHALLENGE_EXPIRY (R457). -/
def execDebugChallengeExpiry (s : State) : Host.Outcome State Fault Refusal :=
  s.on (fun d =>
    if d.start.challenge.isNone then d
    else match d.after d.start.challengeAt (60 * secondTc) with
      | some d1 => { d1 with start := { d1.start with challenge := none } }
      | none => d)

end Sys2Proof.Machine
end

