-- ==== Sys2Proof/Machine/Plans.lean ====
section
/-! DEFINITION. Slot plans that run: what a slot of a cell has come to and its SLOT_DONE event (16_chiop_commands.md, R545;
17_operating_modes.md, R425). -/

namespace Sys2Proof.Machine

/-- The counts of a slot (Table 16.14): containers missing, transport blocks dropped. -/
def Plan.donePayload (p : Plan) (suspect : Bool) : List Byte :=
  bytesOf 2 p.cell ++ bytesOf 1 (boolNat p.down) ++ bytesOf 1 (boolNat p.noPlan + 2 * boolNat suspect) ++ bytesOf 4 p.at_.toNat
    ++ bytesOf 2 (Nat.min 0xFFFF p.lost.length) ++ bytesOf 2 (Nat.min 0xFFFF p.lateJobs)
    ++ bytesOf 2 (Nat.min 0xFFFF p.lateDeps.length) ++ bytesOf 2 (Nat.min 0xFFFF p.zero)

/-- A plan's slot is complete: its event is posted and LASTSLOT follows (R545, Table 16.12). -/
def Dev.slotDone (d : Dev) (p : Plan) : Dev :=
  let d1 : Dev := { d with cfg := { d.cfg with plans := d.cfg.plans.erase p } }
  (d1.updCell p.cell (fun c => { c with lastSlot := p.at_ })).post 0xF002 (p.donePayload (d.time.tq != .locked))

/-- Whether a cell is in service. -/
def Dev.serving? (d : Dev) (cell : Nat) : Bool := match d.cell? cell with | some c => c.inService | none => false

/-- Post the event of every slot that is complete (R545): all its jobs are gone, or, where it ran without a plan, it has
ended. A plan for a direction that the slot does not carry leaves no event. -/
def Dev.settlePlans (d : Dev) : Dev :=
  d.cfg.plans.foldl (fun d p =>
    if !p.running ∨ !p.jobs.isEmpty then d
    else if p.noPlan && !airPast d.time.air p.endAt then d
    else if p.carried then d.slotDone p
    else { d with cfg := { d.cfg with plans := d.cfg.plans.erase p } }) d

/-- The jobs of a plan are removed unrun and it is forgotten (R425): nothing is posted. -/
def Dev.discardPlan (d : Dev) (p : Plan) : Dev :=
  let d1 : Dev := { d with cfg := { d.cfg with plans := d.cfg.plans.erase p } }
  p.jobs.foldl (fun d id =>
    let w := BitVec.ofNat 32 id
    match d.alm.job? w with
    | some j => if j.st = .dispatched then d.onAlm (fun a => a.updJob w (fun j => { j with skipped := true }))
      else (d.dropDeferred w).freeJob w
    | none => d) d1

end Sys2Proof.Machine
end

