-- ==== Sys2Proof/Machine/Scheduler.lean ====
section
/-! DEFINITION. The rows of Almanac (09_almanac_scheduler.md): requests at its ports, timers, dispatch, completion and
what becomes of units and records that fail. -/

namespace Sys2Proof.Machine

/-- Whether Almanac runs: PD.FAB is powered and the device has started (R218; 18_start_and_security.md, Table 18.1). -/
def Dev.almRuns (d : Dev) : Bool := d.launched

/-- A row of Almanac; a slot whose last job has gone is complete (R545). -/
def State.onAlmanac (s : State) (f : Dev → Dev) : Host.Outcome State Fault Refusal :=
  s.on (fun d => if d.almRuns then (f d).settlePlans else d)

/-! ### Requests -/

/-- JOB_ENQ (R223). -/
def execJobEnq (port : Sys2Proof.AlmPort) (bytes : List Byte) (serves : Option Sys2Proof.Serves) (s : State) : Host.Outcome State Fault Refusal :=
  s.onAlmanac (fun d => d.almRow 1 port bytes serves)

/-- SKIP_ENQ (R241). -/
def execSkipEnq (port : Sys2Proof.AlmPort) (bytes : List Byte) (s : State) : Host.Outcome State Fault Refusal :=
  s.onAlmanac (fun d => d.almRow 2 port bytes none)

/-- EVENT (R226). -/
def execEvent (port : Sys2Proof.AlmPort) (bytes : List Byte) (s : State) : Host.Outcome State Fault Refusal :=
  s.onAlmanac (fun d => d.almRow 3 port bytes none)

/-- TIMER_SET (R228). -/
def execTimerSet (port : Sys2Proof.AlmPort) (bytes : List Byte) (s : State) : Host.Outcome State Fault Refusal :=
  s.onAlmanac (fun d => d.almRow 4 port bytes none)

/-- TIMER_CANCEL (R222). -/
def execTimerCancel (port : Sys2Proof.AlmPort) (bytes : List Byte) (s : State) : Host.Outcome State Fault Refusal :=
  s.onAlmanac (fun d => d.almRow 5 port bytes none)

/-- Q_PUT (R222). -/
def execQPut (port : Sys2Proof.AlmPort) (bytes : List Byte) (s : State) : Host.Outcome State Fault Refusal :=
  s.onAlmanac (fun d => d.almRow 6 port bytes none)

/-- Q_GET (R222). -/
def execQGet (port : Sys2Proof.AlmPort) (bytes : List Byte) (s : State) : Host.Outcome State Fault Refusal :=
  s.onAlmanac (fun d => d.almRow 7 port bytes none)

/-- CREATE (R222). -/
def execCreate (port : Sys2Proof.AlmPort) (bytes : List Byte) (s : State) : Host.Outcome State Fault Refusal :=
  s.onAlmanac (fun d => d.almRow 8 port bytes none)

/-- DESTROY (R222). -/
def execDestroy (port : Sys2Proof.AlmPort) (bytes : List Byte) (s : State) : Host.Outcome State Fault Refusal :=
  s.onAlmanac (fun d => d.almRow 9 port bytes none)

/-- QUERY (R220). -/
def execQuery (port : Sys2Proof.AlmPort) (bytes : List Byte) (s : State) : Host.Outcome State Fault Refusal :=
  s.onAlmanac (fun d => d.almRow 10 port bytes none)

/-- UNIT_CFG (R222). -/
def execUnitCfg (port : Sys2Proof.AlmPort) (bytes : List Byte) (s : State) : Host.Outcome State Fault Refusal :=
  s.onAlmanac (fun d => d.almRow 11 port bytes none)

/-! ### Timers and spill -/

/-- TIMER_FIRE (R228): the first timer that is due; none where none is. -/
def execTimerFire (s : State) : Host.Outcome State Fault Refusal :=
  s.onAlmanac (fun d => match firstDue d.time.tick d.alm.timers with | some t => d.fireTimer t | none => d)

/-- TIMER_REFILL_SWEEP (R244): every 256 ticks, spilled timers within 2,048 ticks of expiry come back on chip. -/
def execTimerRefillSweep (s : State) : Host.Outcome State Fault Refusal :=
  s.onAlmanac (fun d =>
    if d.time.tick.toNat % 256 ≠ 0 then d
    else d.onAlm (fun a => { a with timers := a.timers.map (fun t =>
      if tickPast d.time.tick t.expiry || decide ((t.expiry - d.time.tick).toNat ≤ 2048) then { t with spilled := false } else t) }))

/-- The class C records of a list that are spilled, in order, at most one segment of 64. -/
def Dev.spilledReady (d : Dev) (pool cluster : Nat) : List Word :=
  (((d.readyList pool 2).filter (fun j => j.inList pool cluster && !j.chip)).take 64).map (fun j => j.id)

/-- SEGMENT_REFILL (R244): where fewer than 128 are on chip, the next segment of 64 comes back. -/
def execSegmentRefill (place : Sys2Proof.SpillPlace) (s : State) : Host.Outcome State Fault Refusal :=
  s.onAlmanac (fun d =>
    match place with
    | .queue id => d.onAlm (fun a => a.updQueue id (fun q => if q.chip < 128 then q.refill else q))
    | .ready pool cluster =>
      if 128 ≤ ((d.readyList pool 2).filter (fun j => j.inList pool cluster && j.chip)).length then d
      else
        let ids := d.spilledReady pool cluster
        d.onAlm (fun a => { a with jobs := a.jobs.map (fun j => if ids.contains j.id then { j with chip := true } else j) }))

/-- A lost record's health event (R245). -/
def Dev.almLost (d : Dev) (cell : Nat) (id : Word) : Dev := d.healthEvent { hkind := 0x0044, cell := cell, addr := id.toNat }

/-- A job whose record is lost completes with these flags; the engine that ran it goes on with its next (R245). A PENDING one completes
when it takes effect. -/
def Dev.loseRecord (d : Dev) (j : Job) (flags : Nat) : Dev :=
  if j.st = .pending then d.onAlm (fun a => a.updJob j.id (fun x => { x with lost := true }))
  else
    let d1 := match d.alm.deliveries.find? (fun x => x.job == j.id) with | some x => d.withdraw x false | none => d
    let d2 := d1.endJob j.id flags
    if j.st = .dispatched ∧ j.pool ≠ 1 then d2.startNext j.pool j.runat else d2

/-- A job whose record is lost completes with LOST and SKIP and is released in its order (R245). -/
def Dev.loseJob (d : Dev) (id : Word) : Dev :=
  match d.alm.job? id with
  | none => d
  | some j => (d.loseRecord j (64 + 2)).almLost (if j.cls < 3 then j.cell else 0xFFFF) id

/-- Every job linked to a freed queue or procession completes with LOST. -/
def Dev.loseLinked (d : Dev) (id : Word) : Dev :=
  (d.alm.jobs.filter (fun j => j.link == id)).foldl (fun d j => d.loseRecord j 64) d

/-- RECORD_ECC_ERROR (R245), by the kind of record. -/
def execRecordEccError (what : Sys2Proof.LostRecord) (s : State) : Host.Outcome State Fault Refusal :=
  s.onAlmanac (fun d =>
    match what with
    | .entries q first count =>
      match d.alm.queue? q with
      | none => d
      | some x =>
        let n := Nat.min count (x.entries.length - first)
        (d.onAlm (fun a => (a.updQueue q (fun x =>
          { x with entries := x.entries.take first ++ x.entries.drop (first + n)
                   chip := Nat.min x.chip (x.entries.length - n)
                   overrun := if 2 ^ 32 ≤ x.overrun.toNat + n then 0xFFFFFFFF else x.overrun + BitVec.ofNat 32 n })).sweep)).almLost
          0xFFFF q
    | .object id =>
      match d.alm.job? id, d.alm.timer? id with
      | some _, _ => d.loseJob id
      | none, some t => (d.fireTimer t).almLost 0xFFFF id
      | none, none =>
        if (d.alm.queue? id).isSome then
          let d1 := d.onAlm (fun a => { a with queues := a.queues.filter (fun q => q.id != id) })
          (d1.loseLinked id).almLost 0xFFFF id
        else if (d.alm.proc? id).isSome then
          let d1 := d.loseLinked id
          (d1.onAlm (fun a => { a with procs := a.procs.filter (fun p => p.id != id) })).almLost 0xFFFF id
        else d)

/-! ### Dispatch and completion -/

/-- DISPATCH (R231, R233, R237): the first job of a pool's lists that a unit can take goes to it. Signal cores have one
pool for each cluster. -/
def execDispatch (pool cluster : Nat) (s : State) : Host.Outcome State Fault Refusal :=
  s.onAlmanac (fun d =>
    match d.nextDispatch pool (if pool = 1 then some cluster else none) with
    | some (j, u) => d.dispatchTo j u
    | none => d)

/-- Whether a unit is one that could take a job once its domain runs (R230, R233). -/
def Dev.couldTake (d : Dev) (j : Job) (u : Nat) : Bool :=
  let p := d.alm.pool[unitIdx j.pool u]
  d.present j.pool u && !p.leaving && !p.failing && d.coreTakes j u

/-- Whether a ready job waits for a unit that is stopped (R233): it has waited 1 tick, the units that could take it are all in Stop
with no request under way, and this is one of them. -/
def Dev.waitsFor (d : Dev) (c u : Nat) (j : Job) : Bool :=
  let could := (d.matching j none).filter (d.couldTake j)
  j.st == .ready && j.pool == c && decide (1 ≤ (d.time.tick - j.readyAt).toNat) && could.contains u
    && could.all (fun v => (d.dom (unitDomain c v)).st == .stop && (d.dom (unitDomain c v)).cur.isNone)

/-- WAKE_POST (R233): a wake request for a stopped unit that a ready job needs, at most one outstanding for it. -/
def execWakePost (c u : Nat) (s : State) : Host.Outcome State Fault Refusal :=
  s.onAlmanac (fun d =>
    if d.alm.jobs.any (d.waitsFor c u) then d.domImplicit (unitDomain c u) true .almanac else d)

/-- PTO_EXPIRY (R238): a PREEMPT that its core has not entered within PTO ticks is withdrawn; the core is excluded. -/
def execPtoExpiry (k : Fin 128) (s : State) : Host.Outcome State Fault Refusal :=
  s.onAlmanac (fun d =>
    match d.alm.deliveries.find? (fun x => x.core == k.val && x.preempt) with
    | none => d
    | some x =>
      if (d.time.tick - x.tick).toNat < d.cfg.pto then d
      else
        let d1 := (d.withdraw x true).onAlm (fun a => { a with ptoExpiries := a.ptoExpiries + 1 })
        d1.healthEvent { hkind := 0x0042, action := 1, cls := 1, slot := k.val, domain := 0x100 + k.val })

/-- JOB_COMPLETION (R239): the oldest completion a unit has reported, a core's by DONE. -/
def execJobCompletion (pool u : Nat) (s : State) : Host.Outcome State Fault Refusal :=
  s.onAlmanac (fun d =>
    if pool = 1 then
      match (d.core u).doneOut with
      | [] => d
      | (id, status) :: rest => (d.updCore u (fun c => { c with doneOut := rest })).completeJob 1 u id status
    else
      match d.alm.reports.find? (fun r => r.pool == pool && r.slot == u) with
      | none => d
      | some r => (d.onAlm (fun a => { a with reports := a.reports.erase r })).completeJob pool u r.job r.status)

/-- STUCK_HEAD_SKIP (R242): the head of a procession has stayed unreleased for STUCK_TO ticks. -/
def execStuckHeadSkip (id : Word) (s : State) : Host.Outcome State Fault Refusal :=
  s.onAlmanac (fun d =>
    match d.alm.proc? id with
    | none => d
    | some p =>
      if p.stuckTo ≠ 0 ∧ p.headSeq ≠ p.nextSeq ∧ p.stuckTo.toNat ≤ (d.time.tick - p.headSince).toNat then d.skipHead id else d)

/-! ### Units -/

/-- UNIT_FAULT (R247, R161, R185, R542): F1 and F2, and the unit's targeted self-test. -/
def execUnitFault (c u : Nat) (cause : Sys2Proof.FaultCause) (s : State) : Host.Outcome State Fault Refusal :=
  s.onAlmanac (fun d =>
    if !d.present c u then d
    else
      let kind := match cause with | .consistency => 0x0015 | .internalEcc => 0x0011 | .watchdog => 0x0017
      let d1 := ((if 14 ≤ c then d else d.failUnit c u)).unitError kind c u 0 true 0
      (if neverRetired c u && !d1.testable (c, u) then d1.loseAon u else d1).startTests)

/-- DRAINED (R247, L4). -/
def execDrained (c u : Nat) (s : State) : Host.Outcome State Fault Refusal :=
  s.onAlmanac (fun d => d.domDrain (unitDomain c u))

end Sys2Proof.Machine
end

