-- ==== Sys2Proof/Machine/Sequences.lean ====
section
/-! DEFINITION. The sequences and constellations of the 3GPP texts that the spec names (TS 38.211 §5.1, §5.2, §6.4.1, §7.4;
TS 36.211 §5.5, §5.7, §6.11): their formulas are taken from there (PRESUMED, log entry 47), their tables stay free. -/

namespace Sys2Proof.Machine

/-! ### Gold sequences and m-sequences -/

/-- One step of the first m-sequence of the Gold sequence (TS 38.211 §5.2.1); bit i of the state is x(n + i). -/
def goldX1 (s : Nat) : Nat := s / 2 + boolNat (bitAt s 0 != bitAt s 3) * 2 ^ 30

/-- One step of the second. -/
def goldX2 (s : Nat) : Nat := s / 2 + boolNat ((bitAt s 0 != bitAt s 1) != (bitAt s 2 != bitAt s 3)) * 2 ^ 30

/-- `n` steps of a sequence. -/
def stepsOf (f : Nat → Nat) : Nat → Nat → Nat
  | 0, s => s
  | n + 1, s => stepsOf f n (f s)

/-- `n` bits of the Gold sequence from two states. -/
def goldRun : Nat → Nat → Nat → List Bool
  | 0, _, _ => []
  | n + 1, a, b => (bitAt a 0 != bitAt b 0) :: goldRun n (goldX1 a) (goldX2 b)

/-- c(from) … c(from + n - 1) for an initial value. -/
def goldBits (cinit start n : Nat) : List Bool :=
  goldRun n (stepsOf goldX1 (1600 + start) 1) (stepsOf goldX2 (1600 + start) (cinit % 2 ^ 31))

/-- Bit n of the m-sequence of a register of `w` bits: x(i + w) is the parity of the taps of x(i) …, the state's bit k is
x(i + k). -/
def mSeq (w taps init n : Nat) : Bool :=
  bitAt (stepsOf (fun s => s / 2 + (List.range w).foldl (fun p k => (p + boolNat (bitAt taps k && bitAt s k)) % 2) 0 * 2 ^ (w - 1))
    n init) 0

/-- 1 for a 0 and -1 for a 1. -/
def bpsk (b : Bool) : Int := if b then -1 else 1

/-! ### Constellations (TS 38.211 §5.1) -/

/-- A coordinate of a constellation point before its norm, from the bits of its axis (TS 38.211 §5.1). -/
def axis : List Bool → Int
  | [] => 1
  | [b] => if b then -1 else 1
  | b :: rest => (if b then -1 else 1) * ((2 ^ rest.length : Nat) - axis rest)

/-- The mean power of the points of a modulation order before their norm. -/
def pointNorm (qm : Nat) : Nat := match qm with | 4 => 10 | 6 => 42 | 8 => 170 | 10 => 682 | _ => 2

/-- The two coordinates of a symbol of QM bits. -/
def pointOf (qm : Nat) (bits : List Bool) : Int × Int :=
  if qm = 1 then (axis (bits.take 1), axis (bits.take 1))
  else
    let pick := fun (k : Nat) => (List.range (qm / 2)).map (fun i => bits.getD (2 * i + k) false)
    (axis (pick 0), axis (pick 1))

/-! ### Synchronisation signals -/

/-- Element n of the NR primary signal of N_ID2 (TS 38.211 §7.4.2.2). -/
def nrPss (id2 n : Nat) : Int := bpsk (mSeq 7 0x11 0x76 ((n + 43 * id2) % 127))

/-- Element n of the NR secondary signal (TS 38.211 §7.4.2.3). -/
def nrSss (id1 id2 n : Nat) : Int :=
  bpsk (mSeq 7 0x11 1 ((n + 15 * (id1 / 112) + 5 * id2) % 127)) * bpsk (mSeq 7 3 1 ((n + id1 % 112) % 127))

/-- The phase of element n of the LTE primary signal (TS 36.211 §6.11.1.1). -/
def ltePss (id2 n : Nat) : Phase :=
  let u := match id2 with | 0 => 25 | 1 => 29 | _ => 34
  (⟨u * (if n ≤ 30 then n * (n + 1) else (n + 1) * (n + 2)) % 126, 126⟩ : Phase).neg

/-- Element n of the LTE secondary signal, in subframe 0 or 5 (TS 36.211 §6.11.2.1). -/
def lteSss (id1 id2 : Nat) (second : Bool) (n : Nat) : Int :=
  let q' := id1 / 30
  let q := (id1 + q' * (q' + 1) / 2) / 30
  let m' := id1 + q * (q + 1) / 2
  let m0 := m' % 31
  let m1 := (m0 + m' / 31 + 1) % 31
  let s := fun (k : Nat) => bpsk (mSeq 5 0x05 16 (k % 31))
  let c := fun (k : Nat) => bpsk (mSeq 5 0x09 16 (k % 31))
  let z := fun (k : Nat) => bpsk (mSeq 5 0x17 16 (k % 31))
  let i := n / 2
  let a := if second then m1 else m0
  let b := if second then m0 else m1
  if n % 2 = 0 then s (i + a) * c (i + id2) else s (i + b) * c (i + id2 + 3) * z (i + a % 8)

/-! ### Low-PAPR and Zadoff–Chu sequences -/

/-- The largest prime below a number. -/
def primeBelow (m : Nat) : Nat :=
  ((List.range m).reverse.find? (fun p => decide (2 ≤ p) && (List.range (Nat.sqrt p + 1)).all (fun d => decide (d < 2) || p % d != 0))).getD 2

/-- The phase of element n of the low-PAPR base sequence of group u, number v and length m (TS 38.211 §5.2.2, TS 36.211
§5.5.1): Zadoff–Chu from 36 on, a formula at 30, and a free table below. -/
def baseSeq (m u v n : Nat) : Phase :=
  if m < 30 then ⟨2 * (Sys2Proof.Config.lowPapr m u n).val + 1, 8⟩
  else if m < 36 then (⟨(u + 1) * (n + 1) * (n + 2) % 62, 62⟩ : Phase).neg
  else
    let z := primeBelow m
    let q0 := (2 * z * (u + 1) + 31) / 62
    let q := if v = 0 then q0 else if 2 * z * (u + 1) / 31 % 2 = 0 then q0 + 1 else q0 - 1
    let k := n % z
    (⟨q * k * (k + 1) % (2 * z), 2 * z⟩ : Phase).neg

/-- The sum of two phases. -/
def Phase.add (a b : Phase) : Phase := ⟨(a.num * b.den + b.num * a.den) % (a.den * b.den), a.den * b.den⟩

end Sys2Proof.Machine
end

