-- ==== Sys2Proof/Machine/Band.lean ====
section
/-! DEFINITION. PRACH, SRS and the GSM band stream (05_transform_and_equaliser.md, R132 to R134, Table 5.5). Values inside a
stage are exact, and are rounded where Table 5.1 names a format (DEDUCED, log entry 41). -/

namespace Sys2Proof.Machine

/-! ### PRACH (R132) -/

/-- Whether a format code (Table 5.5, its place in the list of Table 5.2) has L = 839. -/
def prachLong (code : Nat) : Bool := decide (code < 4) || decide (13 ≤ code ∧ code < 17)

/-- The duration of a preamble's symbol in Tc: 1 / 1.25 kHz, 1 / 5 kHz for format 3, 1 / 7.5 kHz for LTE format 4, and one over
the cell's subcarrier spacing for the short NR formats (TS 38.211 §6.3.3, TS 36.211 §5.7). -/
def prachTc (code mu : Nat) : Nat :=
  if code = 3 then 393216 else if prachLong code then 1572864 else if code = 17 then 262144 else 131072 / 2 ^ mu

/-- The inverse of u modulo a prime. -/
def invMod (u l : Nat) : Nat := ((List.range l).find? (fun w => u * w % l == 1)).getD 0

/-- The received values of a container times the conjugate of root u, but for the root's constant phase: its transform at n is
the conjugate of its element n / u (TS 38.211 §6.3.3.1; PRESUMED, log entry 47). -/
def rootProduct (l u : Nat) (xs : List Dyad) : List Dyad :=
  let inv := invMod (u % l) l
  xs.zipIdx.map (fun x =>
    let w := inv * x.2 % l
    x.1.turn (⟨u * w * (w + 1) % (2 * l), 2 * l⟩ : Phase).neg)

/-- The power-delay profile of a root over its containers: squared magnitudes of the inverse transforms, added. -/
def prachProfile (l npdp u : Nat) (containers : List (List Dyad)) : List Dyad :=
  containers.foldl (fun (sum : List Dyad) xs =>
    let y := dyTransform true npdp (rootProduct l u xs ++ List.replicate (npdp - l) dyZero)
    (sum.zip y).map (fun p => p.1.add p.2.abs2)) (List.replicate npdp dyZero)

/-- The bins of the window of cyclic shift v: `width` bins from the one that a preamble without delay falls on. -/
def prachWindow (l npdp ncs v : Nat) : List Nat :=
  if ncs = 0 then List.range npdp
  else
    let start := (l - v * ncs % l) % l * npdp / l
    (List.range (ncs * npdp / l)).map (fun i => (start + i) % npdp)

/-- The powers of a profile as integers of one unit. -/
def sameUnit (xs : List Dyad) : List Nat :=
  let u := xs.foldl (fun m x => min m x.u) 0
  xs.map (fun x => (x.parts u).1.toNat)

/-- The windows that hold a detection: a peak above THR / 256 times the mean of the profile outside all of them. The set is
found by starting from none, as often as there are windows (DEDUCED, log entry 41). -/
def prachFound (pdp : Array Nat) (windows : List (List Nat)) (thr : Nat) : List Nat × Nat × Nat :=
  let floorOf := fun (det : List Nat) =>
    let inside := det.flatMap (fun v => windows.getD v [])
    let out := (List.range pdp.size).filter (fun t => !inside.contains t)
    ((out.map (fun t => pdp.getD t 0)).sum, out.length)
  let next := fun (det : List Nat) =>
    let f := floorOf det
    (List.range windows.length).filter (fun v =>
      let peak := (windows.getD v []).foldl (fun m t => Nat.max m (pdp.getD t 0)) 0
      decide (thr * f.1 < peak * 256 * Nat.max 1 f.2))
  let det := (List.range (windows.length + 1)).foldl (fun det _ => next det) []
  (det, floorOf det)

/-- The records of a root: preamble index, peak-to-floor ratio in 0.25 dB, delay in Tc. -/
def prachRoot (l npdp ncs thr tc first u : Nat) (containers : List (List Dyad)) : List (Nat × Nat × Nat) :=
  let pdp := (sameUnit (prachProfile l npdp u containers)).toArray
  let shifts := if ncs = 0 then 1 else l / ncs
  let windows := (List.range shifts).map (prachWindow l npdp ncs)
  let f := prachFound pdp windows thr
  f.1.map (fun v =>
    let best := (windows.getD v []).zipIdx.foldl (fun (b : Nat × Nat) t => if b.1 < pdp.getD t.1 0 then (pdp.getD t.1 0, t.2) else b) (0, 0)
    (first + v, (log10Units 40 1024 (best.1 * f.2.2) f.2.1).toNat, best.2 * tc / npdp))

/-- The records of a PRACH job (R132): its roots in the order of their logical indices, their shifts in turn. -/
def prachAll (pb : List Byte) (l mu : Nat) (containers : List (List Dyad)) : List (Nat × Nat × Nat) :=
  let npdp := if l = 839 then 1024 else 256
  let ncs := pf pb 4 2
  let shifts := if ncs = 0 then 1 else l / ncs
  (List.range (pf pb 7 1)).flatMap (fun i =>
    prachRoot l npdp ncs (pf pb 8 2) (prachTc (pf pb 0 1) mu) (i * shifts)
      (Sys2Proof.Config.prachRoot (l == 839) ((pf pb 2 2 + i) % (l - 1)) % l) containers)

/-- The detection records (R132): at most 64, by ascending preamble index, and the terminator. -/
def prachRecords (xs : List (Nat × Nat × Nat)) (preambles : Nat) : List Byte :=
  ((xs.filter (fun x => decide (x.1 < preambles))).take 64).flatMap (fun x =>
    bytesOf 1 x.1 ++ bytesOf 1 (Nat.min 255 x.2.1) ++ bytesOf 3 x.2.2 ++ bytesOf 3 0) ++ List.replicate 8 0xFF

/-! ### SRS (R133) -/

/-- The comb offset and the cyclic shift of a port (TS 38.211 §6.4.1.4, TS 36.211 §5.5.3; PRESUMED, log entry 47). -/
def srsPort (pb : List Byte) (p : Nat) : Nat × Phase :=
  let comb := pf pb 1 1
  let top := match comb with | 2 => 8 | 4 => 12 | _ => 6
  let cs := pf pb 10 1
  let off := pf pb 11 1
  (if pf pb 0 1 = 4 ∧ p % 2 = 1 ∧ top / 2 ≤ cs then (off + comb / 2) % comb else off % comb,
    ⟨(cs + top * p / Nat.max 1 (pf pb 0 1)) % top, top⟩)

/-- The coefficients of a port from the containers of one stream, one a symbol: the mean over a group of PRBs of the received
values times the conjugate of the port's sequence. -/
def srsCoefs (pb : List Byte) (p : Nat) (symbols : List (List Dyad)) : List Dyad :=
  let comb := Nat.max 1 (pf pb 1 1)
  let nprb := pf pb 6 2
  let grp := Nat.max 1 (pf pb 3 1)
  let port := srsPort pb p
  let m := 12 * nprb / comb
  let per := 12 * grp / comb
  let arrays := symbols.map (fun s => s.toArray)
  (List.range (nprb / grp)).map (fun g =>
    let els := (List.range per).flatMap (fun i =>
      let n := g * per + i
      let ph := (baseSeq m (pf pb 8 2 % 30) 0 n).add ⟨port.2.num * n % port.2.den, port.2.den⟩
      arrays.map (fun a => (a.getD (comb * n + port.1) dyZero).turn ph.neg))
    (dySum els).per els.length)

/-- The report (R133): coefficients and exponent of every port and stream, then the SINR of every port, which is free. -/
def srsReport (pb : List Byte) (containers : List (List (List Dyad))) : List Byte × Int :=
  let ports := List.range (pf pb 0 1)
  let blocks := ports.flatMap (fun p => containers.map (fun s => fitBlock 16 (srsCoefs pb p s)))
  (blocks.flatMap (fun b => sampleBytes b.1 ++ bytesOf 4 ((BitVec.ofInt 8 b.2).toNat))
      ++ ports.flatMap (fun p => bytesOf 2 (Sys2Proof.Config.srsSinr pb containers.length p).toNat),
    (blocks.getLast?.map (fun b => b.2)).getD 0)

/-! ### The GSM band stream (R134) -/

/-- Samples of a GSM timeslot of a carrier: 313 where its number in the frame is even, 312 where it is odd (R134, R207). -/
def slotSamples (tn : Nat) : Nat := 313 - tn % 2

/-- The samples of a carrier before timeslot `t` of a job that begins at timeslot `tn`. -/
def samplesBefore (tn t : Nat) : Nat := ((List.range t).map (fun i => slotSamples (tn + i))).sum

/-- The place of a carrier's sample in the band stream, 16 band samples apart: an odd timeslot begins half a sample before its
first sample (DEDUCED, log entry 41). -/
def bandPlace (tn m : Nat) : Int := 16 * (m : Int) + 8 * ((tn % 2 : Nat) : Int)

/-- The coefficients of the filter (R134): of the parameter block, or the built-in ones, which are free. -/
def bandTaps (builtIn : Bool) (pb : List Byte) : List Int :=
  (List.range 64).map (fun i => if builtIn then (Sys2Proof.Config.gmskTap i).toInt else signedOf 16 (pf pb (48 + 2 * i) 2))

/-- The turn of a carrier's offset at a band sample: k × 200 kHz at 26/3 Ms/s. -/
def carrierPhase (k n : Int) : Phase := ⟨(3 * k * n % 130).toNat, 130⟩

/-- The band stream filtered at one place for one carrier: the carrier's offset removed, the taps on the last 64 samples; what
lies outside the job's input is 0. -/
def chanSample (taps : List Int) (k : Int) (band : Array (Int × Int)) (at_ : Int) : Dyad :=
  dySum (taps.zipIdx.filterMap (fun h =>
    let n := at_ - (h.2 : Int)
    if 0 ≤ n ∧ n < band.size then
      let x := band.getD n.toNat (0, 0)
      some ((⟨x.1 * h.1, x.2 * h.1, -30⟩ : Dyad).turn (carrierPhase k n).neg)
    else none))

/-- One timeslot of every carrier (R134): 16-bit parts with one exponent. -/
def chanSlot (taps : List Int) (ks : List Int) (band : Array (Int × Int)) (tn t : Nat) : List (Int × Int) × Int :=
  fitBlock 16 (ks.flatMap (fun k => (List.range (slotSamples (tn + t))).map (fun m =>
    chanSample taps k band (bandPlace tn (samplesBefore tn t + m)))))

/-- One sample of the band stream from the carriers' samples (R134): interpolation by 16, each carrier at its offset. -/
def synthSample (taps : Array Int) (ks : List Int) (carriers : List (Array (Int × Int))) (tn : Nat) (n : Nat) : Dyad :=
  dySum ((ks.zip carriers).map (fun c =>
    let first := ((n : Int) - 8 * ((tn % 2 : Nat) : Int)) / 16
    (dySum ((List.range 4).filterMap (fun i =>
      let m := first - (i : Int)
      if 0 ≤ m ∧ m < c.2.size then
        let h := taps.getD ((n : Int) - bandPlace tn m.toNat).toNat 0
        let x := c.2.getD m.toNat (0, 0)
        some ⟨x.1 * h, x.2 * h, -30⟩
      else none))).turn (carrierPhase c.1 n)))

/-- One timeslot of the band stream in 18-bit parts with its exponent. -/
def synthSlot (taps : List Int) (ks : List Int) (carriers : List (Array (Int × Int))) (tn t : Nat) : List (Int × Int) × Int :=
  fitBlock 18 ((List.range 5000).map (fun i => synthSample taps.toArray ks carriers tn (5000 * t + i)))

end Sys2Proof.Machine
end

