-- ==== Sys2Proof/Machine/Engines.lean ====
section
/-! DEFINITION. What every accelerator engine does around a job: which job it completes, how it reads and writes memory, its
result code and its report to Almanac (05_transform_and_equaliser.md, R125, R136; 06_ldpc_and_polar.md, R151, R161). -/

namespace Sys2Proof.Machine

/-- The NI of an engine (Table 10.1). -/
def engineNi (pool u : Nat) : Nat :=
  128 + u + (match pool with | 4 => 16 | 5 => 32 | 6 => 44 | 7 => 48 | 8 => 52 | 9 => 56 | _ => 0)

/-- The job an engine can complete now: it has started one, and runs or drains. -/
def Dev.engineJob (d : Dev) (pool u : Nat) : Option Job :=
  if d.launched && d.unitWorks pool u then d.running? pool u else none

/-- The bytes of a range with those of bad code words read as 0. -/
def Memory.goodBytes (m : Memory) (a n : Nat) : List Byte :=
  (List.range n).map (fun i => if m.poison.contains (codeWordOf (a + i)) then 0 else m.ifByte (a + i))

/-- An input range as an engine reads it, and whether some of it was bad: an access that is refused reads 0 (R314). -/
def Dev.engIn (d : Dev) (ni a n : Nat) : List Byte × Bool :=
  if n = 0 then ([], false)
  else if d.reach ni ni a n ≠ 0 then (List.replicate n 0, true)
  else (d.mem.goodBytes a n, d.mem.poisoned a n)

/-- A range as an engine reads it, with its bad bytes by place. -/
def Dev.engBad (d : Dev) (ni a n : Nat) : Nat → Bool := fun i =>
  decide (i < n) && (d.reach ni ni a n != 0 || d.mem.poison.contains (codeWordOf (a + i)))

/-- An output range is written, unless the target refuses it. -/
def Dev.engOut (d : Dev) (ni a : Nat) (bs : List Byte) : Dev :=
  if bs.isEmpty || d.reach ni ni a bs.length != 0 then d else { d with mem := d.mem.ifWrite a bs }

/-- Whether ranges lie in the device map; an empty range does. -/
def rangesMapped (rs : List (Nat × Nat)) : Bool := rs.all (fun r => r.2 == 0 || oneRegion r.1 r.2)

/-- RESULT (Table 5.7): BAD_DESC and BAD_ADDR first, then INPUT_ECC, then counts. -/
def engResult (badDesc badAddr ecc counted : Bool) : Nat :=
  if badDesc then 0x10 else if badAddr then 0x11 else if ecc then 0x12 else if counted then 1 else 0

/-- The job's report once its status word is written (R136): the completion status is the word's low byte. -/
def Dev.engReport (d : Dev) (pool u : Nat) (j : Job) (result : Nat) : Dev :=
  d.report pool u j.id (BitVec.ofNat 32 result)

/-- DONE_TICK. -/
def Dev.doneTick (d : Dev) : List Byte := bytesOf 4 (d.time.tick.toNat % 2 ^ 32)

/-- A descriptor of `n` bytes as an engine reads it: the device's copy, where a plan brought it (R415). -/
def Dev.descOf (d : Dev) (pool u : Nat) (j : Job) (n : Nat) : List Byte :=
  if j.copy.isEmpty then (d.engIn (engineNi pool u) j.desc.toNat n).1 else padTo n j.copy

/-- A consistency error or an uncorrectable internal error of an engine (R161, R542): its job is abandoned without a
status word and dispatched again, and the engine's test starts. -/
def Dev.engineFault (d : Dev) (pool u kind : Nat) : Dev := ((d.failUnit pool u).unitError kind pool u 0 true 0).startTests

/-- A row of an engine: `f` on the job it runs, where that job's MODE is the row's (`own`). -/
def State.onEngine (s : State) (pool u : Nat) (own : Dev → Job → Bool) (f : Dev → Job → Dev) : Host.Outcome State Fault Refusal :=
  s.on (fun d => match d.engineJob pool u with
    | some j => if own d j then f d j else d
    | none => d)

end Sys2Proof.Machine
end

