-- ==== Sys2Proof/Machine/Transform.lean ====
section
/-! DEFINITION. The transform engines (05_transform_and_equaliser.md, R126 to R137). -/

namespace Sys2Proof.Machine

/-! ### Descriptors (Tables 5.4, 5.5) -/

/-- A transform descriptor's fields. -/
structure TxDesc where
  mode : Nat
  flags : Nat
  n : Nat
  ncp : Nat
  nocc : Nat
  count : Nat
  efix : Int
  src : Nat
  dst : Nat
  stat : Nat
  pblk : Nat
deriving DecidableEq, Repr

/-- Table 5.4. -/
def txDesc (b : List Byte) : TxDesc :=
  { mode := pf b 0 1, flags := pf b 1 1, n := pf b 2 2, ncp := pf b 4 2, nocc := pf b 6 2, count := pf b 8 2
    efix := signedOf 8 (pf b 10 1), src := pf b 16 8, dst := pf b 24 8, stat := pf b 32 8, pblk := pf b 40 8 }

/-- INFD16. -/
def TxDesc.inFd16 (t : TxDesc) : Bool := bitAt t.flags 3 || t.mode == 3
/-- FIXEXP, which OFDM_TX and SYNTH take (R131). -/
def TxDesc.fix (t : TxDesc) : Option Int := if bitAt t.flags 2 ∧ (t.mode = 6 ∨ t.mode = 10) then some t.efix else none
/-- DC is skipped. -/
def TxDesc.dc (t : TxDesc) : Nat := boolNat (bitAt t.flags 1)

/-- Size of the parameter block of a mode. -/
def pblkSize (mode : Nat) : Nat := match mode with | 7 => 16 | 8 => 16 | 9 => 176 | 10 => 176 | _ => 0

/-- Bytes of one container of PRACH or SRS: a BFP9 body, or FD16 under INFD16. -/
def TxDesc.bodyLen (t : TxDesc) (n : Nat) : Nat := Sys2Proof.Machine.bodyLen (bitAt t.flags 3) n

/-- Containers of a PRACH job: its repetitions of its streams. -/
def prachContainers (t : TxDesc) (pb : List Byte) : Nat := t.count * pf pb 6 1 * pf pb 1 1

/-- Symbols of an SRS job's stream. -/
def srsSymbols (t : TxDesc) (pb : List Byte) : Nat := t.count * pf pb 2 1

/-- Bytes of the input of a job that begins at timeslot `tn`, by block for the block modes and whole for the others (Tables
5.2, 5.5; log entry 41). -/
def TxDesc.inSize (t : TxDesc) (pb : List Byte) (tn : Nat) : Nat :=
  match t.mode with
  | 5 => 4 * (t.n + t.ncp)
  | 6 => if t.inFd16 then 52 * ceilDiv t.nocc 12 else 4 * t.nocc
  | 7 => prachContainers t pb * t.bodyLen t.nocc
  | 8 => pf pb 12 1 * srsSymbols t pb * t.bodyLen (12 * pf pb 6 2)
  | 9 => t.count * 20000
  | 10 => pf pb 0 1 * 4 * samplesBefore tn t.count
  | _ => if t.inFd16 then 52 * ceilDiv t.n 12 else 4 * t.n

/-- Bytes of the output of a job, by block or whole. -/
def TxDesc.outSize (t : TxDesc) (pb : List Byte) (tn : Nat) : Nat :=
  match t.mode with
  | 3 => 52 * ceilDiv t.n 12
  | 5 => 52 * ceilDiv t.nocc 12
  | 6 => 4 * (t.n + t.ncp)
  | 7 => 8 * 65
  | 8 => pf pb 0 1 * pf pb 12 1 * (4 * (pf pb 6 2 / Nat.max 1 (pf pb 3 1)) + 4) + 2 * pf pb 0 1
  | 9 => 8 * t.count + pf pb 0 1 * 4 * samplesBefore tn t.count
  | 10 => t.count * 20000
  | _ => 4 * t.n

/-- Modes that work block by block. -/
def TxDesc.blockwise (t : TxDesc) : Bool := t.mode == 1 || t.mode == 2 || t.mode == 3 || t.mode == 5 || t.mode == 6

/-- Whether a parameter block is out of range (Table 5.5). -/
def pblkBad (mode : Nat) (pb : List Byte) : Bool :=
  match mode with
  | 7 => decide (17 < pf pb 0 1) || pf pb 1 1 == 0 || decide (32 < pf pb 1 1) || pf pb 7 1 == 0 || decide (64 < pf pb 7 1)
      || pf pb 10 1 == 0 || decide (64 < pf pb 10 1) || pf pb 11 5 != 0 || pf pb 6 1 == 0
  | 8 => !([1, 2, 4].contains (pf pb 0 1)) || !([2, 4, 8].contains (pf pb 1 1)) || !([1, 2, 4].contains (pf pb 2 1))
      || !([1, 2, 4].contains (pf pb 3 1)) || pf pb 6 2 == 0 || decide (272 < pf pb 6 2) || pf pb 13 3 != 0 || pf pb 12 1 == 0
      || decide (32 < pf pb 12 1)
  | 9 | 10 => pf pb 0 1 == 0 || decide (40 < pf pb 0 1) || pf pb 1 3 != 0 || pf pb 44 4 != 0
      || (List.range (pf pb 0 1)).any (fun i => let k := signedOf 8 (pf pb (4 + i) 1); decide (k < -20 ∨ 20 < k))
  | _ => false

/-- BAD_DESC (R128, R129, R135). -/
def TxDesc.bad (t : TxDesc) (pb : List Byte) : Bool :=
  !([1, 2, 3, 5, 6, 7, 8, 9, 10].contains t.mode) || decide (32 ≤ t.flags) || t.count == 0 || decide (64 < t.count)
    || (t.mode != 9 && t.mode != 10 && !sizeOk t.n)
    || (t.mode == 3 && (t.nocc != t.n || t.n % 12 != 0))
    || ((t.mode == 5 || t.mode == 6) && (!([128, 256, 512, 1024, 1536, 2048].contains t.n) || t.nocc == 0
          || t.nocc % 2 != 0 || decide (t.n < t.nocc + t.dc)))
    || (t.mode == 7 && t.nocc != 839 && t.nocc != 139)
    || (decide (0 < pblkSize t.mode) && (t.pblk == 0 || pblkBad t.mode pb))

/-! ### One block -/

/-- The bin of occupied subcarrier `i` (Table 5.2): the lower half below DC, the upper half from bin 0, or 1 where DC is
skipped. -/
def occBin (t : TxDesc) (i : Nat) : Nat :=
  if i < t.nocc / 2 then t.n - t.nocc / 2 + i else i - t.nocc / 2 + t.dc

/-- The half-subcarrier shift of the uplink (Table 5.2, TS 36.211 §5.6): sample n turned back by n / 2N of a turn, held in 18-bit
parts. -/
def halfShift (n : Nat) (xs : List (Int × Int)) (e : Int) : List (Int × Int) × Int :=
  fitBlock 18 ((blockDyads 18 (xs, e)).zipIdx.map (fun x => x.1.turn (⟨x.2, 2 * n⟩ : Phase).neg))

/-- One block of a block mode: its output, exponent, shifts and saturated parts. -/
def txBlock (t : TxDesc) (bs : List Byte) : List Byte × Int × Nat × Nat :=
  let inv := t.mode != 1 && t.mode != 5
  let input : List (Int × Int) × Int :=
    if t.mode = 5 then
      let x := (samplesOf bs (t.n + t.ncp)).drop t.ncp
      if bitAt t.flags 0 then halfShift t.n x Sys2Proof.Config.plainExp else (x, Sys2Proof.Config.plainExp)
    else if t.mode = 6 then
      let occ := if t.inFd16 then fd16Of bs t.nocc else (samplesOf bs t.nocc, Sys2Proof.Config.plainExp)
      ((List.range t.n).map (fun b =>
        match (List.range t.nocc).find? (fun i => occBin t i == b) with
        | some i => occ.1.getD i (0, 0)
        | none => (0, 0)), occ.2)
    else if t.inFd16 then fd16Of bs t.n else (samplesOf bs t.n, Sys2Proof.Config.plainExp)
  let r := runPasses inv t.n input.1 input.2
  let o := finalShift t.fix r.1 r.2.1
  let out := match t.mode with
    | 3 => fd16Bytes o.1 o.2.1
    | 5 => fd16Bytes ((List.range t.nocc).map (fun i => o.1.getD (occBin t i) (0, 0))) o.2.1
    | 6 => sampleBytes (o.1.drop (t.n - t.ncp) ++ o.1)
    | _ => sampleBytes o.1
  (out, o.2.1, r.2.2, o.2.2)

/-- The input of a job that does not work block by block, part by part, with the parts that had an uncorrectable error. -/
abbrev TxParts := List (List Byte × Bool)

/-- A part's values; a part with an error counts as 0 (Table 5.7). -/
def partDyads (t : TxDesc) (n : Nat) (p : List Byte × Bool) : List Dyad :=
  if p.2 then List.replicate n dyZero else bodyDyads (bitAt t.flags 3) p.1 n

/-- The offsets of the carriers of a CHAN or SYNTH job. -/
def carrierOffsets (pb : List Byte) : List Int := (List.range (pf pb 0 1)).map (fun i => signedOf 8 (pf pb (4 + i) 1))

/-- The output of a mode that does not work block by block: bytes, exponent of the last block, saturated parts. `tn` is the
number of its first timeslot, `mu` the numerology of its cell, `stamps` the stamps of its timeslots. A timeslot whose input had
an uncorrectable error is written as 0. -/
def txWhole (t : TxDesc) (pb : List Byte) (parts : TxParts) (tn mu : Nat) (stamps : List DWord) : List Byte × Int × Nat :=
  match t.mode with
  | 7 => (prachRecords (prachAll pb t.nocc mu (parts.map (partDyads t t.nocc))) (pf pb 10 1), 0, 0)
  | 8 =>
    let n := 12 * pf pb 6 2
    let per := srsSymbols t pb
    let r := srsReport pb ((List.range (pf pb 12 1)).map (fun s => ((parts.drop (s * per)).take per).map (partDyads t n)))
    (r.1, r.2, 0)
  | 9 =>
    let taps := bandTaps (bitAt t.flags 4) pb
    let band := (parts.flatMap (fun p => samplesOf p.1 5000)).map (fun x => (x.1 / 4, x.2 / 4)) |>.toArray
    let ks := carrierOffsets pb
    let slots := (List.range t.count).map (fun i =>
      if (parts.getD i ([], false)).2 then (List.replicate (ks.length * slotSamples (tn + i)) ((0 : Int), (0 : Int)), (0 : Int))
      else chanSlot taps ks band tn i)
    let carriers := ks.zipIdx.flatMap (fun c => slots.zipIdx.flatMap (fun s =>
      (s.1.1.drop (c.2 * slotSamples (tn + s.2))).take (slotSamples (tn + s.2))))
    (stamps.flatMap (fun x => bytesOf 8 x.toNat) ++ sampleBytes carriers, (slots.getLast?.map (fun s => s.2)).getD 0, 0)
  | _ =>
    let taps := bandTaps (bitAt t.flags 4) pb
    let ks := carrierOffsets pb
    -- the parts come carrier by carrier, each timeslot by timeslot
    let own := fun (c : Nat) => (parts.drop (c * t.count)).take t.count
    let carriers := (List.range ks.length).map (fun c =>
      (((own c).zipIdx.flatMap (fun p => samplesOf p.1.1 (slotSamples (tn + p.2)))).map (fun x => (x.1 / 4, x.2 / 4))).toArray)
    let slots := (List.range t.count).map (fun i =>
      if (List.range ks.length).any (fun c => ((own c).getD i ([], false)).2) then (List.replicate 5000 ((0 : Int), (0 : Int)), (0 : Int), 0)
      else
        let b := synthSlot taps ks carriers tn i
        finalShift t.fix b.1 b.2)
    (slots.flatMap (fun s => sampleBytes s.1), (slots.getLast?.map (fun s => s.2.1)).getD 0, (slots.map (fun s => s.2.2)).sum)

/-- The lengths of the parts of the input of a mode that does not work block by block. -/
def TxDesc.partLens (t : TxDesc) (pb : List Byte) (tn : Nat) : List Nat :=
  match t.mode with
  | 7 => List.replicate (prachContainers t pb) (t.bodyLen t.nocc)
  | 8 => List.replicate (pf pb 12 1 * srsSymbols t pb) (t.bodyLen (12 * pf pb 6 2))
  | 9 => List.replicate t.count 20000
  | _ => (List.replicate (pf pb 0 1) ((List.range t.count).map (fun (i : Nat) => 4 * slotSamples (tn + i)))).flatten

/-! ### Jobs -/

/-- The status word (Table 5.6). -/
def txStatus (result : Nat) (e : Int) (shifts blocks clip : Nat) (tick : List Byte) : List Byte :=
  bytesOf 1 result ++ bytesOf 1 (BitVec.ofInt 8 e).toNat ++ bytesOf 1 shifts ++ [0] ++ bytesOf 2 blocks
    ++ bytesOf 2 (Nat.min 0xFFFF clip) ++ tick ++ bytesOf 4 0

/-- Whether an EDGE job of the same symbol will shape the samples at an address (R330). -/
def Dev.edgePending (d : Dev) (j : Job) (buf : Nat) : Bool :=
  d.alm.jobs.any (fun x => x.pool == 9 && x.serves == j.serves && x.cell == j.cell && x.sym == j.sym && x.st != .complete
    && pf x.copy 0 1 == 4 && pf x.copy 16 8 == buf)

/-- The containers of an OFDM_TX job, stream by stream, or of a SYNTH job, timeslot by timeslot, become eligible (R330). -/
def Dev.txOffer (d : Dev) (j : Job) (t : TxDesc) (outLen : Nat) : Dev :=
  if t.mode = 6 then
    (List.range t.count).foldl (fun d k =>
      let a := t.dst + k * outLen
      if d.edgePending j a then d else d.offerAll { j with stream := j.stream + k } 0 0 false [d.mem.ifBytes a outLen]) d
  else if t.mode = 10 then
    (List.range t.count).foldl (fun d k =>
      d.offerAll { j with sym := j.sym + k } 0 0 false [d.mem.ifBytes (t.dst + k * 20000) 20000]) d
  else d

/-- The parts of an input range, read one after another. -/
def Dev.engParts (d : Dev) (ni : Nat) : List Nat → Nat → TxParts
  | [], _ => []
  | n :: rest, a => d.engIn ni a n :: d.engParts ni rest (a + n)

/-- The stamps of the timeslots of a CHAN job (R134, R39, R40): those its plan's slot names, else from a first one that is
free. -/
def Dev.chanStamps (d : Dev) (j : Job) (desc : List Byte) (count : Nat) : List DWord :=
  (List.range count).map (fun i => d.time.stampAt (match j.serves with
    | some s => d.time.symStart 5 s.start (j.sym + i)
    | none => (d.time.symStart 5 (Sys2Proof.Config.chanStart desc % airWrap) i)))

/-- A transform job completes (R135, R136): its checks, its blocks, the status word last, then the report. -/
def Dev.transformJob (d : Dev) (u : Nat) (j : Job) : Dev :=
  let ni := engineNi 3 u
  let desc := d.descOf 3 u j 48
  let t := txDesc desc
  let np := pblkSize t.mode
  let pbGone := np != 0 && t.pblk != 0 && !rangesMapped [(t.pblk, np)]
  let pb := if np = 0 ∨ t.pblk = 0 ∨ pbGone = true then [] else (d.engIn ni t.pblk np).1
  let tn := j.sym % 8
  let mu := match (d.cell? j.cell).map (fun c => c.cr.type) with | some 1 => 1 | some 3 => 3 | _ => 0
  let inLen := t.inSize pb tn
  let outLen := t.outSize pb tn
  let blocks := if t.blockwise then t.count else 1
  let badDesc := if pbGone then { t with mode := 1, n := 12 }.bad [] else t.bad pb
  let badAddr := pbGone || !rangesMapped [(t.src, inLen * blocks), (t.dst, outLen * blocks), (t.stat, 16)]
  let finish := fun (d : Dev) (r : Nat) (word : List Byte) => (d.engOut ni t.stat word).engReport 3 u j r
  if badDesc ∨ badAddr then
    let r := engResult badDesc badAddr false false
    finish d r (txStatus r 0 0 0 0 d.doneTick)
  else if t.blockwise then
    let run := (List.range t.count).foldl (fun (acc : Dev × Int × Nat × Nat × Bool) k =>
      let x := d.engIn ni (t.src + k * inLen) inLen
      if x.2 then (acc.1.engOut ni (t.dst + k * outLen) (List.replicate outLen 0), (0 : Int), 0, acc.2.2.2.1, true)
      else
        let o := txBlock t x.1
        (acc.1.engOut ni (t.dst + k * outLen) o.1, o.2.1, o.2.2.1, acc.2.2.2.1 + o.2.2.2, acc.2.2.2.2)) (d, 0, 0, 0, false)
    let r := engResult false false run.2.2.2.2 (decide (0 < run.2.2.2.1))
    finish (run.1.txOffer j t outLen) r (txStatus r run.2.1 run.2.2.1 t.count run.2.2.2.1 d.doneTick)
  else
    let parts := d.engParts ni (t.partLens pb tn) t.src
    let o := txWhole t pb parts tn mu (d.chanStamps j desc t.count)
    let bad := parts.any (fun p => p.2)
    let r := engResult false false bad (decide (0 < o.2.2))
    finish ((d.engOut ni t.dst o.1).txOffer j t outLen) r (txStatus r o.2.1 0 t.count o.2.2 d.doneTick)

/-- A transform row: the job's MODE is one of the row's. -/
def State.onTransform (s : State) (u : Fin 16) (own : Nat → Bool) : Host.Outcome State Fault Refusal :=
  s.onEngine 3 u.val (fun d j => own (pf (d.descOf 3 u.val j 48) 0 1)) (fun d j => d.transformJob u.val j)

/-- Modes of Table 5.2 that have a row of their own beside FFT. -/
def otherModes : List Nat := [2, 3, 5, 6, 7, 8, 9, 10]

/-- FFT (R128), and jobs whose MODE Table 5.2 does not list, which complete with BAD_DESC. -/
def execFft (u : Fin 16) (s : State) : Host.Outcome State Fault Refusal := s.onTransform u (fun m => !otherModes.contains m)

/-- IFFT (R128). -/
def execIfft (u : Fin 16) (s : State) : Host.Outcome State Fault Refusal := s.onTransform u (fun m => m == 2)

/-- DFTS_RX (R129). -/
def execDftsRx (u : Fin 16) (s : State) : Host.Outcome State Fault Refusal := s.onTransform u (fun m => m == 3)

/-- OFDM_RX (R129). -/
def execOfdmRx (u : Fin 16) (s : State) : Host.Outcome State Fault Refusal := s.onTransform u (fun m => m == 5)

/-- OFDM_TX (R129, R131). -/
def execOfdmTx (u : Fin 16) (s : State) : Host.Outcome State Fault Refusal := s.onTransform u (fun m => m == 6)

/-- PRACH (R132). -/
def execPrach (u : Fin 16) (s : State) : Host.Outcome State Fault Refusal := s.onTransform u (fun m => m == 7)

/-- SRS (R133). -/
def execSrs (u : Fin 16) (s : State) : Host.Outcome State Fault Refusal := s.onTransform u (fun m => m == 8)

/-- CHAN (R134). -/
def execChan (u : Fin 16) (s : State) : Host.Outcome State Fault Refusal := s.onTransform u (fun m => m == 9)

/-- SYNTH (R134, R131). -/
def execSynth (u : Fin 16) (s : State) : Host.Outcome State Fault Refusal := s.onTransform u (fun m => m == 10)

end Sys2Proof.Machine
end

