-- ==== Sys2Proof/Machine/Slots.lean ====
section
/-! DEFINITION. Slot plans: SLOT_SUBMIT, the jobs of a plan, and the slot and symbol events that release them
(16_chiop_commands.md, R415, R416, R545; 02_timing_and_deadlines.md, R47; 06_ldpc_and_polar.md, R172; 07_trellis_engine.md,
R193; 08_transmit_chain.md, R197; 09_almanac_scheduler.md, R227, R243; 17_operating_modes.md, R425). -/

namespace Sys2Proof.Machine

/-! ### Which cell, which slot -/

/-- The start of the slot that AT names (Table 16.18), the nearest to a moment; none where AT names none. -/
def TimeState.planStart (t : TimeState) (type at_ now : Nat) : Option Nat :=
  if type = 5 then
    if 2715648 ≤ at_ then none
    else
      let f := gsmFrameOf (t.gsmAt now)
      let ahead := ((at_ : Int) - ((t.fn0 : Nat) + f)) % 2715648
      let near := if 1357824 ≤ ahead then ahead - 2715648 else ahead
      some (((f + near) * 117964800 / 13 % (airWrap : Nat)).toNat)
  else
    let n := at_ % 256
    let sfn := at_ / 256 % 1024
    if slotsPerFrame type ≤ n ∨ 2 ^ 18 ≤ at_ then none
    else
      let frames := airWrap / frameTc
      let cur := now / frameTc
      let ahead := (sfn + 1024 - cur % 1024) % 1024
      let frame := if 512 ≤ ahead then (cur + ahead + frames - 1024) % frames else (cur + ahead) % frames
      some (frame * frameTc + slotPos type n)

/-- The first boundary at which a held MODE_REQUEST enters service (R424), once its last domain has reached Run. -/
def Dev.entryAt (d : Dev) : Option Nat :=
  match d.mode.req with
  | none => none
  | some r =>
    match r.allRunAt with
    | none => none
    | some t =>
      if r.target ≠ 6 ∨ (d.mode.mode ≠ 4 ∧ d.mode.mode ≠ 5) then none
      else
        let at_ := fun (n : Nat) => (d.time.air + d.boundaryIn d.time.air n) % airWrap
        (([1, 2, 3] : List Nat).find? (fun n => decide (boostLead ≤ airAhead t (at_ n)))).map at_

/-- Whether a slot of a cell will be served: the cell is in service, comes into service with a held COMMIT, or with an entry
into service that is certain. -/
def Dev.willServe (d : Dev) (cell start : Nat) : Bool :=
  match d.planCell cell with
  | none => false
  | some (_, some b) => modeServes d.mode.mode && decide (0 ≤ airDiff start b)
  | some (_, none) =>
    d.serving? cell || (match d.entryAt with | some b => decide (0 ≤ airDiff start b) | none => false)

/-! ### Plan records (Table 16.19) -/

/-- KIND of a record. -/
def recKind (r : List Byte) : Nat := pf r 0 1

/-- Bytes of the descriptor of a KIND, as its engine's chapter lays it out. -/
def recDescSize (kind : Nat) : Nat :=
  match kind with
  | 1 => 64 | 2 => 48 | 3 => 48 | 4 => 48 | 5 => 64 | 6 => 48 | 7 => 64 | 8 => 48 | _ => 32

/-- The pool of a KIND. -/
def recPool (kind : Nat) : Nat :=
  match kind with
  | 1 => 4 | 2 => 4 | 3 => 4 | 4 => 3 | 5 => 6 | 10 => 1 | _ => 9

/-- The class of a record's job (Table 1.3): PRACH and SRS transforms are of class C, a core job names its own. -/
def recClass (r copy : List Byte) : Nat :=
  match recKind r with
  | 1 => 1 | 5 => 1 | 7 => 1
  | 4 => if pf copy 0 1 = 7 ∨ pf copy 0 1 = 8 then 2 else 0
  | 10 => pf r 2 1
  | _ => 0

/-- Whether a record is out of range; its reserved bytes count for nothing (R15). -/
def recBad (r : List Byte) : Bool :=
  let k := recKind r
  let s := pf r 1 1
  k == 0 || decide (10 < k) || (decide (13 < s) && s != 0xFF) || decide (1 < pf r 4 2)
    || (if k = 10 then decide (2 < pf r 2 1) || !unitAllowed 1 (pf r 3 1) else pf r 2 1 != 0 || pf r 3 1 != 0)

/-- The DMA RESULT of a fetch (R415, Table 11.10): 0 where it completes OK. -/
def Dev.fetchResult (d : Dev) (a n : Nat) : Nat :=
  if n = 0 then 0
  else if !oneRegion a n then 0x20
  else if d.reach 216 245 a n ≠ 0 ∨ d.mem.poisoned a n then 0x22 else 0

/-- The ranges a record's fetch reads: its descriptor, and a BUILD's entries, whose place the descriptor names. -/
def Dev.recFetch (d : Dev) (r : List Byte) : Nat :=
  let a := pf r 8 8
  let n := recDescSize (recKind r)
  let x := d.fetchResult a n
  if x ≠ 0 ∨ recKind r ≠ 6 then x
  else
    let b := d.mem.ifBytes a n
    d.fetchResult (pf b 16 8) (56 * Nat.min 256 (pf b 8 2))

/-- The device's copy of what a record names (R415). -/
def Dev.recCopy (d : Dev) (r : List Byte) : List Byte :=
  let b := d.mem.ifBytes (pf r 8 8) (recDescSize (recKind r))
  if recKind r = 6 then b ++ d.mem.ifBytes (pf b 16 8) (56 * Nat.min 256 (pf b 8 2)) else b

/-- The DEP fields of a BUILD's entries. -/
def buildDeps (copy : List Byte) : List Nat :=
  (List.range ((copy.length - 48) / 56)).map (fun i => pf copy (48 + 56 * i + 24) 4)

/-- A BUILD's copy with the plan's indices replaced by job identifiers (R416). -/
def withDeps (copy : List Byte) (ids : List Word) : List Byte :=
  copy.take 48 ++ (List.range ((copy.length - 48) / 56)).flatMap (fun i =>
    let e := (copy.drop (48 + 56 * i)).take 56
    let dep := pf e 24 4
    if dep < 0x80000000 then e else e.take 24 ++ bytesOf 4 (ids.getD (dep - 0x80000000) 0).toNat ++ e.drop 28)

/-! ### Device-created processions (R172, R193) -/

/-- Create a procession that serves a cell, within the limits of R218. -/
def Dev.addProc (d : Dev) (c : CellRec) : Dev :=
  if 1048576 ≤ d.alm.procs.length ∨ 8388608 ≤ d.alm.objects then d
  else
    let p := d.newId
    p.2.onAlm (fun a => { a with procs := a.procs ++
      [{ id := p.1, window := 4096, stuckTo := BitVec.ofNat 32 (budgetTicks (budget 1 c.type) d.time.tickCode true)
         headSince := d.time.tick, used := d.time.tick, owner := some c.cell }] })

/-- The processions the device keeps for a cell, in the order of their creation: LDPC decoding, control information,
encoding, and TURBO of an LTE carrier or VITERBI of a TRX. -/
def Dev.cellProcs (d : Dev) (cell : Nat) : List Procession :=
  d.alm.procs.filter (fun p => p.owner == some cell && !p.closing)

/-- The cell's processions are there: created when it enters service, or when an event first releases one of its jobs into one
before that (R172; DEDUCED, log entry 77). -/
def Dev.ensureProcs (d : Dev) (c : CellRec) : Dev :=
  if !(d.cellProcs c.cell).isEmpty then d
  else (List.range (if c.type = 4 ∨ c.type = 5 then 4 else 3)).foldl (fun d _ => d.addProc c) d

/-- The cell's downlink encode procession. -/
def Dev.encodeProc (d : Dev) (cell : Nat) : Word := (((d.cellProcs cell).drop 2).head?.map (fun p => p.id)).getD 0

/-- A cell's processions are destroyed: each is freed once its last job is released (R544). -/
def Dev.dropProcs (d : Dev) (cell : Nat) : Dev :=
  (d.cellProcs cell).foldl (fun d p => d.onAlm (fun a => a.destroy p.id)) d

/-! ### Jobs of a plan -/

/-- Whether Almanac has no room for a device-defined job of a class, with its fallback timer (R218, R243). -/
def Dev.noRoom (d : Dev) (cls : Nat) (timer : Bool) : Bool :=
  decide (8388608 ≤ d.alm.objects + boolNat timer) || (timer && decide (4194304 ≤ d.alm.timers.length))
    || (decide (cls < 2) && decide (131072 ≤ d.alm.abJobs))

/-- The DM-RS symbols of an EST descriptor. -/
def dmrsSymbols (copy : List Byte) : List Nat := (List.range 14).filter (fun k => bitAt (pf copy 8 4) k)

/-- Identifiers for the records in their order; one whose job finds no room counts as skipped (R202). -/
def Dev.planIds (d : Dev) (cell : Nat) (recs : List (List Byte × List Byte)) : Dev × List Word × List Nat :=
  recs.foldl (fun (acc : Dev × List Word × List Nat) r =>
    let full := acc.1.noRoom (recClass r.1 r.2) (recKind r.1 == 1 && !(dmrsSymbols r.2).isEmpty)
    let n := acc.1.newId
    if full then
      let d1 := (n.2.onAlm (fun a => { a with skippedIds := n.1 :: a.skippedIds })).jobLost cell none
      (d1, acc.2.1 ++ [n.1], acc.2.2)
    else
      let d1 := n.2.onAlm (fun a => { a with jobs := a.jobs ++ [{ id := n.1, st := .pending, cls := recClass r.1 r.2 }] })
      (d1, acc.2.1 ++ [n.1], acc.2.2 ++ [n.1.toNat])) (d, [], [])

/-- The first stream a record writes: what the records of its kind and symbol before it have written (R330). -/
def recStream (copies : List (List Byte × List Byte)) (i : Nat) : Nat :=
  let me := copies.getD i ([], [])
  let same := (copies.take i).filter (fun x => recKind x.1 == recKind me.1 && pf x.1 1 1 == pf me.1 1 1)
  match recKind me.1 with
  | 4 => if pf me.2 0 1 = 6 then ((same.filter (fun x => pf x.2 0 1 == 6)).map (fun x => (txDesc (padTo 48 x.2)).count)).sum else 0
  | 9 => same.length
  | _ => 0

/-- The symbol or timeslot of a job: a BUILD's and a BURST's own, else that of its record. -/
def recSym (r copy : List Byte) : Nat :=
  match recKind r with
  | 6 => pf copy 3 1
  | 8 => pf copy 5 1
  | _ => pf r 1 1

/-- The gates of a job (R227): arrivals for EST and APPLY, else the one event that releases it. -/
def recGates (c : CellRec) (r copy : List Byte) : Nat :=
  match recKind r with
  | 1 => c.s * (dmrsSymbols copy).length
  | 2 => c.s
  | _ => 1

/-- Ticks until a moment, rounded up. -/
def TimeState.ticksTo (t : TimeState) (at_ : Nat) : Nat :=
  ceilDiv (airAhead t.air at_ * 40000) (19660800 * 2 ^ t.tickCode)

/-- The fallback of an EST (R25): 1 symbol after the end of its last DM-RS symbol. -/
def Dev.estFallback (d : Dev) (type start : Nat) (id : Word) (copy : List Byte) : Dev :=
  match (dmrsSymbols copy).getLast? with
  | none => d
  | some l =>
    let a := d.time.symStart type start l
    let e := d.time.symStart type start (l + 1)
    let at_ := (e + airAhead a e) % airWrap
    let n := d.newId
    n.2.onAlm (fun al => { al with timers := al.timers ++
      [{ id := n.1, action := 1, cal := 0, target := id, expiry := d.time.tick + BitVec.ofNat 40 (d.time.ticksTo at_)
         armedAt := d.time.tick }] })

/-- One record's job takes its content; a job with no gate is READY. A job of the encode procession joins it when its event
releases it. -/
def Dev.planJob (d : Dev) (c : CellRec) (down : Bool) (start : Nat) (id : Word) (r copy : List Byte) (stream : Nat) : Dev :=
  match d.alm.job? id with
  | none => d
  | some _ =>
    let k := recKind r
    let eq := k == 1 || k == 2
    let inProc := pf r 4 2 == 1
    let j : Job :=
      { id := id
        st := .waiting
        cls := recClass r copy
        pool := recPool k
        unit := if k = 10 then pf r 3 1 else 0xFF
        gates := recGates c r copy
        cell := c.cell
        desc := BitVec.ofNat 64 (pf r 8 8)
        link := if inProc then d.encodeProc c.cell else 0
        wants := inProc
        proc := inProc && eq && d.encodeProc c.cell != 0
        serves := some ⟨down, start⟩
        copy := copy
        sym := recSym r copy
        stream := stream }
    let d1 := d.onAlm (fun a => a.updJob id (fun _ => j))
    let d2 := if j.proc then d1.joinProc id else d1
    let d3 := if k = 1 then d2.estFallback c.type start id copy else d2
    if j.gates = 0 then d3.gatesDone j else d3

/-- A plan is accepted (R415): its records and descriptors are copied and its jobs created. -/
def Dev.acceptPlan (d : Dev) (c : CellRec) (down : Bool) (at_ start : Nat) (recs : List (List Byte)) : Dev :=
  let copies := recs.map (fun r => (r, d.recCopy r))
  let x := d.planIds c.cell copies
  let ids := x.2.1
  let d1 := ((copies.zip ids).zipIdx).foldl (fun d y =>
    let r := y.1.1.1
    let copy := if recKind r = 6 then withDeps y.1.1.2 ids else y.1.1.2
    d.planJob c down start y.1.2 r copy (recStream copies y.2)) x.1
  let p : Plan :=
    { cell := c.cell
      down := down
      at_ := BitVec.ofNat 32 at_
      start := start
      records := copies.map (fun y => y.1 ++ y.2)
      jobs := x.2.2
      early := !modeServes d.mode.mode
      lateJobs := recs.length - x.2.2.length }
  { d1 with cfg := { d1.cfg with plans := d1.cfg.plans ++ [p] } }

/-- The answer of an indirect fetch that failed. -/
def errFetch (result : Nat) : ChErr := { status := stBadParam, reason := 0x0A, extra := result }

/-- What is wrong with the records of a plan. -/
def Dev.recsError (d : Dev) (recs : List (List Byte)) : Option ChErr :=
  match recs.find? recBad with
  | some _ => some (errRange 8)
  | none =>
    match (recs.map d.recFetch).find? (fun x => x != 0) with
    | some x => some (errFetch x)
    | none =>
      if recs.any (fun r => recKind r == 6 && (buildDeps (d.recCopy r)).any (fun v => decide (0x80000000 + recs.length ≤ v))) then
        some (errRange 8)
      else (recs.find? (fun r => recKind r == 10 && d.unitAbsent 1 (pf r 3 1))).map (fun r =>
        errAbsent 1 (if pf r 3 1 < 0x80 then pf r 3 1 else if pf r 3 1 < 0x88 then 16 * (pf r 3 1 - 0x80) else 0))

/-- SLOT_SUBMIT is read (R415, R416). -/
def bodySlotSubmit (h : Sys2Proof.ChiopHdr) (d : Dev) (p : List Byte) : Ans :=
  let now := nowOf d h
  let cell := pf p 0 2
  let down := pf p 2 1 == 1
  let n := pf p 16 2
  if 1 < pf p 2 1 then .err (errRange 2)
  else if n < 1 ∨ 1024 < n then .err (errRange 16)
  else match d.planCell cell with
    | none => .err (errNotFound 0)
    | some (c, from_) =>
      match d.time.planStart c.type (pf p 4 4) now with
      | none => .err (errRange 4)
      | some start =>
        let lead := if down then usToTc (500 + c.txadv) else usToTc 250
        let ahead := airDiff start now
        if (match from_ with | some b => decide (airDiff start b < 0) | none => false) then .err (errNotFound 0)
        else if ahead < (lead : Nat) then .err { status := stTimeout, reason := 7, offset := 4 }
        else if (usToTc 20000 : Nat) < ahead then .err (errRange 4)
        else if d.cfg.plans.any (fun x => x.cell == cell && x.down == down && x.start == start) then .err (errInUse 4)
        else
          let a := pf p 8 8
          let f := if h.ind.fetch ≠ 0 then h.ind.fetch.toNat else d.fetchResult a (16 * n)
          let recs := (List.range n).map (fun i => d.mem.ifBytes (a + 16 * i) 16)
          if f ≠ 0 then .err (errFetch f)
          else if crc32c (d.mem.ifBytes a (16 * n)) ≠ pf p 20 4 then .err (errFetch 0)
          else match d.recsError recs with
            | some e => .err e
            | none => .ok (d.acceptPlan c down (pf p 4 4) start recs) []

/-- Whether SLOT_SUBMIT is accepted in the present mode (Table 16.16, R425). -/
def slotMode (d : Dev) : Bool :=
  modeServes d.mode.mode
    || ((d.mode.mode == 4 || d.mode.mode == 5) && (match d.mode.req with | some r => r.target == 6 | none => false))

/-- A job of a plan joins its cell's encode procession. -/
def Dev.intoProc (d : Dev) (j : Job) : Dev :=
  match d.planCell j.cell with
  | none => d
  | some (c, _) =>
    let d1 := d.ensureProcs c
    if d1.encodeProc j.cell = 0 then
      -- no procession could be created: neither is the job (R243)
      ((d1.onAlm (fun a => { a with skippedIds := j.id :: a.skippedIds })).jobLost j.cell j.serves).freeJob j.id
    else (d1.onAlm (fun a => a.updJob j.id (fun j => { j with proc := true, link := d1.encodeProc j.cell }))).joinProc j.id

/-! ### Slot and symbol events -/

/-- The event that releases a job of a plan: whether it lies in the slot before, and its symbol; none for one that arrivals
release (R197, R227, Table 16.19). -/
def Job.releasedBy (j : Job) (last : Nat) : Option (Bool × Nat) :=
  let m := pf j.copy 0 1
  if j.copy.isEmpty ∨ j.gateJob then none
  else if j.pool = 4 ∧ (m = 1 ∨ m = 2) then none
  else if j.pool = 9 ∧ (m = 1 ∨ m = 3) then (if j.sym = 0 then some (true, last) else some (false, j.sym - 1))
  else some (false, j.sym)

/-- An event releases a job of a plan; it joins its procession now. -/
def Dev.planRelease (d : Dev) (id : Word) : Dev :=
  match d.alm.job? id with
  | none => d
  | some j =>
    if j.st ≠ .waiting then d
    else if j.wants ∧ !j.proc then (d.intoProc j).eventTo id
    else d.eventTo id

/-- The jobs that the event of a symbol of a slot releases, in record order. -/
def Dev.releasedAt (d : Dev) (cell : Nat) (down : Bool) (start next last sym : Nat) : List Word :=
  let of := fun (at_ : Nat) (before : Bool) =>
    ((d.cfg.plans.filter (fun p => p.cell == cell && p.down == down && p.start == at_)).flatMap (fun p => p.jobs)).filterMap (fun id =>
      match d.alm.job? (BitVec.ofNat 32 id) with
      | some j => if j.releasedBy last = some (before, sym) then some j.id else none
      | none => none)
  of start false ++ of next true

/-- The device enqueues the GATE job of a slot (R195). -/
def Dev.addGate (d : Dev) (cell start : Nat) : Dev :=
  if d.alm.jobs.any (fun j => j.gateJob && j.cell == cell && j.serves == some ⟨true, start⟩) then d
  else if d.noRoom 0 false then d.jobLost cell (some ⟨true, start⟩)
  else
    let n := d.newId
    let j : Job := { id := n.1, pool := 9, cell := cell, serves := some ⟨true, start⟩, gateJob := true }
    let d1 := n.2.onAlm (fun a => { a with jobs := a.jobs ++ [j] })
    let plans := d1.cfg.plans.map (fun p =>
      if p.cell = cell ∧ p.down = true ∧ p.start = start then { p with jobs := p.jobs ++ [n.1.toNat] } else p)
    ({ d1 with cfg := { d1.cfg with plans := plans } } : Dev).makeReady n.1 true

/-- Plans accepted before an entry into service whose slots have started without it are discarded (R425). -/
def Dev.dropStarted (d : Dev) (cell : Nat) : Dev :=
  (d.cfg.plans.filter (fun p => p.cell == cell && p.early && airPast d.time.air p.start && !d.serving? cell)).foldl
    (fun d p => d.discardPlan p) d

/-- The slot-start event of a slot: its plan runs, or it runs without one; the GATE job of the next slot is enqueued. -/
def Dev.beginSlot (d : Dev) (c : CellRec) (down : Bool) (start next : Nat) : Dev :=
  let mine := fun (p : Plan) => p.cell == c.cell && p.down == down && p.start == start
  let d1 : Dev := if !d.willServe c.cell start then d
    else if d.cfg.plans.any mine then
      { d with cfg := { d.cfg with plans := d.cfg.plans.map (fun p =>
          if mine p then { p with running := true, carried := d.time.carries c start down, endAt := next } else p) } }
    else if d.time.carries c start down then
      let p : Plan :=
        { cell := c.cell
          down := down
          at_ := d.time.slotAt c.type start
          start := start
          records := []
          jobs := []
          running := true
          noPlan := true
          carried := true
          endAt := next }
      { d with cfg := { d.cfg with plans := d.cfg.plans ++ [p] } }
    else d
  if down && d1.willServe c.cell next then d1.addGate c.cell next else d1

/-- The moment of a slot or symbol event (R47): downlink events come earlier by the cell's transmit advance. Symbol 0xFF is
the slot's start. None where the cell has no such slot or symbol. -/
def Dev.eventMoment (d : Dev) (c : CellRec) (e : SlotEvent) : Option Nat :=
  if (d.time.slotSpan c.type e.start).1 ≠ e.start ∨ (slotSymbols c.type - 1 < e.sym ∧ e.sym ≠ 0xFF) then none
  else
    let at_ := d.time.symStart c.type e.start (if e.sym = 0xFF then 0 else e.sym)
    some (if e.down then (at_ + airWrap - usToTc c.txadv) % airWrap else at_)

/-- An event reaches Almanac. -/
def Dev.slotEvent (d : Dev) (e : SlotEvent) : Dev :=
  match d.planCell e.cell with
  | none => d
  | some (c, _) =>
    let next := (d.time.slotSpan c.type e.start).2
    let d1 := d.dropStarted e.cell
    let d2 := if e.sym = 0xFF then d1.beginSlot c e.down e.start next else d1
    let ids := (d2.releasedAt e.cell e.down e.start next (slotSymbols c.type - 1) e.sym).filter (fun id =>
      match d2.alm.job? id with
      | some j => (match j.serves with | some s => d2.willServe e.cell s.start | none => false)
      | none => false)
    ids.foldl (fun d id => d.planRelease id) d2

/-- The numerology of a cell type as the timing unit's store counts it (R47): NR and LTE 0, 1 or 3, GSM/EDGE 5. -/
def numerOf (type : Nat) : Nat := match type with | 1 => 1 | 3 => 3 | 5 => 5 | _ => 0

/-- The timing unit holds an event (R47): a health event tells of a store that fills. -/
def Dev.holdEvent (d : Dev) (e : SlotEvent) : Dev :=
  let d1 : Dev := { d with time := { d.time with store := d.time.store ++ [e] } }
  if (d1.time.store.filter (fun x => x.numer == e.numer)).length = 64 then d1.healthEvent { hkind := 0x0041 } else d1

/-- Almanac takes the events held for it, in their order. -/
def Dev.releaseHeld (d : Dev) : Dev :=
  d.time.store.foldl (fun d e => d.slotEvent e) { d with time := { d.time with store := [] } }

/-- A slot or symbol event falls (R47): it carries the stamp of its moment, and is held while Almanac's inputs are full. -/
def Dev.slotInput (d : Dev) (cell : Nat) (down : Bool) (start sym : Nat) (full : Bool) : Dev :=
  match d.planCell cell with
  | none => d
  | some (c, _) =>
    let e : SlotEvent := { numer := numerOf c.type, cell := cell, down := down, start := start, sym := sym }
    match (d.eventMoment c e).bind (fun m => (d.due m).map (fun d1 => (m, d1))) with
    | none => d
    | some (m, d1) =>
      let e1 : SlotEvent := { e with stamp := d1.time.stampAt m }
      if full then d1.holdEvent e1 else d1.releaseHeld.slotEvent e1

/-! ### Rows -/

/-- SLOT_SUBMIT (R415). -/
def execSlotSubmit (h : Sys2Proof.ChiopHdr) (p : List Byte) (s : State) : Host.Outcome State Fault Refusal :=
  s.on (chiopRun 0x0208 slotMode 24 false (bodySlotSubmit h) h p)

/-- SLOT_SYMBOL_EVENT (R47). -/
def execSlotSymbolEvent (cell : Nat) (down : Bool) (start : Nat) (sym : Sys2Proof.SymEvent) (s : State) :
    Host.Outcome State Fault Refusal :=
  s.onAlmanac (fun d => d.slotInput cell down start sym.sym.toNat sym.full)

end Sys2Proof.Machine
end

