-- ==== Sys2Proof/Machine/Snapshot.lean ====
section
/-! DEFINITION. Status objects, the cut of an epoch and SNAPSHOT_READ (16_chiop_commands.md, R407 to R409). -/

namespace Sys2Proof.Machine

/-! ### Records -/

/-- The device status record (Table 16.11). Before the thermal model is seeded its highest temperature is TD (R484). -/
def Dev.deviceRecord (d : Dev) : List Byte :=
  let c := d.chiop
  let cells := d.cfg.cells.map (fun x => x.cr)
  padTo 64 (bytesOf 1 d.mode.mode ++ bytesOf 1 (boolNat c.gran) ++ bytesOf 1 (c.owner.getD 0xFF)
    ++ bytesOf 1 (boolNat c.commit.isSome + 2 * boolNat d.flagService + 4 * boolNat d.thermal.flag2 + 8 * boolNat d.health.replaceOut)
    ++ bytesOf 4 c.epoch.toNat ++ bytesOf 4 c.configEpoch.toNat
    ++ bytesOf 4 (match c.commit with | some x => x.target | none => Sys2Proof.Config.noTarget c.epoch).toNat
    ++ bytesOf 2 d.cuAvail ++ bytesOf 2 (cuOf cells) ++ bytesOf 2 ((cells.map streamCarriers).sum)
    ++ bytesOf 1 ((cells.map nrSlots).sum) ++ [0] ++ bytesOf 8 c.boundaryStamp.toNat ++ bytesOf 2 (d.slack.vconf / 10)
    ++ bytesOf 1 (50 * d.slack.bias) ++ [0]
    ++ bytesOf 2 (BitVec.ofInt 16 (if d.thermal.valid then d.thermal.nmax.2 else d.thermal.td)).toNat
    ++ bytesOf 2 (d.cfg.cells.filter (fun x => x.inService)).length ++ bytesOf 4 c.evlost.toNat)

/-- A slack record (Table 2.5). -/
def SlackRec.bytes (r : SlackRec) : List Byte :=
  bytesOf 2 (BitVec.ofInt 16 r.minFrac).toNat ++ bytesOf 2 (BitVec.ofInt 16 r.minTicks).toNat ++ bytesOf 2 r.misses
    ++ [0, 0] ++ bytesOf 4 r.jobs ++ bytesOf 4 r.window.toNat

/-- The status record of a cell handle (Table 16.12). -/
def Dev.cellRecord (d : Dev) (n : Nat) : List Byte :=
  match d.cell? n with
  | some c =>
    bytesOf 2 n ++ bytesOf 1 (boolNat c.inService) ++ bytesOf 1 (c.engines.headD 0xFF) ++ bytesOf 2 (cuCost c.cr) ++ [0, 0]
      ++ bytesOf 4 c.lastSlot.toNat ++ bytesOf 4 (satWord c.missing) ++ bytesOf 4 c.lateJobs ++ bytesOf 4 c.lateTb
      ++ bytesOf 4 c.skips ++ bytesOf 4 0
  | none =>
    padTo 32 (bytesOf 2 n ++ bytesOf 1 (((d.cfg.shed.find? (fun s => s.1 == n)).map (fun s => s.2)).getD 0) ++ [0xFF])

/-- ALIGN (Table 13.12). -/
def alignCode : Align → Nat
  | .disabled => 0 | .hunt => 1 | .presync => 2 | .sync => 3

/-- DELAY (R324, R348): the mean over the frames held, or what the last measurement found. -/
def LaneRx.delay (r : LaneRx) : Option Int :=
  match r.ecpriDelay with
  | some x => some x
  | none => if r.delays.isEmpty then none else some (r.delays.sum / (r.delays.length : Int))

/-- A number limited to 16 bits. -/
def satHalf (n : Nat) : Nat := Nat.min 0xFFFF n

/-- The status record of a lane (Tables 13.12, 14.4). -/
def Lane.record (x : Lane) : List Byte :=
  let r := x.rx
  let flags := [r.los, r.lof, r.lom, r.sd, r.sf, r.tim, r.rdi, r.maint, r.drBad, r.drMis, r.ttiAcc.isSome, r.delay.isSome]
  bytesOf 2 (alignCode r.align + ((flags.mapIdx (fun i b => boolNat b * 2 ^ (i + 2))).sum))
    ++ bytesOf 1 (r.ms % 64) ++ bytesOf 1 (r.reiRx % 16 + 16 * (r.role % 8))
    ++ bytesOf 4 (BitVec.ofInt 32 (r.delay.getD 0)).toNat ++ bytesOf 2 (satHalf r.slips) ++ bytesOf 2 (satHalf r.drops)
    ++ bytesOf 2 (satHalf r.clip) ++ [0, 0] ++ padTo 48 (r.disc.toList.flatMap (fun n => bytesOf 4 (satWord n)))

/-- The status word of a protection group (Table 13.13). -/
def Dev.groupStatus (d : Dev) (g : Nat) : List Byte :=
  let x := d.group g
  let far := (d.lane (d.protLane g)).rx.drAcc
  let f := if d.groupOn g then (match far with | some p => p.1 | none => 0) else 0
  let left := match x.wtr with
    | some w => if airPast d.time.air w.2 then 0 else ceilDiv (airAhead d.time.air w.2) secondTc
    | none => 0
  bytesOf 1 (x.lreq + 16 * x.lch) ++ bytesOf 1 (f / 16 + 16 * (f % 16)) ++ bytesOf 1 (x.sel + 16 * x.br) ++ bytesOf 2 left
    ++ [0, 0, 0]

/-- The status word of an Ethernet port (Table 15.4). -/
def EthPort.record (e : EthPort) : List Byte :=
  bytesOf 1 (boolNat e.link + 2 * boolNat e.an + 4 * boolNat e.los + 8 * boolNat e.lof + 16 * boolNat e.sf + 32 * boolNat e.rdi)
    ++ bytesOf 1 (e.ptp % 4) ++ bytesOf 2 (satHalf e.mgmtDrop) ++ bytesOf 4 (satWord e.rxHost) ++ bytesOf 2 (satHalf e.rxDrop)
    ++ bytesOf 2 (satHalf e.fcsErr) ++ bytesOf 2 (satHalf e.tooBig) ++ bytesOf 2 (satHalf e.ctrl)

/-- The health record of a unit slot (Table 20.8). -/
def Dev.unitRecord (d : Dev) (u : Nat × Nat) : List Byte :=
  let x := d.unit u.1 u.2
  bytesOf 1 u.1 ++ bytesOf 1 u.2 ++ bytesOf 1 (unitCode x.st + 4 * boolNat x.testing + 8 * boolNat x.queued) ++ bytesOf 1 x.last
    ++ bytesOf 2 x.level ++ bytesOf 2 x.transients ++ bytesOf 4 x.weight ++ bytesOf 4 x.testEpoch.toNat

/-- The bins of a lane or group of a kind: the current one, then history, `n` in all; a record not yet kept reads 0. -/
def Dev.binRecords (d : Dev) (k : Nat) (day : Bool) : List (List Byte) :=
  let p := d.pm k
  let one := fun (b : PmBin) (cur : Bool) => if k < 32 then p.laneRecord b cur else p.groupRecord b cur
  let none_ : List Byte := List.replicate (if k < 32 then 64 else 32) 0
  let cur := if p.opened then one (if day then p.day else p.quarter) true else none_
  let hist := if day then p.days else p.quarters
  cur :: (List.range (if day then 7 else 96)).map (fun i => match hist[i]? with | some b => one b false | none => none_)

/-- Every domain code in ascending order (R474). -/
def domainOrder : List Nat :=
  allDomains.filter (fun c => decide (c < 0xA00)) ++ [0xA00, 0xB00] ++ allDomains.filter (fun c => decide (0xC00 ≤ c))

/-! ### Cuts -/

/-- The records of an object in a cut. -/
def Cut.recs (c : Cut) (obj : Nat) : List (List Byte) := ((c.objs.find? (fun o => o.1 == obj)).map (fun o => o.2)).getD []

/-- The cut of the current epoch (R407): every status object as it is now; a unit in Stop keeps its last one. -/
def Dev.makeCut (d : Dev) : Cut :=
  let old := d.chiop.cut
  let lanes := (List.range 32).map (fun l =>
    if d.domRun (0x500 + l / 4) then (d.lane l).record else (old.recs 4).getD l (List.replicate 64 0))
  let ports := (List.range 4).map (fun p =>
    if d.domRun (0x600 + p) then (d.ethPort p).record else (old.recs 6).getD p (List.replicate 16 0))
  { epoch := d.chiop.epoch
    objs :=
      [ (1, [d.deviceRecord]), (2, [d.slack.snapA.bytes, d.slack.snapB.bytes]), (3, (List.range 1024).map d.cellRecord)
      , (4, lanes), (5, (List.range 16).map d.groupStatus), (6, ports)
      , (0x70, (List.range 32).flatMap (fun k => d.binRecords k false))
      , (0x71, (List.range 32).flatMap (fun k => d.binRecords k true))
      , (0x80, (List.range 16).flatMap (fun k => d.binRecords (32 + k) false))
      , (0x81, (List.range 16).flatMap (fun k => d.binRecords (32 + k) true))
      , (9, domainOrder.map d.domRecord), (10, [d.thermalRecord]), (11, allUnits.map d.unitRecord) ] }

/-- Latch the cut of the epoch; reads stay with the one before until it is complete (R407). -/
def Dev.latchCut (d : Dev) : Dev :=
  { d with chiop := { d.chiop with prevCut := d.chiop.cut, cut := d.makeCut, cutDone := false } }

/-- A cut that is complete at once: the first of a start. -/
def Dev.firstCut (d : Dev) : Dev :=
  let c := d.makeCut
  { d with chiop := { d.chiop with prevCut := c, cut := c, cutDone := true } }

/-! ### SNAPSHOT_READ -/

/-- A selector (Table 16.9). -/
structure Selector where
  obj : Nat
  kind : Nat
  first : Nat
  count : Nat
  bin : Nat
  nbin : Nat
deriving DecidableEq, Repr

/-- The selector that 8 bytes spell. -/
def selectorOf (b : List Byte) : Selector := ⟨pf b 0 1, pf b 1 1, pf b 2 2, pf b 4 2, pf b 6 1, pf b 7 1⟩

/-- A selector names PM bins. -/
def Selector.pm (x : Selector) : Bool := x.obj == 7 || x.obj == 8

/-- The bins of a subject in a cut: history and the current one. -/
def Selector.bins (x : Selector) : Nat := if x.kind = 1 then 8 else 97

/-- How many indices an object has (Table 16.10). -/
def objIndices (obj : Nat) : Nat :=
  match obj with
  | 1 => 1 | 2 => 2 | 3 => 1024 | 4 => 32 | 5 => 16 | 6 => 4 | 7 => 32 | 8 => 16 | 9 => 365 + 2 | 10 => 1 | 11 => 390 | _ => 0

/-- The place of FIRST: a domain's is that of its code. -/
def Selector.start (x : Selector) : Option Nat := if x.obj = 9 then domainOrder.findIdx? (fun c => c == x.first) else some x.first

/-- Where a selector is out of range. -/
def Selector.bad (x : Selector) : Option Nat :=
  if x.obj < 1 ∨ 11 < x.obj then some 0
  else if (if x.pm then 1 else 0) < x.kind then some 1
  else match x.start with
    | none => some 2
    | some n =>
      if objIndices x.obj ≤ n then some 2
      else if x.count < 1 ∨ objIndices x.obj < n + x.count then some 4
      else if !x.pm && x.bin != 0 then some 6
      else if x.pm && decide (x.bins ≤ x.bin) then some 6
      else if x.pm && (decide (x.nbin < 1) || decide (x.bins < x.bin + x.nbin)) then some 7
      else if !x.pm && x.nbin != 0 then some 7
      else none

/-- The unit a selector names that is not PRESENT (R9, R360). -/
def Dev.selectorAbsent (d : Dev) (x : Selector) : Option ChErr :=
  let c := if x.obj = 4 ∨ x.obj = 7 then 13 else if x.obj = 6 then 14 else 0
  if c = 0 then none else (List.range x.count).findSome? (fun i => d.absentErr c (x.first + i))

/-- The records a selector names, from a cut. -/
def Cut.read (c : Cut) (x : Selector) : List Byte :=
  if x.pm then
    let rs := c.recs (16 * x.obj + x.kind)
    ((List.range x.count).flatMap (fun i =>
      (List.range x.nbin).map (fun b => rs.getD ((x.first + i) * x.bins + x.bin + b) []))).flatten
  else (((c.recs x.obj).drop (x.start.getD 0)).take x.count).flatten

/-- SNAPSHOT_READ (R409). -/
def bodySnapshotRead (d : Dev) (p : List Byte) : Ans :=
  let n := pf p 0 1
  let sel := fun (i : Nat) => (p.drop (4 + 8 * i)).take 8
  let xs := (List.range n).map (fun i => selectorOf (sel i))
  if n < 1 ∨ 64 < n then .err (errRange 0)
  else if p.length < 4 + 8 * n then .err (errRange p.length)
  else match (List.range n).findSome? (fun i => (selectorOf (sel i)).bad.map (fun o => 4 + 8 * i + o)) with
    | some o => .err (errRange o)
    | none =>
      match xs.findSome? d.selectorAbsent with
      | some e => .err e
      | none =>
        let c := if d.chiop.cutDone then d.chiop.cut else d.chiop.prevCut
        .okCut d c.epoch ((List.range n).flatMap (fun i => sel i ++ c.read (selectorOf (sel i))))

/-- SNAPSHOT_READ (R409). -/
def execSnapshotRead (h : Sys2Proof.ChiopHdr) (p : List Byte) (s : State) : Host.Outcome State Fault Refusal :=
  s.on (chiopCmd 0x0806 modesAll 4 false bodySnapshotRead h p)

/-- CUT_COMPLETE (R407). -/
def execCutComplete (s : State) : Host.Outcome State Fault Refusal :=
  s.on (fun d => { d with chiop := { d.chiop with cutDone := true } })

end Sys2Proof.Machine
end

