-- ==== Sys2Proof/Machine/Watch.lean ====
section
/-! DEFINITION. The rows of the slack loop, PMBus, power domains, the thermal model and the health manager that no
command of a port raises (02_timing_and_deadlines.md, R51 to R55; 19_power_domains.md; 20_thermal_and_health.md). A row
that tells of an interval's end whose start the state does not hold is that end itself (log entry 36). -/

namespace Sys2Proof.Machine

/-- Whether the device has power and the control complex runs firmware (R431). -/
def Dev.alive (d : Dev) : Bool := d.up

/-- A row of the control complex. -/
def State.onAlive (s : State) (f : Dev → Dev) : Host.Outcome State Fault Refusal :=
  s.on (fun d => if d.alive then f d else d)

/-! ### Slack loop and PMBus -/

/-- The device at the next edge of a 1 ms window (R49): at once where air time has passed it. -/
def Dev.atWindow (d : Dev) : Option Dev :=
  if d.time.subframes ≠ d.slack.recA.window then some d else d.due ((d.time.air / 1966080 + 1) * 1966080 % airWrap)

/-- SLACK_WINDOW_EDGE (R49, R51). -/
def execSlackWindowEdge (s : State) : Host.Outcome State Fault Refusal :=
  s.onAlive (fun d => if d.mode.mode = 9 then d else match d.atWindow with | some d1 => d1.windowEdge | none => d)

/-- CLASS_A_MISS (R51, R52): a miss that Almanac has signalled. -/
def execClassAMiss (s : State) : Host.Outcome State Fault Refusal :=
  s.onAlmanac (fun d =>
    if d.slack.signals = 0 then d
    else ({ d with slack := { d.slack with signals := d.slack.signals - 1 } } : Dev).boost)

/-- PMBUS_COMPLETE (R55, R476): the regulator's bus address, the command, whether it was acknowledged, what was read. -/
def execPmbusComplete (reg : BitVec 8) (cmd : Sys2Proof.PmCmd) (ack : Bool) (value : Nat) (s : State) :
    Host.Outcome State Fault Refusal :=
  s.onAlive (fun d => d.pmComplete reg.toNat cmd ack value)

/-- PMBUS_RETRY (R55). -/
def execPmbusRetry (s : State) : Host.Outcome State Fault Refusal := s.onAlive Dev.pmRetry

/-- PMBUS_ALERT (R477). -/
def execPmbusAlert (reg : BitVec 8) (word : Half) (s : State) : Host.Outcome State Fault Refusal :=
  s.onAlive (fun d => d.pmAlert reg.toNat word)

/-! ### Power domains -/

/-- UNIT_STOPPED (R467). -/
def execUnitStopped (code : Half) (s : State) : Host.Outcome State Fault Refusal :=
  s.onAlive (fun d => if domSwitched code.toNat then d.domStopped code.toNat else d)

/-- RAMP_SLOT_GRANT (R469). -/
def execRampSlotGrant (s : State) : Host.Outcome State Fault Refusal := s.onAlive Dev.rampGrant

/-- POWER_GOOD (R469, R424, R497): a MODE_REQUEST may wait for it, and a test of a unit that was in Stop. -/
def execPowerGood (code : Half) (s : State) : Host.Outcome State Fault Refusal :=
  s.onAlive (fun d => if domSwitched code.toNat then ((d.domPowerGood code.toNat).reqProgress d.time.air).startTests else d)

/-- WAKE_ATTEMPT_TIMEOUT (R470). -/
def execWakeAttemptTimeout (code : Half) (s : State) : Host.Outcome State Fault Refusal :=
  s.onAlive (fun d => if domSwitched code.toNat then (d.wakeFailed code.toNat).reqProgress d.time.air else d)

/-- WAKE_RETRY (R470). -/
def execWakeRetry (code : Half) (s : State) : Host.Outcome State Fault Refusal :=
  s.onAlive (fun d => if domSwitched code.toNat then d.wakeRetry code.toNat else d)

/-! ### Thermal model and health -/

/-- HOUSEKEEPING_CONVERSION (R478): what the ADC converts, and the outcome of a self-check channel. -/
def execHousekeepingConversion (value : Half) (ok : Bool) (s : State) : Host.Outcome State Fault Refusal :=
  s.on (fun d => if d.up then d.conversion value ok else d)

/-- MODEL_STEP (R482). -/
def execModelStep (m : Sys2Proof.ModelStep) (s : State) : Host.Outcome State Fault Refusal :=
  s.onAlive (fun d => d.modelStep m)

/-- THERMAL_LIMIT_CLEAR (R487). -/
def execThermalLimitClear (s : State) : Host.Outcome State Fault Refusal := s.onAlive Dev.limitClear

/-- BUCKET_LEAK (R493): the next whole second of air time. -/
def execBucketLeak (s : State) : Host.Outcome State Fault Refusal :=
  s.onAlive (fun d =>
    match d.atPeriod d.health.leakSecond secondTc with
    | some p => ({ p.2 with health := { p.2.health with leakSecond := p.1 } } : Dev).secondEdge
    | none => d)

/-- SELFTEST_COMPLETE (R495): a unit's test and what it found. -/
def execSelftestComplete (c u : BitVec 8) (rep : Sys2Proof.TestReport) (s : State) : Host.Outcome State Fault Refusal :=
  s.onAlive (fun d => d.testComplete c.toNat u.toNat rep)

/-- ROLLING_SELFTEST (R498). -/
def execRollingSelftest (s : State) : Host.Outcome State Fault Refusal := s.onAlive Dev.rollingStep

/-- REPLACE_REQUEST (R501): 60 s after the last one. -/
def execReplaceRequest (s : State) : Host.Outcome State Fault Refusal :=
  s.onAlive (fun d =>
    if !d.health.replaceOut then d
    else match d.after d.health.replaceAt (60 * secondTc) with
      | some d1 => d1.replaceRepeat
      | none => d)

end Sys2Proof.Machine
end

