-- ==== Sys2Proof/Machine/Apply.lean ====
section
/-! DEFINITION. What the staged commands change at the boundary of their COMMIT (16_chiop_commands.md, R406, R413; each
change by the rule of its own chapter). -/

namespace Sys2Proof.Machine

/-! ### Cells and streams -/

/-- Whether a handle names a cell that the device has shed and the host has not added again (R406). -/
def Dev.shedNow (d : Dev) (h : Nat) : Bool := (d.cell? h).isNone && d.cfg.shed.any (fun x => x.1 == h)

/-- CELL_ADD, CELL_REMOVE and CELL_MODIFY (R414). -/
def Dev.applyCell (d : Dev) (s : Staged) : Dev :=
  let h := pf s.params 0 2
  let cells : List Cell :=
    if s.op = 0x0201 then d.cfg.cells ++ [{ cr := parseCell s.params }]
    else if s.op = 0x0202 then d.cfg.cells.filter (fun c => c.cr.cell != h)
    else d.cfg.cells.map (fun c => if c.cr.cell = h then { c with cr := parseCell s.params } else c)
  let shed := if s.op = 0x0201 then d.cfg.shed.filter (fun x => x.1 != h) else d.cfg.shed
  { d with cfg := { d.cfg with cells := cells, shed := shed } }

/-- The lanes that some entry of the stream table differs on (R332). -/
def streamLanes (a b : List StreamRec) : List Nat :=
  (List.range 32).filter (fun l => a.filter (fun e => e.lane == l) != b.filter (fun e => e.lane == l))

/-- A stream table takes effect by TAG (R332): the old one is kept for symbols before the boundary, and CFGT is inverted on
the lanes that change. -/
def Dev.streamsChanged (d : Dev) (old : List StreamRec) (at_ : Nat) : Dev :=
  if old = d.cfg.streams then d
  else
    let d1 := (streamLanes old d.cfg.streams).foldl (fun d l => d.updTx l (fun t => { t with cfgtDue := true })) d
    { d1 with link := { d1.link with oldStreams := old, streamsAt := some at_ } }

/-! ### HARQ area -/

/-- HARQ_SET (R311): pages that stay in the area keep their bits, pages that come in start unwritten. -/
def Memory.setHarq (m : Memory) (base size : Nat) : Memory :=
  let m1 : Memory := { m with harqBase := BitVec.ofNat 64 base, harqSize := BitVec.ofNat 64 size }
  { m1 with harqPages := m.harqPages.filter (fun p => m1.inHarq (4096 * p)) }

/-- HARQ_CLEAR (R313). -/
def Memory.clearHarq (m : Memory) (base len : Nat) : Memory :=
  { m with harqPages := m.harqPages.filter (fun p => decide (4096 * p < base) || decide (base + len ≤ 4096 * p)) }

/-! ### Links and ports -/

/-- LANE_SET (R318, R360): a lane whose personality changes starts again, and its bins with it. -/
def Dev.applyLaneSet (d : Dev) (p : List Byte) : Dev :=
  let l := pf p 0 1
  let was := d.laneField l 0 1
  let eth := d.pmEth l
  let d1 : Dev := { d with cfg := { d.cfg with lanes := setRec d.cfg.lanes l ((p.drop 4).take 128) } }
  if pf p 4 1 = was then d1
  else
    let d2 := d1.laneRestart l
    if d2.pmEth l == eth ∨ !(d2.pm l).opened then d2
    else d2.updPm l (fun x => x.reopen d2.stamp (d2.pmEth l) d2.time.unlocked d2.timeSuspect)

/-- DETOUR_CMD (R344): a newer command replaces the older one, CLEAR removes it and ends a wait to restore. -/
def Dev.applyDetour (d : Dev) (p : List Byte) : Dev :=
  let r := pf p 1 1
  d.updGroup (pf p 0 1) (fun g =>
    if r = 0 then { g with host := none, wtr := none } else { g with host := some (r, pf p 2 1) })

/-- PORT_SET (R371, R376): a port that is enabled is woken, one that is disabled goes down and stops; a peer that changes or
goes closes its channel. -/
def Dev.applyPortSet (d : Dev) (p : List Byte) : Dev :=
  let k := pf p 0 1
  let old := d.cfg.ports.toList.getD k []
  let new := (p.drop 4).take 64
  let was := d.portEnabled k
  let down := was && !bitAt (pf new 0 1) 0
  let gone := (List.range 4).filter (fun i =>
    decide (pf new 14 1 ≤ i) || !bitAt (pf new 3 1) 2 || (old.drop (24 + 6 * i)).take 6 != (new.drop (24 + 6 * i)).take 6)
  let d1 := if down then d.portDown k else d.closeChans (gone.map (fun i => 1 + 4 * k + i))
  let d2 : Dev := { d1 with cfg := { d1.cfg with ports := setRec d1.cfg.ports k new } }
  if down then d2.domImplicit (0x600 + k) false .control
  else if !was && bitAt (pf new 0 1) 0 then d2.domImplicit (0x600 + k) true .control
  else d2

/-! ### Images and units -/

/-- IMAGE_BIND (R455): the cores of the mask are bound to the image and wait until they hold no job. -/
def Dev.applyBind (d : Dev) (p : List Byte) : Dev :=
  let h := pf p 0 2
  let ks := (List.range 128).filter (fun k => bitAt (pf p 4 16) k)
  let imgs := d.start.images.map (fun i =>
    let rest := i.bound.filter (fun k => !ks.contains k)
    { i with bound := if i.handle = h then rest ++ ks else rest })
  { d with start := { d.start with images := imgs
                                   bindDue := d.start.bindDue.filter (fun b => !ks.contains b.1) ++ ks.map (fun k => (k, h)) } }

/-- The control complex writes an image to a core's program memory; the core enters it at address 0 as Supervisor. -/
def Dev.enterImage (d : Dev) (k handle : Nat) : Dev :=
  match d.start.images.find? (fun i => i.handle == handle) with
  | none => d
  | some i =>
    ({ d with mem := d.mem.ifWrite (mailAddr k 0x60000) i.payload } : Dev).updCore k (fun c =>
      { c with pc := 0, level := .supervisor, waiting := false })

/-- Bindings whose core holds no job take effect (R67, R455). -/
def Dev.bindImages (d : Dev) : Dev :=
  d.start.bindDue.foldl (fun d b =>
    let ready := d.present 1 b.1 && d.domRun (0x100 + b.1) && !(d.unit 1 b.1).testing && (d.core b.1).jobs.isEmpty
      && d.unitIdle 1 b.1
    if ready then ({ d with start := { d.start with bindDue := d.start.bindDue.erase b } } : Dev).enterImage b.1 b.2 else d) d

/-- A unit becomes RETIRED by the host's command (R11). -/
def Dev.retire (d : Dev) (c s : Nat) : Dev := d.updUnit c s (fun u => { u with st := .retired, testing := false, queued := false })

/-- The event of a unit that the host has removed (R11, R496). -/
def Dev.retiredEvent (d : Dev) (c s : Nat) : Dev :=
  d.healthEvent { hkind := 0x0021, action := 6, cls := c, slot := s, domain := unitDomain c s, level := (d.unit c s).level }

/-- UNIT_REMOVE (R247, L1 to L4; R11): the unit is RETIRED, leaves its pool at once, and what it has started it completes;
its domain then stops. -/
def Dev.removeUnit (d : Dev) (c s : Nat) : Dev :=
  if !d.present c s then d
  else
    let mxc := decide (c = 1) && d.present 2 s
    let d1 := d.retire c s
    let d2 := if mxc then d1.retire 2 s else d1
    let d3 := if c = 4 then d2.rebindFrom s else d2
    let d4 := if c = 1 ∨ (3 ≤ c ∧ c ≤ 9) then d3.leaveUnit c s else d3
    let d5 := (d4.retiredEvent c s).unitLeft c s
    if mxc then (d5.retiredEvent 2 s).unitLeft 2 s else d5

/-! ### Settings -/

/-- SLACK_SET (R50). -/
def Dev.applySlack (d : Dev) (p : List Byte) : Dev :=
  let c : SlackCfg :=
    { targetA := pf p 0 2
      floorA := pf p 2 2
      targetB := pf p 4 2
      vCeil := pf p 6 2
      vFloor := pf p 8 2 }
  { d with slack := d.slack.setCfg c }

/-- A source that is no longer selected delivers no more (R43, log entry 62); where it was the one in use, it is lost as one
that falls silent is. -/
def TimeState.deselect (t : TimeState) (was : Nat) : TimeState :=
  let pps := t.sel.getLsbD 0
  let ptp := t.sel.getLsbD 1
  let t1 := { t with ppsDelivering := t.ppsDelivering && pps
                     ppsGood := if pps then t.ppsGood else 0
                     ppsNum := if pps then t.ppsNum else none
                     ptpDelivering := t.ptpDelivering && ptp
                     ptpSince := if ptp then t.ptpSince else none
                     disagree := if pps && ptp then t.disagree else 0 }
  if (was = 1 ∧ !pps) ∨ (was = 2 ∧ !ptp) then
    t1.lose (if was = 1 then t1.ptpLocked else t1.ppsDelivering && decide (16 ≤ t1.ppsGood))
  else t1.setSrc

/-- TIME_SOURCE_SET (R39, R546): FN counts anew from the reference point of the HFN cycle that runs. -/
def Dev.applySources (d : Dev) (p : List Byte) : Dev :=
  let t : TimeState :=
    { d.time with sel := BitVec.ofNat 8 (pf p 0 1)
                  prio := BitVec.ofNat 8 (pf p 1 1)
                  fn0 := pf p 4 4
                  fnWraps := d.time.wraps }
  ({ d with time := { t with gsmSlots := gsmSlotOf (t.gsmAt t.air) }.deselect d.time.used } : Dev).timeAlert d

/-- THERMAL_SET (R490). -/
def Dev.applyThermal (d : Dev) (p : List Byte) : Dev :=
  let c : ThermalCfg :=
    { tlimit := pf p 0 2
      thyst := pf p 2 1
      settle := pf p 3 1
      guarCu := pf p 4 2
      roll := pf p 6 1 }
  { d with thermal := { d.thermal with cfg := c } }

/-- PM_THRESHOLD_SET (R367): in force from the next PM second. -/
def Dev.applyThreshold (d : Dev) (p : List Byte) : Dev :=
  let key := (pf p 0 1, pf p 1 1, pf p 2 1)
  let rest := d.cfg.thresholds.filter (fun t => (t.1, t.2.1, t.2.2.1) != key)
  { d with cfg := { d.cfg with thresholds := rest ++ [(pf p 0 1, pf p 1 1, pf p 2 1, pf p 4 4)] } }

/-- LEAKY_SET (R494). -/
def Dev.applyLeaky (d : Dev) (p : List Byte) : Dev :=
  let c : LeakyCfg :=
    { leak := pf p 2 2
      testlvl := pf p 4 2
      passw := pf p 6 2
      retlvl := pf p 8 2 }
  { d with health := { d.health with leaky := Vector.ofFn (fun (i : Fin 17) => if i.val = pf p 0 1 then c else d.health.leaky[i]) } }

/-- One staged command whose change is not dropped, but for TICK_SET and the entries of STREAM_SET. -/
def Dev.applyOne (d : Dev) (s : Staged) : Dev :=
  let p := s.params
  match s.op with
  | 0x0201 => d.applyCell s
  | 0x0202 => d.applyCell s
  | 0x0203 => d.applyCell s
  | 0x0205 => { d with cfg := { d.cfg with ramps := setRec d.cfg.ramps (pf p 0 1) ((p.drop 4).take 68) } }
  | 0x0206 => { d with mem := d.mem.setHarq (pf p 0 8) (pf p 8 8) }
  | 0x0207 => { d with mem := d.mem.clearHarq (pf p 0 8) (pf p 8 8) }
  | 0x0302 => d.applyBind p
  | 0x0401 => d.applyLaneSet p
  | 0x0402 => { d with cfg := { d.cfg with groups := setRec d.cfg.groups (pf p 0 1) (p.take 16) } }
  | 0x0403 => d.applyDetour p
  | 0x0404 => d.applyPortSet p
  | 0x0501 => d.applySlack p
  | 0x0502 => d.applySources p
  | 0x0507 => d.applyThermal p
  | 0x0603 => d.removeUnit (pf p 0 1) (pf p 1 1)
  | 0x0701 => { d with link := { d.link with timeDue := some (BitVec.ofNat 8 (pf p 0 1), BitVec.ofNat 16 (pf p 2 2)) } }
  | 0x0702 => d.applyThreshold p
  | 0x0703 => match pmNamed (pf p 0 1) with | some k => d.updPm k (fun x => { x with clearDue := true }) | none => d
  | 0x0A01 => { d with cfg := { d.cfg with tallyAge := pf p 0 4 } }
  | 0x0A02 => { d with cfg := { d.cfg with pto := pf p 0 2 } }
  | 0x0A03 => d.applyLeaky p
  | _ => d

/-! ### The stage -/

/-- The units a staged command names (R406). -/
def stagedUnits (s : Staged) : List (Nat × Nat) :=
  let p := s.params
  match s.op with
  | 0x0302 => ((List.range 128).filter (fun k => bitAt (pf p 4 16) k)).map (fun k => (1, k))
  | 0x0401 => [(13, pf p 0 1)]
  | 0x0402 => [(13, pf p 2 1)]
  | 0x0404 => [(14, pf p 0 1)]
  | 0x0603 => [(pf p 0 1, pf p 1 1)]
  | 0x0702 => if pf p 0 1 < 32 then [(13, pf p 0 1)] else []
  | 0x0703 => if pf p 0 1 < 32 then [(13, pf p 0 1)] else []
  | _ => []

/-- A DROPPED_CHANGE health event (R406): the opcode is its data. -/
def Dev.dropChange (d : Dev) (op cell : Nat) (u : Nat × Nat) : Dev :=
  d.healthEvent { hkind := 0x0046, cls := u.1, slot := u.2, cell := cell, data := bytesOf 2 op }

/-- The device, the changes applied and those dropped so far. -/
abbrev Applied := Dev × Nat × Nat

/-- The entries of a STREAM_SET (R406): those that name a lost lane or a shed cell are dropped one by one. -/
def applyStreams (a : Applied) (lost : List (Nat × Nat)) (s : Staged) : Applied :=
  let d := a.1
  let es := streamEntries s.params
  let bad := fun (e : StreamRec) => e.cell != 0xFFFF && (d.shedNow e.cell || lost.contains (13, e.lane))
  let drop := es.filter bad
  let keep := es.filter (fun e => !bad e)
  let d1 : Dev := { d with cfg := { d.cfg with streams := keep.foldl putStream d.cfg.streams } }
  (drop.foldl (fun d e => d.dropChange 0x0204 e.cell (if lost.contains (13, e.lane) then (13, e.lane) else (0, 0))) d1,
    a.2.1 + boolNat !keep.isEmpty, a.2.2 + drop.length)

/-- TICK_SET (R46): it applies where the commit boundary is a frame boundary, else it waits for one. -/
def applyTick (a : Applied) (at_ : Nat) (s : Staged) : Applied :=
  let d := a.1
  let code := pf s.params 0 1
  if at_ % frameTc = 0 ∧ d.calendarBusy then (d.dropChange 0x0504 0xFFFF (0, 0), a.2.1, a.2.2 + 1)
  else if at_ % frameTc = 0 ∧ d.time.edgeAt = at_ then ({ d with time := { d.time with tickCode := code } }, a.2.1 + 1, a.2.2)
  else ({ d with time := { d.time with tickPending := some code } }, a.2.1 + 1, a.2.2)

/-- One staged command at its boundary (R406). -/
def applyStaged (at_ : Nat) (lost : List (Nat × Nat)) (a : Applied) (s : Staged) : Applied :=
  let h := pf s.params 0 2
  match (stagedUnits s).find? (fun u => lost.contains u) with
  | some u => (a.1.dropChange s.op 0xFFFF u, a.2.1, a.2.2 + 1)
  | none =>
    if (s.op = 0x0202 ∨ s.op = 0x0203) ∧ a.1.shedNow h then (a.1.dropChange s.op h (0, 0), a.2.1, a.2.2 + 1)
    else if s.op = 0x0204 then applyStreams a lost s
    else if s.op = 0x0504 then applyTick a at_ s
    else (a.1.applyOne s, a.2.1 + 1, a.2.2)

/-- The committed stage, command by command (R406, step 2). -/
def Dev.applyStage (d : Dev) (at_ : Nat) (lost : List (Nat × Nat)) (stage : List Staged) : Applied :=
  let a := stage.foldl (applyStaged at_ lost) (d, 0, 0)
  ((a.1.streamsChanged d.cfg.streams at_).noUnitJobs, a.2)

end Sys2Proof.Machine
end

