-- ==== Sys2Proof/Machine/Boundary.lean ====
section
/-! DEFINITION. Epoch boundaries: unit states, the stage, shedding, the mode, cells that leave and enter service, the cut
(16_chiop_commands.md, R402, R406; 17_operating_modes.md, R418 to R429; 01_architecture.md, R32; 02_timing_and_deadlines.md,
R53, R59, R60; 05_transform_and_equaliser.md, R142; 08_transmit_chain.md, R216; 09_almanac_scheduler.md, R544;
20_thermal_and_health.md, R486, R487, R500). -/

namespace Sys2Proof.Machine

/-! ### Leaving service -/

/-- The latest of a cell's events that a lane still holds. -/
def lastGate (es : List GateEv) : Option GateEv :=
  es.foldl (fun best e =>
    match best with
    | none => some e
    | some b => if 0 ≤ airDiff e.at_ b.at_ then some e else some b) none

/-- A cell's gate group on a lane closes at the boundary plus GOFF_DLY (R216). Its later events of which no copy has left
are taken back. -/
def Dev.closeGate (d : Dev) (c : CellRec) (at_ l : Nat) : Dev :=
  let later := (d.lane l).tx.coming.filter (fun e => e.cell == c.cell && decide (0 < airDiff e.at_ at_))
  let d1 := later.foldl (fun d e => if (d.lane l).tx.unsent e then d.updTx l (fun t => t.takeBack e) else d) d
  let t := (d1.lane l).tx
  let on := match lastGate (t.coming.filter (fun e => e.cell == c.cell)) with
    | some e => e.on
    | none => t.gate.getLsbD (c.gategrp.toNat % 16)
  if c.gategrp != 0xFF && on then d1.placeGate l (gateOffEv c at_) else d1

/-- The device-defined jobs of a cell that have not been dispatched and serve a slot from a moment on (R544). -/
def Dev.jobsFrom (d : Dev) (cell at_ : Nat) : List Word :=
  let type := match d.cell? cell with | some c => c.cr.type | none => 1
  let serves := fun (j : Job) (s : Sys2Proof.Serves) =>
    if j.sym < slotSymbols type then d.time.symStart type s.start j.sym else s.start
  (d.alm.jobs.filter (fun j => j.cell == cell && (j.st == .waiting || j.st == .ready)
    && (match j.serves with | some s => decide (0 ≤ airDiff (serves j s) at_) | none => false))).map (fun j => j.id)

/-- They are removed with SKIP set and released in their order; their timers are cancelled; no SLOT_DONE follows (R544). -/
def Dev.dropJobs (d : Dev) (cell at_ : Nat) : Dev :=
  let ids := d.jobsFrom cell at_
  let plans := d.cfg.plans.filter (fun p => !(p.cell == cell && decide (0 ≤ airDiff p.start at_)))
  let d1 : Dev := { d with cfg := { d.cfg with plans := plans } }
  let d2 := d1.onAlm (fun a => { a with timers := a.timers.filter (fun t => !ids.contains t.target) })
  ids.foldl (fun d id => d.endJob id 2) d2

/-- A cell leaves service at a boundary (R216, R420, R544): its containers stop, its gates close, its later jobs go, its
processions end with their last job. -/
def Dev.leaveService (d : Dev) (c : Cell) (lanes : List Nat) (at_ : Nat) : Dev :=
  let h := c.cr.cell
  let d1 : Dev := { d with link := { d.link with out := d.link.out.filter (fun x => !(x.cell == h && decide (0 ≤ airDiff x.at_ at_))) } }
  let d2 := lanes.foldl (fun d l => d.closeGate c.cr at_ l) d1
  ((d2.dropJobs h at_).dropProcs h).updCell h (fun x =>
    { x with inService := false, engines := [], gateOn := false, idleLast := false })

/-! ### Shedding -/

/-- CAUSES of a shed (Table 20.9): capacity, thermal, slack. -/
structure ShedWhy where
  capacity : Bool := false
  thermal : Bool := false
  slack : Bool := false
deriving DecidableEq, Repr

/-- CAUSES as its byte. -/
def ShedWhy.byte (w : ShedWhy) : Nat := boolNat w.capacity + 2 * boolNat w.thermal + 4 * boolNat w.slack

/-- A cell is shed (R32, R54, R59, R60): it leaves the committed configuration; its event and STATE name the first of
thermal, slack and capacity, and CAUSES all. -/
def Dev.shedCell (d : Dev) (c : Cell) (w : ShedWhy) : Dev :=
  let h := c.cr.cell
  let kind := if w.thermal then 4 else if w.slack then 5 else 3
  let st := if w.thermal then 3 else if w.slack then 4 else 2
  let cfg := { d.cfg with cells := d.cfg.cells.filter (fun x => x.cr.cell != h)
                          shed := d.cfg.shed.filter (fun x => x.1 != h) ++ [(h, st)] }
  ({ d with cfg := cfg } : Dev).healthEvent { hkind := kind, action := 8, causes := w.byte, cell := h }

/-- R32: cells are shed until the committed cost fits CU_AVAIL. -/
def Dev.shedCapacity : Nat → Dev → Dev
  | 0, d => d
  | n + 1, d =>
    if d.cuUsed ≤ d.cuAvail then d
    else match nextShed d.cfg.cells with
      | none => d
      | some c => Dev.shedCapacity n (d.shedCell c { capacity := true })

/-- The slack shed is done (R59): the window count starts afresh, with the window that begins at or after the boundary; the
rolling self-test runs at its shorter period (R498). -/
def SlackState.shedDone (s : SlackState) (at_ : Nat) (w : Word) : SlackState :=
  { s with shedDue := false
           history := []
           skipWindow := Decidable.decide (at_ % 1966080 ≠ 0 ∨ s.recA.window ≠ w)
           sheds := s.sheds + 1
           sinceShed := some 0 }

/-- The thermal shed is done (R486). -/
def ThermalState.shedDone (t : ThermalState) (at_ : Nat) : ThermalState := { t with sheds := t.sheds + 1, lastShed := some at_ }

/-- Whether a thermal shed falls due at a boundary in M8 after its entry (R486). -/
def Dev.thermalAgain (d : Dev) (at_ : Nat) : Bool :=
  decide (d.thermal.tlim ≤ d.thermal.td)
    && (d.emergency || (match d.thermal.lastShed with
          | some a => decide (usToTc (100000 * d.thermal.cfg.settle) ≤ airAhead a at_)
          | none => true))

/-- Step 3 of R406: one cell for the limit and the slack loop, and cells for capacity. `entry` says that M8 is entered at
this boundary, `was` the mode before it. -/
def Dev.shedStep (d : Dev) (at_ was : Nat) (entry : Bool) : Dev :=
  let thermal := entry || (was == 8 && d.thermalAgain at_)
  let slack := d.slack.shedDue && modeServes was
  let d1 : Dev := { d with slack := { d.slack with shedDue := false } }
  let d2 := if thermal || slack then
      match nextShed d1.cfg.cells with
      | none => d1
      | some c =>
        let x := d1.shedCell c { capacity := decide (d1.cuAvail < d1.cuUsed), thermal := thermal, slack := slack }
        let y : Dev := if slack then { x with slack := x.slack.shedDone at_ (x.time.subframeOf at_) } else x
        if thermal then { y with thermal := y.thermal.shedDone at_ } else y
    else d1
  Dev.shedCapacity d2.cfg.cells.length d2

/-! ### Entering service -/

/-- The footprints of a cell's new record differ from those it is bound with (R142, R414). -/
def needsBind (old : Option Cell) (c : Cell) : Bool :=
  c.engines.length != (footprints c.cr).length || c.engines.contains 0xFF
    || (match old with | some o => footprints o.cr != footprints c.cr | none => true)

/-- A cell that serves is bound (R142); one that does not bind is shed for capacity. -/
def Dev.bindOrShed (d : Dev) (before : List Cell) (c0 : Cell) : Dev :=
  match d.cell? c0.cr.cell with
  | none => d
  | some c =>
    let old := before.find? (fun x => x.cr.cell == c.cr.cell && x.inService)
    if c.cr.type = 5 ∨ !needsBind old c then d
    else
      let free := d.cfg.cells.map (fun x => if x.cr.cell = c.cr.cell then { x with engines := [] } else x)
      match d.bindCell free { c with engines := [] } with
      | some cs => { d with cfg := { d.cfg with cells := cs } }
      | none => d.shedCell c { capacity := true }

/-- The state of a cell's gate group after the events derived before it came into service. -/
def Dev.gateBefore (d : Dev) (cell : Nat) : Bool :=
  match lastGate ((d.gateLanes cell).flatMap (fun l => (d.lane l).tx.coming.filter (fun e => e.cell == cell))) with
  | some e => e.on
  | none => false

/-- A committed cell enters service at a boundary (R414, R420). -/
def Dev.enterService (d : Dev) (at_ : Nat) (c : Cell) : Dev :=
  let h := c.cr.cell
  let on := d.gateBefore h
  let first := (d.time.slotSpan c.cr.type ((at_ + airWrap - 1) % airWrap)).2
  let idle := c.cr.type == 5 && (d.gsmActive h first).getD 7 true == false
  -- equaliser jobs of early plans that belong to a procession join it now
  let early := d.alm.jobs.filter (fun j => j.wants && !j.proc && j.cell == h && j.pool == 4)
  let d1 := early.foldl Dev.intoProc (d.ensureProcs c.cr)
  d1.updCell h (fun x => { x with inService := true, since := at_, gateOn := on, idleLast := idle, arrived := [] })

/-! ### Modes -/

/-- The transitions of Table 17.2 that a MODE_REQUEST makes. -/
def requestEdge (m t : Nat) : Bool :=
  match m with
  | 4 => [5, 6, 10, 11].contains t
  | 5 => [4, 6, 10, 11, 12].contains t
  | 6 => [5, 12].contains t
  | 7 => [5, 12].contains t
  | 8 => t == 12
  | 11 => [4, 5].contains t
  | 12 => [4, 5].contains t
  | _ => false

/-- Whether a held MODE_REQUEST takes effect at a boundary (R424): one into service waits for its domains and 200 µs more. -/
def Dev.requestDue (d : Dev) (at_ : Nat) (r : ModeReq) : Bool :=
  if r.target = 6 ∧ (d.mode.mode = 4 ∨ d.mode.mode = 5) then
    match r.allRunAt with
    | some t => airPast at_ t && decide (boostLead ≤ airAhead t at_)
    | none => false
  else true

/-- The mode that a requested entry into service lands in (R421, R423). -/
def Dev.landing (d : Dev) (t : Nat) : Nat :=
  if t ≠ 6 then t else if d.thermal.flag2 then 8 else if d.serviceN then 7 else 6

/-- Whether the device-wide self-test and every other test have ended (R427). -/
def Dev.testsOver (d : Dev) : Bool := d.mode.todo.isEmpty && d.health.testQueue.isEmpty && d.testsRunning.isEmpty

/-- What a boundary does to the mode: the mode after it, the cause, and whether the held MODE_REQUEST made the change. -/
structure Turn where
  mode : Nat
  cause : Nat := 0
  byRequest : Bool := false
deriving DecidableEq, Repr

/-- Transitions that the device makes of its own, by precedence (R426, Table 17.2). -/
def Dev.ownTurn (d : Dev) : Option Turn :=
  let m := d.mode.mode
  if m = 10 then
    if !d.testsOver then none
    else if d.mode.hostLoss then some { mode := 12, cause := 3 }
    else some { mode := d.mode.from10, cause := 0x100 + Nat.min 255 d.mode.retired10 }
  else if d.mode.hostLoss ∧ [4, 5, 6, 7, 8, 11].contains m then some { mode := 12, cause := 3 }
  else if d.thermal.limit ∧ (m = 6 ∨ m = 7) then some { mode := 8, cause := 7 }
  else if m = 6 ∧ d.serviceN then
    some { mode := 7, cause := if d.mode.capacity then 4 else if d.mode.spares then 5 else if d.mode.essential then 6 else 4 }
  else if m = 8 ∧ !d.thermal.limit then some { mode := if d.health.service then 7 else 6, cause := 8 }
  else none

/-- The turn of a boundary: the device's own, else that of the request. -/
def Dev.turn (d : Dev) (at_ : Nat) : Turn :=
  match d.ownTurn with
  | some t => t
  | none =>
    match d.mode.req with
    | some r =>
      if d.requestDue at_ r && requestEdge d.mode.mode r.target then { mode := d.landing r.target, cause := 2, byRequest := true }
      else { mode := d.mode.mode }
    | none => { mode := d.mode.mode }

/-- A MODE event (R429), its log record and its alert. -/
def Dev.modeEvent (d : Dev) (old new cause : Nat) : Dev :=
  let p := bytesOf 1 old ++ bytesOf 1 new ++ bytesOf 2 cause
  ((d.post 0xF007 p).logAdd 2 false p).raiseAlert 9

/-- Plans accepted while a MODE_REQUEST into service was held are discarded (R425), and the processions they made. -/
def Dev.discardEarly (d : Dev) : Dev :=
  let d1 := (d.cfg.plans.filter (fun p => p.early)).foldl (fun d p => d.discardPlan p) d
  (d1.alm.procs.filterMap (fun p => p.owner)).eraseDups.foldl (fun d h => if d.serving? h then d else d.dropProcs h) d1

/-- A held MODE_REQUEST completes without a change (R422, R424, R425). -/
def Dev.failRequest (d : Dev) (r : ModeReq) (status : Nat) : Dev :=
  let d1 := d.complete r.chan r.seq status (errDetail 0xFFFF 0 0 0)
  ({ d1 with mode := { d1.mode with req := none } } : Dev).discardEarly

/-- A held MODE_REQUEST at a boundary: answered where it made the change, refused where the mode rules it out (R422). -/
def Dev.settleRequest (d : Dev) (at_ : Nat) (t : Turn) : Dev :=
  match d.mode.req with
  | none => d
  | some r =>
    if t.byRequest then
      let d1 := d.complete r.chan r.seq 0 (bytesOf 1 t.mode)
      { d1 with mode := { d1.mode with req := none }
                cfg := { d1.cfg with plans := d1.cfg.plans.map (fun p => if 0 ≤ airDiff p.start at_ then { p with early := false } else p) } }
    else if !requestEdge t.mode r.target then d.failRequest r stWrongMode
    else if r.target = 6 ∧ r.allRunAt.isNone ∧ r.await.isEmpty then
      let need := d.serviceDomains
      let d1 := d.wakeAll need
      ({ d1 with mode := { d1.mode with req := some { r with await := need } } } : Dev).reqProgress d.time.air
    else d

/-- The domains of signal cores and accelerators in Run or on the way to it, stopped in M5 and M12 (Table 17.1); a core's
Stop takes its MXC with it (R466). -/
def Dev.restDomains (d : Dev) : Dev :=
  (allDomains.filter (fun c => decide (c < 0x400 ∧ c / 256 ≠ 2) && !((d.dom c).st == .stop && (d.dom c).cur.isNone)
    && (d.dom c).st != .failed && (d.dom c).st != .absent)).foldl (fun d c => d.domImplicit c false .control) d

/-- The domains that M4, M10 and M11 have available after M5 and M12 (Table 17.1), and in M10 those of every unit to test. -/
def Dev.wakeDomains (d : Dev) (all : Bool) : Dev :=
  d.wakeAll (allDomains.filter (fun c => decide (c < 0x400 ∨ (all = true ∧ c < 0x800)) && d.domPresent c && !(d.dom c).hostHeld))

/-- The units that the device-wide self-test covers (R427): an MXC is tested with its core, HBM has no targeted test. -/
def Dev.passUnits (d : Dev) : List (Nat × Nat) :=
  allUnits.filter (fun u => d.present u.1 u.2 && u.1 != 12 && d.testable u && (u.1 != 2 || d.present 1 u.2)
    && (unitDomain u.1 u.2 == 0x0B00 || !(d.dom (unitDomain u.1 u.2)).hostHeld))

/-- In M10 a unit whose domain has failed or is held by the host, or that cannot be tested, is not waited for. -/
def Dev.pruneTests (d : Dev) : Dev :=
  if d.mode.mode ≠ 10 then d
  else
    let ok := fun (u : Nat × Nat) => (d.unit u.1 u.2).testing || (if unitDomain u.1 u.2 = 0x0B00 then d.testable u
      else !((d.dom (unitDomain u.1 u.2)).st == .failed || (d.dom (unitDomain u.1 u.2)).hostHeld))
    { d with mode := { d.mode with todo := d.mode.todo.filter ok }
             health := { d.health with testQueue := d.health.testQueue.filter ok } }

/-- M10 is entered (R427): Ethernet lines have no link in it (Table 17.1). -/
def Dev.enterTest (d : Dev) (was : Nat) : Dev :=
  let us := d.passUnits
  let down := ((List.range 32).map (fun l => (13, l)) ++ (List.range 4).map (fun p => (14, p))).foldl
    (fun (d : Dev) (u : Nat × Nat) => d.lineDown u.1 u.2) d
  let d1 : Dev := { down with mode := { down.mode with from10 := was, todo := us, retired10 := 0 } }
  ((us.filter (fun u => u.1 != 2)).foldl (fun d u => d.queueTest u.1 u.2) (d1.wakeDomains true)).startTests

/-- Ports that no record enables stop again after M10 (R371). -/
def Dev.restPorts (d : Dev) : Dev :=
  (List.range 4).foldl (fun d p =>
    if d.portEnabled p ∨ !(d.domRun (0x600 + p)) then d else d.domImplicit (0x600 + p) false .control) d

/-- What a change of mode brings beside cells (Table 17.1). -/
def Dev.modeWork (d : Dev) (was now : Nat) : Dev :=
  if was = now then d
  else
    let d1 := if was = 10 then d.restPorts else d
    if now = 5 ∨ now = 12 then d1.restDomains
    else if now = 10 then d1.enterTest was
    else if (now = 4 ∨ now = 11) ∧ (was = 5 ∨ was = 12) then d1.wakeDomains false
    else d1

/-! ### The boundary -/

/-- The epoch advances (R402): a change of GRAN takes effect at a frame boundary. -/
def Dev.nextEpoch (d : Dev) (at_ : Nat) (count : Bool) : Dev :=
  let c := d.chiop
  let g := if at_ % frameTc = 0 then c.granPending.getD c.gran else c.gran
  { d with chiop := { c with gran := g
                             granPending := if at_ % frameTc = 0 then none else c.granPending
                             epoch := if count then c.epoch + 1 else c.epoch
                             boundary := if count then at_ else c.boundary
                             boundaryStamp := if count then d.time.stampAt at_ else c.boundaryStamp
                             nextAt := (at_ + epochTc g) % airWrap } }

/-- The shell of a unit that is gone is ABSENT from this boundary (R252, R275); a quad's where none of its lanes is left. -/
def Dev.absentShells (d : Dev) : Dev :=
  let gone := fun (u : Nat × Nat) => (d.unit u.1 u.2).st == .retired || (d.unit u.1 u.2).st == .failed
  (allUnits.filter (fun u => gone u && u.1 != 2
    && (u.1 != 13 || (List.range 4).all (fun k => !d.present 13 (u.2 / 4 * 4 + k))))).foldl
    (fun d u => d.setShells (unitDomain u.1 u.2) .absent) d

/-- A port that is gone has no link. -/
def Dev.lostPorts (d : Dev) : Dev :=
  (List.range 4).foldl (fun d p => if (d.ethPort p).link && !d.present 14 p then d.portDown p else d) d

/-- Replacement conditions that this boundary reveals (R500), and what they do to the mode. -/
def Dev.replaceStep (d : Dev) (lost : List (Nat × Nat)) : Dev :=
  let g := d.thermal.cfg.guarCu
  let cap := g != 0 && decide (d.cuAvail < g) && !d.health.causes.contains 4
  let spare := d.health.sparesDue && !d.health.causes.contains 5
  let ess := d.health.essentialDue && !d.health.causes.contains 6
  let unit := d.health.replaceUnit
  let d1 := if cap then d.replaceCond 4 (lost.headD (0, 0)) else d
  let d2 := if spare then d1.replaceCond 5 unit else d1
  let d3 := if ess then d2.replaceCond 6 (0, 0) else d2
  { d3 with health := { d3.health with sparesDue := false, essentialDue := false }
            mode := { d3.mode with capacity := d3.mode.capacity || cap, spares := d3.mode.spares || spare
                                   essential := d3.mode.essential || ess } }

/-- Cells of `d0` that were in service and are so no longer leave service. -/
def Dev.leaveGone (d d0 : Dev) (was : List Cell) (at_ : Nat) : Dev :=
  (was.filter (fun c => c.inService && !(d.cell? c.cr.cell).any (fun x => x.inService))).foldl
    (fun d c => d.leaveService c (d0.gateLanes c.cr.cell) at_) d

/-- Cells leave, are bound and enter service as the mode after the boundary has it. `d0` is the device before it. -/
def Dev.serviceStep (d d0 : Dev) (at_ : Nat) (serves : Bool) : Dev :=
  let out : Dev := if serves then d
    else { d with cfg := { d.cfg with cells := d.cfg.cells.map (fun c => { c with inService := false }) } }
  let d1 := out.leaveGone d0 d0.cfg.cells at_
  let d2 := if serves then d1.cfg.cells.foldl (fun d c => d.bindOrShed d0.cfg.cells c) d1 else d1
  let d3 := d2.leaveGone d0 d1.cfg.cells at_
  let d4 := if serves then (d3.cfg.cells.filter (fun c => !c.inService)).foldl (fun d c => d.enterService at_ c) d3 else d3
  let early := d4.mode.req.isSome
  let ghosts := d4.cfg.plans.filter (fun p => p.running && decide (0 ≤ airDiff p.start at_) && !d4.serving? p.cell && !early)
  ghosts.foldl (fun d p => d.discardPlan p) d4

/-- The COMMIT that this boundary completes (R405): its reply and its event. -/
def Dev.finishCommit (d : Dev) (x : CommitHeld) (changes dropped shed : Nat) : Dev :=
  let tail := bytesOf 2 changes ++ bytesOf 2 dropped ++ bytesOf 2 shed
  let d1 := d.complete x.chan x.seq 0 (bytesOf 4 x.target.toNat ++ tail)
  d1.post 0xF008 (bytesOf 4 x.target.toNat ++ bytesOf 4 x.seq.toNat ++ bytesOf 1 x.chan ++ tail)

/-- A boundary in M4 to M8 and M10 to M12 (R406). -/
def Dev.boundary (d0 : Dev) (at_ : Nat) : Dev :=
  let was := d0.mode.mode
  let a := (d0.nextEpoch at_ true).pruneTests
  let b := if was = 10 ∧ !a.testsOver then a else a.unitStates
  let lost := allUnits.filter (fun u => d0.present u.1 u.2 && !b.present u.1 u.2)
  let due := match b.chiop.commit with | some x => if x.target = b.chiop.epoch then some x else none | none => none
  let app : Applied := match due with
    | some x => ({ b with chiop := { b.chiop with commit := none } } : Dev).applyStage at_ lost x.stage
    | none => (b, 0, 0)
  let c := app.1.replaceStep lost
  let e : Dev := { c with thermal := { c.thermal with flag2 := c.thermal.limit } }
  let t := e.turn at_
  let f := e.shedStep at_ was (t.mode == 8 && was != 8)
  let g : Dev := { f with mode := { f.mode with mode := t.mode, hostLoss := f.mode.hostLoss && was == 10 && t.mode == 10
                                                capacity := f.mode.capacity && t.mode == 8, spares := f.mode.spares && t.mode == 8
                                                essential := f.mode.essential && t.mode == 8 } }
  let h := g.serviceStep d0 at_ (modeServes t.mode)
  let shed := (e.cfg.cells.filter (fun x => (h.cell? x.cr.cell).isNone)).length
  let changed := !lost.isEmpty || app.2.1 != 0 || shed != 0
  let i : Dev := { h with chiop := { h.chiop with configEpoch := if changed then h.chiop.epoch else h.chiop.configEpoch } }
  let j := (i.settleRequest at_ t).modeWork was t.mode
  let k := ((((j.joinPools).absentShells).lostPorts).bindImages).groupsEval.binsOpen
  let l := if k.slack.boostAtBoundary then ({ k with slack := { k.slack with boostAtBoundary := false } } : Dev).boost else k
  let m := l.settlePlans.startTests
  let n := match due with | some x => m.finishCommit x app.2.1 app.2.2 shed | none => m
  let o := if t.mode = was then n else n.modeEvent was t.mode t.cause
  (o.latchCut).alertSince d0

/-- The first boundary after a start sequence is complete (R418, Table 17.2): M4, epoch 0. -/
def Dev.startBoundary (d : Dev) (at_ : Nat) : Dev :=
  let was := d.mode.mode
  let d1 : Dev := { d with mode := { d.mode with mode := 4, startDone := false }
                           chiop := { d.chiop with boundary := at_, boundaryStamp := d.time.stampAt at_ }
                           thermal := { d.thermal with flag2 := d.thermal.limit } }
  (((d1.joinPools.binsOpen).settleRequest at_ { mode := 4 }).modeEvent was 4 1).latchCut

/-- A boundary in M1 and M2 (R402): the counter stays 0, and M4 follows once the sequence is complete. -/
def Dev.startingBoundary (d : Dev) (at_ : Nat) : Dev :=
  let d1 := d.nextEpoch at_ false
  if d1.mode.startDone then d1.startBoundary at_ else d1.settleRequest at_ { mode := d1.mode.mode }

/-- EPOCH_BOUNDARY (R402, R406): the boundary that is next. In M3 it counts and the cut is taken. -/
def execEpochBoundary (s : State) : Host.Outcome State Fault Refusal :=
  s.onAlive (fun d =>
    let at_ := d.chiop.nextAt
    match d.due at_ with
    | none => d
    | some d0 =>
      match d0.mode.mode with
      | 9 => d
      | 1 => d0.startingBoundary at_
      | 2 => d0.startingBoundary at_
      | 3 => ((d0.nextEpoch at_ true).settleRequest at_ { mode := 3 }).latchCut
      | _ => d0.boundary at_)

/-- MODE_REQUEST_TIMEOUT (R424): 20 ms after it was read, domains are still awaited. -/
def execModeRequestTimeout (s : State) : Host.Outcome State Fault Refusal :=
  s.onAlive (fun d =>
    match d.mode.req with
    | none => d
    | some r =>
      if r.target ≠ 6 ∨ r.allRunAt.isSome ∨ (d.mode.mode ≠ 4 ∧ d.mode.mode ≠ 5) then d
      else match d.after r.readAt (20 * 1966080) with
        | some d1 => d1.failRequest r stTimeout
        | none => d)

end Sys2Proof.Machine
end

