-- ==== Sys2Proof/Machine/Ldl.lean ====
section
/-! DEFINITION. The LDL^H factorisation that MXINV (04_matrix_coprocessor.md, R105) and the weight solver
(05_transform_and_equaliser.md, R141) share. -/

namespace Sys2Proof.Machine

/-- What the passes so far have produced: the columns of L below the diagonal, the pivots, the rest of the matrix (lower
triangle, by rows), and whether a pivot was zero or negative. -/
structure Ldl where
  cols : List (List Dyad) := []
  pivots : List Dyad := []
  rest : List (List Dyad) := []
  bad : Bool := false
deriving DecidableEq, Repr

/-- Cut a list into rows of the lengths 1, 2, 3, … -/
def triRows : Nat → List Dyad → List (List Dyad)
  | 0, _ => []
  | n + 1, xs => triRows n xs ++ [(xs.drop (n * (n + 1) / 2)).take (n + 1)]

/-- One pass of the factorisation: the pivot, its column of L, and the rest less their product; `fit` holds the values of a pass
in their format. -/
def ldlPass (fit : List Dyad → List Dyad) (x : Ldl) : Ldl :=
  match x.rest with
  | [] => x
  | first :: rows =>
    let d := { first.headD ⟨0, 0, 0⟩ with im := 0 }
    if d.re ≤ 0 then { x with bad := true, rest := [] }
    else
      let col := fit (rows.map (fun r => (r.headD ⟨0, 0, 0⟩).over d))
      let upd := rows.zipIdx.map (fun r => (r.1.tail.zipIdx).map (fun y =>
        y.1.add (((col.getD r.2 ⟨0, 0, 0⟩).mul ((col.getD y.2 ⟨0, 0, 0⟩).conj)).mul d).neg))
      { cols := x.cols ++ [col], pivots := x.pivots ++ [d], rest := triRows rows.length (fit upd.flatten), bad := x.bad }

/-- Element (i, j) of L, i > j. -/
def Ldl.low (x : Ldl) (i j : Nat) : Dyad := (x.cols.getD j []).getD (i - j - 1) ⟨0, 0, 0⟩

/-- The factors of a Hermitian matrix from its lower triangle, by rows. -/
def ldlFactor (fit : List Dyad → List Dyad) (n : Nat) (lower : List (List Dyad)) : Ldl :=
  (List.range n).foldl (fun x _ => ldlPass fit x) { rest := triRows n (fit lower.flatten) }

/-- The solution of L D L^H x = b: forward, by the pivots, and back, each held in the format of a pass. -/
def Ldl.solve (fit : List Dyad → List Dyad) (x : Ldl) (n : Nat) (b : List Dyad) : List Dyad :=
  let y := fit ((List.range n).foldl (fun (ys : List Dyad) i =>
    ys ++ [(b.getD i dyZero).add (dySum ((List.range i).map (fun k => (x.low i k).mul (ys.getD k dyZero)))).neg]) [])
  let z := fit (y.zipIdx.map (fun v => v.1.over (x.pivots.getD v.2 dyOne)))
  fit ((List.range n).foldl (fun (xs : List Dyad) i =>
    let r := n - 1 - i
    let s := dySum (xs.zipIdx.map (fun v => ((x.low (r + 1 + v.2) r).conj).mul v.1))
    (z.getD r dyZero).add s.neg :: xs) [])

end Sys2Proof.Machine
end

