-- ==== Sys2Proof/Machine/Estimate.lean ====
section
/-! DEFINITION. What EST computes (05_transform_and_equaliser.md, R139 to R141): DM-RS, least squares, denoising, frequency
offset, time filter, weights. Values inside a stage are exact and are rounded where Table 5.1 names a format; what the spec
leaves open is a parameter of Config (DEDUCED, log entry 42). -/

namespace Sys2Proof.Machine

/-- The fields of an EST descriptor (Table 5.9). -/
structure EstDesc where
  irc : Bool
  tpre : Bool
  nl : Nat
  ns : Nat
  prb0 : Nat
  nprb : Nat
  mask : Nat
  /-- 0 NR type 1, 1 NR type 2, 2 LTE. -/
  kind : Nat
  double : Bool
  ports : Nat
  seq : Nat
  slot : Nat
  dn : Nat
  alphaH : Nat
  alphaN : Nat
  rho : Nat
deriving DecidableEq, Repr

/-- Table 5.9. -/
def estDesc (b : List Byte) : EstDesc :=
  let dmrs := pf b 8 4
  { irc := bitAt (pf b 1 1) 0, tpre := bitAt (pf b 1 1) 1, nl := pf b 2 1, ns := pf b 3 1, prb0 := pf b 4 2, nprb := pf b 6 2
    mask := dmrs % 2 ^ 14, kind := bitsAt dmrs 14 2, double := bitAt dmrs 16, ports := pf b 12 4, seq := pf b 16 4
    slot := pf b 20 1, dn := pf b 24 2, alphaH := pf b 26 1, alphaN := pf b 27 1, rho := pf b 28 2 }

/-- N_ID. -/
def EstDesc.nid (q : EstDesc) : Nat := q.seq % 2 ^ 16

/-- The DM-RS symbols in order. -/
def EstDesc.symbols (q : EstDesc) : List Nat := (List.range 14).filter (fun s => bitAt q.mask s)

/-- The occasions: DM-RS symbols one by one, or two by two. -/
def EstDesc.occasions (q : EstDesc) : List (List Nat) :=
  let xs := q.symbols
  if q.double then (List.range (xs.length / 2)).map (fun i => (xs.drop (2 * i)).take 2) else xs.map (fun s => [s])

/-- The port of a layer. -/
def EstDesc.port (q : EstDesc) (l : Nat) : Nat := bitsAt q.ports (4 * l) 4

/-! ### DM-RS (TS 38.211 §6.4.1.1, TS 36.211 §5.5.2.1; PRESUMED, log entry 47) -/

/-- The subcarriers of a PRB that carry a port, in the groups whose cover code is removed together. -/
def dmrsGroups (kind port : Nat) : List (List Nat) :=
  match kind with
  | 0 => let d := port / 2 % 2; (List.range 3).map (fun g => [4 * g + d, 4 * g + d + 2])
  | 1 => let d := 2 * (port / 2 % 3); (List.range 2).map (fun g => [6 * g + d, 6 * g + d + 1])
  | _ => (List.range 12).map (fun k => [k])

/-- Twice the subcarrier at the middle of the first group, and the subcarriers between groups. -/
def dmrsGrid (kind port : Nat) : Nat × Nat :=
  match kind with
  | 0 => (2 * (port / 2 % 2) + 2, 4)
  | 1 => (4 * (port / 2 % 3) + 1, 6)
  | _ => (0, 1)

/-- The cover code of a port at place `k` of its group in symbol `t` of a double symbol. -/
def dmrsSign (kind port k t : Nat) : Int :=
  if kind = 2 then 1
  else (if port % 2 = 1 ∧ k = 1 then -1 else 1) * (if t = 1 ∧ (if kind = 0 then 4 else 6) ≤ port then -1 else 1)

/-- A number from 8 bits of a Gold sequence, the first the lowest. -/
def goldByte (cinit start : Nat) : Nat := (goldBits cinit start 8).zipIdx.foldl (fun n b => n + boolNat b.1 * 2 ^ b.2) 0

/-- The cyclic shift of a layer and its cover over the two slots by the three-bit field (TS 36.211 Table 5.5.2.1.1-1). -/
def lteShift (field layer : Nat) : Nat × Bool :=
  let row := match field with
    | 0 => [0, 6, 3, 9] | 1 => [6, 0, 9, 3] | 2 => [3, 9, 6, 0] | 3 => [4, 10, 7, 1]
    | 4 => [2, 8, 5, 11] | 5 => [8, 2, 11, 5] | 6 => [10, 4, 1, 7] | _ => [9, 3, 0, 6]
  let neg := match field with
    | 0 => [false, false, true, true] | 1 => [true, true, false, false] | 2 => [true, true, false, false]
    | 6 => [true, true, true, true] | 7 => [false, false, true, true] | _ => [false, false, false, false]
  (row.getD layer 0, neg.getD layer false)

/-- The phases of an LTE layer's DM-RS in a symbol: base sequence with hopping, cyclic shift, and the cover code. -/
def lteDmrs (q : EstDesc) (layer sym n : Nat) : Phase :=
  let m := 12 * q.nprb
  let ns := 2 * q.slot + sym / 7
  let fss := q.nid % 30
  let fgh := if bitAt q.seq 21 then goldByte (q.nid / 30) (8 * ns) % 30 else 0
  let cinit := q.nid / 30 * 32 + fss
  let v := if bitAt q.seq 22 && !bitAt q.seq 21 && decide (6 ≤ q.nprb) then boolNat ((goldBits cinit ns 1).headD false) else 0
  let sh := lteShift (bitsAt q.seq 17 3) (q.port layer % 4)
  let ncs := (sh.1 + goldByte cinit (56 * ns)) % 12
  let cover := if bitAt q.seq 20 && sh.2 && decide (7 ≤ sym) then 6 else 0
  (baseSeq m ((fgh + fss) % 30) v n).add ⟨(ncs * n + cover) % 12, 12⟩

/-- The phases of a layer's DM-RS in a symbol, by place: PRB after PRB of the allocation, group after group, place after place.
NR without transform precoding counts from PRB 0 of the carrier. -/
def dmrsPhases (q : EstDesc) (layer sym : Nat) : List Phase :=
  let per := match q.kind with | 0 => 6 | 1 => 4 | _ => 12
  if q.kind = 2 then (List.range (per * q.nprb)).map (lteDmrs q layer sym)
  else if q.tpre then (List.range (per * q.nprb)).map (baseSeq (per * q.nprb) (q.nid % 30) 0)
  else
    let cinit := (2 ^ 17 * (14 * q.slot + sym + 1) * (2 * q.nid + 1) + 2 * q.nid + boolNat (bitAt q.seq 16)) % 2 ^ 31
    let bits := (goldBits cinit (2 * per * q.prb0) (2 * per * q.nprb)).toArray
    (List.range (per * q.nprb)).map (fun i =>
      match bits.getD (2 * i) false, bits.getD (2 * i + 1) false with
      | false, false => ⟨1, 8⟩
      | true, false => ⟨3, 8⟩
      | true, true => ⟨5, 8⟩
      | false, true => ⟨7, 8⟩)

/-! ### Least squares and denoising (R139, steps 2 to 5) -/

/-- The least-squares estimates of a layer and stream at an occasion, its cover codes removed: one a group. `vals` gives the
received values of a symbol. -/
def lsEstimates (q : EstDesc) (layer : Nat) (occ : List Nat) (vals : Nat → Array Dyad) : List Dyad :=
  let p := q.port layer
  let groups := dmrsGroups q.kind p
  let width := (groups.headD []).length
  let seqs := occ.map (fun s => (vals s, (dmrsPhases q layer s).toArray))
  (List.range (q.nprb * groups.length)).map (fun m =>
    let prb := m / groups.length
    let g := groups.getD (m % groups.length) []
    let els := seqs.zipIdx.flatMap (fun s => g.zipIdx.map (fun k =>
      let y := (s.1.1.getD (12 * prb + k.1) dyZero).turn (s.1.2.getD (m * width + k.2) ⟨0, 1⟩).neg
      if dmrsSign q.kind p k.2 s.2 < 0 then y.neg else y))
    (dySum els).per els.length)

/-- The next power of two at or above a number. -/
def nextPow2 (n : Nat) : Nat := ((List.range 14).find? (fun i => decide (n ≤ 2 ^ i))).elim 8192 (fun i => 2 ^ i)

/-- Estimates padded with zeros to the next power of two, the band edges extended by mirroring; over how many places is free. -/
def padEdges (xs : List Dyad) : List Dyad :=
  let n := xs.length
  let nt := nextPow2 n
  let ext := Nat.min (Sys2Proof.Config.mirrorLen n nt) ((nt - n) / 2)
  let a := xs.toArray
  (List.range nt).map (fun i =>
    if i < n then a.getD i dyZero
    else if i < n + ext then a.getD (2 * n - 1 - i) dyZero
    else if nt - ext ≤ i then a.getD (nt - 1 - i) dyZero
    else dyZero)

/-- The delay of place `i` of the window of kept bins: the first is free, at or before 0. -/
def windowBin (nt dn i : Nat) : Int := (i : Int) - ((Sys2Proof.Config.windowStart nt dn : Nat) : Int)

/-- The kept taps of a delay profile, and the sum of the power outside them with the number of bins. -/
def denoise (q : EstDesc) (xs : List Dyad) : List Dyad × Dyad × Nat :=
  let nt := nextPow2 xs.length
  let h := (dyTransform true nt (padEdges xs)).toArray
  let place := fun (i : Nat) => (windowBin nt q.dn i % (nt : Int)).toNat
  let kept := (List.range q.dn).map (fun i => if i < nt then h.getD (place i) dyZero else dyZero)
  let inside := (List.range (Nat.min q.dn nt)).map place
  let out := (List.range nt).filter (fun t => !inside.contains t)
  (kept, dySum (out.map (fun t => (h.getD t dyZero).abs2)), out.length)

/-- The channel at twice a subcarrier from the kept taps: their transform, without interpolation, divided by the transform's
length. -/
def tapsAt (q : EstDesc) (kind port : Nat) (taps : List Dyad) (sub2 : Nat) : Dyad :=
  let grid := dmrsGrid kind port
  let n := q.nprb * (dmrsGroups kind port).length
  let nt := nextPow2 n
  let den : Nat := 2 * grid.2 * nt
  let s := dySum (taps.zipIdx.map (fun t =>
    let k := windowBin nt q.dn t.2 * ((sub2 : Int) - (grid.1 : Int))
    t.1.turn ⟨((-k) % (den : Int)).toNat, den⟩))
  { s with u := s.u - (Nat.log2 nt : Nat) }

/-- The channel of a layer and stream on every allocated subcarrier: 16-bit parts with one exponent a PRB (Table 5.1). -/
def channelOf (q : EstDesc) (layer : Nat) (taps : List Dyad) : List Dyad :=
  (List.range q.nprb).flatMap (fun p =>
    fitDyads 16 ((List.range 12).map (fun k => tapsAt q q.kind (q.port layer) taps (2 * (12 * p + k)))))

/-! ### Occasions (R139, step 6) -/

/-- The start of a symbol in Tc from its slot's start. -/
def EstDesc.symTime (_q : EstDesc) (type slot sym : Nat) : Nat := symPos type slot sym

/-- The angle of a number as a signed count of 2^-24 turns. -/
def angleSigned (x : Dyad) : Int :=
  let a := angle24 (x.re, x.im)
  if a < 2 ^ 23 then (a : Int) else (a : Int) - 2 ^ 24

/-- The common phase step over the occasions: the sum of the angles from each to the next, over all channels, in 2^-24 turns,
and the time between the first and the last in Tc. -/
def phaseRamp (times : List Nat) (channels : List (List (List Dyad))) : Int × Nat :=
  let steps := (List.range (times.length - 1)).map (fun o =>
    angleSigned (dySum (channels.flatMap (fun c =>
      ((c.getD o []).zip (c.getD (o + 1) [])).map (fun p => p.1.conj.mul p.2)))))
  (steps.sum, times.getLastD 0 - times.headD 0)

/-- A phase of `n` / `d` units of 2^-24 turn. -/
def rampPhase (n : Int) (d : Nat) : Phase := let den : Nat := 2 ^ 24 * Nat.max 1 d; ⟨(n % ((den : Nat) : Int)).toNat, den⟩

/-- FOFS in Hz of a ramp: turns over time, a Tc being 1 / 1,966,080,000 s; rounded half up. -/
def rampHz (r : Int × Nat) : Int :=
  let den : Int := 2 ^ 24 * ((Nat.max 1 r.2 : Nat) : Int)
  (2 * r.1 * 1966080000 + den) / (2 * den)

/-- The occasions of a channel brought to the time of the last and averaged; an occasion not received is left out. -/
def alignOccasions (ramp : Int × Nat) (times : List Nat) (occ : List (Option (List Dyad))) (dn : Nat) : List Dyad :=
  let here := (occ.zip times).filterMap (fun x => x.1.map (fun h => (h, x.2)))
  let turned := here.map (fun x =>
    x.1.map (fun y => if ramp.1 = 0 then y else y.turn (rampPhase (ramp.1 * ((times.getLastD 0 - x.2 : Nat) : Int)) ramp.2)))
  (List.range dn).map (fun i => (dySum (turned.map (fun h => h.getD i dyZero))).per turned.length)

/-! ### Time filter (R140) -/

/-- α as 256ths: 0 stands for 1. -/
def alphaOf (a : Nat) : Nat := if a = 0 then 256 else a

/-- h = α h_new + (1 - α) h_old. -/
def filterBy (a : Nat) (new old : Dyad) : Dyad :=
  let x := new.mul ⟨(alphaOf a : Int), 0, -8⟩
  x.add (old.mul ⟨256 - (alphaOf a : Int), 0, -8⟩)

/-- A value of the history buffer: 4 bytes, in a format that is the part's own (free). -/
def histBytes (x : Dyad) : List Byte := bytesOf 4 (Sys2Proof.Config.histWord x.re x.im x.u).toNat

/-- The values of a generation. -/
def histValues (bs : List Byte) (n : Nat) : Array Dyad :=
  ((List.range n).map (fun i =>
    let w := Sys2Proof.Config.histValue (BitVec.ofNat 32 (pf bs (4 * i) 4))
    (⟨w.1, w.2.1, w.2.2⟩ : Dyad))).toArray

/-! ### Weights (R141) -/

/-- The weights of a subcarrier: W by layer, or none after a zero or negative pivot. `h` is the channel by stream and layer,
`sigma` the noise variance, `k` the covariance of the PRB under IRC. -/
def weights (nl ns : Nat) (h : List (List Dyad)) (sigma : Dyad) (k : Option (List (List Dyad))) : Option (List (List Dyad)) :=
  let fit := fitDyads 24
  let at_ := fun (s l : Nat) => (h.getD s []).getD l dyZero
  let col := fun (l : Nat) => (List.range ns).map (fun s => at_ s l)
  -- G H^H with G the inverse of K, or 1; and the diagonal that is added
  let left : Option (List (List Dyad)) := match k with
    | none => some ((List.range nl).map col)
    | some m =>
      let f := ldlFactor fit ns ((List.range ns).map (fun i => (List.range (i + 1)).map (fun j => (m.getD i []).getD j dyZero)))
      if f.bad then none else some ((List.range nl).map (fun l => f.solve fit ns (col l)))
  let diag := match k with | none => sigma | some _ => dyOne
  match left with
  | none => none
  | some x =>
    let a := (List.range nl).map (fun i => (List.range (i + 1)).map (fun j =>
      let s := dySum ((List.range ns).map (fun r => ((x.getD i []).getD r dyZero).conj.mul (at_ r j)))
      if i = j then s.add diag else s))
    let f := ldlFactor fit nl a
    if f.bad then none
    else
      let cols := (List.range ns).map (fun s => f.solve fit nl ((List.range nl).map (fun l => ((x.getD l []).getD s dyZero).conj)))
      some ((List.range nl).map (fun l => cols.map (fun c => c.getD l dyZero)))

/-- The taps of a layer from its weights (R141): 12-bit parts with one exponent, μ = (WH)_ll, and the noise variance after
equalisation, (1 - μ) / μ (DEDUCED, log entry 42). -/
def layerTap (w : List Dyad) (h : List Dyad) : LayerTap :=
  let b := fitBlock 12 w
  let mu := dySum ((w.zip h).map (fun p => p.1.mul p.2))
  let g : Dyad := { mu with im := 0 }
  { w := b.1, e := b.2, gain := g, var := (dyOne.add g.neg).over g }

/-- Taps of zeros, for a subcarrier without weights. -/
def zeroTap (ns : Nat) : LayerTap := { w := List.replicate ns (0, 0), e := -128, gain := dyOne, var := dyOne }

/-- What EST computes: the values of the new generation, the taps by subcarrier and layer, the subcarriers that saturated and
those with a non-positive pivot, the ramp with the number of occasions, and the mean noise variance. -/
structure EstOut where
  hist : List Dyad
  taps : List (List LayerTap)
  sat : List Nat
  piv : List Nat
  ramp : Int × Nat
  noise : Dyad
deriving DecidableEq, Repr

/-- EST (R139 to R141): `vals s k` are stream k's values in symbol s, none where its container is missing; `old` the values of
the generation in use; `type` and `slot` place the symbols in time. -/
def estimate (q : EstDesc) (b input : List Byte) (type slot : Nat) (vals : Nat → Nat → Option (Array Dyad))
    (old : Option (Array Dyad)) : EstOut :=
  let occ := q.occasions
  let times := occ.map (fun o => q.symTime type slot (o.headD 0))
  let layers := List.range q.nl
  let streams := List.range q.ns
  let present := fun (k : Nat) (o : List Nat) => o.all (fun s => (vals s k).isSome)
  -- least squares, the kept taps and the noise, by stream, layer and occasion
  let ls := streams.map (fun k => layers.map (fun l => occ.map (fun o =>
    if present k o then some (lsEstimates q l o (fun s => (vals s k).getD #[])) else none)))
  let dns := ls.map (fun s => s.map (fun l => l.map (fun o => o.map (denoise q))))
  let ramp := if occ.length < 2 then (0, 0) else
    phaseRamp times ((dns.flatMap (fun s => s.map (fun l => l.map (fun o => match o with | some d => d.1 | none => [])))))
  let fresh := dns.map (fun s => s.map (fun l => alignOccasions ramp times (l.map (fun o => o.map (fun d => d.1))) q.dn))
  let heard := fun (k : Nat) => occ.any (present k)
  let newNoise := dns.map (fun s =>
    let parts := s.flatMap (fun l => l.filterMap id)
    let n := (parts.map (fun d => d.2.2)).sum
    ((dySum (parts.map (fun d => d.2.1))).per n).per (Sys2Proof.Config.noiseGain (q.nprb * (dmrsGroups q.kind 0).length) q.dn))
  let per := q.nl * q.dn + 1
  let oldAt := fun (i : Nat) => (old.map (fun o => o.getD i dyZero)).getD dyZero
  let mix := fun (a i : Nat) (ok : Bool) (new : Dyad) =>
    match old with
    | none => if ok then new else dyZero
    | some _ => if ok then filterBy a new (oldAt i) else oldAt i
  let taps := fresh.zipIdx.map (fun s => s.1.zipIdx.map (fun l => l.1.zipIdx.map (fun t =>
    mix q.alphaH (s.2 * per + l.2 * q.dn + t.2) (heard s.2) t.1)))
  let noise := newNoise.zipIdx.map (fun n => mix q.alphaN (n.2 * per + per - 1) (heard n.2) n.1)
  -- the covariance of a PRB's residuals after denoising
  let groups := fun (l : Nat) => (dmrsGroups q.kind (q.port l)).length
  let resid := ls.zipIdx.map (fun s => s.1.zipIdx.map (fun l =>
    let est := (alignOccasions ramp times l.1 (q.nprb * groups l.2))
    let mean := (fresh.getD s.2 []).getD l.2 []
    let grid := dmrsGrid q.kind (q.port l.2)
    (est.zipIdx.map (fun e => e.1.add (tapsAt q q.kind (q.port l.2) mean (grid.1 + 2 * grid.2 * e.2)).neg)).toArray))
  let covNew := fun (p i j : Nat) =>
    let xs := layers.flatMap (fun l => (List.range (groups l)).map (fun g =>
      let r := fun (s : Nat) => (((resid.getD s []).getD l #[]).getD (p * groups l + g) dyZero)
      (r i).mul (r j).conj))
    (dySum xs).per xs.length
  let cov := if q.irc then (List.range q.nprb).map (fun p => streams.map (fun i => streams.map (fun j =>
      mix q.alphaN (q.ns * per + p * q.ns * q.ns + i * q.ns + j) (heard i && heard j) (covNew p i j)))) else []
  let hist := (taps.zip noise).flatMap (fun x => x.1.flatten ++ [x.2]) ++ (cov.flatten).flatten
  -- the channel and the weights
  let rho : Dyad := ⟨(q.rho % 4096 : Nat), 0, -(30 + (q.rho / 4096 : Nat) : Int)⟩
  let mean := (dySum noise).per q.ns
  let sigma := if mean.lt rho then rho else mean
  let ch := taps.map (fun s => s.zipIdx.map (fun l => (channelOf q l.2 l.1).toArray))
  let floored := fun (m : List (List Dyad)) => m.zipIdx.map (fun r => r.1.zipIdx.map (fun c =>
    if r.2 = c.2 ∧ c.1.lt rho = true then rho else c.1))
  let sub := (List.range (12 * q.nprb)).map (fun k =>
    let h := ch.map (fun s => s.map (fun l => l.getD k dyZero))
    let col := fun (l : Nat) => h.map (fun s => s.getD l dyZero)
    match weights q.nl q.ns h sigma (if q.irc then some (floored (cov.getD (k / 12) [])) else none) with
    | none => (none : Option (List LayerTap))
    | some w =>
      if Sys2Proof.Config.solverSat b input k then
        some (layers.map (fun l => layerTap (streams.map (fun s =>
          let t := Sys2Proof.Config.satTap b input k l s
          (⟨t.1, t.2.1, t.2.2⟩ : Dyad))) (col l)))
      else some (layers.map (fun l => layerTap (w.getD l []) (col l))))
  { hist := hist
    taps := sub.map (fun t => t.getD (layers.map (fun _ => zeroTap q.ns)))
    sat := (List.range (12 * q.nprb)).filter (fun k => Sys2Proof.Config.solverSat b input k && (sub.getD k none).isSome)
    piv := (List.range (12 * q.nprb)).filter (fun k => (sub.getD k none).isNone)
    ramp := ramp
    noise := mean }

end Sys2Proof.Machine
end

