-- ==== Sys2Proof/Machine/Demap.lean ====
section
/-! DEFINITION. What APPLY and DEMAP compute (05_transform_and_equaliser.md, R144, R145, R147): taps, phase, max-log LLRs, z
and noise words. -/

namespace Sys2Proof.Machine

/-! ### Taps and phase (R144) -/

/-- The sum over streams of a layer's taps times the streams' samples of one resource element: each product aligned to the
largest input exponent `e` of the PRB with rounding, then added exactly. -/
def applyTap (t : LayerTap) (xs : List Dyad) (e : Int) : Dyad :=
  let u := t.e - 11 + e - 15
  let s := cTotal ((t.w.zip xs).map (fun p =>
    let m := cMul p.1 (p.2.re, p.2.im)
    (rhuInt m.1 (e - 15 - p.2.u), rhuInt m.2 (e - 15 - p.2.u))))
  ⟨s.1, s.2, u⟩

/-- The largest input exponent among the streams of a PRB. -/
def topExponent (xs : List Dyad) : Int := xs.foldl (fun m x => max m (x.u + 15)) (-128)

/-- The phase predicted for a layer in a symbol, in 2^-24 turns: from the ramp since the symbol the taps refer to, else
continued from the phases of the two symbols before (DEDUCED, log entry 42). -/
def predictPhase (t : TapSet) (type : Nat) (layer sym : Nat) : Int :=
  match t.ramp with
  | some r =>
    let dt : Int := (symPos type (t.slot % 256) sym : Nat) - (symPos type (t.slot % 256) t.last : Nat)
    (2 * r.1 * dt + (Nat.max 1 r.2 : Nat)) / (2 * ((Nat.max 1 r.2 : Nat) : Int))
  | none =>
    let at_ := fun (s : Nat) => (t.phases.find? (fun p => p.1 == s)).map (fun p => p.2.getD layer 0)
    match (if sym = 0 then none else at_ (sym - 1)), (if sym < 2 then none else at_ (sym - 2)) with
    | some a, some b => 2 * a - b
    | some a, none => a
    | none, some b => b
    | none, none => 0

/-- z of one resource element and layer: normalised by μ and turned back by the layer's phase. -/
def equalise (t : LayerTap) (xs : List Dyad) (e phase : Int) : Dyad :=
  ((applyTap t xs e).over t.gain).turn (rampPhase phase 1).neg

/-- z in 16-bit parts with one exponent a PRB (Table 5.1). -/
def zBlocks (xs : List (List Dyad)) : List (List (Int × Int) × Int) := xs.map (fitBlock 16)

/-! ### LLRs (R145) -/

/-- 1 / √n in units of 2^-40. -/
def invRoot (n : Nat) : Nat := Nat.sqrt (2 ^ 80 / n)

/-- The points of a modulation order with their bits. -/
def constellation (qm : Nat) : List (List Bool × Dyad) :=
  (List.range (2 ^ qm)).map (fun i =>
    let bits := (List.range qm).map (fun k => bitAt i k)
    let p := pointOf qm bits
    (bits, ⟨p.1 * invRoot (pointNorm qm), p.2 * invRoot (pointNorm qm), -40⟩))

/-- The smaller of the real numbers of a list, none of an empty one. -/
def dyMin (xs : List Dyad) : Option Dyad := xs.foldl (fun m x => match m with | none => some x | some y => some (if x.lt y then x else y)) none

/-- floor of |L| × 2^shift with L's sign for L = num / den, limited to ±128; a positive number over 0 is 128. -/
def scaledLlr (num den : Dyad) (shift : Int) : Int :=
  let u := min num.u den.u
  let n := (num.parts u).1
  let d := (den.parts u).1.toNat
  let a := if 0 ≤ shift then n.natAbs * 2 ^ shift.toNat else n.natAbs
  let b := if 0 ≤ shift then d else d * 2 ^ (-shift).toNat
  let q := if b = 0 then (if a = 0 then 0 else 128) else Nat.min 128 (a / b)
  if n < 0 then -(q : Int) else q

/-- The LLR quantiser (R145): the value limited to 127, and whether it saturated. -/
def quantLlr (x : Int) : Int × Bool := (clampInt (-127) 127 x, decide (127 < x ∨ x < -127))

/-- The quantised LLRs of a symbol's bits, and whether each saturated (R145): the least distance to a point with the bit 1 less
that to one with the bit 0, over the noise variance. π/2-BPSK is de-rotated by the symbol's index. -/
def demapSymbol (qm : Nat) (shift : Int) (index : Nat) (z var : Dyad) : List (Int × Bool) :=
  let y := if qm = 1 then z.turn ⟨4 - index % 2, 4⟩ else z
  let pts := (constellation qm).map (fun p => (p.1, (y.add p.2.neg).abs2))
  (List.range qm).map (fun b =>
    let best := fun (v : Bool) => (dyMin ((pts.filter (fun p => p.1.getD b false == v)).map (fun p => p.2))).getD dyZero
    quantLlr (scaledLlr ((best true).add (best false).neg) var shift))

/-! ### Noise words (R147) -/

/-- A noise word: an unsigned mantissa of 16 bits and an exponent, for m × 2^(e - 16). -/
def noiseWord (x : Dyad) : List Byte :=
  let v := x.re.toNat
  if v = 0 then bytesOf 4 0
  else
    let s : Int := (bitLen v : Int) - 16
    let m := (rhuInt v s).toNat
    let p := if m = 65536 then (65535, s) else (m, s)
    bytesOf 2 p.1 ++ bytesOf 1 (BitVec.ofInt 8 (x.u + p.2 + 16)).toNat ++ [0]

/-- The noise variance that a noise word stands for. -/
def noiseOf (b : List Byte) : Dyad := ⟨pf b 0 2, 0, signedOf 8 (pf b 2 1) - 16⟩

/-- CPE (Table 5.12): the phases of the layers in units of 2π / 256, signed. -/
def cpeField (phases : List Int) : List Byte := padTo 8 (phases.map (fun p => BitVec.ofInt 8 ((p + 2 ^ 15) / 2 ^ 16)))

end Sys2Proof.Machine
end

