-- ==== Sys2Proof/Machine/Equaliser.lean ====
section
/-! DEFINITION. The equaliser engines (05_transform_and_equaliser.md, R138 to R149): descriptors, input and history, tap
store, status words. -/

namespace Sys2Proof.Machine

/-! ### Cells and arrivals -/

/-- Change the tap store of an engine. -/
def Dev.updTaps (d : Dev) (u : Nat) (f : List TapSet → List TapSet) : Dev :=
  { d with eng := { d.eng with taps := Vector.ofFn (fun i => if i.val = u then f d.eng.taps[i] else d.eng.taps[i]) } }

/-- Whether a PRB lies in the allocation of a set of taps. -/
def TapSet.covers (t : TapSet) (prb : Nat) : Bool := decide (t.prb0 ≤ prb ∧ prb < t.prb0 + t.nprb)

/-- The taps of a cell in an engine's store that cover a PRB, else its first ones. -/
def Dev.tapSet (d : Dev) (u cell prb : Nat) : Option TapSet :=
  let ts := (d.eng.taps.toList.getD u []).filter (fun t => t.cell == cell)
  match ts.find? (fun t => t.covers prb) with
  | some t => some t
  | none => ts.head?

/-- New taps replace those of another slot of the cell and those they overlap: a store holds one generation a cell (R143). -/
def TapSet.put (t : TapSet) (ts : List TapSet) : List TapSet :=
  t :: ts.filter (fun x =>
    x.cell != t.cell || (x.slot == t.slot && decide (x.prb0 + x.nprb ≤ t.prb0 ∨ t.prb0 + t.nprb ≤ x.prb0)))

/-- The air time nearest now at which a slot of SLOT's form starts (Table 5.9: slot in frame, SFN). -/
def Dev.slotStart (d : Dev) (type slotField : Nat) : Nat :=
  let n := slotField % 256
  let sfn := slotField / 256 % 1024
  let cycle := 1024 * frameTc
  let t := sfn * frameTc + slotPos type n
  let base := d.time.air / cycle * cycle + t
  let low := (base + airWrap - cycle) % airWrap
  let high := (base + cycle) % airWrap
  [base % airWrap, low, high].foldl (fun best x =>
    let dist := fun (y : Nat) => Nat.min (airAhead d.time.air y) (airAhead y d.time.air)
    if dist x < dist best then x else best) (base % airWrap)

/-- Whether a PRB of a stream and symbol lies in the arrival map (R227). -/
def prbArrived (as : List Arrival) (stream at_ prb : Nat) : Bool :=
  as.any (fun a => a.stream == stream && a.at_ == at_ && decide (a.first ≤ prb ∧ prb < a.first + a.count))

/-- Whether a whole PRB range of a stream and symbol has arrived. -/
def rangeArrived (as : List Arrival) (stream at_ prb0 nprb : Nat) : Bool :=
  (List.range nprb).all (fun i => prbArrived as stream at_ (prb0 + i))

/-- The PRBs of a cell's carrier. -/
def cellPrbs (c : CellRec) : Nat := (nRb c.type c.bw).getD 0

/-- Whether a PRB range lies in the carrier and, for FR2, in one subband (R142). -/
def prbRangeOk (c : CellRec) (prb0 nprb : Nat) : Bool :=
  decide (1 ≤ nprb ∧ prb0 + nprb ≤ cellPrbs c)
    && (c.type != 3 || subbandOf (cellPrbs c) prb0 == subbandOf (cellPrbs c) (prb0 + nprb - 1))

/-! ### EST (R139 to R141, R143) -/

/-- Bytes of a generation of the history buffer (R140). -/
def histSize (ns nl taps nprb : Nat) (irc : Bool) : Nat :=
  4 * ns * (nl * taps + 1) + if irc then 4 * nprb * ns * ns else 0

/-- The header of the history buffer (R140; its layout is the model's, log entry 42): generation in force and whether one was
valid before it, slot, and the parameters that must not differ. -/
def histHeader (gen : Nat) (valid : Bool) (slot nl ns prb0 nprb taps type : Nat) (irc : Bool) : List Byte :=
  padTo 64 (bytesOf 1 (gen + 1 + 128 * boolNat valid) ++ bytesOf 1 nl ++ bytesOf 1 ns ++ bytesOf 1 (boolNat irc) ++ bytesOf 2 prb0 ++ bytesOf 2 nprb
    ++ bytesOf 2 taps ++ bytesOf 2 type ++ bytesOf 4 slot)

/-- Whether two headers agree in what lets a generation be used (R140). -/
def histSame (a b : List Byte) : Bool := (a.drop 1).take 11 == (b.drop 1).take 11

/-- BAD_DESC of an EST (Table 5.9, R141, R142). -/
def estBad (b : List Byte) (c : Option CellRec) : Bool :=
  let nl := pf b 2 1
  let ns := pf b 3 1
  let dmrs := pf b 8 4
  let lte := dmrs / 2 ^ 14 % 4 == 2
  let mu := dmrs / 2 ^ 17 % 8
  decide (8 ≤ pf b 1 1) || nl == 0 || decide ((if lte then 4 else 8) < nl) || ns == 0 || decide (32 < ns)
    || dmrs / 2 ^ 14 % 4 == 3 || decide (2 ^ 20 ≤ dmrs) || !([0, 1, 3].contains mu)
    || (List.range nl).any (fun l => decide (11 < pf b 12 4 / 2 ^ (4 * l) % 16))
    || decide (2 ^ 23 ≤ pf b 16 4) || decide (2 ^ 18 ≤ pf b 20 4) || pf b 24 2 == 0 || decide (512 < pf b 24 2)
    || (bitAt (pf b 1 1) 0 && decide (16 < ns)) || decide (273 < pf b 6 2)
    || (match c with | some r => !prbRangeOk r (pf b 4 2) (pf b 6 2) | none => true)

/-- The EST status word (Table 5.11). -/
def estStatus (result : Nat) (used hi : Bool) (satsc pivsc missing fofs noise : Nat) (tick : List Byte) : List Byte :=
  bytesOf 1 result ++ bytesOf 1 (boolNat used + 2 * boolNat hi) ++ bytesOf 2 satsc ++ bytesOf 2 pivsc
    ++ bytesOf 1 (Nat.min 255 missing) ++ [0] ++ bytesOf 2 fofs ++ bytesOf 2 noise ++ tick

/-- Two percent of the subcarrier spacing in Hz (R144). -/
def fofsLimit (mu : Nat) : Nat := 300 * 2 ^ mu

/-- Containers found missing and resource elements given LLR 0 count in the slot a job serves and, the containers not yet
counted there, in its cell (R25, R545). -/
def Dev.noteMissing (d : Dev) (j : Job) (lost : List (Nat × Nat)) (nz : Nat) : Dev :=
  let mine := fun (p : Plan) => match j.serves with
    | some s => p.cell == j.cell && p.down == s.down && p.start == s.start
    | none => false
  let known := ((d.cfg.plans.find? mine).map (fun p => p.lost)).getD []
  let new := lost.eraseDups.filter (fun x => !known.contains x)
  let plans := d.cfg.plans.map (fun p => if mine p then { p with lost := p.lost ++ new, zero := p.zero + nz } else p)
  let d1 : Dev := { d with cfg := { d.cfg with plans := plans } }
  if new.isEmpty then d1
  else (d1.updCell j.cell (fun c => { c with missing := c.missing + new.length })).healthEvent
    { hkind := 0x0001, cell := j.cell, count := new.length }

/-- The values of a stream in a symbol of an input. -/
def streamValues (forms : List Bool) (input : List Byte) (nprb order k : Nat) : List Dyad :=
  let f := forms.getD k false
  bodyDyads f ((input.drop (order * symbolBytes forms nprb + streamAt forms nprb k)).take (bodyLen f (12 * nprb))) (12 * nprb)

/-- A signed 16-bit field. -/
def clamp16 (x : Int) : Nat := (BitVec.ofInt 16 (clampInt (-32768) 32767 x)).toNat

/-- An EST completes. -/
def Dev.estJob (d : Dev) (u : Nat) (j : Job) : Dev :=
  let ni := engineNi 4 u
  let b := d.descOf 4 u j 64
  let q := estDesc b
  let cell := (d.cell? j.cell)
  let cr := cell.map (fun c => c.cr)
  let type := pf b 8 4 / 2 ^ 14 % 4
  let mu := pf b 8 4 / 2 ^ 17 % 8
  let stat := pf b 48 8
  let hist := pf b 40 8
  let slot := pf b 20 4
  let g := histSize q.ns q.nl q.dn q.nprb q.irc
  let histLen := ceilDiv (64 + 2 * g) 128 * 128
  let symbols := q.symbols
  let forms := d.streamForms j.cell q.ns
  let inLen := symbols.length * symbolBytes forms q.nprb
  let finish := fun (d : Dev) (r : Nat) (word : List Byte) => (d.engOut ni stat word).engReport 4 u j r
  let badDesc := estBad b cr
  let badAddr := !rangesMapped [(pf b 32 8, inLen), (hist, histLen), (stat, 16)]
  if badDesc ∨ badAddr then
    let r := engResult badDesc badAddr false false
    finish d r (estStatus r false false 0 0 0 0x8000 0 d.doneTick)
  else
    let type' := (cr.map (fun r => r.type)).getD 1
    let arrived := (cell.map (fun c => c.arrived)).getD []
    let start := d.slotStart type' slot
    let symAt := fun (s : Nat) => (start + symPos type' q.slot s) % airWrap
    let here := fun (s k : Nat) => rangeArrived arrived k (symAt s) q.prb0 q.nprb
    let lost := symbols.flatMap (fun s => ((List.range q.ns).filter (fun k => !here s k)).map (fun k => (k, s)))
    let input := d.engIn ni (pf b 32 8) inLen
    let vals := fun (s k : Nat) =>
      if here s k then some (streamValues forms input.1 q.nprb (symbols.idxOf s) k).toArray else none
    let head := (d.engIn ni hist 64).1
    let gen := pf head 0 1 % 128
    let fresh := gen == 0 || decide (2 < gen)
    -- a re-executed EST finds its own slot in the header and reads again what it read (R140)
    let again := !fresh && pf head 12 4 == slot && histSame head (histHeader 0 false slot q.nl q.ns q.prb0 q.nprb q.dn type q.irc)
    let blank := fresh || (again && !bitAt (pf head 0 1) 7)
    let readGen := if again then 2 - gen else gen - 1
    let writeGen := if fresh then 0 else if again then gen - 1 else 2 - gen
    let newHead := histHeader writeGen (!blank) slot q.nl q.ns q.prb0 q.nprb q.dn type q.irc
    let valid := !blank && histSame head newHead && !bitAt (pf b 1 1) 2
    let old := if valid then some (histValues (d.engIn ni (hist + 64 + readGen * g) g).1 (g / 4)) else none
    let used := valid && (q.alphaH != 0 || q.alphaN != 0)
    let e := estimate q b input.1 type' q.slot vals old
    let two := decide (2 ≤ q.occasions.length)
    let hz := rampHz e.ramp
    let hi := two && decide (fofsLimit mu < hz.natAbs)
    let fofs := if two then clamp16 hz else 0x8000
    let noise := log10Units 160 32768 (e.noise.parts (min e.noise.u 0)).1.toNat (2 ^ (-(min e.noise.u 0)).toNat)
    let d1 := d.engOut ni (hist + 64 + writeGen * g) (e.hist.flatMap histBytes)
    let d2 := d1.engOut ni hist newHead
    let t : TapSet :=
      { cell := j.cell, slot := slot, nl := q.nl, ns := q.ns, prb0 := q.prb0, nprb := q.nprb, pivots := e.piv
        fofs := if two then some hz else none, fofsHi := hi, ramp := if two then some e.ramp else none
        last := ((q.occasions.getLast?).getD []).headD 0, phases := [], taps := e.taps, est := j }
    let d3 := d2.updTaps u (TapSet.put t)
    let r := engResult false false input.2 (decide (0 < e.sat.length + e.piv.length + lost.length))
    finish (d3.noteMissing j lost 0) r
      (estStatus r used hi e.sat.length e.piv.length lost.length fofs (clamp16 noise) d.doneTick)

/-! ### APPLY and DEMAP (R144 to R147) -/

/-- BAD_DESC of an APPLY or DEMAP (Table 5.10). -/
def applyBad (b : List Byte) (c : Option CellRec) : Bool :=
  let shift := signedOf 8 (pf b 3 1)
  !([2, 3].contains (pf b 0 1)) || decide (4 ≤ pf b 1 1) || decide (13 < pf b 2 1) || decide (shift < -4 ∨ 4 < shift)
    || (List.range 8).any (fun l => !([0, 1, 2, 4, 6, 8, 10].contains (pf b 4 4 / 2 ^ (4 * l) % 16)))
    || decide (2 ^ 12 ≤ pf b 12 2) || decide (2 ^ 6 ≤ pf b 14 2) || pf b 14 2 % 4 == 3
    || (match c with | some r => !prbRangeOk r (pf b 8 2) (pf b 10 2) | none => true)

/-- The APPLY and DEMAP status word (Table 5.12). -/
def applyStatus (result : Nat) (hi ptrs : Bool) (clip zeroed zmin zmax : Nat) (cpe : List Byte) : List Byte :=
  bytesOf 1 result ++ bytesOf 1 (boolNat hi + 2 * boolNat ptrs) ++ bytesOf 2 (Nat.min 0xFFFF clip) ++ bytesOf 2 zeroed
    ++ bytesOf 1 zmin ++ bytesOf 1 zmax ++ padTo 8 cpe

/-- The tap of a layer on a subcarrier of the carrier; what an engine without taps there applies is free. -/
def tapAt (set : Option TapSet) (desc : List Byte) (sc layer : Nat) : LayerTap :=
  let stray := fun (_ : Unit) =>
    let x := Sys2Proof.Config.strayTap desc sc layer
    ({ w := x.1, e := x.2.1, gain := ⟨x.2.2.1.1, x.2.2.1.2, 0⟩, var := ⟨x.2.2.2.1, 0, x.2.2.2.2⟩ } : LayerTap)
  match set with
  | none => stray ()
  | some t =>
    if sc < 12 * t.prb0 ∨ layer ≥ t.nl then stray ()
    else match t.taps[sc - 12 * t.prb0]? with
      | some ls => match ls[layer]? with
        | some x => x
        | none => stray ()
      | none => stray ()

/-- What an APPLY or DEMAP works on: the layers' z by PRB in 16-bit parts with their exponents, the noise variance of a layer
on a subcarrier, and the layers' phases. -/
structure Equalised where
  z : List (List (List (Int × Int) × Int))
  phases : List Int

/-- The z of an APPLY (R144): `xs k` are the streams' samples of element k, `zeroed k` says that it is written as 0; `layers`
counts them, `desc` and `input` fix what is free. Elements that REMASK does not name are free. -/
def applyZ (set : Option TapSet) (desc input : List Byte) (type layers prb0 nprb sym : Nat) (ptrs : Bool) (xs : Nat → List Dyad)
    (zeroed : Nat → Bool) : Equalised :=
  let remask := pf desc 12 2
  let phase := fun (l : Nat) =>
    (set.map (fun t => predictPhase t type l sym)).getD 0 + Sys2Proof.Config.residualPhase desc input l ptrs
  let z := (List.range layers).map (fun l => (List.range nprb).map (fun p =>
    let els := (List.range 12).map (fun k => xs (12 * p + k))
    let e := topExponent els.flatten
    let b := fitBlock 16 (els.zipIdx.map (fun x =>
      if zeroed (12 * p + x.2) || !bitAt remask x.2 then dyZero
      else equalise (tapAt set desc (12 * (prb0 + p) + x.2) l) x.1 e (phase l)))
    (b.1.zipIdx.map (fun v =>
      if bitAt remask v.2 then v.1
      else let f := Sys2Proof.Config.maskedZ desc l (12 * p + v.2); (f.1.toInt, f.2.toInt)), b.2)))
  { z := z, phases := (List.range layers).map phase }

/-- z as FD16, one sequence of PRBs a layer (R147). -/
def zBytes (z : List (List (List (Int × Int) × Int))) : List Byte := z.flatMap (fun l => l.flatMap (fun p => fd16Bytes p.1 p.2))

/-- The mean of real numbers. -/
def dyMean (xs : List Dyad) : Dyad := (dySum xs).per xs.length

/-- The phases applied in a symbol are remembered (R144). -/
def TapSet.withPhases (x : TapSet) (sym : Nat) (ps : List Int) : TapSet :=
  { x with phases := (sym, ps) :: x.phases.filter (fun p => p.1 != sym) }

/-- An APPLY or DEMAP completes: `bad` lists subcarriers whose taps had an uncorrectable error (R143). -/
def Dev.applyJob (d : Dev) (u : Nat) (j : Job) (bad : List Nat) : Dev :=
  let ni := engineNi 4 u
  let b := d.descOf 4 u j 48
  let cell := d.cell? j.cell
  let cr := cell.map (fun c => c.cr)
  let demap := pf b 0 1 == 3
  let tpre := bitAt (pf b 1 1) 0 && !demap
  let sym := pf b 2 1
  let shift := signedOf 8 (pf b 3 1)
  let qm := fun (l : Nat) => pf b 4 4 / 2 ^ (4 * l) % 16
  let prb0 := pf b 8 2
  let nprb := pf b 10 2
  let stat := pf b 32 8
  let set := d.tapSet u j.cell prb0
  let used := (List.range 8).filter (fun l => qm l != 0)
  let nl := (set.map (fun t => t.nl)).getD used.length
  let ns := (set.map (fun t => t.ns)).getD 1
  let forms := d.streamForms j.cell ns
  let inLen := if demap then nl * 52 * nprb else symbolBytes forms nprb
  let res := (List.range (12 * nprb)).filter (fun k => bitAt (pf b 12 2) (k % 12))
  let outLen := if tpre then nl * 52 * nprb + 4 * nl else res.length * (used.map qm).sum
  let noiseLen := if demap then 4 * nl else 0
  let finish := fun (d : Dev) (r : Nat) (word : List Byte) => (d.engOut ni stat word).engReport 4 u j r
  let badDesc := applyBad b cr
  let badAddr := !rangesMapped [(pf b 16 8, inLen), (pf b 24 8, outLen), (stat, 16), (pf b 40 8, noiseLen)]
  if badDesc ∨ badAddr then
    let r := engResult badDesc badAddr false false
    finish d r (applyStatus r false false 0 0 0 0 [])
  else
    let type := (cr.map (fun r => r.type)).getD 1
    let arrived := (cell.map (fun c => c.arrived)).getD []
    let slot := (set.map (fun t => t.slot)).getD 0
    let at_ := (d.slotStart type slot + symPos type (slot % 256) sym) % airWrap
    let input := d.engIn ni (pf b 16 8) inLen
    let noise := d.engIn ni (pf b 40 8) noiseLen
    let badByte := d.engBad ni (pf b 16 8) inLen
    let sc := fun (k : Nat) => 12 * prb0 + k - 12 * (set.map (fun t => t.prb0)).getD prb0
    let piv := (set.map (fun t => t.pivots)).getD []
    -- an element that is written as 0 (R146)
    let zeroed := fun (k : Nat) =>
      if demap then
        noise.2 || (List.range nl).any (fun l => (bodyBytes true k).any (fun i => badByte (52 * nprb * l + i)))
      else
        (List.range ns).any (fun s => !prbArrived arrived s at_ (prb0 + k / 12))
          || (List.range ns).any (fun s => (bodyBytes (forms.getD s false) k).any (fun i => badByte (streamAt forms nprb s + i)))
          || piv.contains (sc k) || bad.contains (sc k)
    let zeros := (res.filter zeroed).length
    let gone := if demap then [] else ((List.range ns).filter (fun k => !rangeArrived arrived k at_ prb0 nprb)).map (fun k => (k, sym))
    let ptrs := bitAt (pf b 1 1) 1 && pf b 14 2 % 4 != 0 && !tpre && !demap
    let hi := (set.map (fun t => t.fofsHi)).getD false && !demap
    let streams := (List.range ns).map (fun s => (streamValues forms input.1 nprb 0 s).toArray)
    let eq := if demap then
        { z := (List.range nl).map (fun l => (List.range nprb).map (fun p =>
            let a := (input.1.drop (52 * (nprb * l + p))).take 52
            ((samplesOf a 12).map (fun x => (x.1 / 4, x.2 / 4)), signedOf 8 (pf a 48 1)))), phases := [] }
      else applyZ set b input.1 type nl prb0 nprb sym ptrs (fun k => streams.map (fun a => a.getD k dyZero)) zeroed
    let exps := eq.z.flatMap (fun l => l.map (fun p => p.2))
    let zmin := exps.foldl min (exps.headD 0)
    let zmax := exps.foldl max (exps.headD 0)
    let var := fun (l k : Nat) => if demap then noiseOf ((noise.1.drop (4 * l)).take 4) else (tapAt set b (12 * prb0 + k) l).var
    let d0 := if bad.isEmpty ∨ demap then d else (d.unitError 0x0011 4 u 0 true 0).startTests
    let d1 := if demap then d0 else d0.updTaps u (fun ts => ts.map (fun x =>
      if x.cell = j.cell ∧ x.covers prb0 = true then x.withPhases sym eq.phases else x))
    let word := fun (r clip : Nat) => applyStatus r hi ptrs clip zeros (BitVec.ofInt 8 zmin).toNat (BitVec.ofInt 8 zmax).toNat
      (if demap then [] else cpeField eq.phases)
    if tpre then
      let words := (List.range nl).flatMap (fun l => noiseWord (dyMean (res.map (var l))))
      let r := engResult false false input.2 (decide (0 < zeros))
      finish ((d1.engOut ni (pf b 24 8) (zBytes eq.z ++ words)).noteMissing j gone zeros) r (word r 0)
    else
      let zs := eq.z.map (fun l => (l.flatMap (fun p => blockDyads 16 p)).toArray)
      let vals := res.zipIdx.flatMap (fun k => used.flatMap (fun l =>
        if zeroed k.1 then List.replicate (qm l) ((0 : Int), false)
        else demapSymbol (qm l) shift k.2 ((zs.getD l #[]).getD k.1 dyZero) (var l k.1)))
      let clip := (vals.filter (fun v => v.2)).length
      let r := engResult false false (input.2 || noise.2) (decide (0 < zeros + clip))
      finish ((d1.engOut ni (pf b 24 8) (vals.map (fun v => BitVec.ofInt 8 v.1))).noteMissing j gone zeros) r (word r clip)

/-! ### Rows -/

/-- EST (R139), and jobs whose MODE no table lists, which complete with BAD_DESC. An EST that has waited for APPLYs starts (R143). -/
def execEst (u : Fin 16) (s : State) : Host.Outcome State Fault Refusal :=
  ({ s with dev := s.dev.startNext 4 u.val } : State).onEngine 4 u.val (fun d j => let m := pf (d.descOf 4 u.val j 64) 0 1; m != 2 && m != 3) (fun d j =>
    if pf (d.descOf 4 u.val j 64) 0 1 = 1 then d.estJob u.val j else d.applyJob u.val j [])

/-- APPLY (R144): with the subcarriers whose taps had an uncorrectable error. -/
def execApply (u : Fin 16) (tapErrors : List Nat) (s : State) : Host.Outcome State Fault Refusal :=
  s.onEngine 4 u.val (fun d j => pf (d.descOf 4 u.val j 48) 0 1 == 2) (fun d j => d.applyJob u.val j tapErrors)

/-- DEMAP (R147). -/
def execDemap (u : Fin 16) (s : State) : Host.Outcome State Fault Refusal :=
  s.onEngine 4 u.val (fun d j => pf (d.descOf 4 u.val j 48) 0 1 == 3) (fun d j => d.applyJob u.val j [])

/-- EQUALISER_PREEMPT (R148): a queued class A job takes the engine from a running EST or class B APPLY, which resumes
later. -/
def execEqualiserPreempt (u : Fin 16) (s : State) : Host.Outcome State Fault Refusal :=
  s.onEngine 4 u.val
    (fun d j => j.cls != 0 && (d.alm.heldBy 4 u.val).any (fun x => x.cls == 0 && !x.started && d.mayStart 4 u.val x)
      && pf (d.descOf 4 u.val j 48) 0 1 != 3)
    (fun d j => (d.onAlm (fun a => a.updJob j.id (fun j => { j with started := false, paused := true }))).startNext 4 u.val)

end Sys2Proof.Machine
end

