-- ==== Sys2Proof/Machine/Ldpc.lean ====
section
/-! DEFINITION. The LDPC engines and the transport-block tally (06_ldpc_and_polar.md, R151 to R167, R171 to R174). -/

namespace Sys2Proof.Machine

/-! ### Bits and codes -/

/-- The bits of a packed sequence, most significant first (R153). -/
def bitsOf (bs : List Byte) (n : Nat) : List Bool := (bs.flatMap bitsOfByte).take n

/-- A byte from up to 8 bits, most significant first. -/
def byteOf (bits : List Bool) : Byte :=
  BitVec.ofNat 8 ((List.range 8).foldl (fun n i => 2 * n + boolNat (bits.getD i false)) 0)

/-- Bits packed into bytes, unused bits 0 (R153). -/
def packBits (bits : List Bool) : List Byte :=
  (List.range (ceilDiv bits.length 8)).map (fun i => byteOf ((bits.drop (8 * i)).take 8))

/-- An LLR byte: -128 is read as -127 (R153). -/
def llrOf (b : Byte) : Int := max (-127) b.toInt

/-- The lifting sizes of TS 38.212 Table 5.3.2-1. -/
def liftSizes : List Nat :=
  [2, 3, 4, 5, 6, 7, 8, 9, 10, 11, 12, 13, 14, 15, 16, 18, 20, 22, 24, 26, 28, 30, 32, 36, 40, 44, 48, 52, 56, 60, 64, 72, 80,
   88, 96, 104, 112, 120, 128, 144, 160, 176, 192, 208, 224, 240, 256, 288, 320, 352, 384]

/-- K_b of a base graph (R156). -/
def ldpcKb (bg2 : Bool) : Nat := if bg2 then 10 else 22

/-- k0 of a redundancy version (TS 38.212 Table 5.4.2.1-2). -/
def ldpcK0 (bg2 : Bool) (rv ncb z : Nat) : Nat :=
  match bg2, rv with
  | _, 0 => 0
  | false, 1 => 17 * ncb / (66 * z) * z
  | false, 2 => 33 * ncb / (66 * z) * z
  | false, _ => 56 * ncb / (66 * z) * z
  | true, 1 => 13 * ncb / (50 * z) * z
  | true, 2 => 25 * ncb / (50 * z) * z
  | true, _ => 43 * ncb / (50 * z) * z

/-- Whether a circular-buffer position is a filler position: the systematic bits from K' to K, less 2 Z. -/
def fillerPos (kp k z p : Nat) : Bool := decide (kp ≤ p + 2 * z ∧ p + 2 * z < k)

/-- The circular-buffer positions that E transmitted bits take (R155): from k0 up, modulo NCB, past the fillers. -/
def bufferPos (kp k z ncb k0 e : Nat) : List Nat :=
  let order := ((List.range ncb).map (fun i => (k0 + i) % ncb)).filter (fun p => !fillerPos kp k z p)
  if order.isEmpty then [] else (List.range e).map (fun i => order.getD (i % order.length) 0)

/-- Undo the bit interleaving: transmitted bit i + j Q is selected bit i E/Q + j. -/
def deinterleave (xs : List Int) (q : Nat) : List Int :=
  let n := xs.length / q
  (List.range xs.length).map (fun k => xs.getD (k / n + k % n * q) 0)

/-! ### Decoding (R154 to R160) -/

/-- A decoder descriptor (Table 6.2) as its bytes. -/
def dBg2 (b : List Byte) : Bool := bitAt (pf b 1 1) 0
/-- Z. -/
def dZ (b : List Byte) : Nat := pf b 2 2
/-- K'. -/
def dKp (b : List Byte) : Nat := pf b 4 2
/-- K. -/
def dK (b : List Byte) : Nat := ldpcKb (dBg2 b) * dZ b
/-- NCB. -/
def dNcb (b : List Byte) : Nat := pf b 6 2
/-- E. -/
def dE (b : List Byte) : Nat := pf b 8 4
/-- Qm. -/
def dQm (b : List Byte) : Nat := pf b 12 1 / 16
/-- NCOL. -/
def dNcol (b : List Byte) : Nat := pf b 16 1
/-- L_a (R156). -/
def dLayers (b : List Byte) : Nat := dNcol b - ldpcKb (dBg2 b)
/-- A bit of FLAGS: 1 NEWDATA, 2 CBCRC, 3 ES_CRC, 4 TBSEG, 5 HWB. -/
def dFlag (b : List Byte) (i : Nat) : Bool := bitAt (pf b 1 1) i
/-- Bits that a code block yields (R160). -/
def dOut (b : List Byte) : Nat := if dFlag b 2 then dKp b - 24 else dKp b

/-- The positions this transmission writes. -/
def dPositions (b : List Byte) : List Nat :=
  bufferPos (dKp b) (dK b) (dZ b) (dNcb b) (ldpcK0 (dBg2 b) (pf b 12 1 % 4) (dNcb b) (dZ b)) (dE b)

/-- The highest position that an earlier transmission has written, as HIN shows it: a soft value other than 0 (R156; DEDUCED,
log entry 43). -/
def highestHeld (old : List Int) : Nat := (old.zipIdx.filter (fun x => x.1 != 0)).foldl (fun m x => Nat.max m x.2) 0

/-- BAD_DESC of a decoder job (Table 6.2, R155, R156, R160), but for the positions that HIN holds. -/
def ldpcBad (b : List Byte) : Bool :=
  let z := dZ b
  let la := dLayers b
  let high := (dPositions b).foldl Nat.max 0
  pf b 0 1 != 1 || decide (64 ≤ pf b 1 1) || !liftSizes.contains z || dKp b == 0 || decide (dK b < dKp b)
    || dNcb b == 0 || decide ((if dBg2 b then 50 else 66) * z < dNcb b) || dE b == 0 || decide (262143 < dE b)
    || pf b 12 1 / 4 % 4 != 0 || !([1, 2, 4, 6, 8, 10].contains (dQm b)) || dE b % Nat.max 1 (dQm b) != 0
    || pf b 13 1 == 0 || decide (25 < pf b 13 1) || pf b 14 1 == 0 || decide (pf b 13 1 < pf b 14 1)
    || pf b 15 1 / 4 % 4 != 0 || decide (64 ≤ pf b 15 1) || decide (dNcol b < ldpcKb (dBg2 b) + 4)
    || decide ((if dBg2 b then 42 else 46) < la) || decide ((dNcol b - 2) * z ≤ high)
    || (dFlag b 2 && decide (dKp b < 24)) || dOut b % 8 != 0
    || (dFlag b 4 && (pf b 18 2 == 0 || decide (256 < pf b 18 2) || decide (pf b 18 2 ≤ pf b 17 1) || decide (1023 < pf b 20 2)
          || decide (1 < pf b 22 1)))
    || (dFlag b 5 && !dFlag b 1 && decide (pf b 40 8 < pf b 48 8 + dNcb b) && decide (pf b 48 8 < pf b 40 8 + dNcb b))

/-- The combined soft buffer and the saturations it took (R155). -/
def combineLlrs (old : List Int) (pos : List Nat) (new : List Int) : List Int × Nat :=
  (pos.zip new).foldl (fun (acc : List Int × Nat) x =>
    let s := acc.1.getD x.1 0 + x.2
    (acc.1.set x.1 (clampInt (-127) 127 s), acc.2 + boolNat (decide (127 < s ∨ s < -127)))) (old, 0)

/-- Channel values at the decoder's input (R157). -/
def inputLlr (shift : Nat) (x : Int) : Int :=
  clampInt (-31) 31 (if shift = 0 then x else (x + 2 ^ (shift - 1)) / (2 ^ shift : Int))

/-- The a-posteriori values before the first iteration: punctured columns 0, fillers +31 (R157). -/
def startValues (b : List Byte) (buf : List Int) : List Int :=
  let z := dZ b
  (List.range (dNcol b * z)).map (fun v =>
    if v < 2 * z then 0
    else if fillerPos (dKp b) (dK b) z (v - 2 * z) then 31
    else inputLlr (pf b 15 1 / 16 % 4) (buf.getD (v - 2 * z) 0))

/-- The columns and shifts of a layer that take part (R156). -/
def layerEdges (b : List Byte) (r : Nat) : List (Nat × Nat) :=
  (baseGraph (dBg2 b) (dZ b) r).filter (fun e => decide (e.1 < dNcol b))

/-- One check of a layer: the new a-posteriori values and messages of its edges (R157). -/
def checkNode (beta : Nat) (vals msgs : List Int) : List (Int × Int) :=
  let t := (vals.zip msgs).map (fun x => x.1 - x.2)
  (List.range t.length).map (fun k =>
    let others := (t.zipIdx.filter (fun x => x.2 != k)).map (fun x => x.1)
    let low := others.foldl (fun m x => Nat.min m x.natAbs) (31 + beta)
    let neg := (others.filter (fun x => decide (x < 0))).length % 2 == 1
    let m : Int := if neg then -((low - beta : Nat) : Int) else ((low - beta : Nat) : Int)
    (clampInt (-255) 255 (t.getD k 0 + m), m))

/-- One iteration (R157): values and messages, message of edge k, copy i of layer r at ((r × 32 + k) × Z + i). -/
def ldpcIterate (b : List Byte) (st : List Int × List Int) : List Int × List Int :=
  let z := dZ b
  let beta := pf b 15 1 % 4
  (List.range (dLayers b)).foldl (fun st r =>
    let es := layerEdges b r
    (List.range z).foldl (fun (st : List Int × List Int) i =>
      let at_ := es.map (fun e => e.1 * z + (i + e.2) % z)
      let slots := (List.range es.length).map (fun k => (r * 32 + k) * z + i)
      let new := checkNode beta (at_.map (fun v => st.1.getD v 0)) (slots.map (fun s => st.2.getD s 0))
      ((at_.zip new).foldl (fun v x => v.set x.1 x.2.1) st.1, (slots.zip new).foldl (fun m x => m.set x.1 x.2.2) st.2)) st) st

/-- The hard decision (R157). -/
def hardBits (vals : List Int) : List Bool := vals.map (fun x => decide (x < 0))

/-- Checks of the active layers that a hard decision does not satisfy (R158). -/
def unsatisfied (b : List Byte) (bits : List Bool) : Nat :=
  let z := dZ b
  ((List.range (dLayers b)).flatMap (fun r =>
    let es := layerEdges b r
    (List.range z).filter (fun i =>
      (es.filter (fun e => bits.getD (e.1 * z + (i + e.2) % z) false)).length % 2 == 1))).length

/-- CRC-24B over the K' bits passes (R160). -/
def cbCrcOk (b : List Byte) (bits : List Bool) : Bool := crcBits 24 0x800063 0 (bits.take (dKp b)) == 0

/-- Whether a further iteration does not start (R159, R183): `least` always run, and another job has come to wait in one of
the `i` that have. -/
def cutAt (wait : Option Nat) (least i : Nat) : Bool :=
  match wait with
  | some w => decide (least ≤ i ∧ w ≤ i)
  | none => false

/-- The iteration in which another job came to wait in an engine's queue, if one waits: the row says which. -/
def Dev.waitSince (d : Dev) (pool u since : Nat) : Option Nat :=
  if (d.alm.heldBy pool u).any (fun x => !x.started) then some since else none

/-- Iterations from `i` on (R158, R159): the values, the iterations run and ITCUT. -/
def ldpcRun (b : List Byte) (wait : Option Nat) : Nat → Nat → List Int × List Int → List Int × Nat × Bool
  | 0, i, st => (st.1, i, false)
  | fuel + 1, i, st =>
    if cutAt wait 8 i then (st.1, i, true)
    else
      let st1 := ldpcIterate b st
      let bits := hardBits st1.1
      let stop := decide (pf b 14 1 ≤ i + 1) && unsatisfied b bits == 0 && (!dFlag b 3 || cbCrcOk b bits)
      if stop then (st1.1, i + 1, false) else ldpcRun b wait fuel (i + 1) st1

/-! ### Tally (R162, R163) -/

/-- Change an entry. -/
def Dev.updTally (d : Dev) (n : Nat) (f : TallyRec → TallyRec) : Dev :=
  { d with eng := { d.eng with tally := Vector.ofFn (fun i => if i.val = n then f d.eng.tally[i] else d.eng.tally[i]) } }

/-- An entry. -/
def Dev.tallyRec (d : Dev) (n : Nat) : TallyRec := d.eng.tally.toList.getD n {}

/-- The TB status word (Table 6.5). -/
def tbWord (t : TallyRec) (abandoned : Bool) : List Byte :=
  let pass := !abandoned && t.acc == 0 && t.fails == 0
  bytesOf 1 (1 + 2 * boolNat pass + 4 * boolNat abandoned) ++ bytesOf 2 t.seen.length ++ bytesOf 1 (Nat.min 255 t.fails)
    ++ bytesOf 4 t.tbid.toNat

/-- An OPEN entry that is too old is closed as abandoned (R163). -/
def Dev.tallyAge (d : Dev) (n : Nat) : Dev :=
  let t := d.tallyRec n
  if t.st = .opened ∧ d.cfg.tallyAge < (d.time.tick - t.tick).toNat then
    ({ d with mem := d.mem.ifWrite t.tbst.toNat (tbWord t true) } : Dev).updTally n (fun t => { t with st := .closed })
  else d

/-- The tally's answer to a job, by its TBTAG, CBIDX, NCBTB, TBID and TBST (Table 6.1): the device, TAG_CONFLICT, TALLYSKIP,
TBDONE and TBPASS. -/
def Dev.tallyTake (d : Dev) (n cb blocks tbid tbst : Nat) (rem : Nat) (failed : Bool) : Dev × Bool × Bool × Bool × Bool :=
  let id := BitVec.ofNat 32 tbid
  let d0 := d.tallyAge n
  let t := d0.tallyRec n
  let close := fun (t : TallyRec) =>
    if t.seen.length = t.blocks then
      let d1 : Dev := { d0 with mem := d0.mem.ifWrite t.tbst.toNat (tbWord t false) }
      (d1.updTally n (fun _ => { t with st := .closed }), false, false, true, t.acc == 0 && t.fails == 0)
    else (d0.updTally n (fun _ => t), false, false, false, false)
  match t.st with
  | .opened =>
    if t.tbid ≠ id then (d0, true, false, false, false)
    else if t.seen.contains cb then (d0, false, true, false, false)
    else close { t with acc := t.acc ^^^ rem, seen := insertNat cb t.seen, fails := t.fails + boolNat failed }
  | st =>
    if st = .closed ∧ t.tbid = id then (d0, false, true, false, false)
    else close { st := .opened, acc := rem, seen := [cb], fails := boolNat failed, tbid := id, blocks := blocks
                 tbst := BitVec.ofNat 64 tbst, tick := d0.time.tick }

/-- REM_s (R162): the remainder of the segment's bits followed by T_s zeros. -/
def segRem (crc16_ : Bool) (bits : List Bool) (tail : Nat) : Nat :=
  let all := bits ++ List.replicate tail false
  -- a CRC register fed most significant bit first from 0 leaves (bits × x^w) mod g; dividing out x^w is done by feeding
  -- the sequence w bits short of its end and taking the last w bits into the remainder
  let w := if crc16_ then 16 else 24
  let poly := if crc16_ then 0x1021 else 0x864CFB
  let head := all.take (all.length - w)
  let last := (all.drop (all.length - w)).foldl (fun n x => 2 * n + boolNat x) 0
  crcBits w poly 0 head ^^^ last

/-! ### Jobs -/

/-- The decoder's status word (Table 6.3). -/
def ldpcStatus (result iter : Nat) (synd crc cut : Bool) (unsat : Nat) (done pass skip : Bool) (clip rem : Nat) (tick : List Byte) :
    List Byte :=
  bytesOf 1 result ++ bytesOf 1 (iter % 32 + 32 * boolNat synd + 64 * boolNat crc + 128 * boolNat cut)
    ++ bytesOf 2 (Nat.min 0xFFFF unsat) ++ bytesOf 1 (boolNat done + 2 * boolNat pass + 4 * boolNat skip) ++ [0]
    ++ bytesOf 2 (Nat.min 0xFFFF clip) ++ tick ++ bytesOf 3 rem ++ [0]

/-- A decoder job completes (R155 to R163): what the independent checker finds (R161) and when another job came to wait. -/
def Dev.ldpcDecode (d : Dev) (u : Nat) (j : Job) (run : Sys2Proof.DecodeRun) : Dev :=
  let ni := engineNi 5 u
  let b := d.descOf 5 u j 80
  let stat := pf b 64 8
  let n := dNcb b
  let outLen := dOut b / 8
  let finish := fun (d : Dev) (r : Nat) (word : List Byte) => (d.engOut ni stat word).engReport 5 u j r
  let badDesc := ldpcBad b
  let badAddr := !rangesMapped ([(pf b 32 8, dE b), (pf b 56 8, outLen), (stat, 16)]
    ++ (if dFlag b 1 then [] else [(pf b 40 8, n)]) ++ (if dFlag b 5 then [(pf b 48 8, n)] else [])
    ++ (if dFlag b 4 then [(pf b 72 8, 8)] else []))
  if badDesc ∨ badAddr then
    let r := engResult badDesc badAddr false false
    finish d r (ldpcStatus r 0 false false false 0 false false false 0 0 d.doneTick)
  else
    let src := d.engIn ni (pf b 32 8) (dE b)
    let filler := fillerPos (dKp b) (dK b) (dZ b)
    let hin := if dFlag b 1 then List.replicate n 0 else (d.engIn ni (pf b 40 8) n).1
    let hinBad := !dFlag b 1 && (List.range n).any (fun i => !filler i && d.engBad ni (pf b 40 8) n i)
    let old := hin.zipIdx.map (fun x => if filler x.2 then 0 else llrOf x.1)
    let new := deinterleave (src.1.map llrOf) (dQm b)
    let comb := combineLlrs old (dPositions b) new
    let d1 := if dFlag b 5 then d.engOut ni (pf b 48 8) (comb.1.map (fun x => BitVec.ofInt 8 x)) else d
    if (dNcol b - 2) * dZ b ≤ highestHeld old then
      finish d 0x10 (ldpcStatus 0x10 0 false false false 0 false false false 0 0 d.doneTick)
    else if !run.consistent then d1.engineFault 5 u 0x0015
    else
      let wait := d.waitSince 5 u run.since
      let run := ldpcRun b wait (pf b 13 1) 0 (startValues b comb.1, List.replicate (46 * 32 * dZ b) 0)
      let bits := hardBits run.1
      let unsat := unsatisfied b bits
      let crc := dFlag b 2 && cbCrcOk b bits
      let out := bits.take (dOut b)
      let d2 := d1.engOut ni (pf b 56 8) (packBits out)
      let rem := if dFlag b 4 then segRem (pf b 22 1 == 1) out (pf b 24 4) else 0
      let x := if dFlag b 4 then d2.tallyTake (pf b 20 2) (pf b 17 1) (pf b 18 2) (pf b 28 4) (pf b 72 8) rem (dFlag b 2 && !crc) else (d2, false, false, false, false)
      let counted := decide (0 < comb.2) || run.2.2 || x.2.2.1
      let r := if x.2.1 then 0x14 else engResult false false (src.2 || hinBad) counted
      finish x.1 r (ldpcStatus r run.2.1 (unsat == 0) crc run.2.2 unsat x.2.2.2.1 x.2.2.2.2 x.2.2.1 comb.2 rem x.1.doneTick)

/-! ### Encoding (R167) -/

/-- Whether base graph 2 is selected (TS 38.212 §7.2.2): by A and the rate in 1/1,024. -/
def useBg2 (a rate : Nat) : Bool := decide (a ≤ 292) || (decide (a ≤ 3824) && decide (100 * rate ≤ 67 * 1024)) || decide (4 * rate ≤ 1024)

/-- Code blocks, K', K_b, Z and K of a block of B bits (TS 38.212 §5.2.2). -/
def segmentation (bg2 : Bool) (b : Nat) : Nat × Nat × Nat × Nat :=
  let kcb := if bg2 then 3840 else 8448
  let c := if b ≤ kcb then 1 else ceilDiv b (kcb - 24)
  let kp := if c = 1 then b else (b + c * 24) / c
  let kb := if !bg2 then 22 else if 640 < b then 10 else if 560 < b then 9 else if 192 < b then 8 else 6
  let z := (liftSizes.find? (fun z => decide (kp ≤ kb * z))).getD 384
  (c, kp, z, ldpcKb bg2 * z)

/-- The circular-buffer length (TS 38.212 §5.4.2.1), limited under TBS_LBRM. -/
def encoderNcb (bg2 : Bool) (z c lbrm : Nat) : Nat :=
  let n := (if bg2 then 50 else 66) * z
  if lbrm = 0 then n else Nat.min n (3 * lbrm / (2 * c))

/-- The code blocks that are output: all, or those of the groups flagged (TS 38.214 §5.1.7). -/
def outputBlocks (c ncbg cbgti : Nat) : List Nat :=
  if ncbg = 0 then List.range c
  else
    let m := Nat.min ncbg c
    let m1 := c % m
    let k1 := ceilDiv c m
    let k2 := c / m
    (List.range c).filter (fun r =>
      let g := if r < m1 * k1 then r / k1 else m1 + (r - m1 * k1) / Nat.max 1 k2
      bitAt cbgti g)

/-- E of the i-th of C' output code blocks (TS 38.212 §5.4.2.1). -/
def blockE (g nl qm c i : Nat) : Nat :=
  let u := g / (nl * qm)
  if i + u % c < c then nl * qm * (u / c) else nl * qm * ceilDiv u c

/-- Bit interleaving: transmitted bit i + j Q is selected bit i E/Q + j. -/
def interleaveBits (xs : List Bool) (q : Nat) : List Bool :=
  let n := xs.length / q
  (List.range xs.length).map (fun t => xs.getD (t % q * n + t / q) false)

/-- What the edges of a row to known columns add up to, bit by bit. -/
def rowSum (z : Nat) (cols : Array (Array Bool)) (es : List (Nat × Nat)) : Array Bool :=
  ((List.range z).map (fun i => es.foldl (fun x e => x != (cols.getD e.1 #[]).getD ((i + e.2) % z) false) false)).toArray

/-- The parity columns of a code block (TS 38.212 §5.3.2): the first from the sum of the four core rows, in which two of its
three shifts cancel; the others row by row, each the sum of what its row already has. -/
def ldpcParity (bg2 : Bool) (z : Nat) (info : List Bool) : List Bool :=
  let kb := ldpcKb bg2
  let sys := ((List.range kb).map (fun c => ((info.drop (c * z)).take z).toArray)).toArray
  let row := fun (r : Nat) => baseGraph bg2 z r
  let core := (List.range 4).map (fun r => rowSum z sys (row r))
  let shifts := (List.range 4).filterMap (fun r => ((row r).find? (fun e => e.1 == kb)).map (fun e => e.2))
  let s := (shifts.find? (fun x => shifts.count x % 2 == 1)).getD 0
  let first := ((List.range z).map (fun k => core.foldl (fun x v => x != v.getD ((k + z - s) % z) false) false)).toArray
  let rows := [0, 1, 2] ++ (List.range (if bg2 then 38 else 42)).map (· + 4)
  let cols := rows.foldl (fun cs r => cs.push (rowSum z cs (row r))) (sys.push first)
  ((cols.toList.drop kb).map Array.toList).flatten

/-- The bits of a code block in force: its segment, CRC-24B where there are several, fillers 0; then the parity bits. -/
def codeWord (bg2 : Bool) (z k c : Nat) (seg : List Bool) : List Bool :=
  let crc := crcBits 24 0x800063 0 seg
  let body := if c = 1 then seg else seg ++ (List.range 24).map (fun i => bitAt crc (23 - i))
  let info := (List.range k).map (fun i => body.getD i false)
  info ++ ldpcParity bg2 z info

/-- The transport block's CRC passes (R167): CRC-16 to A = 3,824, CRC-24A above. -/
def tbCrcOk (bits : List Bool) (a : Nat) : Bool :=
  if a ≤ 3824 then crcBits 16 0x1021 0 bits == 0 else crcBits 24 0x864CFB 0 bits == 0

/-- BAD_DESC of an encoder job (Table 6.6). -/
def encBad (b : List Byte) : Bool :=
  let nl := pf b 3 1
  let qm := pf b 2 1
  pf b 0 1 != 1 || pf b 1 1 != 0 || !([1, 2, 4, 6, 8, 10].contains qm) || nl == 0 || decide (4 < nl)
    || pf b 4 4 == 0 || pf b 4 4 % 8 != 0 || pf b 8 4 % Nat.max 1 (nl * qm) != 0 || decide (3 < pf b 12 1)
    || !([0, 2, 4, 6, 8].contains (pf b 13 1))

/-- The encoder's status word (Table 6.7). -/
def encStatus (result c : Nat) (bg2 : Bool) (z gout : Nat) (tick : List Byte) : List Byte :=
  bytesOf 1 result ++ bytesOf 1 c ++ bytesOf 2 (boolNat bg2 + 64 * z) ++ bytesOf 4 gout ++ tick ++ bytesOf 4 0

/-- An encoder job completes (R161, R167). -/
def Dev.ldpcEncode (d : Dev) (u : Nat) (j : Job) (consistent : Bool) : Dev :=
  let ni := engineNi 6 u
  let b := d.descOf 6 u j 64
  let a := pf b 4 4
  let g := pf b 8 4
  let nl := pf b 3 1
  let qm := pf b 2 1
  let w := if a ≤ 3824 then 16 else 24
  let stat := pf b 40 8
  let inLen := (a + w) / 8
  let finish := fun (d : Dev) (r : Nat) (word : List Byte) => (d.engOut ni stat word).engReport 6 u j r
  let badDesc := encBad b
  let badAddr := !rangesMapped [(pf b 24 8, inLen), (pf b 32 8, ceilDiv g 8), (stat, 16)]
  if badDesc ∨ badAddr then
    let r := engResult badDesc badAddr false false
    finish d r (encStatus r 0 false 0 0 d.doneTick)
  else
    let src := d.engIn ni (pf b 24 8) inLen
    let bits := bitsOf src.1 (a + w)
    if !src.2 ∧ !tbCrcOk bits a then finish d 0x15 (encStatus 0x15 0 false 0 0 d.doneTick)
    else if !consistent then d.engineFault 6 u 0x0015
    else
      let bg2 := useBg2 a (pf b 14 2)
      let s := segmentation bg2 (a + w)
      let c := s.1
      let kp := s.2.1
      let z := s.2.2.1
      let k := s.2.2.2
      let blocks := outputBlocks c (pf b 13 1) (pf b 20 1)
      let ncb := encoderNcb bg2 z c (pf b 16 4)
      let perSeg := if c = 1 then a + w else kp - 24
      let out := blocks.zipIdx.flatMap (fun x =>
        let seg := (bits.drop (x.1 * perSeg)).take perSeg
        let word := (codeWord bg2 z k c seg).drop (2 * z)
        let e := blockE g nl qm blocks.length x.2
        let pos := bufferPos kp k z ncb (ldpcK0 bg2 (pf b 12 1) ncb z) e
        interleaveBits (pos.map (fun p => word.getD p false)) qm)
      let r := engResult false false src.2 false
      finish (d.engOut ni (pf b 32 8) (packBits out)) r (encStatus r c bg2 z out.length d.doneTick)

/-! ### Rows -/

/-- LDPC_DECODE (R155 to R165): what the checker of R161 finds, and when another job came to wait (R159). -/
def execLdpcDecode (u : Fin 12) (run : Sys2Proof.DecodeRun) (s : State) : Host.Outcome State Fault Refusal :=
  s.onEngine 5 u.val (fun _ _ => true) (fun d j => d.ldpcDecode u.val j run)

/-- TALLY_AGE_CLOSE (R163): the check of the tally's ages, once a millisecond. -/
def execTallyAgeClose (n : Fin 1024) (s : State) : Host.Outcome State Fault Refusal :=
  s.on (fun d => if d.launched then d.tallyAge n.val else d)

/-- LDPC_ENCODE (R167). -/
def execLdpcEncode (u : Fin 4) (consistent : Bool) (s : State) : Host.Outcome State Fault Refusal :=
  s.onEngine 6 u.val (fun _ _ => true) (fun d j => d.ldpcEncode u.val j consistent)

end Sys2Proof.Machine
end

