-- ==== Sys2Proof/Machine/Start.lean ====
section
/-! DEFINITION. Power, reset and the three kinds of start; the held commands whose work is internal; JTAG
(18_start_and_security.md, R430 to R457; 21_pins_and_electrical.md, R515 to R519; 20_thermal_and_health.md, R489). -/

namespace Sys2Proof.Machine

/-! ### What a start clears -/

/-- The timing unit after a start: the count goes on, every setting and source is at its default (R40, R546). -/
def TimeState.restart (t : TimeState) : TimeState :=
  let o := t.air % frameTc
  let idx := ((o + 1) * 40000 - 1) / (4 * 19660800)
  let fresh : TimeState := {}
  { fresh with air := t.air
               wraps := t.wraps
               fnWraps := t.fnWraps
               tick := t.tick
               tickIdx := idx
               edgeAt := t.air - o + edgePos 2 idx
               gsmSlots := gsmSlotOf (t.gsmAt t.air) }

/-- A domain as a start finds it: in Stop with its pads latched; one that has FAILED stays so, PD.P apart (R436, R470, R472);
a link that is kept keeps PD.P in Run (R438). -/
def DomainRec.restart (x : DomainRec) (code : Nat) (keep : Bool) : DomainRec :=
  if code = 0x800 ∧ keep then { st := x.st, padLatch := x.padLatch }
  else if x.st = .failed ∧ code ≠ 0x800 then { st := .failed, padLatch := x.padLatch, retry := x.retry }
  else { padLatch := domPads code }

/-- The power domains as a start finds them; the regulators are checked anew (R475). -/
def PowerState.restart (p : PowerState) (keep : Bool) : PowerState :=
  { dom := Vector.ofFn (fun i => p.dom[i].restart (i.val / 128 * 256 + i.val % 128) keep) }

/-- BAR0 as a start finds it (Table 22.1, Table 22.5): cleared, or kept with the link, less the alerts that a start clears;
HOSTLOSS_MS is 0 after every start (R389). -/
def HostState.restart (h : HostState) (air : Nat) (keep : Bool) : HostState :=
  let fresh : HostState := {}
  let base : HostState := if keep then h else { fresh with alertEdge := h.alertEdge }
  { base with alertEdge := base.alertEdge &&& 0x2100
              hostlossMs := 0
              closedAt := air
              lost := false
              hbAt := air }

/-- What the control complex forgets at every start and at entry to M3 (R428, Table 18.3); it loads every shell with the default
entries before any NI opens (R261). -/
def Dev.wipe (d : Dev) (keep : Bool) : Dev :=
  let d0 := d.dropCommands.dropTests
  let t := d0.time.restart
  let rec_ : SlackRec := { window := t.subframes }
  let start : StartState :=
    { d0.start with keyStore := false
                    debugOpen := false
                    challenge := none
                    images := []
                    bindDue := []
                    halted := false
                    hostWait := false
                    ready := keep && d0.start.ready }
  let thermal : ThermalState := { restarts := d0.thermal.restarts, channel := d0.thermal.channel }
  let health : HealthState :=
    { d0.health with leaky := Vector.replicate 17 {}
                     links := []
                     removed := []
                     merge := []
                     rolling := 0
                     leakSecond := t.air / secondTc
                     sparesDue := false
                     idle := 0
                     hbmErrors := []
                     essentialDue := false }
  let chiop : ChiopState :=
    { gen := d0.chiop.gen
      evSeq := if keep then d0.chiop.evSeq else 0
      backlog := if keep then d0.chiop.backlog else []
      boundary := t.air
      boundaryStamp := t.stampAt t.air
      nextAt := nextBoundary false t.air }
  let pm := d0.link.pm
  let d1 : Dev :=
    { d0 with time := t
              slack := { recA := rec_, recB := rec_ }
              power := d0.power.restart keep
              thermal := thermal
              health := health
              chiop := chiop
              start := start
              host := d0.host.restart t.air keep
              cfg := {}
              alm := {}
              ring := { loaded := true }
              dma := {}
              eng := {}
              eth := Vector.replicate 4 {}
              link := { pm := pm, second := t.total / (secondTc : Nat) }
              mem := { d0.mem with harqBase := 0, harqSize := 0, harqPages := [] } }
  d1.settleHost

/-! ### Beginning and failing -/

/-- The sources of step 0x06 in order (R440, R445): 0 flash A, 1 flash B, 2 the host. -/
def bootSources (bootsrc : BitVec 2) (kind : StartKind) : List Nat :=
  if kind = .recovery then [2]
  else match bootsrc.toNat with
    | 1 => [0, 1]
    | 2 => [2]
    | _ => [0, 1, 2]

/-- A start begins at step 0x01 (R430, R438): `keep` that PD.P stays in Run, `old` and `cause` of the MODE event that is due
when the interpreter is ready (R429), cause 0 for none. -/
def Dev.beginStart (d : Dev) (kind : StartKind) (keep : Bool) (old cause : Nat) : Dev :=
  let warm := decide (kind = .warm)
  let d0 : Dev := if warm then d.binsReopen false else { d with link := {} }
  let d1 := d0.wipe keep
  let start : StartState :=
    { d1.start with kind := kind
                    step := 1
                    sources := bootSources d1.start.fuses.bootsrc kind
                    retain := warm && d1.start.retain
                    header := if warm then d1.start.header else []
                    measurement := if warm then d1.start.measurement else []
                    fwVersion := if warm then d1.start.fwVersion else 0
                    fwSvn := if warm then d1.start.fwSvn else 0
                    fwLen := if warm then d1.start.fwLen else 0
                    recovery := if kind = .recovery then d1.start.recovery else none }
  let health : HealthState := if warm then d1.health
    else { d1.health with service := false, causes := [], replaceOut := false, repeatCount := 0 }
  let m := if warm then 2 else 1
  let d2 : Dev := { d1 with start := start
                            health := health
                            mode := { mode := m, oldMode := old, startCause := if d1.start.ready then 0 else cause } }
  if d1.start.ready ∧ cause ≠ 0 then d2.modeEvent old m cause else d2

/-- Entry to M3 (R438, R445): every domain but PD.AON and PD.P in Stop, the interpreter ready. -/
def Dev.enterRecovery (d : Dev) : Dev :=
  let old := d.mode.mode
  let d1 := d.wipe true
  let d2 := d1.updDom 0x800 (fun x => { x with st := .run, padLatch := false })
  let d3 : Dev := { d2 with start := { d2.start with ready := true }, mode := { mode := 3 } }
  ((d3.settleHost.modeEvent old 3 9).firstCut).alertSince d

/-- A start attempt has failed (R437, R438). -/
def Dev.startFail (d : Dev) (cause : Nat) : Dev :=
  let s := d.start
  let d1 : Dev := { d with start := { s with cause := cause } }
  let d2 := (d1.logAdd 6 true (bytesOf 1 cause ++ bytesOf 1 s.step)).raiseAlert 8
  if s.kind = .warm then
    let w := Nat.min 2 (s.wfail + if cause = 8 then 2 else 1)
    let d3 : Dev := { d2 with start := { d2.start with wfail := w } }
    if w = 2 then d3.beginStart .cold true 2 9 else d3.beginStart .warm true 0 0
  else
    let c := Nat.min 3 (s.cfail + 1)
    let d3 : Dev := { d2 with start := { d2.start with cfail := c } }
    if c = 3 then d3.enterRecovery else d3.beginStart .cold true 0 0

/-- A start runs: in M1 or M2, not held, not halted, not complete. -/
def Dev.starting (d : Dev) : Bool :=
  d.up && (d.mode.mode == 1 || d.mode.mode == 2) && !d.start.halted && !d.mode.startDone && decide (1 ≤ d.start.step)

/-- Go on with a step. -/
def Dev.toStep (d : Dev) (n : Nat) : Dev := { d with start := { d.start with step := n } }

/-- An essential domain does not wake (R433): the start halts, and asks for a replacement if the interpreter is ready. -/
def Dev.haltStart (d : Dev) : Dev :=
  let d1 : Dev := { d with start := { d.start with halted := true } }
  let d2 := if d1.start.ready then d1.replaceCond 6 (0, 0) else d1
  d2.alertSince d

/-! ### The steps -/

/-- The directory of boot flash as its 64 bytes are read (Table 18.5): absent with a wrong MAGIC or DCRC. -/
def flashDir (bs : List Byte) : List Byte :=
  if bs.length = 64 ∧ pf bs 0 4 = 0x44464E47 ∧ pf bs 60 4 = crc32c (bs.take 60) then bs else []

/-- Whether an entry of the directory names an offset. -/
def dirHas (dir : List Byte) (at_ : Nat) : Bool := !dir.isEmpty && pf dir at_ 4 != 0xFFFFFFFF

/-- What a start keeps of boot flash (R440): the directory; of the board record the IDs and LOGMIRROR; the log area. -/
def StartState.readFlash (s : StartState) (r : Sys2Proof.StartReport) : StartState :=
  let dir := flashDir r.dir
  let board := if dirHas dir 12 then some (padTo 16 r.board) else none
  let log := dirHas dir 16
  { s with dir := dir
           subsystem := board.map (fun b => (BitVec.ofNat 16 (pf b 0 2), BitVec.ofNat 16 (pf b 2 2)))
           logMirror := log && (match board with | some b => bitAt (pf b 4 1) 0 | none => false)
           logLen := if log then pf dir 20 4 else 0 }

/-- Step 0x01 ends (R431, R440, R516, R519): VCORE is commanded to V_CEIL, its default. -/
def Dev.stepFuse (d : Dev) (r : Sys2Proof.StartReport) : Dev :=
  ({ d with start := { d.start.readFlash r with refClk := r.refClk }
            slack := d.slack.command d.slack.ceil } : Dev).toStep 2

/-- Step 0x02 ends (R431, R429, R472): PD.P in Run with its pads released, BAR0 answers, the interpreter is ready. -/
def Dev.stepLink (d : Dev) : Dev :=
  let d1 := d.updDom 0x800 (fun x => { x with st := .run, padLatch := false })
  let d2 : Dev := { d1 with start := { d1.start with ready := true }
                            host := { d1.host with hbcount := 0, hbAt := d1.time.air } }
  let d3 := d2.settleHost
  let d4 := if d3.mode.startCause = 0 then d3 else d3.modeEvent d3.mode.oldMode d3.mode.mode d3.mode.startCause
  (({ d4 with mode := { d4.mode with startCause := 0 } } : Dev).firstCut).toStep (if d.start.kind = .warm then 4 else 3)

/-- The retired set kept in boot flash (R432, R440): the units of its retirement records with ACTION 6. -/
def StartState.retiredSet (s : StartState) : List (Nat × Nat) :=
  if s.logMirror then
    (s.flashFirst.filter (fun r => r.type == 5 && pf r.payload 2 1 == 6)).map (fun r => (pf r.payload 3 1, pf r.payload 4 1))
  else []

/-- The state in which a unit slot starts cold (R432): a core that does not start takes its MXC with it. A unit that starts
RETIRED is marked until its event is posted. -/
def Dev.coldUnit (d : Dev) (bad : List (Nat × Nat)) (c s : Nat) : UnitRec :=
  let out := fun (u : Nat × Nat) => bad.contains u || d.start.retiredSet.contains u
  if !fusedPresent d.part c s then {}
  else if out (c, s) || (c == 2 && out (1, s)) then { st := .retired, markRetire := true }
  else { st := .present }

/-- Every unit's state at the end of step 0x03 (R432). Until then GET_CAPABILITIES reports the states held before the start:
every unit ABSENT after POWER_ON (DESIGN CHOICE, log entry 65: the spec does not say what M1 reports between steps 0x02 and
0x03). -/
def Dev.coldUnits (d : Dev) (bad : List (Nat × Nat)) : Dev :=
  { d with units := Vector.ofFn (fun i => d.coldUnit bad (i.val / 128) (i.val % 128)) }

/-- The states carried into a warm start (Table 18.2). -/
def Dev.warmUnits (d : Dev) : Dev := { d with units := d.units.map (fun u => { st := u.st }) }

/-- A unit starts FAILED (R432, R433); its event is due at step 0x0A. -/
def Dev.startFailed (d : Dev) (c s : Nat) : Dev := d.updUnit c s (fun u => { u with st := .failed, markFail := true })

/-- A domain wakes in a start, or does not and starts FAILED with its units (R433). -/
def Dev.wakeOne (d : Dev) (unwoken : List Nat) (code : Nat) : Dev :=
  if code = 0x800 ∨ (d.dom code).st = .failed ∨ !d.domPresent code then d
  else if unwoken.contains code then
    let us := domUnits code ++ (if code / 256 = 1 then [(2, code % 256)] else [])
    (us.filter (fun u => d.present u.1 u.2)).foldl (fun d u => d.startFailed u.1 u.2)
      (d.updDom code (fun x => { x with st := .failed, attempts := 3, retry := 2 }))
  else
    let d1 := d.updDom code (fun x => { x with st := .run })
    if code / 256 = 2 then d1.updCore (code % 256) (fun c => { c with mxc := { c.mxc with started := true } }) else d1

/-- Every domain with a PRESENT unit enters Run (R431, R434). -/
def Dev.wakeDevice (d : Dev) (unwoken : List Nat) : Dev := allDomains.foldl (fun d c => d.wakeOne unwoken c) d

/-- Step 0x03 ends (R432, R433): the failure of an essential unit fails the start. -/
def Dev.stepBist (d : Dev) (r : Sys2Proof.StartReport) : Dev :=
  if r.fault ∨ r.bad.contains (12, 0) ∨ r.bad.contains (15, 0) ∨ r.bad.contains (15, 1) then d.startFail 2
  else if r.unwoken.contains 0x700 then d.haltStart
  else
    let d1 : Dev := { d with power := { d.power with dom := d.power.dom.map (fun x => if x.st = .failed then { x with st := .stop } else x) } }
    ((d1.coldUnits r.bad).wakeDevice r.unwoken).toStep 4

/-- Step 0x04 ends (R63, R317): on-chip memory is 0, every core and MXC as at reset. -/
def Dev.stepClear (d : Dev) (r : Sys2Proof.StartReport) : Dev :=
  let warm := decide (d.start.kind = .warm)
  if warm && r.unwoken.contains 0x700 then d.haltStart
  else
    let fresh : Vector Core 128 := Vector.ofFn (fun i =>
      ({ mxc := { started := d.cores[i].mxc.started && !warm } } : Core))
    let d1 : Dev := { d with mem := d.mem.clearRange 0 0x800000000, cores := fresh }
    (if warm then d1.warmUnits.wakeDevice r.unwoken else d1).toStep 5

/-- Nothing on the device's side of the address map is kept; host memory, which is not the device's, is (R300). -/
def Memory.forget (m : Memory) : Memory :=
  let x := m.clearRange 0 0x8000000000000000
  { cells := x.cells, poison := x.poison }

/-- Step 0x05 ends (R309, R431, R432, R434, R519): after a cold training nothing of HBM is kept, and rows repaired softly are
repaired for good. -/
def Dev.stepHbm (d : Dev) (r : Sys2Proof.StartReport) : Dev :=
  let warm := decide (d.start.kind = .warm)
  if warm ∧ !d.start.retain then d.startFail 8
  else if r.fault ∨ !d.start.refClk then d.startFail 3
  else
    let d1 := if r.stack1 ∨ !d.present 12 1 then d
      else (d.startFailed 12 1).updDom 0x701 (fun x => { x with st := .stop })
    if warm then d1.toStep 7
    else
      let d2 : Dev := { d1 with mem := d1.mem.forget
                                health := { d1.health with hbmRows := d1.health.hbmRows.map (fun r => { r with hard := true }) } }
      ({ d2 with start := { d2.start with hostWait := decide (d2.start.sources.head? = some 2 ∧ d2.start.kind ≠ .recovery) } } : Dev).toStep 6

/-- The source being tried has failed (R440): the next one, or the start fails with the cause of the last. -/
def Dev.sourceFail (d : Dev) (cause : Nat) : Dev :=
  match d.start.sources with
  | [] => d.startFail cause
  | [_] => d.startFail cause
  | _ :: rest =>
    ({ d with start := { d.start with sources := rest, hostWait := decide (rest.head? = some 2) } } : Dev).toStep 6

/-- Where the firmware image lies (Table 12.4). -/
def firmwareBase : Nat := 0x800000000

/-- Whether the source being tried is a copy that the directory does not name (R440). -/
def StartState.copyAbsent (s : StartState) : Bool :=
  match s.sources.head? with
  | some 0 => !dirHas s.dir 4
  | some 1 => !dirHas s.dir 8
  | _ => false

/-- Step 0x06 ends for the source being tried (R440, R441): its image is in the firmware region, or it has none. -/
def Dev.stepFetch (d : Dev) (r : Sys2Proof.StartReport) : Dev :=
  if d.start.hostWait then d
  else if r.image.isEmpty ∨ d.start.copyAbsent then d.sourceFail 4
  else
    let n := match d.start.recovery with
      | some x => x.2.toNat
      | none => if d.start.sources.head? = some 2 then d.host.bootLen.toNat else r.image.length
    let d1 : Dev := { d with mem := d.mem.setBytes firmwareBase (padTo n r.image)
                             start := { d.start with fwLen := n } }
    d1.toStep 7

/-- The image in the firmware region. -/
def Dev.firmware (d : Dev) : List Byte := d.mem.bytes firmwareBase d.start.fwLen

/-- The cause with which an image fails R443, if any (Table 18.4): format and digest have no cause of their own. -/
def Dev.imageCause (d : Dev) (r : Sys2Proof.StartReport) : Option Nat :=
  let b := d.firmware
  let f := d.start.fuses
  let formed := imageFormat d.part 2 b || (imageFormat d.part 1 b && d.start.kind != .recovery)
  if r.fault || d.mem.poisoned firmwareBase d.start.fwLen then some 0x0A
  else if !formed || !digestOk b (imagePayload b) then some 4
  else if !f.signed 1 b then some 5
  else if imageSvn b < f.rbc0 then some 6
  else none

/-- Step 0x07 ends (R434, R443, R444): a cold start retains the header and its measurement. -/
def Dev.stepVerify (d : Dev) (r : Sys2Proof.StartReport) : Dev :=
  if d.start.kind = .warm then
    if r.fault ∨ d.mem.poisoned firmwareBase d.start.fwLen then d.startFail 0x0A
    else if !digestOk d.start.header ((d.firmware.drop 5488).take (pf d.start.header 8 4)) ∨ imageMeasure d.start.header ≠ d.start.measurement then d.startFail 7
    else d.toStep 8
  else match d.imageCause r with
    | some c => d.sourceFail c
    | none =>
      let b := d.firmware
      ({ d with start := { d.start with header := b.take 128
                                        measurement := imageMeasure b
                                        fwVersion := BitVec.ofNat 32 (pf b 24 4)
                                        fwSvn := imageSvn b } } : Dev).toStep 8

/-- Step 0x08 ends (R450, R451): with DEBUG_LOCK clear no key is derived. -/
def Dev.stepDerive (d : Dev) : Dev :=
  ({ d with start := { d.start with keyStore := d.start.fuses.debugLock } } : Dev).toStep 9

/-- NIs outside the switched domains (Table 10.1): DMA engines, control cores 0 and 1, Almanac, timing unit, stewardship. -/
def fixedNis : List Nat := (List.range 8).map (fun i => 216 + i) ++ [245, 246, 253, 254, 255]

/-- Step 0x09 ends (R275): the shells of running units are OPEN, those of units that are not are ABSENT. -/
def Dev.stepLaunch (d : Dev) : Dev :=
  let d2 := fixedNis.foldl (fun d k => d.updNi k (fun n => { n with shell := .open_ })) d
  let open_ := fun (d : Dev) (code : Nat) =>
    if !d.domPresent code then d.setShells code .absent
    else if d.domRun code ∧ code ≠ 0x800 then d.setShells code .open_ else d
  (allDomains.foldl open_ d2).toStep 10

/-- The event of a unit that starts RETIRED or FAILED (R432), and of its domain where that failed to wake (R470). -/
def Dev.startEvent (d : Dev) (c s : Nat) : Dev :=
  let u := d.unit c s
  let code := unitDomain c s
  let d1 := d.updUnit c s (fun u => { u with markRetire := false, markFail := false })
  let d2 := if u.markFail ∧ domSwitched code ∧ (d.dom code).st = .failed ∧ domEventUnit code = (c, s) then
      d1.healthEvent { hkind := 0x0019, action := 0, cls := c, slot := s, domain := code }
    else d1
  if u.markRetire ∨ u.markFail then
    d2.healthEvent { hkind := 0x0021, action := if u.markFail then 7 else 6, cls := c, slot := s, domain := code }
  else d2

/-- A class left with one unit of several by the units that start RETIRED (R500). -/
def Dev.startSpares (d : Dev) : Option (Nat × Nat) :=
  allUnits.find? (fun u => (d.unit u.1 u.2).st == .retired && decide (u.1 ≤ 13) && d.presentCount u.1 == 1)

/-- Step 0x0A ends (R431, R435, R438, R459, R472, R515): the first boundary enters M4. -/
def Dev.stepDone (d : Dev) : Dev :=
  let s := d.start
  let spares := if s.kind = .warm then none else d.startSpares
  let d1 : Dev := { d with start := { s with wfail := 0
                                             cfail := 0
                                             cause := 0
                                             retain := false
                                             brownOut := none
                                             starts := if s.kind = .cold then 0 else s.starts + 1 } }
  let pads := fun (d : Dev) (code : Nat) =>
    if code / 256 = 6 then d.updDom code (fun x => if x.st = .run then { x with st := .stop, padLatch := true } else x)
    else d.updDom code (fun x => if x.st = .run then { x with padLatch := false } else x)
  let d2 := allDomains.foldl pads d1
  let d3 := [0x600, 0x601, 0x602, 0x603].foldl (fun d c => d.setShells c .closed) d2
  let d4 := allUnits.foldl (fun d u => d.startEvent u.1 u.2) d3
  let d5 := match s.brownOut with
    | some rail => d4.healthEvent { hkind := 0x0030, data := bytesOf 1 rail }
    | none => d4
  let d6 := match spares with
    | some u => d5.replaceCond 5 u
    | none => d5
  { d6 with mode := { d6.mode with startDone := true } }

/-- The step that runs ends with what it has found. -/
def Dev.endStep (d : Dev) (r : Sys2Proof.StartReport) : Dev :=
  if r.watchdog then d.startFail 9
  else match d.start.step with
    | 1 => if r.fault then d.startFail 1 else d.stepFuse r
    | 2 => if r.unwoken.contains 0x800 then d.haltStart else d.stepLink
    | 3 => d.stepBist r
    | 4 => d.stepClear r
    | 5 => d.stepHbm r
    | 6 => d.stepFetch r
    | 7 => d.stepVerify r
    | 8 => d.stepDerive
    | 9 => d.stepLaunch
    | _ => d.stepDone

/-! ### Power and reset -/

/-- The device is held in reset (R515, R517): it stops whatever it did, an interrupted fuse write as R447 says, WFAIL 0, and
air time at its reset value (R40). -/
def Dev.holdReset (d : Dev) : Dev :=
  let d1 := d.interruptFuses.wipe false
  let d2 : Dev := { d1 with start := { d1.start with step := 0, wfail := 0, cause := 0, kind := .cold }
                            mode := {}
                            time := {}
                            host := { d1.host with alertEdge := 0, closedAt := 0, hbAt := 0 } }
  { d2 with health := { d2.health with leakSecond := 0 }
            slack := {}
            link := { d2.link with second := 0 }
            thermal := {}
            chiop := {} }

/-- A cold start from reset: nothing is kept of the starts before (R430). -/
def Dev.coldStart (d : Dev) : Dev := d.beginStart .cold false 0 0

/-- POWER_ON (R430, R438): power with RESET_N high; PD.AON has nothing but what fuses and flash keep. -/
def execPowerOn (s : State) : Host.Outcome State Fault Refusal :=
  s.on (fun d =>
    if d.start.powered then d
    else ({ d with start := { d.start with powered := true, resetLow := false, railHold := false } } : Dev).coldStart)

/-- RESET_N_ASSERT (R517, R439): a low pulse that is long enough to be taken. -/
def execResetNAssert (s : State) : Host.Outcome State Fault Refusal :=
  s.on (fun d =>
    let d1 : Dev := if d.start.powered ∧ !d.start.resetLow then d.holdReset else d
    { d1 with start := { d1.start with resetLow := true } })

/-- RESET_N_RELEASE (R430, R517): a rail out of range holds the device on. -/
def execResetNRelease (s : State) : Host.Outcome State Fault Refusal :=
  s.on (fun d =>
    let was := d.start.resetLow
    let d1 : Dev := { d with start := { d.start with resetLow := false } }
    if was && d1.up then d1.coldStart else d1)

/-- RAIL_OUT_OF_RANGE (R435, R515, R516): the rail's channel of Table 20.1, 24 to 32; `over` above 110 % of nominal. -/
def execRailOutOfRange (rail : Fin 9) (above : Bool) (s : State) : Host.Outcome State Fault Refusal :=
  s.on (fun d =>
    let ch := 24 + rail.val
    if !d.start.powered then d
    else if above then (if d.up then d.healthEvent { hkind := 0x0030, data := bytesOf 1 ch } else d)
    else
      let d1 : Dev := if ch = 30 ∨ ch = 31 then { d with start := { d.start with retain := false } } else d
      if d1.mode.mode = 9 ∨ (d1.mode.mode = 2 ∧ d1.start.step = 1) then d1
      else
        let d2 := if d1.up then d1.holdReset else d1
        { d2 with start := { d2.start with railHold := true, brownOut := some ch } })

/-- RAILS_IN_RANGE (R515): every rail in range for 1 ms. -/
def execRailsInRange (s : State) : Host.Outcome State Fault Refusal :=
  s.on (fun d =>
    let was := d.start.railHold
    let d1 : Dev := { d with start := { d.start with railHold := false } }
    if was && d1.up then d1.coldStart else d1)

/-- VAON_LOSS (R438, R447, R515, Table 18.3): all that PD.AON holds is lost; fuses, boot flash and the repairs recorded there
stay. -/
def execVaonLoss (s : State) : Host.Outcome State Fault Refusal :=
  s.on (fun d =>
    if !d.start.powered then d
    else
      let d1 := d.interruptFuses
      let fresh : Dev := {}
      { fresh with part := d1.part
                   mem := d1.mem.forget
                   stepping := d1.stepping
                   free := d1.free
                   health := { fresh.health with spares := if d1.start.logMirror then d1.health.spares else []
                                                 hbmRows := d1.health.hbmRows.filter (fun r => r.hard || d1.start.logMirror) }
                   start := { fresh.start with fuses := d1.start.fuses
                                               flashFirst := d1.start.flashFirst
                                               flashLog := d1.start.flashLog
                                               resetLow := d1.start.resetLow
                                               perstLow := d1.start.perstLow } })

/-! ### Rows of a start -/

/-- START_STEP_COMPLETE (R431, R434). -/
def execStartStepComplete (r : Sys2Proof.StartReport) (s : State) : Host.Outcome State Fault Refusal :=
  s.on (fun d => if d.starting then d.endStep r else d)

/-- START_STEP_TIMEOUT (R437, R516): a step other than 0x06 exceeds its bound. -/
def execStartStepTimeout (s : State) : Host.Outcome State Fault Refusal :=
  s.on (fun d => if d.starting && d.start.step != 6 then d.startFail 9 else d)

/-- BOOT_GO (R441, R537): the image is ready, or its length rules it out. -/
def Dev.bootGo (d : Dev) (v : Word) : Dev :=
  if !(d.starting && d.start.hostWait) || v.toNat % 2 == 0 then d
  else
    let d1 : Dev := { d with start := { d.start with hostWait := false } }
    let n := d.host.bootLen.toNat
    if n < 5504 ∨ 5488 + 0x2000000 < n then d1.sourceFail 4 else d1

/-- HOSTWAIT_EXPIRY (R441): 10 s without BOOT_GO. -/
def execHostwaitExpiry (s : State) : Host.Outcome State Fault Refusal :=
  s.on (fun d =>
    if d.starting && d.start.hostWait then ({ d with start := { d.start with hostWait := false } } : Dev).sourceFail 4 else d)

/-- WARM_START (R489): the restart rule after M9 is met. -/
def execWarmStart (s : State) : Host.Outcome State Fault Refusal :=
  s.on (fun d =>
    if d.up && d.restartDue then
      let t := d.thermal.restarts.filter (fun t => decide (airAhead t d.time.air < 3600 * secondTc)) ++ [d.time.air]
      ({ d with thermal := { d.thermal with restarts := t } } : Dev).beginStart .warm false 9 10
    else d)

/-- JTAG_INSTRUCTION (R456): locked, any but the four standard instructions is BYPASS. -/
def execJtagInstruction (op : Sys2Proof.JtagOp) (s : State) : Host.Outcome State Fault Refusal :=
  s.on (fun d =>
    if !d.start.powered then d
    else
      let locked := d.start.fuses.debugLock && !d.start.debugOpen
      { d with start := { d.start with jtag := if locked && op == .other then .bypass else op } })

/-! ### Held commands -/

/-- RECOVERY_LOAD's check has run (R445): a good image is taken, and M1 follows. -/
def Dev.recoveryDone (d : Dev) (chan : Nat) (x : Held) : Dev :=
  match d.recoveryError (x.params.drop 12) with
  | some e => d.complete chan x.seq e.status e.data
  | none =>
    let a : DWord := BitVec.ofNat 64 (pf x.params 0 8)
    let n : Word := BitVec.ofNat 32 (pf x.params 8 4)
    let d1 := d.complete chan x.seq 0 []
    ({ d1 with start := { d1.start with recovery := some (a, n) } } : Dev).beginStart .recovery true 3 0

/-- HELD_COMMAND_COMPLETE (R393): the internal work of a held command ends. -/
def execHeldCommandComplete (chan : Fin 17) (seq : Word) (o : Sys2Proof.HeldDone) (s : State) : Host.Outcome State Fault Refusal :=
  s.onAlive (fun d =>
    match (d.chan chan.val).held.find? (fun x => x.seq == seq) with
    | none => d
    | some x =>
      match x.op with
      | 0x0301 => d.loadDone chan.val x
      | 0x0304 => d.recoveryDone chan.val x
      | 0x0901 => d.attestDone chan.val x
      | 0x0903 => d.fuseDone chan.val x o.readBack
      | 0x0904 => d.fuseDone chan.val x o.readBack
      | 0x0905 => d.debugDone chan.val x
      | _ => d)

end Sys2Proof.Machine
end

