-- ==== Sys2Proof/Machine/Pcie.lean ====
section
/-! DEFINITION. The PCIe port: its resets, link, power states and bus mastering, the heartbeat, the loss of the host, the
BAR2 window (15_ethernet_and_host_port.md, R381, R386 to R389; 22_host_registers.md, R533, R537, R538). -/

namespace Sys2Proof.Machine

/-! ### Identity (R380) -/

/-- What the configuration header says of the device: Vendor ID, Device ID, Revision ID, class code, Subsystem Vendor ID and
Subsystem ID. -/
structure PcieId where
  vendor : Half
  device : Half
  revision : Byte
  classCode : BitVec 24
  subVendor : Half
  subsystem : Half
deriving DecidableEq, Repr

/-- The identity in the configuration header (R380): the Subsystem IDs are those of the board record, where boot flash has
one. -/
def Dev.pcieId (d : Dev) : PcieId :=
  let device := BitVec.ofNat 16 (partCode d.part)
  let sub := d.start.subsystem.getD (Sys2Proof.Config.vendorId, device)
  { vendor := Sys2Proof.Config.vendorId, device := device, revision := d.stepping, classCode := 0x120000
    subVendor := sub.1, subsystem := sub.2 }

/-! ### Events of Table 15.8 -/

/-- A PCIe reset while the host's image is being read fails the host source (R537). -/
def Dev.failHostFetch (d : Dev) : Dev :=
  if d.starting && d.start.step == 6 && d.start.sources.head? == some 2 && !d.start.hostWait then d.sourceFail 4 else d

/-- PERST_N (R386): reset while asserted; RESET_N low has reset the port already (R517). -/
def execPerstN (s : State) : Host.Outcome State Fault Refusal :=
  s.on (fun d => ((({ d with start := { d.start with perstLow := true } } : Dev).linkLost).failHostFetch))

/-- PERST_N_RELEASE (R386): link training may start. -/
def execPerstNRelease (s : State) : Host.Outcome State Fault Refusal :=
  s.on (fun d => { d with start := { d.start with perstLow := false } })

/-- PCIE_LINK_UP (R386, R431): training is complete; it runs from step 0x02, with PD.P in Run and its pads not latched. -/
def execPcieLinkUp (s : State) : Host.Outcome State Fault Refusal :=
  s.on (fun d =>
    let p := d.dom 0x800
    if d.up && !d.start.perstLow && d.mode.mode != 9 && ((p.st == .run && !p.padLatch) || (d.starting && d.start.step == 2)) then
      ({ d with host := { d.host with linkUp := true } } : Dev).settleHost
    else d)

/-- LINK_DOWN (R386). -/
def execLinkDown (s : State) : Host.Outcome State Fault Refusal :=
  s.on (fun d => if d.host.linkUp then d.linkLost.failHostFetch else d)

/-- HOT_RESET (R386): the link trains again. -/
def execHotReset (s : State) : Host.Outcome State Fault Refusal :=
  s.on (fun d => if d.host.linkUp then d.linkLost.failHostFetch else d)

/-- FUNCTION_LEVEL_RESET (R386): the link stays up; the FLR is over when bus mastering is enabled again. -/
def execFunctionLevelReset (s : State) : Host.Outcome State Fault Refusal :=
  s.on (fun d =>
    if d.host.linkUp then ((({ d with host := { d.host with flr := true } } : Dev).pcieReset).settleHost).failHostFetch else d)

/-- D3HOT (R386). -/
def execD3hot (s : State) : Host.Outcome State Fault Refusal :=
  s.on (fun d => if d.host.linkUp then ({ d with host := { d.host with d3hot := true } } : Dev).settleHost else d)

/-- NI 244 is open again: what waits for the event ring is written (R410). -/
def Dev.hostBack (d : Dev) : Dev := if d.ni244 then d.eventSpace else d

/-- D0_ENTRY (R386). -/
def execD0Entry (s : State) : Host.Outcome State Fault Refusal :=
  s.on (fun d => if d.host.linkUp then (({ d with host := { d.host with d3hot := false } } : Dev).settleHost).hostBack else d)

/-- BUS_MASTERING_DISABLE (R386): registers are kept. -/
def execBusMasteringDisable (s : State) : Host.Outcome State Fault Refusal :=
  s.on (fun d => if d.host.linkUp then ({ d with host := { d.host with busMaster := false } } : Dev).settleHost else d)

/-- BUS_MASTERING_ENABLE (R386, R389). -/
def execBusMasteringEnable (s : State) : Host.Outcome State Fault Refusal :=
  s.on (fun d =>
    if d.host.linkUp then (({ d with host := { d.host with busMaster := true, flr := false } } : Dev).settleHost).hostBack else d)

/-! ### Heartbeat and host loss -/

/-- The payload of a heartbeat (Table 16.13). -/
def Dev.beat (d : Dev) : List Byte :=
  bytesOf 1 d.mode.mode ++ [0, 0, 0] ++ bytesOf 2 d.cuAvail ++ [0, 0] ++ bytesOf 8 d.stamp.toNat ++ bytesOf 4 d.host.hbcount.toNat

/-- HEARTBEAT (R388, R533): 10 ms after the last. It is counted and takes its place in the event sequence whether or not the
ring can be written; with NI 244 closed it goes to the management channels alone. -/
def execHeartbeat (s : State) : Host.Outcome State Fault Refusal :=
  s.onAlive (fun d =>
    if !d.serves then d
    else match d.after d.host.hbAt 19660800 with
      | none => d
      | some d1 =>
        let d2 : Dev := { d1 with host := { d1.host with hbcount := d1.host.hbcount + 1, hbAt := d1.time.air } }
        if d2.ni244 then d2.post 0xF001 d2.beat
        else
          let e : EventRec := ⟨0xF001, d2.chiop.evSeq, d2.chiop.epoch, padTo 48 d2.beat⟩
          ({ d2 with chiop := { d2.chiop with evSeq := d2.chiop.evSeq + 1 } } : Dev).toPeers 4 e.bytes)

/-- HOST_LOSS (R389): NI 244 has been CLOSED for HOSTLOSS_MS; the boundary that follows enters M12, and the stage of the host
goes (R403). -/
def execHostLoss (s : State) : Host.Outcome State Fault Refusal :=
  s.onAlive (fun d =>
    if d.host.hostlossMs = 0 ∨ d.ni244 ∨ d.host.lost then d
    else match d.after d.host.closedAt (d.host.hostlossMs * 1966080) with
      | none => d
      | some d1 =>
        let d2 : Dev := { d1 with host := { d1.host with lost := true }, mode := { d1.mode with hostLoss := true } }
        let d3 := d2.healthEvent { hkind := 0x0047 }
        if d3.chiop.owner = some 0 then d3.dropStage else d3)

/-! ### BAR2 -/

/-- Bytes of the window (R381, R538). -/
def windowSize : Nat := 0x4000000

/-- WINCTL.VALID (R538): ENABLE, and the window lies in the general region of the present stacks (Table 12.4). -/
def Dev.windowValid (d : Dev) : Bool :=
  d.host.winEnable && d.host.winbase.toNat % windowSize == 0 && decide (0x840000000 ≤ d.host.winbase.toNat)
    && decide (d.host.winbase.toNat + windowSize ≤ d.hbmEnd)

/-- BAR0 and BAR2 answer (R386, R532): from the end of step 0x02 until M9, over a link in D0. -/
def Dev.barUp (d : Dev) : Bool :=
  d.up && d.start.ready && d.mode.mode != 9 && d.host.linkUp && !d.host.d3hot && !d.host.flr && !d.start.perstLow

/-- BAR2_ACCESS (R381, R538): a host read of `n` bytes, or a write, at an offset into the window. A read that fails or finds the
window not valid completes with Unsupported Request; such a write is dropped. -/
def execBar2Access (write : Bool) (off : BitVec 26) (n : Half) (bytes : List Byte) (ecc : Sys2Proof.EccHit) (s : State) :
    Host.Outcome State Fault Refusal :=
  s.on (fun d =>
    if !d.barUp then d
    else
      let a := d.host.winbase.toNat + off.toNat
      let len := if write then bytes.length else n.toNat
      let inside := decide (off.toNat + len ≤ windowSize)
      if write then
        if !d.windowValid || !inside then d else ((d.netWrite 244 244 a bytes ecc).2).startTests
      else if !d.windowValid || !inside then { d with host := { d.host with barRead := none } }
      else
        let r := d.netRead 244 244 a len ecc
        ({ r.2.2 with host := { r.2.2.host with barRead := if r.1 = 0 then some r.2.1 else none } } : Dev).startTests)

end Sys2Proof.Machine
end

