-- ==== Sys2Proof/Machine/Registers.lean ====
section
/-! DEFINITION. BAR0: the value of every register and what a write to it does (22_host_registers.md, R531 to R540;
15_ethernet_and_host_port.md, R381). -/

namespace Sys2Proof.Machine

/-! ### Reading -/

/-- START_STATUS (Table 22.3). -/
def Dev.startStatus (d : Dev) : Nat :=
  let s := d.start
  s.step % 256 + 256 * (s.cause % 256) + 2 ^ 16 * (s.wfail % 4) + 2 ^ 18 * (s.cfail % 4) + 2 ^ 20 * kindCode s.kind
    + 2 ^ 22 * boolNat s.halted + 2 ^ 23 * boolNat s.hostWait + 2 ^ 24 * (d.mode.mode % 16) + 2 ^ 28 * boolNat d.serves

/-- DEVID (Table 22.2). -/
def Dev.devId (d : Dev) : Nat := partCode d.part + 2 ^ 16 * d.stepping.toNat + 2 ^ 24 * 0x47

/-- Eight bytes as one number. -/
def wordHalf (v : Nat) (hi : Bool) : Nat := if hi then v / 2 ^ 32 % 2 ^ 32 else v % 2 ^ 32

/-- A register of a port's ring block (Table 22.8). -/
def PortRing.reg (r : PortRing) (off : Nat) : Nat :=
  match off with
  | 0x00 => wordHalf r.txBase.toNat false
  | 0x04 => wordHalf r.txBase.toNat true
  | 0x08 => wordHalf r.rxBase.toNat false
  | 0x0C => wordHalf r.rxBase.toNat true
  | 0x10 => r.txSize.toNat
  | 0x14 => r.rxSize.toNat
  | 0x18 => boolNat r.txen + 2 * boolNat r.rxen + 4 * boolNat r.cfgerr
  | 0x20 => r.txTail.toNat
  | 0x24 => r.txHead.toNat
  | 0x28 => r.rxTail.toNat
  | 0x2C => r.rxHead.toNat
  | _ => 0

/-- A word of LOGWIN (R540). -/
def Dev.logWord (d : Dev) (off : Nat) : Nat :=
  match d.health.log.find? (fun r => r.index.toNat == d.host.logidx.toNat + off / 64) with
  | some r => pf r.bytes (off % 64) 4
  | none => if off % 64 = 0 then 0xFFFFFFFF else 0

/-- The 4-byte register at an offset of BAR0 (Tables 22.1, 22.6, 22.7); offsets not listed read 0 (R531). -/
def Dev.bar0Word (d : Dev) (off : Nat) : Nat :=
  let h := d.host
  match off with
  | 0x000 => d.devId
  | 0x004 => h.scratch.toNat
  | 0x008 => d.startStatus
  | 0x010 => h.hbcount.toNat
  | 0x014 => d.chiop.epoch.toNat
  | 0x018 => wordHalf d.stamp.toNat false
  | 0x01C => wordHalf d.stamp.toNat true
  | 0x020 => d.alertCause.toNat
  | 0x024 => h.alertMask.toNat
  | 0x100 => wordHalf h.cmdBase.toNat false
  | 0x104 => wordHalf h.cmdBase.toNat true
  | 0x108 => wordHalf h.rplBase.toNat false
  | 0x10C => wordHalf h.rplBase.toNat true
  | 0x110 => wordHalf h.evtBase.toNat false
  | 0x114 => wordHalf h.evtBase.toNat true
  | 0x118 => h.evtSize.toNat
  | 0x11C => boolNat h.enable + 2 * boolNat h.cfgerr
  | 0x120 => h.cmdTail.toNat
  | 0x124 => h.cmdHead.toNat
  | 0x128 => h.evtTail.toNat
  | 0x12C => h.evtHead.toNat
  | 0x200 => wordHalf h.bootAddr.toNat false
  | 0x204 => wordHalf h.bootAddr.toNat true
  | 0x208 => h.bootLen.toNat
  | 0x300 => wordHalf h.winbase.toNat false
  | 0x304 => wordHalf h.winbase.toNat true
  | 0x308 => boolNat h.winEnable + 2 * boolNat d.windowValid
  | 0x10000 => h.logidx.toNat
  | 0x81000 => h.msix.toNat
  | _ =>
    if 0x1000 ≤ off ∧ off < 0x1100 then (d.portRing ((off - 0x1000) / 64)).reg (off % 64)
    else if 0x11000 ≤ off ∧ off < 0x12000 then d.logWord (off - 0x11000)
    else if 0x80000 ≤ off ∧ off < 0x80100 then (h.msixTable.toList.getD ((off - 0x80000) / 4) 0).toNat
    else 0

/-- A read of BAR0 (R381, R531): naturally aligned, 4 or 8 bytes; any other completes with Unsupported Request, as does every
read while BAR0 does not answer. -/
def Dev.bar0Read (d : Dev) (off n : Nat) : Option Nat :=
  if !d.barUp then none
  else if n = 4 ∧ off % 4 = 0 then some (d.bar0Word off)
  else if n = 8 ∧ off % 8 = 0 then some (d.bar0Word off + 2 ^ 32 * d.bar0Word (off + 4))
  else none

/-! ### Registers with a behaviour of their own -/

/-- A ring set-up or index write is refused. -/
def Dev.ringErr (d : Dev) : Dev := d.raiseAlert 11

/-- A W1C write (R534): the edge bits alone. -/
def Dev.writeCause (d : Dev) (v : Word) : Dev := { d with host := { d.host with alertEdge := d.host.alertEdge &&& ~~~(v &&& 0x3F00) } }

/-- A write of ALERT_MASK (R534): a mask bit set over a bit at 1 raises vector 2. -/
def Dev.writeMask (d : Dev) (v : Word) : Dev :=
  let old := d.host.alertMask
  let d1 : Dev := { d with host := { d.host with alertMask := v } }
  if v &&& ~~~old &&& d1.alertCause ≠ 0 then d1.raiseVector 2 else d1

/-- Whether two ranges have no byte in common. -/
def apart (a n b m : Nat) : Bool := decide (a + n ≤ b) || decide (b + m ≤ a)

/-- A ring base that may be used: 4 KiB aligned, below 2^63 (R535). -/
def baseOk (a : DWord) : Bool := a.toNat % 4096 == 0 && decide (a.toNat < 2 ^ 63)

/-- Whether a size is a power of two between two limits. -/
def ringSizeOk (n lo hi : Nat) : Bool := decide (lo ≤ n ∧ n ≤ hi) && n == 2 ^ Nat.log2 n

/-- The checks of R535. -/
def HostState.ringsOk (h : HostState) : Bool :=
  let e := 64 * h.evtSize.toNat
  baseOk h.cmdBase && baseOk h.rplBase && baseOk h.evtBase && ringSizeOk h.evtSize.toNat 4096 262144
    && apart h.cmdBase.toNat 0x100000 h.rplBase.toNat 0x100000 && apart h.cmdBase.toNat 0x100000 h.evtBase.toNat e
    && apart h.rplBase.toNat 0x100000 h.evtBase.toNat e

/-- A write of ENABLE = 1 (R535); the rings are new ones (R401). -/
def Dev.ringsOn (d : Dev) : Dev :=
  if d.host.enable then d
  else if d.host.ringsOk then
    { d with host := { d.host with enable := true, cfgerr := false, cmdTail := 0, cmdHead := 0, evtTail := 0, evtHead := 0 }
             chiop := { d.chiop with gen := d.chiop.gen + 1 } }
  else ({ d with host := { d.host with cfgerr := true } } : Dev).ringErr

/-- A write of ENABLE = 0 (R535): nothing more is written to those rings. -/
def Dev.ringsOff (d : Dev) : Dev :=
  if d.host.enable then
    { d with host := { d.host with enable := false }, chiop := { d.chiop with backlog := [], lostNow := 0, gen := d.chiop.gen + 1 } }
  else d

/-- A write of CMD_TAIL (R536). -/
def Dev.writeCmdTail (d : Dev) (v : Word) : Dev :=
  if !d.host.enable ∨ 4096 ≤ v.toNat then d.ringErr
  else { d with host := { d.host with cmdTail := BitVec.ofNat 12 v.toNat } }

/-- A write of EVT_HEAD (R536, R412). -/
def Dev.writeEvtHead (d : Dev) (v : Word) : Dev :=
  if d.host.evtSize.toNat ≤ v.toNat then d.ringErr
  else ({ d with host := { d.host with evtHead := BitVec.ofNat 18 v.toNat } } : Dev).eventSpace

/-- A change of the bases or of EVT_SIZE: refused while the rings are enabled (R535). -/
def Dev.ringSetup (d : Dev) (f : HostState → HostState) : Dev := if d.host.enable then d.ringErr else { d with host := f d.host }

/-- The checks of a port ring at its enable (R539): base, size, and no byte in common with the port's other enabled ring. -/
def PortRing.ok (r : PortRing) (tx : Bool) : Bool :=
  let base := if tx then r.txBase else r.rxBase
  let size := if tx then r.txSize.toNat else r.rxSize.toNat
  baseOk base && ringSizeOk size 256 65536
    && (if tx then !r.rxen || apart base.toNat (32 * size) r.rxBase.toNat (32 * r.rxSize.toNat)
        else !r.txen || apart base.toNat (32 * size) r.txBase.toNat (32 * r.txSize.toNat))

/-- A write of TXEN or RXEN (R539). -/
def Dev.writeDctl (d : Dev) (p : Nat) (tx on : Bool) : Dev :=
  let r := d.portRing p
  let was := if tx then r.txen else r.rxen
  if on == was then d
  else if !on then d.updPort p (fun r => if tx then { r with txen := false } else { r with rxen := false })
  else if r.ok tx then
    d.updPort p (fun r => if tx then { r with txen := true, txStop := false, cfgerr := false }
      else { r with rxen := true, rxStop := false, cfgerr := false })
  else (d.updPort p (fun r => { r with cfgerr := true })).ringErr

/-- A write of TX_TAIL or RX_TAIL (R539): a ring that had stopped goes on. -/
def Dev.writeTail (d : Dev) (p : Nat) (tx : Bool) (v : Half) : Dev :=
  d.updPort p (fun r => if tx then { r with txTail := v, txStop := false } else { r with rxTail := v, rxStop := false })

/-- WINBASE (R538). -/
def Dev.writeWinbase (d : Dev) (v : DWord) : Dev := { d with host := { d.host with winbase := v } }

/-- WINCTL (Table 22.1): ENABLE alone can be written. -/
def Dev.writeWinctl (d : Dev) (v : Word) : Dev := { d with host := { d.host with winEnable := v.getLsbD 0 } }

/-! ### Writing -/

/-- One half of a 64-bit register replaced. -/
def setHalf (r : DWord) (hi : Bool) (v : Word) : DWord :=
  BitVec.ofNat 64 (if hi then r.toNat % 2 ^ 32 + 2 ^ 32 * v.toNat else r.toNat / 2 ^ 32 * 2 ^ 32 + v.toNat)

/-- A write into a port's ring block (Table 22.8, R539): bases and sizes only while their ring is not enabled. -/
def Dev.portWrite (d : Dev) (p off : Nat) (v : Word) : Dev :=
  let r := d.portRing p
  let tx := fun (f : PortRing → PortRing) => if r.txen then d else d.updPort p f
  let rx := fun (f : PortRing → PortRing) => if r.rxen then d else d.updPort p f
  match off with
  | 0x00 => tx (fun r => { r with txBase := setHalf r.txBase false v })
  | 0x04 => tx (fun r => { r with txBase := setHalf r.txBase true v })
  | 0x08 => rx (fun r => { r with rxBase := setHalf r.rxBase false v })
  | 0x0C => rx (fun r => { r with rxBase := setHalf r.rxBase true v })
  | 0x10 => tx (fun r => { r with txSize := v })
  | 0x14 => rx (fun r => { r with rxSize := v })
  | 0x18 => (d.writeDctl p true (v.getLsbD 0)).writeDctl p false (v.getLsbD 1)
  | 0x20 => d.writeTail p true (v.setWidth 16)
  | 0x28 => d.writeTail p false (v.setWidth 16)
  | _ => d

/-- A 4-byte write at an offset of BAR0 (Table 22.1); read-only registers and offsets not listed ignore it (R531). -/
def Dev.bar0Write4 (d : Dev) (off : Nat) (v : Word) : Dev :=
  match off with
  | 0x004 => { d with host := { d.host with scratch := v } }
  | 0x020 => d.writeCause v
  | 0x024 => d.writeMask v
  | 0x100 => d.ringSetup (fun h => { h with cmdBase := setHalf h.cmdBase false v })
  | 0x104 => d.ringSetup (fun h => { h with cmdBase := setHalf h.cmdBase true v })
  | 0x108 => d.ringSetup (fun h => { h with rplBase := setHalf h.rplBase false v })
  | 0x10C => d.ringSetup (fun h => { h with rplBase := setHalf h.rplBase true v })
  | 0x110 => d.ringSetup (fun h => { h with evtBase := setHalf h.evtBase false v })
  | 0x114 => d.ringSetup (fun h => { h with evtBase := setHalf h.evtBase true v })
  | 0x118 => d.ringSetup (fun h => { h with evtSize := v })
  | 0x11C => if v.getLsbD 0 then d.ringsOn else d.ringsOff
  | 0x120 => d.writeCmdTail v
  | 0x12C => d.writeEvtHead v
  | 0x200 => { d with host := { d.host with bootAddr := setHalf d.host.bootAddr false v } }
  | 0x204 => { d with host := { d.host with bootAddr := setHalf d.host.bootAddr true v } }
  | 0x208 => { d with host := { d.host with bootLen := v } }
  | 0x20C => d.bootGo v
  | 0x300 => d.writeWinbase (setHalf d.host.winbase false v)
  | 0x304 => d.writeWinbase (setHalf d.host.winbase true v)
  | 0x308 => d.writeWinctl v
  | 0x10000 => { d with host := { d.host with logidx := v } }
  | _ =>
    if 0x1000 ≤ off ∧ off < 0x1100 then d.portWrite ((off - 0x1000) / 64) (off % 64) v
    else if 0x80000 ≤ off ∧ off < 0x80100 then
      { d with host := { d.host with msixTable := Vector.ofFn (fun i => if i.val = (off - 0x80000) / 4 then v else d.host.msixTable[i]) } }
    else d

/-- A write of `n` bytes (R381, R531): one of another size than 4 or 8, or not naturally aligned, is dropped and reported
through AER. -/
def Dev.bar0Write (d : Dev) (off n : Nat) (v : DWord) : Dev :=
  if n = 4 ∧ off % 4 = 0 then d.bar0Write4 off (v.setWidth 32)
  else if n = 8 ∧ off % 8 = 0 then (d.bar0Write4 off (v.setWidth 32)).bar0Write4 (off + 4) ((v >>> 32).setWidth 32)
  else { d with host := { d.host with aer := true } }

/-! ### Rows -/

/-- A write to BAR0 that the device takes (R532). -/
def State.onBar0 (s : State) (f : Dev → Dev) : Host.Outcome State Fault Refusal := s.on (fun d => if d.barUp then f d else d)

/-- REGISTER_WRITE (R531): a write of `n` bytes at an offset of BAR0. -/
def execRegisterWrite (off : BitVec 20) (n : Byte) (v : DWord) (s : State) : Host.Outcome State Fault Refusal :=
  s.onBar0 (fun d => d.bar0Write off.toNat n.toNat v)

/-- ALERT_CAUSE_W1C (R534). -/
def execAlertCauseW1c (v : Word) (s : State) : Host.Outcome State Fault Refusal := s.onBar0 (fun d => d.writeCause v)

/-- ALERT_MASK_WRITE (R534). -/
def execAlertMaskWrite (v : Word) (s : State) : Host.Outcome State Fault Refusal := s.onBar0 (fun d => d.writeMask v)

/-- RING_ENABLE (R535). -/
def execRingEnable (s : State) : Host.Outcome State Fault Refusal := s.onBar0 Dev.ringsOn

/-- RING_DISABLE (R535). -/
def execRingDisable (s : State) : Host.Outcome State Fault Refusal := s.onBar0 Dev.ringsOff

/-- CMD_TAIL (R536). -/
def execCmdTail (v : Word) (s : State) : Host.Outcome State Fault Refusal := s.onBar0 (fun d => d.writeCmdTail v)

/-- EVT_HEAD (R536). -/
def execEvtHead (v : Word) (s : State) : Host.Outcome State Fault Refusal := s.onBar0 (fun d => d.writeEvtHead v)

/-- BOOT_GO (R441, R537). -/
def execBootGo (v : Word) (s : State) : Host.Outcome State Fault Refusal := s.onBar0 (fun d => d.bootGo v)

/-- WINBASE (R538): a write of WINBASE or, `ctl`, of WINCTL. -/
def execWinbase (ctl : Bool) (v : DWord) (s : State) : Host.Outcome State Fault Refusal :=
  s.onBar0 (fun d => if ctl then d.writeWinctl (v.setWidth 32) else d.writeWinbase v)

/-- TXEN (R539). -/
def execTxen (p : Fin 4) (on : Bool) (s : State) : Host.Outcome State Fault Refusal := s.onBar0 (fun d => d.writeDctl p.val true on)

/-- RXEN (R539). -/
def execRxen (p : Fin 4) (on : Bool) (s : State) : Host.Outcome State Fault Refusal := s.onBar0 (fun d => d.writeDctl p.val false on)

/-- TX_TAIL (R539). -/
def execTxTail (p : Fin 4) (v : Half) (s : State) : Host.Outcome State Fault Refusal := s.onBar0 (fun d => d.writeTail p.val true v)

/-- RX_TAIL (R539). -/
def execRxTail (p : Fin 4) (v : Half) (s : State) : Host.Outcome State Fault Refusal := s.onBar0 (fun d => d.writeTail p.val false v)

end Sys2Proof.Machine
end

