-- ==== Sys2Proof/Machine/Pins.lean ====
section
/-! DEFINITION. The states of the output pins (21_pins_and_electrical.md, R508, R518, Table 21.5; 17_operating_modes.md, R421), read
off the device: the pins hold nothing of their own but what a latched pad keeps. -/

namespace Sys2Proof.Machine

/-- What drives a pin. -/
inductive PinState where
  /-- Not driven: a pull on the board decides. -/
  | released
  | high
  | low
  /-- A transmitter in electrical idle. -/
  | idle
  /-- Driven by its unit: frames, link training, a bus master, data that shift. -/
  | live
  /-- An input, pulled down. -/
  | input
  /-- A latched pad keeps what it last put out. -/
  | latched
deriving DecidableEq, Repr

/-- RESET_N low, or the hold of a brown-out (R515, R517). -/
def Dev.held (d : Dev) : Bool := d.start.resetLow || d.start.railHold

/-- A pin by the columns of Table 21.5: unpowered, reset, M9, otherwise. -/
def Dev.pin (d : Dev) (unpowered reset m9 : PinState) (other : PinState) : PinState :=
  if !d.start.powered then unpowered else if d.held then reset else if d.mode.mode = 9 then m9 else other

/-- ECN_TX of a lane (R318, R351, R472). -/
def Dev.ecnTx (d : Dev) (l : Nat) : PinState := d.pin .released .idle .idle (if (d.lane l).tx.on && d.laneUp l then .live else .idle)

/-- ETH_TX of a port. -/
def Dev.ethTx (d : Dev) (p : Nat) : PinState := d.pin .released .idle .idle (if d.portUp p then .live else .idle)

/-- PCIE_TX: link training from step 0x02. -/
def Dev.pcieTx (d : Dev) : PinState :=
  d.pin .released .idle .idle
    (if !d.start.perstLow && ((d.dom 0x800).st == .run || (d.starting && d.start.step == 2)) then .live else .idle)

/-- THERM_TRIP_N: asserted in M9 and only there (R421). -/
def Dev.thermTripN (d : Dev) : PinState := d.pin .released .high .low .high

/-- SERVICE_N (R421): in M9 it stays as at the entry, and the restart hold of R489 asserts it. -/
def Dev.serviceNPin (d : Dev) : PinState :=
  let on := fun (b : Bool) => if b then PinState.low else PinState.high
  d.pin .released .high (on (d.serviceN || d.mode.oldMode == 3 || d.mode.oldMode == 7)) (on d.serviceN)

/-- ALERT_N (R534). -/
def Dev.alertNPin (d : Dev) : PinState := d.pin .released .released .released (if d.alertN then .low else .released)

/-- PMBUS_SCL and PMBUS_SDA: the device is the bus's master. -/
def Dev.pmbus (d : Dev) : PinState := d.pin .released .released .live .live

/-- SPI_CS_N between accesses to the boot flash. -/
def Dev.spiCsN (d : Dev) : PinState := d.pin .released .high .high .high

/-- GPIO: inputs, but for what vendor firmware does with them (R526). -/
def Dev.gpio (d : Dev) : PinState := d.pin .released .input .latched .input

end Sys2Proof.Machine
end

