-- ==== Sys2Proof/Machine/PolarCode.lean ====
section
/-! DEFINITION. The polar code of TS 38.212 §5.3.1 and §5.4.1, its list decoding as 06_ldpc_and_polar.md, R169 says, and the block
codes (the standard's formulas PRESUMED, log entry 43). -/

namespace Sys2Proof.Machine

/-! ### Construction -/

/-- The next power of two's exponent: the smallest n with x ≤ 2^n. -/
def ceilLog2 (x : Nat) : Nat := ((List.range 24).find? (fun n => decide (x ≤ 2 ^ n))).getD 24

/-- n of a polar code of K bits rate matched to E (TS 38.212 §5.3.1). -/
def polarSize (k e nmax : Nat) : Nat :=
  let l := ceilLog2 e
  let n1 := if 8 * e ≤ 9 * 2 ^ (l - 1) ∧ 16 * k < 9 * e then l - 1 else l
  Nat.max (Nat.min n1 (Nat.min (ceilLog2 (8 * k)) nmax)) 5

/-- The sub-block interleaver's block order (TS 38.212 Table 5.4.1.1-1). -/
def subBlock : List Nat :=
  [0, 1, 2, 4, 3, 5, 6, 7, 8, 16, 9, 17, 10, 18, 11, 19, 12, 20, 13, 21, 14, 22, 15, 23, 24, 25, 26, 28, 27, 29, 30, 31]

/-- J(n) (TS 38.212 §5.4.1.1). -/
def subPlace (nn i : Nat) : Nat := subBlock.getD (32 * i / nn) 0 * (nn / 32) + i % (nn / 32)

/-- What the code fixes: N, K, E, the information places in ascending order of reliability, the parity-check places, whether it
punctures. -/
structure PolarCode where
  nn : Nat
  k : Nat
  e : Nat
  info : List Nat
  checks : List Nat
  puncture : Bool
deriving DecidableEq, Repr

/-- The places that rate matching freezes (TS 38.212 §5.4.1.1). -/
def frozenFirst (nn k e : Nat) : List Nat :=
  if nn ≤ e then []
  else if 16 * k ≤ 7 * e then
    let more := if 3 * nn ≤ 4 * e then ceilDiv (3 * nn - 2 * e) 4 else ceilDiv (9 * nn - 4 * e) 16
    (List.range (nn - e)).map (subPlace nn) ++ List.range more
  else ((List.range nn).drop e).map (subPlace nn)

/-- Ones in a binary place: the weight of its row is 2 to that. -/
def onesOf (x : Nat) : Nat := ((List.range 10).filter (fun i => bitAt x i)).length

/-- The code of K bits, CRC included, for E transmitted ones (TS 38.212 §5.3.1.2); `npc` parity-check bits, one of them by
weight where `wm`. -/
def polarCode (k e nmax npc : Nat) (wm : Bool) : PolarCode :=
  let nn := 2 ^ polarSize k e nmax
  let first := frozenFirst nn k e
  let free := polarOrder.filter (fun q => decide (q < nn) && !first.contains q)
  let info := free.drop (free.length - (k + npc))
  let low := info.take (npc - boolNat wm)
  let rest := info.drop npc
  let best := rest.foldl (fun (b : Option Nat) q => match b with
    | none => some q
    | some x => if onesOf q ≤ onesOf x then some q else b) none
  { nn := nn, k := k, e := e, info := info, checks := low ++ (if wm then best.toList else []), puncture := decide (16 * k ≤ 7 * e) }

/-- Whether the information places exist. -/
def PolarCode.fits (c : PolarCode) (npc : Nat) : Bool := c.info.length == c.k + npc && decide (c.k ≤ c.e)

/-- The parity-check register's step: the value a parity-check place takes, and the register after a place (TS 38.212 §5.3.1.2). -/
def checkStep (y : List Bool) : List Bool := y.drop 1 ++ y.take 1

/-! ### Encoding -/

/-- The bits of the code's input places in order. -/
def polarInput (c : PolarCode) (bits : List Bool) : List Bool :=
  ((List.range c.nn).foldl (fun (a : List Bool × List Bool × List Bool) i =>
    let y := checkStep a.2.2
    if c.checks.contains i then (a.1 ++ [y.headD false], a.2.1, y)
    else if c.info.contains i then
      let u := a.2.1.headD false
      (a.1 ++ [u], a.2.1.drop 1, (y.headD false != u) :: y.tail)
    else (a.1 ++ [false], a.2.1, y)) (([] : List Bool), bits, List.replicate 5 false)).1

/-- The transform by the Kronecker power: n levels of adding the odd half to the even one. -/
def polarTransform : Nat → List Bool → List Bool
  | 0, u => u
  | n + 1, u =>
    let h := u.length / 2
    polarTransform n ((u.zip (u.drop h)).map (fun x => x.1 != x.2)) ++ polarTransform n (u.drop h)

/-- The place in the interleaved codeword that transmitted bit `i` comes from (TS 38.212 §5.4.1.2). -/
def PolarCode.pick (c : PolarCode) (i : Nat) : Nat :=
  if c.nn ≤ c.e then i % c.nn else if c.puncture then i + c.nn - c.e else i

/-- Encoding and rate matching without channel interleaving. -/
def polarBits (c : PolarCode) (bits : List Bool) : List Bool :=
  let d := (polarTransform (Nat.log2 c.nn) (polarInput c bits)).toArray
  (List.range c.e).map (fun i => d.getD (subPlace c.nn (c.pick i)) false)

/-- The interleaver of the input bits (TS 38.212 §5.3.1.1). -/
def polarInterleave (bits : List Bool) : List Bool :=
  let off := 164 - bits.length
  (polarPi.filter (fun p => decide (off ≤ p))).map (fun p => bits.getD (p - off) false)

/-- The triangular channel interleaver (TS 38.212 §5.4.1.3): where transmitted bit `i` of `e` comes from. -/
def triangle (e : Nat) : List Nat :=
  let t := ((List.range 200).find? (fun t => decide (e ≤ t * (t + 1) / 2))).getD 200
  (List.range t).flatMap (fun j => ((List.range (t - j)).map (fun i => i * t - i * (i - 1) / 2 + j)).filter (fun k => decide (k < e)))

/-! ### List decoding (R169) -/

/-- The check update: the sign of the product, the smaller magnitude. -/
def polarF (a b : Int) : Int :=
  let m : Int := (Nat.min a.natAbs b.natAbs : Nat)
  if (decide (a < 0)) != (decide (b < 0)) then -m else m

/-- The variable update, given the bit. -/
def polarG (a b : Int) (u : Bool) : Int := sat8 (if u then b - a else b + a)

/-- The value of place `i` of 2^n, given the bits of the places before it, and those bits' codewords being recomputed. -/
def placeLlr : Nat → List Int → List Bool → Nat → Int
  | 0, xs, _, _ => xs.headD 0
  | n + 1, xs, us, i =>
    let h := 2 ^ n
    let a := xs.take h
    let b := xs.drop h
    if i < h then placeLlr n ((a.zip b).map (fun x => polarF x.1 x.2)) us i
    else
      let v := polarTransform n (us.take h)
      placeLlr n ((a.zip (b.zip v)).map (fun x => polarG x.1 x.2.1 x.2.2)) (us.drop h) (i - h)

/-- A path: the bits decided, its information bits, the parity-check register, the metric. -/
structure PolarPath where
  us : List Bool
  bits : List Bool
  reg : List Bool
  pm : Nat
deriving DecidableEq, Repr

/-- A path with one more bit: a decision against the value's sign adds its magnitude, saturating at 16 bits. -/
def PolarPath.push (p : PolarPath) (x : Int) (u info : Bool) : PolarPath :=
  let y := checkStep p.reg
  { us := p.us ++ [u]
    bits := if info then p.bits ++ [u] else p.bits
    reg := if info then (y.headD false != u) :: y.tail else y
    pm := if (u == decide (x < 0)) || x == 0 then p.pm else Nat.min 0xFFFF (p.pm + x.natAbs) }

/-- The `m` paths of least metric, the lower index first on ties, in their order. -/
def keepPaths (m : Nat) (ps : List PolarPath) : List PolarPath :=
  (ps.zipIdx.filter (fun p => decide ((ps.zipIdx.filter (fun q =>
    decide (q.1.pm < p.1.pm ∨ (q.1.pm = p.1.pm ∧ q.2 < p.2)))).length < m))).map (fun p => p.1)

/-- The surviving paths of successive cancellation list decoding. A path's two continuations stand next to each other, bit 0
first (DESIGN CHOICE, log entry 44). -/
def polarList (c : PolarCode) (lst : Nat) (xs : List Int) : List PolarPath :=
  let n := Nat.log2 c.nn
  (List.range c.nn).foldl (fun ps i =>
    let info := c.info.contains i && !c.checks.contains i
    keepPaths lst (ps.flatMap (fun p =>
      let x := placeLlr n xs p.us i
      if info then [p.push x false true, p.push x true true]
      else [p.push x (c.checks.contains i && (checkStep p.reg).headD false) false])))
    [{ us := [], bits := [], reg := List.replicate 5 false, pm := 0 }]

/-- Rate recovery: LLRs of the codeword's places from the transmitted ones; punctured places 0, shortened ones as certain as can
be. -/
def polarRecover (c : PolarCode) (xs : List Int) : List Int :=
  let y0 := if c.nn ≤ c.e ∨ c.puncture then List.replicate c.nn 0 else List.replicate c.e 0 ++ List.replicate (c.nn - c.e) (127 : Int)
  let y := (xs.zipIdx.foldl (fun (y : Array Int) x => y.setIfInBounds (c.pick x.2) (sat8 (y.getD (c.pick x.2) 0 + x.1))) y0.toArray)
  let back := ((List.range c.nn).map (fun i => (subPlace c.nn i, y.getD i 0)))
  (back.foldl (fun (d : Array Int) p => d.setIfInBounds p.1 p.2) (List.replicate c.nn (0 : Int)).toArray).toList

/-! ### UCI (TS 38.212 §6.3.1) -/

/-- The CRC of UCI: 6 bits up to 19 payload bits, else 11. -/
def uciCrc (a : Nat) : Nat × Nat := if a ≤ 19 then (6, 0x21) else (11, 0x621)

/-- The polar code of a UCI segment of `a` bits (its CRC beside them) and E. -/
def uciCode (a e : Nat) (crc : Nat) : PolarCode × Nat :=
  let k := a + crc
  if k ≤ 25 then (polarCode k e 10 3 (decide (189 < e - k)), 3) else (polarCode k e 10 0 false, 0)

/-- The path that is put out: the one of least metric among those whose CRC passes, else among all; and whether it passed. -/
def choosePath (crc poly : Nat) (ps : List PolarPath) : Option PolarPath × Bool :=
  let least := fun (xs : List PolarPath) => xs.foldl (fun (b : Option PolarPath) p => match b with
    | none => some p
    | some q => if p.pm < q.pm then some p else b) none
  match least (ps.filter (fun p => crcBits crc poly 0 p.bits == 0)) with
  | some p => (some p, true)
  | none => (least ps, false)

/-- One UCI segment from its LLRs: payload bits, CRC_OK, metric; none where the bits do not fit the code. -/
def uciSegment (a crc poly lst : Nat) (xs : List Int) : Option (List Bool × Bool × Nat) :=
  let c := uciCode a xs.length crc
  if !c.1.fits c.2 then none
  else
    let rows := triangle xs.length
    let back := (xs.zip rows).foldl (fun (d : Array Int) p => d.setIfInBounds p.2 p.1) (List.replicate xs.length (0 : Int)).toArray
    let r := choosePath crc poly (polarList c.1 lst (polarRecover c.1 back.toList))
    r.1.map (fun p => (p.bits.take a, r.2, p.pm))

/-! ### DCI and BCH (TS 38.212 §7.1, §7.3) -/

/-- The bits of a number, most significant first. -/
def msbBits (n x : Nat) : List Bool := (List.range n).map (fun i => bitAt x (n - 1 - i))

/-- A DCI payload with its CRC-24C, computed over 24 ones before it and masked with the RNTI. -/
def dciBits (rnti : Nat) (bits : List Bool) : List Bool :=
  bits ++ msbBits 24 (crcBits 24 0xB2B117 0 (List.replicate 24 true ++ bits) ^^^ rnti)

/-- A BCH payload with its CRC-24C. -/
def bchBits (bits : List Bool) : List Bool := bits ++ msbBits 24 (crcBits 24 0xB2B117 0 bits)

/-- The downlink polar code: at most 512 places, input interleaved, no channel interleaving. -/
def downPolar (e : Nat) (bits : List Bool) : List Bool := polarBits (polarCode bits.length e 9 0 false) (polarInterleave bits)

/-! ### Block codes (R170) -/

/-- Bit `i` of the codeword of a payload whose first bit is the value's highest: 2 for the (20, A) code, 0 and 1 for the (32, K) ones,
3 for K = 1 and 2, whose bits repeat in turn. -/
def blockCode (kind a v i : Nat) : Bool :=
  let c := fun (k : Nat) => bitAt v (a - 1 - k)
  let sum := fun (row : Nat) => (List.range a).foldl (fun x k => x != (c k && bitAt row k)) false
  match kind with
  | 2 => sum (rm20.getD (i % 20) 0)
  | 3 => if a = 1 then c 0 else [c 0, c 1, c 0 != c 1].getD (i % 3) false
  | _ => sum (rm32.getD (i % 32) 0)

end Sys2Proof.Machine
end

