-- ==== Sys2Proof/Machine/Polar.lean ====
section
/-! DEFINITION. The polar engines (06_ldpc_and_polar.md, R168 to R170, R161): descriptors, outcomes and jobs. -/

namespace Sys2Proof.Machine

/-- Largest payload of a block-code job: DEC_RM by its FLAGS, DEC_SMALL (Table 6.8). -/
def blockMax (mode flags : Nat) : Nat := if mode = 3 then 2 else if bitAt flags 1 then 13 else 11

/-- Smallest payload of a block-code job: K from 3 for the NR code, else from 1. -/
def blockMin (mode flags : Nat) : Nat := if mode = 3 then 1 else if flags = 0 then 3 else 1

/-- Whether DEC_UCI runs two segments (Table 6.8). -/
def polarSeg (b : List Byte) : Bool := pf b 0 1 == 1 && decide (360 ≤ pf b 2 2) && decide (1088 ≤ pf b 4 4)

/-- BAD_DESC of a polar job (Tables 6.8, 6.9). -/
def polarBad (b : List Byte) : Bool :=
  let mode := pf b 0 1
  let flags := pf b 1 1
  let a := pf b 2 2
  let e := pf b 4 4
  mode == 0 || decide (5 < mode) || decide (4 ≤ flags) || (flags == 3) || (mode != 2 && flags != 0) || e == 0 || decide (16384 < e)
    || (match mode with
        | 1 => decide (a < 12) || decide (1706 < a) || !([1, 2, 4, 8].contains (pf b 10 1))
        | 4 => decide (a < 12) || decide (140 < a)
        | 5 => e != 864 || a != 32
        | _ => decide (a < blockMin mode flags) || decide (blockMax mode flags < a))

/-- The polar status word (Table 6.10). -/
def polarStatus (result : Nat) (crc dtx seg crc2 : Bool) (conf pm pm2 : Nat) (tick : List Byte) : List Byte :=
  bytesOf 1 result ++ bytesOf 1 (boolNat crc + 2 * boolNat dtx + 4 * boolNat seg + 8 * boolNat crc2) ++ bytesOf 1 conf ++ [0]
    ++ bytesOf 2 pm ++ bytesOf 2 pm2 ++ tick ++ bytesOf 4 0

/-- The sum of the magnitudes of the LLRs. -/
def llrWeight (xs : List Int) : Nat := (xs.map (fun x => x.natAbs)).sum

/-- The correlation of LLRs with a codeword: a positive LLR favours 0 (R153). -/
def correlation (xs : List Int) (code : Nat → Bool) : Int :=
  (xs.zipIdx.map (fun x => if code x.2 then -x.1 else x.1)).sum

/-- The payload with the largest correlation, the lower value first on ties (R170), and that correlation. -/
def bestPayload (xs : List Int) (kind a : Nat) : Nat × Int :=
  ((List.range (2 ^ a)).drop 1).foldl (fun best v =>
    let c := correlation xs (blockCode kind a v)
    if best.2 < c then (v, c) else best) (0, correlation xs (blockCode kind a 0))

/-- CONF from 255 × num / den, rounded down and limited to 0 to 255 (R170). -/
def confOf (num : Int) (den : Nat) : Nat := if den = 0 then 0 else (clampInt 0 255 (255 * num / (den : Int))).toNat

/-- A segment of a DEC_UCI job (R169): its payload bits, CRC_OK, metric. -/
def uciPart (b : List Byte) (xs : List Int) (s : Nat) : List Bool × Bool × Nat :=
  let a := pf b 2 2
  let seg := polarSeg b
  let n := if seg then ceilDiv a 2 else a
  let e := if seg then xs.length / 2 else xs.length
  let crc := uciCrc a
  match uciSegment n crc.1 crc.2 (pf b 10 1) ((xs.drop (s * e)).take e) with
  | some r => r
  | none =>
    let r := Sys2Proof.Config.polarMisfit b xs s
    ((List.range n).map r.1, r.2.1, r.2.2.toNat)

/-- A decoding outcome: payload bits, CRC_OK, two segments, CRC2_OK, CONF, PM and PM2 (R169, R170). CONF of two segments is
that of the first metric over all LLRs (DEDUCED, log entry 44). -/
def polarDecode (b : List Byte) (xs : List Int) : List Bool × Bool × Bool × Bool × Nat × Nat × Nat :=
  let mode := pf b 0 1
  let a := pf b 2 2
  if mode = 1 then
    let seg := polarSeg b
    let p0 := uciPart b xs 0
    let p1 := if seg then uciPart b xs 1 else ([], false, 0)
    let w := llrWeight xs
    ((p0.1 ++ p1.1).drop (p0.1.length + p1.1.length - a), p0.2.1, seg, p1.2.1, confOf ((w : Int) - (p0.2.2 : Int)) w, p0.2.2, p1.2.2)
  else
    let kind := if mode = 3 then 3 else pf b 1 1
    let best := bestPayload xs kind a
    ((List.range a).map (fun i => bitAt best.1 (a - 1 - i)), true, false, false, confOf best.2 (llrWeight xs), 0, 0)

/-- A polar job completes (R168 to R170); `consistent` is what its checker finds (R161). -/
def Dev.polarJob (d : Dev) (u : Nat) (j : Job) (consistent : Bool) : Dev :=
  let ni := engineNi 7 u
  let b := d.descOf 7 u j 48
  let mode := pf b 0 1
  let a := pf b 2 2
  let e := pf b 4 4
  let enc := decide (4 ≤ mode)
  let stat := pf b 32 8
  let inLen := if enc then ceilDiv a 8 else e
  let outLen := ceilDiv (if enc then e else a) 8
  let finish := fun (d : Dev) (r : Nat) (word : List Byte) => (d.engOut ni stat word).engReport 7 u j r
  let badDesc := polarBad b
  let badAddr := !rangesMapped [(pf b 16 8, inLen), (pf b 24 8, outLen), (stat, 16)]
  if badDesc ∨ badAddr then
    let r := engResult badDesc badAddr false false
    finish d r (polarStatus r false false false false 0 0 0 d.doneTick)
  else if !consistent then d.engineFault 7 u 0x0015
  else
    let src := d.engIn ni (pf b 16 8) inLen
    let r := engResult false false src.2 false
    if enc then
      let bits := bitsOf src.1 a
      let out := downPolar e (if mode = 4 then dciBits (pf b 8 2) bits else bchBits bits)
      finish (d.engOut ni (pf b 24 8) (packBits out)) r (polarStatus r true false false false 0 0 0 d.doneTick)
    else
      let o := polarDecode b (src.1.map llrOf)
      let dtx := decide (o.2.2.2.2.1 < pf b 11 1)
      finish (d.engOut ni (pf b 24 8) (packBits o.1)) r
        (polarStatus r o.2.1 dtx o.2.2.1 o.2.2.2.1 o.2.2.2.2.1 o.2.2.2.2.2.1 o.2.2.2.2.2.2 d.doneTick)

/-- A polar row: the job's MODE is the row's. -/
def State.onPolar (s : State) (u : Fin 4) (own : Nat → Bool) (consistent : Bool) : Host.Outcome State Fault Refusal :=
  s.onEngine 7 u.val (fun d j => own (pf (d.descOf 7 u.val j 48) 0 1)) (fun d j => d.polarJob u.val j consistent)

/-- DEC_UCI (R169), and jobs whose MODE Table 6.8 does not list, which complete with BAD_DESC. -/
def execDecUci (u : Fin 4) (consistent : Bool) (s : State) : Host.Outcome State Fault Refusal :=
  s.onPolar u (fun m => m < 2 || decide (5 < m)) consistent

/-- DEC_RM (R170). -/
def execDecRm (u : Fin 4) (consistent : Bool) (s : State) : Host.Outcome State Fault Refusal := s.onPolar u (fun m => m == 2) consistent

/-- DEC_SMALL (R170). -/
def execDecSmall (u : Fin 4) (consistent : Bool) (s : State) : Host.Outcome State Fault Refusal := s.onPolar u (fun m => m == 3) consistent

/-- ENC_DCI (R168). -/
def execEncDci (u : Fin 4) (consistent : Bool) (s : State) : Host.Outcome State Fault Refusal := s.onPolar u (fun m => m == 4) consistent

/-- ENC_BCH (R168). -/
def execEncBch (u : Fin 4) (consistent : Bool) (s : State) : Host.Outcome State Fault Refusal := s.onPolar u (fun m => m == 5) consistent

end Sys2Proof.Machine
end

