-- ==== Sys2Proof/Machine/Ptp.lean ====
section
/-! DEFINITION. IEEE 1588-2019 as G.8275.1 takes it: messages received and sent by the timing unit on the Ethernet ports
(02_timing_and_deadlines.md, R41 to R43). The layouts of the messages and the addresses are the standard's, which the spec
names and does not repeat (PRESUMED, log entry 64). -/

namespace Sys2Proof.Machine

/-- Nanoseconds in a cycle of HFN. -/
def cycleNs : Nat := airWrap * 3125 / 6144

/-- Nanoseconds in the cycle at an air time: time-stamps have a resolution of 1 ns (R42). -/
def airNs (at_ : Nat) : Nat := at_ * 3125 / 6144

/-- The place in the cycle, in nanoseconds, of a PTP time: GPS is TAI less 19 s (R41). -/
def ptpNs (x : Sys2Proof.PtpTime) : Int := ((x.sec : Int) - 19) * 1000000000 + (x.nsec : Nat)

/-- A difference of two times in 2^-16 ns, brought within half a cycle. -/
def cycDiff (x : Int) : Int :=
  let c : Int := 65536 * (cycleNs : Nat)
  let r := x % c
  if c ≤ 2 * r then r - c else r

/-- 2^-16 ns as Tc, away from 0. -/
def tcOf (x : Int) : Int :=
  let n := (x.natAbs * 6144 + (204800000 - 1)) / 204800000
  if x < 0 then -(n : Nat) else (n : Nat)

/-- The identity of a port as a clock (IEEE 1588): the EUI-64 of its station address, and its number from 1. -/
def Dev.ptpIdentity (d : Dev) (p : Nat) : List Byte :=
  let m := ((padTo 64 (d.cfg.ports.toList.getD p [])).drop 4).take 6
  m.take 3 ++ [0xFF, 0xFE] ++ m.drop 3 ++ msbOf 2 (p + 1)

/-- controlField of a message type. -/
def controlField (type : Nat) : Byte := match type with | 0 => 0 | 1 => 1 | 9 => 3 | _ => 5

/-- A PTP message of the device: its header and its body (IEEE 1588, 13.3). -/
def Dev.ptpPdu (d : Dev) (p type : Nat) (flags : Byte) (seq : Half) (corr : Int) (interval : Byte) (body : List Byte) : List Byte :=
  bytesOf 1 type ++ [(0x12 : Byte)] ++ msbOf 2 (34 + body.length) ++ ([24, 0, 0, flags] : List Byte) ++ msbOf 8 (BitVec.ofInt 64 corr).toNat
    ++ ([0, 0, 0, 0] : List Byte) ++ d.ptpIdentity p ++ msbOf 2 seq.toNat ++ [controlField type, interval]
    ++ body

/-- The multicast address a port's messages go to: the forwardable or the non-forwardable one (R42); the spec does not say
which is used when. -/
def ptpDest (p : Nat) : List Byte :=
  if Sys2Proof.Config.ptpForwardable p then [0x01, 0x1B, 0x19, 0x00, 0x00, 0x00] else [0x01, 0x80, 0xC2, 0x00, 0x00, 0x0E]

/-- Put a PTP message on a port's transmit queue (R373): event messages first, then the others. -/
def Dev.ptpQueue (d : Dev) (p kind : Nat) (pdu : List Byte) : Dev := d.ethSend p kind (padFrame (d.portFrame p (ptpDest p) 0x88F7 pdu))

/-- The body of the device's Announce (R42): its parent's, one step further, or its own where it has none. -/
def Dev.announceBody (d : Dev) (p : Nat) : Byte × List Byte :=
  match d.ptpBest.bind (fun q => (d.ethPort q).parent) with
  | some (f, b) => (f, b.take 27 ++ msbOf 2 ((msbNat ((b.drop 27).take 2) + 1) % 65536) ++ (b.drop 29).take 1)
  | none => (0x08, List.replicate 10 0 ++ msbOf 2 (d.time.leapNow + 19) ++ [0, 128, 248, 0xFE, 0xFF, 0xFF, 128]
      ++ (d.ptpIdentity p).take 8 ++ [0, 0, 0xA0])

/-- A Sync has been timed from master to slave (R42): the phase error follows where the path's delay is known. -/
def Dev.ptpTimed (d : Dev) (p arrived : Nat) (origin : Sys2Proof.PtpTime) (corr : Int) : Dev :=
  let ms := cycDiff (65536 * ((arrived : Nat) - ptpNs origin) - corr)
  let d1 := d.updEth p (fun e => { e with masterToSlave := some ms, sync2 := none })
  match (d.ethPort p).pathDelay with
  | some m =>
    if d.time.sel.getLsbD 1 ∧ d.ptpBest = some p then ({ d1 with time := d1.time.ptpOffset (tcOf (ms - m)) } : Dev).timeAlert d else d1
  | none => d1

/-- A PTP message of a port (R42, R43, R375). -/
def Dev.ptpMessage (d : Dev) (p : Nat) (m : Sys2Proof.PtpMsg) : Dev :=
  let e := d.ethPort p
  if !d.ptpUp p then d
  else match m with
    | .announce st f b =>
      let d1 := d.updEth p (fun e => { e with ptp := st.val, parent := some (f, padTo 30 (b.take 30)) })
      if d1.ptpBest = some p then { d1 with time := { d1.time with ptpLeap := some (msbNat ((b.drop 10).take 2) - 19) } } else d1
    | .sync at_ two seq origin corr =>
      if e.ptp ≠ 2 then d
      else if two then d.updEth p (fun e => { e with sync2 := some (seq, airNs at_, corr) })
      else d.ptpTimed p (airNs at_) origin corr
    | .followUp seq origin corr =>
      match e.sync2 with
      | some (s, t, c) => if s = seq then d.ptpTimed p t origin (c + corr) else d
      | none => d
    | .delayReq at_ seq src corr =>
      if e.ptp ≠ 3 ∨ d.portField p 13 1 ≠ 1 then d
      else d.ptpQueue p 2 (d.ptpPdu p 9 0 seq corr 0xFC (ecpriStamp (d.time.taiNs at_) ++ padTo 10 (src.take 10)))
    | .delayResp seq t who corr =>
      match e.reqOut, e.masterToSlave with
      | some (s, left), some ms =>
        if s = seq ∧ who = d.ptpIdentity p then
          let sm := cycDiff (65536 * (ptpNs t - ((left : Int) - 19000000000)) - corr)
          d.updEth p (fun e => { e with reqOut := none, pathDelay := some ((ms + sm) / 2) })
        else d
      | _, _ => d
    | .other => d

/-- The device sends a PTP message of its own (R42): Sync and Announce as master of a T-BC, Delay_Req as slave. -/
def Dev.ptpSend (d : Dev) (p : Nat) (m : Sys2Proof.PtpSend) : Dev :=
  let e := d.ethPort p
  let zero : List Byte := List.replicate 10 0
  let master := decide (e.ptp = 3 ∧ d.portField p 13 1 = 1)
  if !d.ptpUp p then d
  else match m with
    | .sync => if master then (d.ptpQueue p 1 (d.ptpPdu p 0 0 e.syncSeq 0 0xFC zero)).updEth p (fun e => { e with syncSeq := e.syncSeq + 1 }) else d
    | .announce =>
      let b := d.announceBody p
      if master then
        (d.ptpQueue p 2 (d.ptpPdu p 11 b.1 e.announceSeq 0 0xFD b.2)).updEth p (fun e => { e with announceSeq := e.announceSeq + 1 })
      else d
    | .delayReq =>
      if e.ptp = 2 then (d.ptpQueue p 1 (d.ptpPdu p 1 0 e.reqSeq 0 0x7F zero)).updEth p (fun e => { e with reqSeq := e.reqSeq + 1 }) else d

/-- PTP_MESSAGE (R42, R43, R375). -/
def execPtpMessage (p : Fin 4) (m : Sys2Proof.PtpMsg) (s : State) : Host.Outcome State Fault Refusal :=
  s.on (fun d => d.ptpMessage p.val m)

/-- PTP_TRANSMIT (R42). -/
def execPtpTransmit (p : Fin 4) (m : Sys2Proof.PtpSend) (s : State) : Host.Outcome State Fault Refusal :=
  s.on (fun d => d.ptpSend p.val m)

end Sys2Proof.Machine
end

