-- ==== Sys2Proof/Machine/Flits.lean ====
section
/-! DEFINITION. Packets, flits and the rings they travel (10_ringroad.md, R254, R255, R259, R260, R262 to R265, R270): what one
flit time does to the packets on the rings (log entry 80). -/

namespace Sys2Proof.Machine

/-! ### Packets -/

/-- The virtual channel a packet uses: ROUTE[1:0] (Table 10.5). -/
def Packet.vc (p : Packet) : Nat := bitsAt p.route.toNat 0 2

/-- An itinerary entry as ROUTE, with the virtual channel in use (Table 10.5). -/
def routeWord (e : DWord) (vc : Nat) : DWord := BitVec.ofNat 64 (e.toNat / 4 * 4 + vc)

/-- The virtual channel of a request (R260, Table 10.8); VCSEL 3 is reserved and chooses freely (log entry 80). -/
def requestVc (e : DWord) (dl : Bool) : Nat :=
  match e.toNat % 4 with
  | 0 => 0
  | 1 => 2
  | 2 => if dl then 2 else 0
  | _ => if Sys2Proof.Config.reservedVc e then 2 else 0

/-- Whether a request is marked DL (R260): a core or an engine marks those it sends for a class A job it has started, a DMA
engine those of its stream class. -/
def Dev.marksDl (d : Dev) (src : Nat) (dl : Bool) : Bool :=
  let serves := fun (pool u : Nat) => (d.alm.heldBy pool u).any (fun j => j.started && j.cls == 0)
  dl && (if src < 128 then serves 1 src else if src < 192 then let u := accelUnit (src - 128); serves u.1 u.2
    else decide (216 ≤ src ∧ src < 224))

/-- The 32 bytes of a packet's header (Table 10.5). -/
def Packet.header (p : Packet) : List Byte :=
  bytesOf 8 p.route.toNat ++ bytesOf 1 p.kind ++ bytesOf 1 p.status ++ bytesOf 2 p.len ++ bytesOf 1 p.src ++ bytesOf 1 p.dst
    ++ [p.tag] ++ bytesOf 1 (boolNat p.dl) ++ bytesOf 8 p.addr.toNat ++ bytesOf 8 0

/-- The bytes of a packet (R255). -/
def Packet.bytes (p : Packet) : List Byte := p.header ++ p.data

/-- Data bytes of a flit: 1,024 bits on global links, 512 on cluster links (R249, R254). -/
def flitBytes (ring : Nat) : Nat := if ring = 8 then 128 else 64

/-- Flits of a packet on a ring (R255). -/
def Packet.flitCount (p : Packet) (ring : Nat) : Nat := ceilDiv (32 + p.data.length) (flitBytes ring)

/-! ### Flits -/

/-- Sideband bits [7:0] (Table 10.4). -/
def sideLow (vc : Nat) (lane head tail poison : Bool) : Nat :=
  vc + 4 * boolNat lane + 8 * boolNat head + 16 * boolNat tail + 32 * boolNat poison

/-- The link CRC over the data bits and sideband bits [7:0] (R254), the data bytes first in their order. -/
def flitCrc (data : List Byte) (low : Nat) : Nat :=
  crcBits 16 0x1021 0xFFFF ((data ++ [BitVec.ofNat 8 low]).flatMap bitsOfByte)

/-- A flit with its sideband (Table 10.4). -/
def mkFlit (data : List Byte) (low : Nat) : Sys2Proof.RxFlit :=
  { again := false, data := data, side := BitVec.ofNat 24 (low + 256 * flitCrc data low) }

/-- Whether a flit that arrives on a ring's link passes the check of its CRC (R270). -/
def flitGood (ring : Nat) (f : Sys2Proof.RxFlit) : Bool :=
  flitCrc (padTo (flitBytes ring) f.data) (f.side.toNat % 256) == f.side.toNat / 256

/-- The flits of a packet on a ring (R254, R255). -/
def Packet.flits (p : Packet) (ring : Nat) (lane : Bool) : List Sys2Proof.RxFlit :=
  let n := p.flitCount ring
  let w := flitBytes ring
  (List.range n).map (fun k => mkFlit (padTo w (p.bytes.drop (w * k))) (sideLow p.vc lane (k == 0) (k + 1 == n) false))

/-! ### Where a packet is -/

/-- Flits of a packet that have passed a stage of its leg: 0 entry, k the k-th link, the last the exit. -/
def Worm.past (w : Worm) (k : Nat) : Nat := w.passed.getD k 0

/-- Links of the leg a packet is on. -/
def Worm.hops (w : Worm) : Nat := w.passed.length - 2

/-- The word of the leg a packet is on (Table 10.9). -/
def Worm.word (w : Worm) : Nat := bitsAt w.pkt.route.toNat (16 + 16 * w.leg) 16

/-- The junction behind the k-th link of the leg (R259). -/
def Worm.node (w : Worm) (k : Nat) : Nat :=
  let n := ringSize w.ring
  if bitAt w.word 5 then (w.start + n - k % n) % n else (w.start + k) % n

/-- Whether the leg ends at a bridge (R251, R259). -/
def Worm.toBridge (w : Worm) : Bool :=
  let j := w.node w.hops
  if w.ring = 8 then j % 4 == 0 && !bitAt w.word 8 else j == 0 && bitAt w.word 8

/-- The lane of the leg: outbound where it ends at the bridge of a cluster (R259). -/
def Worm.lane (w : Worm) : Bool := w.ring != 8 && w.toBridge

/-- The k-th link of the leg, the first from 1. -/
def Worm.link (w : Worm) (k : Nat) : Sys2Proof.LinkId :=
  { ring := w.ring, junction := w.node (k - 1), dir := bitAt w.word 5, pair := bitsAt w.word 6 2, lane := false }

/-- The buffer in which the packet's flits wait behind its k-th link: ring, junction, direction, pair, channel and lane (R263). -/
def Worm.buffer (w : Worm) (k : Nat) : Nat × Nat × Bool × Nat × Nat × Bool :=
  (w.ring, w.node k, bitAt w.word 5, bitsAt w.word 6 2, w.pkt.vc, w.lane)

/-- Slots that the packet takes in that buffer; where it enters it keeps room for all its flits. -/
def Worm.takes (w : Worm) (k : Nat) : Nat :=
  (if k = 0 ∧ w.entering then w.flits else w.past k) - w.past (k + 1)

/-- Slots taken in a buffer. -/
def NetState.filled (t : NetState) (b : Nat × Nat × Bool × Nat × Nat × Bool) : Nat :=
  (t.worms.map (fun w => ((List.range (w.hops + 1)).map (fun k => if w.buffer k = b then w.takes k else 0)).sum)).sum

/-- Flit slots of a buffer (R263). -/
def bufferSlots (ring : Nat) : Nat := if ring = 8 then 8 else 12

/-- Where a packet enters its ring: its NI, or the bridge it crosses. -/
def Worm.port (w : Worm) : Nat × Nat := if w.leg = 0 then (9, w.from_) else (w.ring, w.start)

/-- The packet that holds the ring traffic of a buffer until it has entered (R263), if one does. -/
def NetState.holder (t : NetState) (b : Nat × Nat × Bool × Nat × Nat × Bool) : Option Worm :=
  t.worms.find? (fun w => w.entering && decide (64 ≤ w.waited) && decide (w.past 0 < w.flits) && w.buffer 0 == b)

/-- The packet with one more flit past a stage; its head takes the time with it. -/
def Worm.advance (w : Worm) (k n clock : Nat) : Worm :=
  { w with passed := w.passed.set k (w.past k + n), headAt := if w.past k = 0 then clock else w.headAt }

/-- Of some packets, by index and stage, the one whose head has waited longest, the older packet first. -/
def NetState.eldest (t : NetState) (xs : List (Nat × Nat)) : Option (Nat × Nat) :=
  let at_ := fun (x : Nat × Nat) => ((t.worms[x.1]?).map (fun w => w.headAt)).getD 0
  xs.foldl (fun best x => match best with
    | none => some x
    | some b => if at_ x < at_ b then some x else some b) none

/-- Packets by index and stage whose next flit stands before a stage that `p` names. -/
def NetState.before (t : NetState) (p : Worm → Nat → Bool) : List (Nat × Nat) :=
  t.worms.zipIdx.flatMap (fun x =>
    ((List.range x.1.passed.length).filter (fun k => decide (1 ≤ k ∧ x.1.past k < x.1.past (k - 1)) && p x.1 k)).map
      (fun k => (x.2, k)))

/-! ### One flit time -/

/-- A failed link cuts the packets that meet it (R270): one not begun on it is discarded, of one begun the rest is, and a TAIL
with POISON ends what has crossed. -/
def Worm.cutBy (w : Worm) (bad : List Sys2Proof.LinkId) : Option Worm :=
  match (List.range w.hops).find? (fun k =>
      decide (0 < w.past k ∧ w.past (k + 1) < w.flits) && bad.contains { w.link (k + 1) with lane := w.lane }) with
  | none => some w
  | some k =>
    let c := w.past (k + 1)
    if c = 0 then none
    else some { w with flits := c + 1, poison := true
                       passed := (List.range w.passed.length).map (fun s => if s ≤ k + 1 then c + 1 else w.past s) }

/-- The flit that a channel would send over a link (R262): a packet's flits follow one another in its lane, the next buffer has a
free slot, and no entering packet holds the ring's traffic there. -/
def NetState.pick (t : NetState) (l : Sys2Proof.LinkId) (vc : Nat) : Option (Nat × Nat) :=
  let all := t.before (fun w k => decide (k ≤ w.hops) && w.link k == l && w.pkt.vc == vc)
  let begun := fun (lane : Bool) => t.worms.any (fun w => w.pkt.vc == vc && w.lane == lane
    && (List.range w.hops).any (fun k => w.link (k + 1) == l && decide (0 < w.past (k + 1) ∧ w.past (k + 1) < w.flits)))
  let free := fun (w : Worm) (b : Nat × Nat × Bool × Nat × Nat × Bool) =>
    match t.holder b with
    | none => true
    | some h => h == w
  t.eldest (all.filter (fun x => (t.worms[x.1]?).any (fun w =>
    (decide (0 < w.past x.2) || !begun w.lane) && decide (t.filled (w.buffer x.2) < bufferSlots w.ring)
      && free w (w.buffer (x.2 - 1)) && free w (w.buffer x.2))))

/-- Flit times for which a channel's flits have waited at a link. -/
def NetState.waitOf (t : NetState) (l : Sys2Proof.LinkId) (vc : Nat) : Nat :=
  ((t.waits.find? (fun x => x.1 == l && x.2.1 == vc)).map (fun x => x.2.2)).getD 0

/-- The order in which a link serves its channels (R262): one that has waited 16 flit times, then VC2, VC1, VC0, VC3. -/
def NetState.order (t : NetState) (l : Sys2Proof.LinkId) : List Nat :=
  [2, 1, 0, 3].filter (fun v => decide (16 ≤ t.waitOf l v)) ++ [2, 1, 0, 3]

/-- Every link carries one flit (R262). -/
def NetState.crossLinks (t : NetState) : NetState :=
  let wants := t.before (fun w k => decide (k ≤ w.hops))
  let linkOf := fun (x : Nat × Nat) => ((t.worms[x.1]?).map (fun w => (w.link x.2, w.pkt.vc))).toList
  let links := ((wants.flatMap linkOf).map (fun x => x.1)).eraseDups
  let moves := links.filterMap (fun l => (t.order l).findSome? (fun v => (t.pick l v).map (fun x => (l, v, x))))
  let waits := ((wants.flatMap linkOf).eraseDups.filter (fun x => !(moves.any (fun m => m.1 == x.1 && m.2.1 == x.2)))).map
    (fun x => (x.1, x.2, t.waitOf x.1 x.2 + 1))
  { t with waits := waits
           worms := t.worms.zipIdx.map (fun x =>
             moves.foldl (fun w m => if m.2.2.1 = x.2 then w.advance m.2.2.2 1 t.clock else w) x.1) }

/-- One flit leaves a ring by a port, unless the port is taken by another packet of its channel, or by a packet that the bridge
still holds (R264). -/
def NetState.leave (t : NetState) (port : Nat × Nat × Bool) : NetState :=
  let here := fun (w : Worm) => (w.ring, w.node w.hops, bitAt w.word 8) == port
  let bridge := fun (w : Worm) => legLinks w.ring w.start w.word
  let ok := fun (x : Nat × Nat) => (t.worms[x.1]?).any (fun w =>
    decide (0 < w.past x.2) || !(t.worms.any (fun o => o.pkt.vc == w.pkt.vc
      && ((here o && decide (0 < o.past (o.hops + 1) ∧ o.past (o.hops + 1) < o.flits))
        || (w.toBridge && decide (0 < o.leg) && (o.ring, o.start) == (bridge w).2 && decide (o.past 0 < o.flits))))))
  let at_ := fun (v : Nat) => t.eldest ((t.before (fun w k => k == w.hops + 1 && here w && w.pkt.vc == v)).filter ok)
  match [2, 1, 0, 3].findSome? at_ with
  | none => t
  | some x => { t with worms := t.worms.modify x.1 (fun w => w.advance x.2 1 t.clock) }

/-- Every local port and bridge takes two flits (Table 10.11). -/
def NetState.leaveRings (t : NetState) : NetState :=
  let ports := (t.worms.map (fun w => (w.ring, w.node w.hops, bitAt w.word 8))).eraseDups
  (ports ++ ports).foldl NetState.leave t

/-- A packet at the tollgate (R263): it enters where its buffer can take it whole with two slots free and no ring traffic is
there, or once it has waited 64 flit times; two flits enter in a flit time. -/
def NetState.enter (t : NetState) (i : Nat) : NetState :=
  match t.worms[i]? with
  | none => t
  | some w =>
    let first := !((t.worms.take i).any (fun o => o.port == w.port && o.pkt.vc == w.pkt.vc && decide (o.past 0 < o.flits)))
    if w.flits ≤ w.past 0 ∨ !first then t
    else
      let b := w.buffer 0
      let met := w.entering || decide (t.filled b + w.flits + 2 ≤ bufferSlots w.ring)
      let busy := t.worms.zipIdx.any (fun o => o.2 != i
        && (List.range o.1.hops).any (fun k => o.1.buffer (k + 1) == b && decide (0 < o.1.takes (k + 1))))
      let go := met && (w.entering || !busy || decide (64 ≤ w.waited))
      let now := if go then { w.advance 0 (Nat.min 2 (w.flits - w.past 0)) t.clock with entering := true }
        else { w with waited := if met then w.waited + 1 else 0 }
      { t with worms := t.worms.set i now }

/-- A packet whose leg has ended behind a bridge, on its next leg with its flits formed anew (R255, R259, R264). -/
def Worm.nextLeg (w : Worm) : Worm :=
  let on := (legLinks w.ring w.start w.word).2
  let have_ := Nat.min (32 + w.pkt.data.length) (w.flits * flitBytes w.ring)
  let leg := w.leg + 1
  { w with leg := leg, ring := on.1, start := on.2, flits := ceilDiv have_ (flitBytes on.1), entering := false, waited := 0
           passed := List.replicate (bitsAt w.pkt.route.toNat (16 + 16 * leg) 5 + 2) 0 }

/-- Whether a packet has left its last ring: it has arrived. -/
def Worm.arrived (w : Worm) : Bool :=
  decide (w.flits ≤ w.past (w.hops + 1)) && decide (bitsAt w.pkt.route.toNat 2 2 ≤ w.leg + 1)

/-- One flit time on all rings; the packets that have arrived leave the network. -/
def NetState.flitTime (t : NetState) (bad : List Sys2Proof.LinkId) : NetState × List Worm :=
  let t0 := { t with clock := t.clock + 1, worms := t.worms.filterMap (fun (w : Worm) => w.cutBy bad) }
  let t1 := t0.leaveRings.crossLinks
  let t2 := (List.range t1.worms.length).foldl NetState.enter t1
  let on := (t2.worms.filter (fun w => !w.arrived)).map (fun w => if w.flits ≤ w.past (w.hops + 1) then w.nextLeg else w)
  ({ t2 with worms := on }, t2.worms.filter Worm.arrived)

/-- A packet at the NI that sends it. -/
def Packet.worm (p : Packet) (from_ : Nat) (cargo : Cargo) (poison : Bool) : Worm :=
  let at_ := (niPlace from_)
  { pkt := p, cargo := cargo, from_ := from_, ring := at_.1, start := at_.2.1, flits := p.flitCount at_.1, poison := poison
    passed := List.replicate (bitsAt p.route.toNat 16 5 + 2) 0 }

/-- Links that packets meet as failed (R270). -/
def Dev.badLinks (d : Dev) : List Sys2Proof.LinkId := (d.ring.links.filter (fun r => r.failed && !r.removed)).map (fun r => r.link)

/-- Send a packet: over free rings it does at once what it does on arrival, `now`; one that meets traffic, or follows one of its NI
on the same channel to the same place (R265), enters the rings behind it. -/
def Dev.carry (d : Dev) (p : Packet) (from_ : Nat) (cargo : Cargo) (m : Sys2Proof.Mishap) (now : Dev → Dev) : Dev :=
  if m = .slow ∨ d.ring.net.worms.any (fun w => w.from_ == from_ && w.pkt.vc == p.vc && w.pkt.dst == p.dst) then
    { d with ring := { d.ring with net :=
        { d.ring.net with worms := d.ring.net.worms ++ [p.worm from_ cargo (decide (m = .poison))] } } }
  else now { d with ring := { d.ring with last := some p } }

end Sys2Proof.Machine
end

