-- ==== Sys2Proof/Machine/Ringroad.lean ====
section
/-! DEFINITION. Ringroad transactions, shells, link errors and roadworks (10_ringroad.md, R254 to R278) and the scrub of
memories (12_memory.md, R307). Over free rings a target acts on a request in the step of its row, and its answer is on its way
until the response's row; a packet that meets traffic is carried by flit times (log entry 80). -/

namespace Sys2Proof.Machine

/-! ### Requests -/

/-- Bytes of the response store that a transaction reserves (R266). -/
def reserveOf (kind len : Nat) : Nat := 32 + if kind = 1 then len else 0

/-- Whether an NI can send a further request now: a free tag and room in its response store (R266). -/
def Ni.canSend (n : Ni) (kind len : Nat) : Bool :=
  decide (n.trans.length < 256)
    && decide ((n.trans.map (fun t => reserveOf t.kind.toNat t.len.toNat)).sum + reserveOf kind len ≤ 163840)

/-- The lowest free tag (log entry 38). -/
def Ni.freeTag (n : Ni) : Byte :=
  BitVec.ofNat 8 (((List.range 256).find? (fun k => !(n.trans.any (fun t => t.tag.toNat == k)))).getD 0)

/-- Whether a request breaks Table 10.6 (R256). -/
def badRequest (kind : Nat) (addr len : Nat) : Bool :=
  match kind with
  | 1 => len == 0 || len % 64 != 0 || decide (512 < len) || addr % 64 != 0 || decide (512 < addr % 512 + len)
  | 2 => len == 0 || decide (512 < addr % 512 + len)
  | _ => false

/-- Where a request goes: an address names its NI, other kinds name it themselves (R256). -/
def requestDst (kind dst addr : Nat) : Option Nat :=
  if kind = 1 ∨ kind = 2 then (regionOf addr).map (fun r => regionNi r addr) else some dst

/-- A transaction that completes at its requester with a status (R257). -/
def Dev.localDone (d : Dev) (src status : Nat) (tag : Byte) : Dev :=
  d.updNi src (fun n => { n with last := some (tag, status, []) })

/-- The channel and offset that an address of a DMA register window names. -/
def dmaWindow (a : Nat) : Nat × Nat × Nat := ((a - 0x30000000) / 0x10000, a % 0x10000 / 128, a % 128)

/-- What a target does with a request it has accepted: its status, data and effect (R255, R268, R280, R306). -/
def Dev.serve (d : Dev) (src dst kind addr : Nat) (data : List Byte) (len : Nat) (ecc : Sys2Proof.EccHit) : Nat × List Byte × Dev :=
  match kind with
  | 1 =>
    match regionOf addr with
    | none => (rsDecode, [], d)
    | some r =>
      if r.kind = .dmaRegs then
        let w := dmaWindow addr
        if d.dmaOwned src w.1 w.2.1 then (0, ((d.dmaChan w.1 w.2.1).bytes.drop w.2.2).take len, d) else (rsDecode, [], d)
      else if r.kind = .dmaStream then (rsDecode, [], d)
      else d.netRead src src addr len ecc
  | 2 =>
    match regionOf addr with
    | none => (rsDecode, [], d)
    | some r =>
      if r.kind = .dmaRegs then
        let w := dmaWindow addr
        if d.dmaOwned src w.1 w.2.1 then (0, [], d.dmaWrite w.1 w.2.1 w.2.2 data) else (rsDecode, [], d)
      else if r.kind = .dmaStream then
        (if (List.range 64).any (fun k => (d.dmaChan r.idx k).bound == some src) then 0 else rsDecode, [], d)
      else
        let x := d.netWrite src src addr data ecc
        (x.1, [], x.2)
  | 3 =>
    let m := padTo 32 data
    if dst = 253 then
      let port : Sys2Proof.AlmPort := if h : 245 ≤ src ∧ src ≤ 252 then .control ⟨src - 245, by omega⟩ else .event
      let op := rf m 0 1
      (0, [], d.almRow (if 1 ≤ op ∧ op ≤ 11 then op else 1) port m none)
    else (0, [], { d with ring := { d.ring with messages := d.ring.messages ++ [(dst, m)] } })
  | _ => (0, [], d)

/-- The one response to a request (R267), with its SRC, TAG and ADDR echoed. -/
def Dev.answer (d : Dev) (p : Packet) (status : Nat) (bs : List Byte) : Dev :=
  { d with ring := { d.ring with answers := d.ring.answers ++ [⟨p.dst, p.src, 0x80 + p.kind, status, p.tag, bs, p.addr⟩] } }

/-- A request arrives (R270, R275, R276, R301): a poisoned one is answered with LINK, else the shell decides, then the target. -/
def Dev.takeRequest (d : Dev) (p : Packet) (poison : Bool) (ecc : Sys2Proof.EccHit) : Dev :=
  if poison then d.answer p rsLink []
  else
    let s := d.shellSays p.dst
    if s ≠ 0 then d.answer p s []
    else
      let ok := match regionOf p.addr.toNat with
        | some r => decide (2 < p.kind) || (mayAccess p.src r p.addr.toNat && !(p.kind == 2 && d.progBusy p.addr.toNat))
        | none => decide (2 < p.kind)
      if !ok then d.answer p rsDecode []
      else
        let x := d.serve p.src p.dst p.kind p.addr.toNat p.data p.len ecc
        x.2.2.answer p x.1 (if x.1 = 0 then x.2.1 else [])

/-- The packet of a request (R255, R260). -/
def Dev.requestPacket (d : Dev) (src : Nat) (q : HeldReq) : Packet :=
  let e := d.entry src q.dst.toNat
  let dl := d.marksDl src q.dl
  { route := routeWord e (requestVc e dl), kind := q.kind.toNat, len := q.len.toNat, src := src, dst := q.dst.toNat
    tag := (d.niRec src).freeTag, dl := dl, addr := q.addr, data := q.data }

/-- Send a request whose tag and space are granted (R266 to R270); one that meets a failed link, or is lost, gets no answer. -/
def Dev.sendReq (d : Dev) (src : Nat) (q : HeldReq) (m : Sys2Proof.Mishap) (ecc : Sys2Proof.EccHit) : Dev :=
  let p := d.requestPacket src q
  let t : Trans := ⟨p.tag, q.kind, q.dst, q.len, q.addr, d.time.air⟩
  let d1 := d.updNi src (fun n => { n with trans := n.trans ++ [t] })
  if m = .lost ∨ d.pathCut src p.dst then d1
  else d1.carry p src (.request ecc) m (fun d => d.takeRequest p (decide (m = .poison)) ecc)

/-- Whether a roadworks holds new requests of an NI to a destination (R273, RW2). -/
def Dev.worksHold (d : Dev) (src dst : Nat) : Bool :=
  match d.ring.works with
  | some w => !w.committed && (d.niRec src).newItin.any (fun e => e.1 == dst)
  | none => false

/-- A request of an NI (R256, R266, R275): turned away at its own shell, completed at once with DECODE, ROUTE or STOPPED,
held, or sent. -/
def Dev.askNet (d : Dev) (src kind dst : Nat) (addr : DWord) (len : Nat) (dl : Bool) (data : List Byte)
    (m : Sys2Proof.Mishap) (ecc : Sys2Proof.EccHit) : Dev :=
  let n := d.niRec src
  match n.shell with
  | .closed | .absent => d
  | .closing => d.localDone src rsStopped n.freeTag
  | .open_ =>
    match requestDst kind dst addr.toNat with
    | none => d.localDone src rsDecode n.freeTag
    | some to_ =>
      if badRequest kind addr.toNat len || (decide (kind ≤ 2) && !oneRegion addr.toNat len) then d.localDone src rsDecode n.freeTag
      else if !entryValid (d.entry src to_) then d.localDone src rsRoute n.freeTag
      else
        let q : HeldReq := ⟨BitVec.ofNat 8 kind, BitVec.ofNat 8 to_, BitVec.ofNat 16 len, addr, dl, data⟩
        if !n.held.isEmpty ∨ d.worksHold src to_ ∨ !n.canSend kind len then d.updNi src (fun n => { n with held := n.held ++ [q] })
        else d.sendReq src q m ecc

/-- Send waiting requests in issue order while nothing holds them. -/
def Dev.releaseReqs : Nat → Nat → Dev → Dev
  | 0, _, d => d
  | k + 1, src, d =>
    match (d.niRec src).held with
    | [] => d
    | q :: rest =>
      if d.worksHold src q.dst.toNat ∨ !(d.niRec src).canSend q.kind.toNat q.len.toNat then d
      else Dev.releaseReqs k src ((d.updNi src (fun n => { n with held := rest })).sendReq src q .none .none)

/-- All that a requester can send now. -/
def Dev.pump (d : Dev) (src : Nat) : Dev := Dev.releaseReqs (d.niRec src).held.length src d

/-! ### Responses -/

/-- The answer of a kind for a requester and tag, where it is the oldest on its way from its target (R265): responses of one
target arrive in the order sent. -/
def Dev.answerFor (d : Dev) (dst kind : Nat) (tag : Byte) : Option Answer :=
  (d.ring.answers.find? (fun a => a.dst == dst && a.kind == kind && a.tag == tag)).filter (fun a =>
    (d.ring.answers.find? (fun o => o.dst == dst && o.target == a.target)) == some a)

/-- A response arrives at its requester (R267 to R270, R277): it completes its transaction, with LINK where it came
poisoned; one whose transaction is gone, or that meets a closed shell, is discarded and counted. -/
def Dev.takeResponse (d : Dev) (p : Packet) (poison : Bool) : Dev :=
  let n := d.niRec p.dst
  if n.shell = .closed ∨ n.shell = .absent ∨ !(n.trans.any (fun t => t.tag == p.tag)) then
    d.updNi p.dst (fun n => { n with stray := n.stray + 1 })
  else
    let st := if poison then rsLink else p.status
    d.updNi p.dst (fun n => { n with trans := n.trans.filter (fun t => t.tag != p.tag)
                                     last := some (p.tag, st, if st = 0 then p.data else []) })

/-- The packet of a response (R255, R260): on VC1, by the responder's own entry for the requester. -/
def Dev.responsePacket (d : Dev) (a : Answer) : Packet :=
  { route := routeWord (d.entry a.target a.dst) 1, kind := a.kind, status := a.status, len := a.data.length, src := a.dst
    dst := a.dst, tag := a.tag, addr := a.addr, data := a.data }

/-- A response leaves its target's NI; one that meets a failed link, or is lost, never arrives. -/
def Dev.takeAnswer (d : Dev) (dst kind : Nat) (tag : Byte) (m : Sys2Proof.Mishap) : Dev :=
  match d.answerFor dst kind tag with
  | none => d
  | some a =>
    let p := d.responsePacket a
    let d1 : Dev := { d with ring := { d.ring with answers := d.ring.answers.erase a } }
    let d2 :=
      if m = .lost ∨ d1.pathCut a.target dst then d1
      else d1.carry p a.target .response m (fun d => d.takeResponse p (decide (m = .poison)))
    ((d2.settleNi dst).settleNi a.target).pump dst

/-- No response within 64 µs (R269). -/
def Dev.transTimeout (d : Dev) (src : Nat) (tag : Byte) : Dev :=
  match (d.niRec src).trans.find? (fun t => t.tag == tag) with
  | none => d
  | some t =>
    match d.due ((t.sent + usToTc 64) % airWrap) with
    | none => d
    | some d1 =>
      ((d1.updNi src (fun n => { n with trans := n.trans.filter (fun t => t.tag != tag)
                                        last := some (tag, rsTimeout, []) })).settleNi src).pump src

/-- 20 µs after entry to CLOSING (R277): accepted requests still unanswered get STOPPED, the unit's tags are freed. -/
def Dev.closingTimeout (d : Dev) (k : Nat) : Dev :=
  if (d.niRec k).shell ≠ .closing then d
  else
    let d1 : Dev := { d with ring := { d.ring with answers := d.ring.answers.map (fun a =>
      if a.target = k then { a with status := rsStopped, data := [] } else a) } }
    d1.updNi k (fun n => { n with shell := .closed, trans := [], held := [] })

/-! ### Links -/

/-- The direction, pair and lane of a link as a HEALTH event names them (Table 20.9; log entry 39). -/
def linkDomain (l : Sys2Proof.LinkId) : Nat := boolNat l.dir + 2 * l.pair + 8 * boolNat l.lane

/-- The number of a link in the health records. -/
def linkNo (l : Sys2Proof.LinkId) : Nat := (32 * l.ring + l.junction) * 16 + linkDomain l

/-- Whether a ring has a link at a place (R249). -/
def linkExists (p : Part) (l : Sys2Proof.LinkId) : Bool :=
  if l.ring = 8 then decide (l.junction < 32 ∧ l.pair < 4) && !l.lane
  else decide (l.ring < clusters p ∧ l.junction < 24) && l.pair == 0

/-- A flit fails its CRC (R270): a replay, charged to the link's bucket; the third failure of one flit fails the link. -/
def Dev.flitError (d : Dev) (l : Sys2Proof.LinkId) (again : Bool) : Dev :=
  let old : LinkRec := (d.ring.links.find? (fun r => r.link == l)).getD { link := l }
  if old.failed ∨ old.removed then d
  else
    let run := if again then old.run + 1 else 1
    let now : LinkRec := { old with run := run, replays := old.replays + 1, failed := decide (3 ≤ run) }
    let level := (((d.health.links.find? (fun x => x.1 == linkNo l)).map (fun x => x.2)).getD 0) + 1
    let d1 : Dev :=
      { d with ring := { d.ring with links := now :: d.ring.links.filter (fun r => r.link != l)
                                     failedAt := if 3 ≤ run ∧ d.ring.works.isSome then some d.time.air else d.ring.failedAt }
               health := { d.health with links := (linkNo l, Nat.min 65535 level) :: d.health.links.filter (fun x => x.1 != linkNo l) } }
    d1.healthEvent { hkind := 0x0012, action := 1, cls := 0x10, slot := l.junction, domain := linkDomain l, level := level }

/-- Links leave use (R270, R492). -/
def Dev.removeLinks (d : Dev) (ls : List Sys2Proof.LinkId) : Dev :=
  ls.foldl (fun d l =>
    let old : LinkRec := (d.ring.links.find? (fun r => r.link == l)).getD { link := l }
    let d1 : Dev := { d with ring := { d.ring with links := { old with removed := true } :: d.ring.links.filter (fun r => r.link != l) }
                             health := { d.health with removed := insertNat (linkNo l) d.health.removed } }
    if old.failed then
      d1.healthEvent { hkind := 0x0013, action := 9, cls := 0x10, slot := l.junction, domain := linkDomain l }
    else d1) d

/-- Links come back into use, but one that has failed or filled its bucket stays out (R492). -/
def Dev.addLinks (d : Dev) (ls : List Sys2Proof.LinkId) : Dev :=
  { d with ring := { d.ring with links := d.ring.links.map (fun r =>
      if ls.contains r.link ∧ !r.failed then { r with removed := false } else r) } }

/-! ### Roadworks -/

/-- An entry with a new generation (R273): GEN + 1, wrapping 255 to 0. -/
def withGen (old new : DWord) : DWord :=
  BitVec.ofNat 64 (new.toNat / 65536 * 65536 + (bitsAt old.toNat 8 8 + 1) % 256 * 256 + new.toNat % 256)

/-- RW1 and RW2 (R272, R273): one roadworks at a time; every affected NI stores its new entries. -/
def Dev.worksStart (d : Dev) (ring junction : Nat) (changes : List (Nat × List (Nat × DWord)))
    (adds removes : List Sys2Proof.LinkId) : Dev :=
  if d.ring.works.isSome then d
  else
    let d1 := changes.foldl (fun d c =>
      d.updNi c.1 (fun n => { n with newItin := c.2.map (fun e => (e.1, withGen (d.entry c.1 e.1) e.2)) })) d
    let entries := (changes.map (fun c => c.2.length)).sum
    let w : Roadworks :=
      { ring := ring
        junction := junction
        nis := changes.map (fun c => c.1)
        expected := 2 * entries
        expected1 := entries
        drained := entries == 0
        removes := removes
        adds := adds }
    let d2 : Dev := { d1 with ring := { d1.ring with works := some w, failedAt := none } }
    if entries = 0 then d2.addLinks adds else d2

/-- The roadworks ends: the removals it still makes. -/
def Dev.worksEnd (d : Dev) (removes : List Sys2Proof.LinkId) : Dev :=
  ({ d with ring := { d.ring with works := none, failedAt := none } } : Dev).removeLinks removes

/-- A mark passes the junction (R273, RW3, RW4, RW6). -/
def Dev.markPasses (d : Dev) (vc1 : Bool) : Dev :=
  match d.ring.works with
  | none => d
  | some w =>
    if vc1 then
      if !w.committed ∨ w.expected1 ≤ w.counted1 then d
      else if w.counted1 + 1 = w.expected1 then d.worksEnd w.removes
      else { d with ring := { d.ring with works := some { w with counted1 := w.counted1 + 1 } } }
    else if w.expected ≤ w.counted then d
    else
      let full := decide (w.counted + 1 = w.expected)
      let d1 : Dev := { d with ring := { d.ring with works := some { w with counted := w.counted + 1, drained := full } } }
      if full then d1.addLinks w.adds else d1

/-- The affected NIs switch their entries and release held requests (RW5). -/
def Dev.switchEntries (d : Dev) (nis : List Nat) : Dev :=
  let d1 := nis.foldl (fun d k => d.updNi k (fun n =>
    { n with itin := n.newItin ++ n.itin.filter (fun e => !(n.newItin.any (fun x => x.1 == e.1))), newItin := [] })) d
  nis.foldl Dev.pump d1

/-- RW5: commit, after DRAINED. -/
def Dev.worksCommit (d : Dev) : Dev :=
  match d.ring.works with
  | none => d
  | some w =>
    if !w.drained ∨ w.committed then d
    else
      let d1 : Dev := { d with ring := { d.ring with works := some { w with committed := true } } }
      let d2 := d1.switchEntries w.nis
      if w.expected1 = 0 then d2.worksEnd w.removes else d2

/-- 10 µs after a link failed during the roadworks (R274): it is completed; of its removals only the failed link's. -/
def Dev.worksTimeout (d : Dev) : Dev :=
  match d.ring.works, d.ring.failedAt with
  | some w, some at_ =>
    match d.due ((at_ + usToTc 10) % airWrap) with
    | none => d
    | some d1 =>
      let d2 := if w.committed then d1 else (d1.addLinks w.adds).switchEntries w.nis
      let bad := ((d2.ring.links.filter (fun r => r.failed && !r.removed)).map (fun r => r.link))
      let d3 : Dev := { d2 with ring := { d2.ring with works := none, failedAt := none } }
      (d3.removeLinks bad)
  | _, _ => d

/-! ### Maintenance -/

/-- What a maintenance read answers (R255). -/
def Dev.maintRead (d : Dev) (ni : Nat) (r : Sys2Proof.MaintReg) : List Byte :=
  match r with
  | .entry dst => bytesOf 8 (d.entry ni dst.val).toNat
  | .shell => bytesOf 8 (Sys2Proof.Config.maintWord (ni + 256)).toNat
  | .junction ring j => bytesOf 8 (Sys2Proof.Config.maintWord (512 + 32 * ring.val + j.val)).toNat
  | .channel n => if 216 ≤ ni ∧ ni < 224 then bytesOf 8 (d.dmaChan (ni - 216) n.val).ctl else bytesOf 8 0

/-- A maintenance write (R261, R280): of entries no effect, for after the start they change only under roadworks; shells and
junctions by the rows of power domains and roadworks; and the assignment of a DMA channel that is idle and not halted. The value
gives the assignment: CHCTL's OWNER, PRIO and BURST in [31:0], the region in 4 KiB units in [47:32], in [56] and [55:48] the
port the channel is bound to, and the rate cap in [63:57] (log entry 37). Regions of more than 2 MiB together are not assigned. -/
def Dev.maintWrite (d : Dev) (ni : Nat) (r : Sys2Proof.MaintReg) (v : DWord) : Dev :=
  let x := v.toNat
  match r with
  | .channel n =>
    let others := ((List.range 64).map (fun k => if k = n.val then 0 else (d.dmaChan (ni - 216) k).region)).sum
    if ni < 216 ∨ 224 ≤ ni ∨ !(d.dmaChan (ni - 216) n.val).idle ∨ n.val = 319 ∨ (n.val < 64 ∧ 512 < others + bitsAt x 32 16) then d
    else d.updDma (ni - 216) n.val (fun c =>
      { c with assigned := true, owner := bitsAt x 16 8, prio := if n.val < 64 then 0 else bitsAt x 8 3
               burst := bitsAt x 11 2, region := if n.val < 64 then bitsAt x 32 16 else 0
               rateCap := if n.val < 64 then bitsAt x 57 7 else 0
               bound := if bitAt x 56 ∧ n.val < 64 then some (bitsAt x 48 8) else none })
  | _ => d

/-- A maintenance packet arrives. -/
def Dev.takeMaint (d : Dev) (p : Packet) (poison : Bool) (r : Sys2Proof.MaintReg) (w : Option DWord) : Dev :=
  if poison then d.answer p rsLink []
  else match w with
    | some v => (d.maintWrite p.dst r v).answer p 0 []
    | none => d.answer p 0 (d.maintRead p.dst r)

/-- A maintenance packet of a control core (R255, R260): only the control complex sends them, on VC3. -/
def Dev.maint (d : Dev) (src ni : Nat) (r : Sys2Proof.MaintReg) (w : Option DWord) (m : Sys2Proof.Mishap) : Dev :=
  let n := d.niRec src
  if !isControl src ∨ n.shell ≠ .open_ ∨ !n.canSend (if w.isSome then 5 else 4) 8 then d
  else
    let kind := if w.isSome then 5 else 4
    let p : Packet :=
      { route := routeWord (d.entry src ni) 3, kind := kind, len := 8, src := src, dst := ni, tag := n.freeTag, addr := 0
        data := (w.map (fun v => bytesOf 8 v.toNat)).getD [] }
    let t : Trans := ⟨p.tag, BitVec.ofNat 8 kind, BitVec.ofNat 8 ni, 8, 0, d.time.air⟩
    let d1 := d.updNi src (fun n => { n with trans := n.trans ++ [t] })
    if m = .lost ∨ d.pathCut src ni then d1
    else d1.carry p src (.maint r w) m (fun d => d.takeMaint p (decide (m = .poison)) r w)

/-! ### Flit times -/

/-- A packet that the rings have carried arrives. -/
def Dev.arrive (d : Dev) (w : Worm) : Dev :=
  let p := w.pkt
  let d1 : Dev := { d with ring := { d.ring with last := some p } }
  match w.cargo with
  | .request ecc => d1.takeRequest p w.poison ecc
  | .maint r v => d1.takeMaint p w.poison r v
  | .response => (((d1.takeResponse p w.poison).settleNi p.dst).settleNi w.from_).pump p.dst

/-- One flit time of Ringroad (R262 to R264). -/
def Dev.flitTime (d : Dev) : Dev :=
  let x := d.ring.net.flitTime d.badLinks
  x.2.foldl Dev.arrive { d with ring := { d.ring with net := x.1 } }

/-- What happens while no command waits: one flit time passes for the packets on the rings; without any the block idles (log
entries 2, 80). -/
def State.idle (s : State) : State :=
  if s.dev.ring.net.worms.isEmpty || !s.dev.up || s.dev.mode.mode == 9 then s
  else { s with dev := s.dev.flitTime.startTests }

/-! ### Scrub -/

/-- SCRUB (R307): a scrub read of one code word; suspended while the store's domain is not in Run. -/
def Dev.scrub (d : Dev) (a : Nat) (e : Sys2Proof.EccHit) : Dev :=
  match storeUnit a with
  | none => d
  | some (c, s) =>
    if !d.present c s || !(d.domRun (unitDomain c s)) then d
    else
      let w := codeWordOf a
      match e with
      | .none | .refused => d
      | .corrected _ => d.eccCorrected w
      | .uncorrectable _ => ({ d with mem := d.mem.markPoison w } : Dev).eccUncorrectable w

/-! ### Rows -/

/-- A row of Ringroad: PD.FAB is powered and the shells are loaded (R253, R261). -/
def State.onRing (s : State) (f : Dev → Dev) : Host.Outcome State Fault Refusal :=
  s.on (fun d => if d.up && d.mode.mode != 9 then f d else d)

/-- RD (R255, R266, R306). -/
def execRd (src : Fin 256) (addr : DWord) (len : Half) (dl : Bool) (mishap : Sys2Proof.Mishap) (ecc : Sys2Proof.EccHit)
    (s : State) : Host.Outcome State Fault Refusal :=
  s.onRing (fun d => (d.askNet src.val 1 0 addr len.toNat dl [] mishap ecc).startTests)

/-- WR (R255, R287, R306). -/
def execWr (src : Fin 256) (addr : DWord) (data : List Byte) (dl : Bool) (mishap : Sys2Proof.Mishap) (ecc : Sys2Proof.EccHit)
    (s : State) : Host.Outcome State Fault Refusal :=
  s.onRing (fun d => (d.askNet src.val 2 0 addr data.length dl data mishap ecc).startTests)

/-- MSG_PACKET (R268). -/
def execMsgPacket (src dst : Fin 256) (data : List Byte) (dl : Bool) (mishap : Sys2Proof.Mishap) (s : State) :
    Host.Outcome State Fault Refusal :=
  s.onRing (fun d => d.askNet src.val 3 dst.val 0 32 dl (padTo 32 data) mishap .none)

/-- MAINT_RD (R255). -/
def execMaintRd (src ni : Fin 256) (reg : Sys2Proof.MaintReg) (mishap : Sys2Proof.Mishap) (s : State) :
    Host.Outcome State Fault Refusal :=
  s.onRing (fun d => d.maint src.val ni.val reg none mishap)

/-- MAINT_WR (R255). -/
def execMaintWr (src ni : Fin 256) (reg : Sys2Proof.MaintReg) (value : DWord) (mishap : Sys2Proof.Mishap) (s : State) :
    Host.Outcome State Fault Refusal :=
  s.onRing (fun d => d.maint src.val ni.val reg (some value) mishap)

/-- MARK (R273): on VC1, or on VC0 or VC2. -/
def execMark (vc1 : Bool) (s : State) : Host.Outcome State Fault Refusal := s.onRing (fun d => d.markPasses vc1)

/-- RD_RSP (R267). -/
def execRdRsp (dst : Fin 256) (tag : Byte) (mishap : Sys2Proof.Mishap) (s : State) : Host.Outcome State Fault Refusal :=
  s.onRing (fun d => d.takeAnswer dst.val 0x81 tag mishap)

/-- WR_RSP (R267). -/
def execWrRsp (dst : Fin 256) (tag : Byte) (mishap : Sys2Proof.Mishap) (s : State) : Host.Outcome State Fault Refusal :=
  s.onRing (fun d => d.takeAnswer dst.val 0x82 tag mishap)

/-- MSG_RSP (R268). -/
def execMsgRsp (dst : Fin 256) (tag : Byte) (mishap : Sys2Proof.Mishap) (s : State) : Host.Outcome State Fault Refusal :=
  s.onRing (fun d => d.takeAnswer dst.val 0x83 tag mishap)

/-- MAINT_RD_RSP (R255). -/
def execMaintRdRsp (dst : Fin 256) (tag : Byte) (mishap : Sys2Proof.Mishap) (s : State) : Host.Outcome State Fault Refusal :=
  s.onRing (fun d => d.takeAnswer dst.val 0x84 tag mishap)

/-- MAINT_WR_RSP (R255). -/
def execMaintWrRsp (dst : Fin 256) (tag : Byte) (mishap : Sys2Proof.Mishap) (s : State) : Host.Outcome State Fault Refusal :=
  s.onRing (fun d => d.takeAnswer dst.val 0x85 tag mishap)

/-- TRANSACTION_TIMEOUT (R269). -/
def execTransactionTimeout (src : Fin 256) (tag : Byte) (s : State) : Host.Outcome State Fault Refusal :=
  s.onRing (fun d => d.transTimeout src.val tag)

/-- FLIT_CRC_ERROR (R254, R270): a flit as a junction receives it over a link; one whose CRC is right is no error. -/
def execFlitCrcError (link : Sys2Proof.LinkId) (f : Sys2Proof.RxFlit) (s : State) : Host.Outcome State Fault Refusal :=
  s.onRing (fun d => if linkExists d.part link && !flitGood link.ring f then d.flitError link f.again else d)

/-- ROADWORKS_START (R272, R273): the junction, the new entries of each affected NI, the links added and removed. -/
def execRoadworksStart (ring : Fin 9) (junction : Fin 32) (changes : List (Nat × List (Nat × DWord)))
    (adds removes : List Sys2Proof.LinkId) (s : State) : Host.Outcome State Fault Refusal :=
  s.onRing (fun d => d.worksStart ring.val junction.val changes adds removes)

/-- ROADWORKS_COMMIT (R273). -/
def execRoadworksCommit (s : State) : Host.Outcome State Fault Refusal := s.onRing Dev.worksCommit

/-- ROADWORKS_TIMEOUT (R274). -/
def execRoadworksTimeout (s : State) : Host.Outcome State Fault Refusal := s.onRing Dev.worksTimeout

/-- CLOSING_TIMEOUT (R277). -/
def execClosingTimeout (ni : Fin 256) (s : State) : Host.Outcome State Fault Refusal :=
  s.onRing (fun d => d.closingTimeout ni.val)

/-- SCRUB (R307). -/
def execScrub (addr : DWord) (ecc : Sys2Proof.EccHit) (s : State) : Host.Outcome State Fault Refusal :=
  s.onRing (fun d => (d.scrub addr.toNat ecc).startTests)

end Sys2Proof.Machine
end

