-- ==== Sys2Proof/Machine/Bursts.lean ====
section
/-! DEFINITION. GSM/EDGE bursts: their symbols and training sequences (TS 45.002 §5.2; PRESUMED, log entry 48), and the samples of
their modulation (TS 45.004 §2, §3; 08_transmit_chain.md, R207, R208). -/

namespace Sys2Proof.Machine

/-! ### Symbols -/

/-- `n` bits of a number, the highest first. -/
def bitsDown (n x : Nat) : List Bool := (List.range n).map (fun i => bitAt x (n - 1 - i))

/-- The 26 bits of a training sequence; sets 2 to 4 stay free. -/
def trainBits (psk : Bool) (set tsc : Nat) : List Bool :=
  if set = 0 then
    bitsDown 26 ([0x970897, 0xb778b7, 0x10ee90e, 0x11ed11e, 0x6b906b, 0x13ac13a, 0x29f629f, 0x3bc4bbc].getD tsc 0)
  else (List.range 26).map (Sys2Proof.Config.training psk set tsc)

/-- The 41 bits of a synchronisation sequence of an access burst. -/
def syncBits (n : Nat) : List Bool := bitsDown 41 ([0x96ff335478, 0xa9f10c5e4d, 0x1de4eac1b77].getD n 0)

/-- The 142 bits of the dummy burst between its tails. -/
def dummyBits : List Bool := bitsDown 142 0x3edd8293824407c7171715d28cce7a7c4bea

/-- A symbol as eighths of a turn: a GMSK bit 0 or 4. -/
def gmskSymbol (b : Bool) : Nat := 4 * boolNat b

/-- The Gray map (TS 45.004 §3.2): the symbol of three bits, the first bit first. -/
def pskSymbol (b0 b1 b2 : Bool) : Nat :=
  [3, 4, 2, 1, 6, 5, 7, 0].getD (4 * boolNat b0 + 2 * boolNat b1 + boolNat b2) 0

/-- The bits of a symbol: its own three, or the one of GMSK. -/
def symbolBits (psk : Bool) (l : Nat) : List Bool :=
  if psk then bitsDown 3 ([7, 3, 2, 0, 1, 5, 4, 6].getD l 0) else [l == 4]

/-- The training symbols: 8-PSK sends a 0 as 111 and a 1 as 001, which are half a turn apart. -/
def trainSymbols (bits : List Bool) : List Nat := bits.map gmskSymbol

/-- 8-PSK symbols of bits, three by three. -/
def pskSymbols (bits : List Bool) : List Nat :=
  let a := bits.toArray
  (List.range (bits.length / 3)).map (fun i => pskSymbol (a.getD (3 * i) false) (a.getD (3 * i + 1) false) (a.getD (3 * i + 2) false))

/-- The 148 symbols of a normal burst: tail, data, training, data, tail. -/
def normalBurst (psk : Bool) (set tsc : Nat) (data : List Bool) : List Nat :=
  let tail := List.replicate 3 0
  let mid := trainSymbols (trainBits psk set tsc)
  let half := if psk then 174 else 58
  let of := fun (bits : List Bool) => if psk then pskSymbols bits else bits.map gmskSymbol
  tail ++ of (data.take half) ++ mid ++ of ((data.drop half).take half) ++ tail

/-- The 148 symbols of the dummy burst. -/
def dummyBurst : List Nat := List.replicate 3 0 ++ dummyBits.map gmskSymbol ++ List.replicate 3 0

/-! ### Modulation at two samples a symbol (R207) -/

/-- The phase pulse of GMSK (BT = 0.3, four symbols) at half symbols, in 2^-24 turn. -/
def gmskPulse (i : Int) : Int :=
  [0, 7369, 118959, 731425, 2097152, 3462879, 4075345, 4186935, 4194304].getD (clampInt 0 8 i).toNat 0

/-- The linearised pulse of 8-PSK (five symbols) at half symbols, for an rms amplitude of 0.5, in 2^-20. -/
def pskPulse (i : Int) : Int :=
  if i < 0 then 0 else [0, 377, 16522, 136775, 370651, 486805, 370696, 136839, 16570, 394, 2].getD i.toNat 0

/-- The symbol at a place: outside the burst, GMSK carries bits 1, 8-PSK the symbol 111 (R208, TS 45.004 §2.3). -/
def symbolAt (psk : Bool) (syms : Array Nat) (i : Int) : Nat :=
  if 0 ≤ i ∧ i < syms.size then syms.getD i.toNat 0 else if psk then 0 else 4

/-- Sample `j` of the modulated symbols, its parts in 2^-84; sample 2i lies at the centre of symbol i. The first phase of a GMSK
burst is free. -/
def burstSample (psk : Bool) (first : Nat) (syms : Array Nat) (j : Nat) : Int × Int :=
  if psk then
    cTotal ((List.range 6).map (fun k =>
      let i : Int := ((j : Int) + 5) / 2 - (k : Int)
      let c := pskPulse ((j : Int) - 2 * i + 5)
      let t := trigSeries (twoPi64 * ((2 * (symbolAt true syms i : Nat) + 3 * i) % 16) / 16)
      (c * t.1, c * t.2)))
  else
    let turn := (List.range (j / 2 + 5)).foldl (fun (acc : Int) k =>
      let i : Int := (k : Int) - 2
      let a : Int := if symbolAt false syms i = symbolAt false syms (i - 1) then 1 else -1
      acc + a * gmskPulse ((j : Int) - 2 * i + 4)) (first : Int)
    let t := trigSeries (twoPi64 * (turn % 2 ^ 24) / 2 ^ 24)
    (t.1 * 2 ^ 19, t.2 * 2 ^ 19)

/-- A sample times an envelope in Q15, rounded once (R127). -/
def envSample (x : Int × Int) (env : Nat) : Int × Int :=
  (roundPart 16 (x.1 * env) 84, roundPart 16 (x.2 * env) 84)

/-- The gain of an attenuation in half decibels: 10^(-n/40) in Q15, rounded half up and held at the top code (R207). -/
def burstGain (n : Nat) : Nat :=
  Nat.min 32767 ((List.range 16).foldl (fun (g : Nat) i =>
    let c := g + 2 ^ (15 - i)
    if (2 * c - 1) ^ 40 * 10 ^ n ≤ 2 ^ 640 then c else g) 0)

/-- The raised cosine of a ramp in Q15, rounded half up and held at the top code (R206): sample k of `n`. -/
def raisedCosine (n k : Nat) : Nat :=
  let c := (trigSeries (twoPi64 * (2 * k + 1 : Nat) / (4 * (n : Nat) : Int))).1
  Nat.min 32767 (rhuShift (2 ^ 64 - c) 50).toNat

end Sys2Proof.Machine
end

