-- ==== Sys2Proof/Machine/Mlse.lean ====
section
/-! DEFINITION. What an MLSE job computes: search, channel estimate, trellis and soft output (07_trellis_engine.md, R186 to R189). Values
are exact where the spec names no format (DEDUCED, log entry 46). -/

namespace Sys2Proof.Machine

/-- A burst as the engine looks for it: its modulation, symbols, training and data. -/
structure BurstForm where
  psk : Bool
  /-- Symbols in the burst. -/
  nsym : Nat
  /-- Place of the first training symbol. -/
  first : Nat
  train : List Nat
  /-- Places of the data symbols, in transmitted order. -/
  data : List Nat
deriving DecidableEq, Repr

/-- A normal burst, or an access burst (R186). -/
def burstForm (psk access : Bool) (set tsc : Nat) : BurstForm :=
  if access then
    { psk := false, nsym := 88, first := 8, train := trainSymbols (syncBits tsc), data := (List.range 36).map (fun i => 49 + i) }
  else
    { psk := psk, nsym := 148, first := 61, train := trainSymbols (trainBits psk set tsc)
      data := (List.range 58).map (fun i => 3 + i) ++ (List.range 58).map (fun i => 87 + i) }

/-- The rotation of a symbol: π/2 or 3π/8 a symbol (R186). -/
def BurstForm.turn (f : BurstForm) (i : Nat) : Phase := if f.psk then ⟨3 * i % 16, 16⟩ else ⟨i % 4, 4⟩

/-- The phase of a symbol. -/
def symbolPhase (l : Nat) : Phase := ⟨l % 8, 8⟩

/-- The samples of an antenna by place, 0 outside the block (R186). -/
def sampleOf (xs : Array Dyad) (n : Int) : Dyad := if 0 ≤ n then xs.getD n.toNat dyZero else dyZero

/-! ### Search (R187, step 1) -/

/-- The correlation of the training sequence with an antenna's samples, `n` half symbols after its nominal place. -/
def BurstForm.corr (f : BurstForm) (xs : Array Dyad) (n : Int) : Dyad :=
  dySum (f.train.zipIdx.map (fun s =>
    ((sampleOf xs (2 * ((f.first + s.2 : Nat) : Int) + n)).turn (f.turn (f.first + s.2)).neg).turn (symbolPhase s.1).neg))

/-- The energy of the window of taps that begins at offset `o`: over antennas, taps and both sampling phases. -/
def BurstForm.energy (f : BurstForm) (ants : List (Array Dyad)) (taps : Nat) (o : Int) : Dyad :=
  dySum (ants.flatMap (fun xs => (List.range (2 * taps)).map (fun k => (f.corr xs (o + (k : Int))).abs2)))

/-- The offsets in half symbols. -/
def offsets (win : Nat) : List Int := (List.range (4 * win + 1)).map (fun i => (i : Int) - 2 * (win : Int))

/-- The offset with the most energy, the lowest of equal ones, and its energy. -/
def BurstForm.search (f : BurstForm) (ants : List (Array Dyad)) (taps win : Nat) : Int × Dyad :=
  (offsets win).foldl (fun (best : Int × Dyad) o =>
    let e := f.energy ants taps o
    if best.2.lt e then (o, e) else best) (-2 * (win : Int), f.energy ants taps (-2 * (win : Int)))

/-- The offset in quarter symbols: the parabola through its energy and those of its neighbours, rounded half up, within half a half
symbol of the offset. -/
def BurstForm.toa (f : BurstForm) (ants : List (Array Dyad)) (taps : Nat) (o : Int) (e : Dyad) : Int :=
  let lo := f.energy ants taps (o - 1)
  let hi := f.energy ants taps (o + 1)
  let num := lo.add hi.neg
  let den := (lo.add hi).add (e.add e).neg
  -- 2 o + num / den, both real
  let u := min num.u den.u
  let a := (num.parts u).1
  let b := (den.parts u).1
  2 * o + (if b = 0 then 0 else clampInt (-1) 1 ((2 * a + b) / (2 * b)))

/-- Whether every sample that the search touches is 0 (R187). -/
def BurstForm.silent (f : BurstForm) (ants : List (Array Dyad)) (taps win : Nat) : Bool :=
  ants.all (fun xs => (List.range (2 * f.train.length + 4 * win + 2 * taps)).all (fun i =>
    let x := sampleOf xs (2 * (f.first : Int) - 2 * (win : Int) + (i : Int))
    x.re == 0 && x.im == 0))

/-! ### Channel (R187, steps 2 and 3) -/

/-- A branch: its derotated samples by symbol, its taps, and its noise variance. -/
structure BurstBranch where
  rx : Array Dyad
  taps : List Dyad
  noise : Dyad
deriving DecidableEq, Repr

/-- The sum of taps times symbols, the newest symbol first. -/
def tapSum (taps : List Dyad) (syms : List Nat) : Dyad := dySum ((taps.zip syms).map (fun x => x.1.turn (symbolPhase x.2)))

/-- A branch estimated at an offset: least squares over the training symbols whose past is training too, solved with 64-bit values, and
the mean residual with its floor. -/
def BurstForm.branch (f : BurstForm) (xs : Array Dyad) (taps : Nat) (o : Int) : BurstBranch :=
  let rx := ((List.range f.nsym).map (fun (i : Nat) => (sampleOf xs (2 * (i : Int) + o)).turn (f.turn i).neg)).toArray
  let past := fun (i : Nat) => (List.range taps).map (fun k => f.train.getD (i - k) 0)
  let eqs := (List.range (f.train.length + 1 - taps)).map (fun i => (rx.getD (f.first + taps - 1 + i) dyZero, past (taps - 1 + i)))
  let unit := fun (l : Nat) => dyOne.turn (symbolPhase l)
  let gram := (List.range taps).map (fun a => (List.range (a + 1)).map (fun c =>
    dySum (eqs.map (fun e => ((unit (e.2.getD a 0)).conj).mul (unit (e.2.getD c 0))))))
  let rhs := (List.range taps).map (fun a => dySum (eqs.map (fun e => ((unit (e.2.getD a 0)).conj).mul e.1)))
  let fit := fitDyads 64
  let h := (ldlFactor fit taps gram).solve fit taps rhs
  let var := (dySum (eqs.map (fun e => (e.1.add (tapSum h e.2).neg).abs2))).per eqs.length
  let low : Dyad := ⟨1, 0, -30⟩
  { rx := rx, taps := h, noise := if var.lt low then low else (fit [var]).headD low }

/-- The branches of a burst: each antenna's two sampling phases. -/
def BurstForm.branches (f : BurstForm) (ants : List (Array Dyad)) (taps : Nat) (o : Int) : List BurstBranch :=
  ants.flatMap (fun xs => [f.branch xs taps o, f.branch xs taps (o + 1)])

/-! ### Trellis (R188) -/

/-- The symbols of a modulation. -/
def BurstForm.alphabet (f : BurstForm) : List Nat := if f.psk then List.range 8 else [0, 4]

/-- Symbols that a state holds. -/
def BurstForm.memory (f : BurstForm) (taps : Nat) : Nat := if f.psk then 1 else taps - 1

/-- The largest sequence metric. -/
def mlseTop : Nat := 2 ^ 20 - 1

/-- The symbols of a state, the newest first: digit 0 of its number. -/
def BurstForm.held (f : BurstForm) (m s : Nat) : List Nat :=
  let q := f.alphabet.length
  (List.range m).map (fun k => f.alphabet.getD (s / q ^ k % q) 0)

/-- The metric of a branch of the trellis at symbol `i`: the new symbol, those of its state, then its survivor's. -/
def mlseCost (bs : List BurstBranch) (i : Nat) (syms : List Nat) : Nat :=
  let total := dySum (bs.map (fun b => ((b.rx.getD i dyZero).add (tapSum b.taps syms).neg).abs2.over b.noise))
  (rhuInt total.re (-(Sys2Proof.Config.mlseUnit : Int) - total.u)).toNat

/-- Metrics with the smallest subtracted, those still too large saturated. -/
def levelled (ms : List Nat) : List Nat :=
  let low := ms.foldl Nat.min (ms.headD 0)
  ms.map (fun m => Nat.min mlseTop (m - low))

/-- What the forward pass leaves of a symbol: the metrics before it, and the costs of its branches by state and symbol. -/
structure MlseStage where
  before : List Nat
  cost : List (List Nat)
deriving DecidableEq, Repr

/-- The next state. -/
def mlseNext (q m s c : Nat) : Nat := (q * s + c) % q ^ m

/-- The forward pass: the metrics, each state's survivor (newest symbol first), and the stages in reverse. -/
def BurstForm.forward (f : BurstForm) (bs : List BurstBranch) (taps : Nat) : List Nat × List MlseStage :=
  let m := f.memory taps
  let q := f.alphabet.length
  let states := List.range (q ^ m)
  let run := (List.range f.nsym).foldl (fun (acc : List Nat × List (List Nat) × List MlseStage) i =>
    let cost := states.map (fun s => f.alphabet.map (fun c =>
      mlseCost bs i ([c] ++ f.held m s ++ ((acc.2.1.getD s []).drop m).take taps)))
    let best := states.map (fun t =>
      let ways := states.flatMap (fun s => (List.range q).filterMap (fun c =>
        if mlseNext q m s c = t then some (acc.1.getD s 0 + (cost.getD s []).getD c 0, s, c) else none))
      ways.foldl (fun (x : Nat × Nat × Nat) w => if w.1 < x.1 then w else x) (ways.headD (0, 0, 0)))
    (levelled (best.map (fun w => w.1)),
      best.map (fun w => (f.alphabet.getD w.2.2 0 :: acc.2.1.getD w.2.1 []).take 5),
      { before := acc.1, cost := cost } :: acc.2.2)) (states.map (fun _ => 0), states.map (fun s => f.held m s), [])
  (run.1, run.2.2)

/-- The L values of every symbol, bit by bit, in the metrics' unit: forward, branch and backward metric, the smallest with the bit at 1
less the smallest with it at 0. -/
def BurstForm.soft (f : BurstForm) (bs : List BurstBranch) (taps : Nat) : List (List Int) :=
  let m := f.memory taps
  let q := f.alphabet.length
  let states := List.range (q ^ m)
  let nbits := if f.psk then 3 else 1
  (((f.forward bs taps).2).foldl (fun (acc : List Nat × List (List Int)) st =>
    let onward := fun (s c : Nat) => (st.cost.getD s []).getD c 0 + acc.1.getD (mlseNext q m s c) 0
    let least := fun (k : Nat) (v : Bool) =>
      let ways := states.flatMap (fun s => (List.range q).filterMap (fun c =>
        if (symbolBits f.psk (f.alphabet.getD c 0)).getD k false = v then some (st.before.getD s 0 + onward s c) else none))
      ways.foldl Nat.min (ways.headD 0)
    (levelled (states.map (fun s => let ways := (List.range q).map (onward s); ways.foldl Nat.min (ways.headD 0))),
      (List.range nbits).map (fun k => (least k true : Int) - (least k false : Int)) :: acc.2))
    (states.map (fun _ => 0), [])).2

/-- A value as the job writes it: sign and magnitude times 2^LLR_SHIFT, rounded down and held at 127; and whether it was held. -/
def mlseLlr (shift : Int) (x : Int) : Int × Bool :=
  let q := shiftRightInt (x.natAbs : Int) ((Sys2Proof.Config.mlseUnit : Int) - shift)
  ((if x < 0 then -1 else 1) * min 127 q, decide (127 < q))

/-- What a job finds in a burst. -/
structure MlseFound where
  psk : Bool
  nosig : Bool
  toa : Int
  llrs : List (Int × Bool)
deriving DecidableEq, Repr

/-- The antennas' samples with their exponents. -/
def antSamples (bs : List Byte) (n : Nat) (e : Int) : Array Dyad :=
  let a := bs.toArray
  let part := fun (i : Nat) => signedOf 16 ((a.getD i 0).toNat + 256 * (a.getD (i + 1) 0).toNat)
  ((List.range n).map (fun i => (⟨part (4 * i), part (4 * i + 2), e - 15⟩ : Dyad))).toArray

/-- A burst equalised (R186 to R189); under BLIND the modulation whose training correlation is larger, that of MODE where they are
equal. -/
def mlseBurst (psk access blind : Bool) (set tsc taps win : Nat) (shift : Int) (ants : List (Array Dyad)) : MlseFound :=
  let found := fun (p : Bool) => (burstForm p access set tsc).search ants taps win
  let mod8 := if blind then
      let g := (found false).2
      let e := (found true).2
      if g.lt e then true else if e.lt g then false else psk
    else psk
  let f := burstForm mod8 access set tsc
  let nosig := f.silent ants taps win
  let o := found mod8
  let bits := f.data.length * (if mod8 then 3 else 1)
  { psk := mod8
    nosig := nosig
    toa := f.toa ants taps o.1 o.2
    llrs := if nosig then List.replicate bits (0, false)
      else
        let soft := (f.soft (f.branches ants taps o.1) taps).toArray
        f.data.flatMap (fun i => (soft.getD i []).map (mlseLlr shift)) }

end Sys2Proof.Machine
end

