-- ==== Sys2Proof/Machine/Turbo.lean ====
section
/-! DEFINITION. The turbo code of TS 36.212 §5.1.3.2, its encoder and the iterations of its decoder (07_trellis_engine.md, R182;
08_transmit_chain.md, R204; the standard's formulas PRESUMED, log entry 43). -/

namespace Sys2Proof.Machine

/-! ### The constituent code -/

/-- The register input of a constituent encoder in state s1 + 2 s2 + 4 s3, its newest place first: feedback 1 + D² + D³. -/
def rscIn (s : Nat) (c : Bool) : Bool := (c != bitAt s 1) != bitAt s 2
/-- Its parity bit: 1 + D + D³. -/
def rscOut (s : Nat) (c : Bool) : Bool := (rscIn s c != bitAt s 0) != bitAt s 2
/-- Its next state. -/
def rscNext (s : Nat) (c : Bool) : Nat := (2 * s + boolNat (rscIn s c)) % 8

/-- The bit that feeds a 0 into the register: the tail's systematic bit. -/
def rscTail (s : Nat) : Bool := bitAt s 1 != bitAt s 2

/-- The parity bits of a sequence, and the state it ends in. -/
def rscRun (bits : List Bool) : List Bool × Nat :=
  bits.foldl (fun (a : List Bool × Nat) c => (a.1 ++ [rscOut a.2 c], rscNext a.2 c)) (([] : List Bool), 0)

/-- The three tail bits and their parity. -/
def rscEnd (s : Nat) : List Bool × List Bool :=
  let r := (List.range 3).foldl (fun (a : List Bool × List Bool × Nat) _ =>
    let c := rscTail a.2.2
    (a.1 ++ [c], a.2.1 ++ [rscOut a.2.2 c], rscNext a.2.2 c)) (([] : List Bool), ([] : List Bool), s)
  (r.1, r.2.1)

/-- The interleaver: place `i` takes bit f1 i + f2 i² modulo K. -/
def qpp (k i : Nat) : Nat :=
  match qppTable.find? (fun r => r.1 == k) with
  | some (_, f1, f2) => (f1 * i + f2 * i * i) % k
  | none => i

/-- Where the tail's bits stand in the three streams: for stream and place K to K + 3, the encoder, whether it is its parity,
and which of the three. -/
def tailPlace (stream i : Nat) : Nat × Bool × Nat :=
  let t := 3 * (i % 2) + stream
  (i / 2, t % 2 == 1, t / 2)

/-- Stream 0, 1 or 2 of a code block with its tail: K + 4 bits. -/
def turboStreams (bits : List Bool) : List (List Bool) :=
  let k := bits.length
  let a := bits.toArray
  let inner := (List.range k).map (fun i => a.getD (qpp k i) false)
  let r1 := rscRun bits
  let r2 := rscRun inner
  let ends := [rscEnd r1.2, rscEnd r2.2]
  let tail := fun (stream : Nat) => (List.range 4).map (fun i =>
    let p := tailPlace stream i
    let e := ends.getD p.1 ([], [])
    (if p.2.1 then e.2 else e.1).getD p.2.2 false)
  [bits ++ tail 0, r1.1 ++ tail 1, r2.1 ++ tail 2]

/-! ### Half-iterations (R182) -/

/-- A metric below every other: a state that is not reached. -/
def noMetric : Int := -(2 ^ 40)

/-- A branch's metric: a value counts where its bit is 0. -/
def turboBranch (x p : Int) (c z : Bool) : Int := (if c then 0 else x) + (if z then 0 else p)

/-- The forward metrics after a stage. -/
def turboAhead (ms : List Int) (x p : Int) : List Int :=
  (List.range 8).map (fun t =>
    ((List.range 8).flatMap (fun s => [false, true].filterMap (fun c =>
      if rscNext s c = t then some (ms.getD s noMetric + turboBranch x p c (rscOut s c)) else none))).foldl max (2 * noMetric))

/-- The backward metrics before a stage. -/
def turboBack (ms : List Int) (x p : Int) : List Int :=
  (List.range 8).map (fun s =>
    max (ms.getD (rscNext s false) noMetric + turboBranch x p false (rscOut s false))
      (ms.getD (rscNext s true) noMetric + turboBranch x p true (rscOut s true)))

/-- The a-posteriori value of a stage between its forward and backward metrics. -/
def turboValue (am bm : List Int) (x p : Int) : Int :=
  let best := fun (c : Bool) => ((List.range 8).map (fun s =>
    am.getD s noMetric + turboBranch x p c (rscOut s c) + bm.getD (rscNext s c) noMetric)).foldl max (4 * noMetric)
  best false - best true

/-- What one half-iteration leaves: the values, and the metrics at the ends of its windows. -/
structure HalfIter where
  vals : List Int
  ahead : List (List Int)
  back : List (List Int)
deriving DecidableEq, Repr

/-- The windows of a block (R182): min(16, K/8), each of as many stages as the longest must have. -/
def turboWindows (k : Nat) : Nat × Nat := let w := Nat.min 16 (k / 8); (w, ceilDiv k (Nat.max 1 w))

/-- A half-iteration: `xs` systematic values with what the other decoder gave, `ps` parity values, `tail` the tail's pairs, and the
metrics at the windows' ends from the iteration before (R182). -/
def halfIter (xs ps : List Int) (tail : List (Int × Int)) (ahead back : List (List Int)) : HalfIter :=
  let w := turboWindows xs.length
  let even := List.replicate 8 (0 : Int)
  let zero := (0 : Int) :: List.replicate 7 noMetric
  let ended := tail.foldr (fun t ms => turboBack ms t.1 t.2) zero
  let pairs := xs.zip ps
  let parts := (List.range w.1).map (fun i =>
    let st := (pairs.drop (i * w.2)).take w.2
    let a0 := if i = 0 then zero else ahead.getD (i - 1) even
    let b1 := if (i + 1) * w.2 < xs.length then back.getD (i + 1) even else ended
    let fw := st.foldl (fun (acc : List (List Int) × List Int) x => (acc.1 ++ [acc.2], turboAhead acc.2 x.1 x.2)) (([] : List (List Int)), a0)
    let bw := st.foldr (fun x (acc : List (List Int) × List Int) => (acc.2 :: acc.1, turboBack acc.2 x.1 x.2)) (([] : List (List Int)), b1)
    (((fw.1.zip bw.1).zip st).map (fun y => turboValue y.1.1 y.1.2 y.2.1 y.2.2), fw.2, bw.2))
  { vals := parts.flatMap (fun p => p.1), ahead := parts.map (fun p => p.2.1), back := parts.map (fun p => p.2.2) }

/-- What is handed to the other decoder: the value less what went in, 7 bits, times ESCALE/16, truncated toward zero (R182). -/
def extrinsic (scale : Nat) (v x : Int) : Int := ((clampInt (-63) 63 (v - x)) * (scale : Int)).tdiv 16

/-- What the iterations so far have left: the 9-bit a-posteriori values in order, what decoder 2 gave decoder 1, the windows'
ends, and whether the hard decisions of the last two half-iterations agree. -/
structure TurboRun where
  vals : List Int
  given : List Int
  one : HalfIter
  two : HalfIter
  agree : Bool
deriving DecidableEq, Repr

/-- Before the first iteration. -/
def turboStart (k : Nat) : TurboRun :=
  { vals := List.replicate k 0, given := List.replicate k 0, one := ⟨[], [], []⟩, two := ⟨[], [], []⟩, agree := false }

/-- One full iteration (R182): `streams` the 6-bit channel values of the three streams, tails included. -/
def turboIter (k scale : Nat) (streams : Nat → Nat → Int) (r : TurboRun) : TurboRun :=
  let tail := fun (enc : Nat) => (List.range 3).map (fun t =>
    let at_ := fun (par : Bool) =>
      ((List.range 3).flatMap (fun s => (List.range 4).map (fun i => (s, i)))).find? (fun p => tailPlace p.1 p.2 == (enc, par, t))
    let v := fun (o : Option (Nat × Nat)) => match o with | some p => streams p.1 (k + p.2) | none => 0
    (v (at_ false), v (at_ true)))
  let sys := (List.range k).map (streams 0)
  let order := (List.range k).map (qpp k)
  let x1 := (sys.zip r.given).map (fun p => p.1 + p.2)
  let h1 := halfIter x1 ((List.range k).map (streams 1)) (tail 0) r.one.ahead r.one.back
  let e1 := ((h1.vals.zip x1).map (fun p => extrinsic scale p.1 p.2)).toArray
  let sa := sys.toArray
  let x2 := order.map (fun i => sa.getD i 0 + e1.getD i 0)
  let h2 := halfIter x2 ((List.range k).map (streams 2)) (tail 1) r.two.ahead r.two.back
  let back := fun (xs : List Int) => ((order.zip xs).foldl (fun (a : Array Int) p => a.setIfInBounds p.1 p.2) (List.replicate k (0 : Int)).toArray).toList
  let v2 := back h2.vals
  { vals := v2.map (clampInt (-255) 255)
    given := back ((h2.vals.zip x2).map (fun p => extrinsic scale p.1 p.2))
    one := h1
    two := h2
    agree := (h1.vals.map (fun v => decide (v < 0))) == v2.map (fun v => decide (v < 0)) }

end Sys2Proof.Machine
end

