-- ==== Sys2Proof/Machine/Trellis.lean ====
section
/-! DEFINITION. The trellis engines (07_trellis_engine.md, R175 to R193): Viterbi decoding, turbo rate recovery, and the jobs. -/

namespace Sys2Proof.Machine

/-! ### Viterbi (R177 to R180) -/

/-- A code: constraint length, generators, feedback. -/
structure ConvCode where
  kc : Nat
  gens : List Nat
  fb : Nat
deriving DecidableEq, Repr

/-- The code of a VITERBI descriptor (Table 7.2). -/
def convCode (b : List Byte) : ConvCode :=
  { kc := pf b 2 1, gens := (List.range (pf b 3 1)).map (fun k => pf b (8 + k) 1), fb := pf b 14 1 }

/-- The parity of a number's bits. -/
def oddBits (n x : Nat) : Bool := ((List.range n).filter (fun i => bitAt x i)).length % 2 == 1

/-- The register with a new bit in front: bit j is the register bit of age j. -/
def regOf (s : Nat) (a : Bool) : Nat := 2 * s + boolNat a

/-- The outputs of a branch from state `s` with register input `a` (R177). -/
def ConvCode.out (c : ConvCode) (s : Nat) (a : Bool) : List Bool :=
  c.gens.map (fun g => oddBits c.kc (g &&& regOf s a))

/-- The information bit of a branch: the register input less the feedback (R177). -/
def ConvCode.info (c : ConvCode) (s : Nat) (a : Bool) : Bool :=
  if c.fb = 0 then a else a != oddBits c.kc ((c.fb / 2 * 2) &&& regOf s a)

/-- The branch metric (R178). -/
def ConvCode.branch (c : ConvCode) (ys : List Int) (s : Nat) (a : Bool) : Int :=
  ((ys.zip (c.out s a)).map (fun x => if x.2 then -x.1 else x.1)).sum

/-- The predecessor of a state whose oldest register bit is `o`. -/
def ConvCode.pred (c : ConvCode) (s : Nat) (o : Bool) : Nat := s / 2 + boolNat o * 2 ^ (c.kc - 2)

/-- One stage (R178): metrics and the oldest bit of each survivor; the predecessor with oldest bit 0 wins ties. -/
def ConvCode.stage (c : ConvCode) (ms : List Int) (ys : List Int) (tail : Bool) : List Int × List Bool :=
  let new := (List.range (2 ^ (c.kc - 1))).map (fun s =>
    let a := bitAt s 0
    let cand := fun o => ms.getD (c.pred s o) noMetric + c.branch ys (c.pred s o) a
    if tail && a then (noMetric, false)
    else if cand false < cand true then (cand true, true) else (cand false, false))
  (new.map (fun x => x.1), new.map (fun x => x.2))

/-- A run over stages, each with its inputs and whether it is a tail stage: after each, the metrics and the survivors. -/
def ConvCode.forward (c : ConvCode) (ms : List Int) (stages : List (List Int × Bool)) : List (List Int × List Bool) :=
  (stages.foldl (fun (acc : List Int × List (List Int × List Bool)) x =>
    let r := c.stage acc.1 x.1 x.2
    (r.1, acc.2 ++ [r])) (ms, [])).2

/-- Traceback from a state: the state before the survivors' first stage. -/
def ConvCode.back (c : ConvCode) (survivors : List (List Bool)) (last : Nat) : Nat :=
  survivors.foldr (fun sv s => c.pred s (sv.getD s false)) last

/-- The state with the largest metric, the lowest on ties. -/
def bestState (ms : List Int) : Nat :=
  (ms.zipIdx.foldl (fun (best : Int × Nat) x => if best.1 < x.1 then x else best) (ms.headD 0, 0)).2

/-- The decided branch of stage `i`: its predecessor state and register input. The traceback is 64 stages deep (R178): from the
best state 64 stages on, or from the end, back to the state after the stage (DEDUCED, log entry 45). -/
def ConvCode.branchAt (c : ConvCode) (run : List (List Int × List Bool)) (i : Nat) : Nat × Bool :=
  let far := Nat.min (i + 64) (run.length - 1)
  let after := c.back (((run.take (far + 1)).drop (i + 1)).map (fun x => x.2)) (bestState ((run.getD far ([], [])).1))
  (c.pred after (((run.getD i ([], [])).2).getD after false), bitAt after 0)

/-- The decided branches of a job's NSTAGE stages and TBOK (R179). -/
def ConvCode.decode (c : ConvCode) (tb : Bool) (n : Nat) (ys : Nat → List Int) : List (Nat × Bool) × Bool :=
  if tb then
    let warm := (List.range 64).map (fun i => (ys ((n * 64 + i - 64) % n), false))
    let block := (List.range n).map (fun i => (ys i, false))
    let more := (List.range 64).map (fun i => (ys (i % n), false))
    let run := c.forward (List.replicate (2 ^ (c.kc - 1)) 0) (warm ++ block ++ more)
    let path := (List.range n).map (fun i => c.branchAt run (64 + i))
    let last := path.getD (n - 1) (0, false)
    (path, regOf last.1 last.2 % 2 ^ (c.kc - 1) == (path.getD 0 (0, false)).1)
  else
    let stages := (List.range (n + c.kc - 1)).map (fun i => (ys i, decide (n ≤ i)))
    let run := c.forward ((List.range (2 ^ (c.kc - 1))).map (fun s => if s = 0 then 0 else noMetric)) stages
    ((List.range n).map (c.branchAt run), true)

/-- The decided bits encoded again from a state; `tail` adds the stages that feed 0 into the register (R180). -/
def ConvCode.again (c : ConvCode) (start : Nat) (bits : List Bool) (tail : Nat) : List Bool :=
  let step := fun (acc : Nat × List Bool) (a : Bool) => (regOf acc.1 a % 2 ^ (c.kc - 1), acc.2 ++ c.out acc.1 a)
  let body := bits.foldl (fun acc b => step acc (c.info acc.1 b)) (start, ([] : List Bool))
  ((List.replicate tail false).foldl step body).2

/-- BAD_DESC of a VITERBI job (Table 7.2, R177). -/
def viterbiBad (b : List Byte) : Bool :=
  let c := convCode b
  let n := pf b 3 1
  decide (2 ≤ pf b 1 1) || decide (c.kc < 5 ∨ 7 < c.kc) || decide (n < 2 ∨ 6 < n) || pf b 4 2 == 0 || decide (4096 < pf b 4 2)
    || decide (4 ≤ pf b 6 1) || c.gens.any (fun g => decide (2 ^ c.kc ≤ g) || g % 2 == 0)
    || ((List.range 6).drop n).any (fun k => pf b (8 + k) 1 != 0) || decide (2 ^ c.kc ≤ c.fb) || (c.fb != 0 && c.fb % 2 == 0)

/-- The VITERBI status word (Table 7.3). -/
def viterbiStatus (result : Nat) (tbok : Bool) (nerr conf : Nat) (tick : List Byte) : List Byte :=
  bytesOf 1 result ++ bytesOf 1 (boolNat tbok) ++ bytesOf 2 (Nat.min 0xFFFF nerr) ++ bytesOf 4 conf ++ tick ++ bytesOf 4 0

/-- A VITERBI job completes (R177 to R180, R185). -/
def Dev.viterbiJob (d : Dev) (u : Nat) (j : Job) (consistent : Bool) : Dev :=
  let ni := engineNi 8 u
  let b := d.descOf 8 u j 48
  let c := convCode b
  let n := pf b 3 1
  let ns := pf b 4 2
  let tb := bitAt (pf b 1 1) 0
  let stages := if tb then ns else ns + c.kc - 1
  let stat := pf b 32 8
  let finish := fun (d : Dev) (r : Nat) (word : List Byte) => (d.engOut ni stat word).engReport 8 u j r
  let badDesc := viterbiBad b
  let badAddr := !rangesMapped [(pf b 16 8, n * stages), (pf b 24 8, ceilDiv ns 8), (stat, 16)]
  if badDesc ∨ badAddr then
    let r := engResult badDesc badAddr false false
    finish d r (viterbiStatus r false 0 0 d.doneTick)
  else if !consistent then d.engineFault 8 u 0x0015
  else
    let src := d.engIn ni (pf b 16 8) (n * stages)
    let xs := src.1.map llrOf
    let ys := xs.map (Sys2Proof.Machine.inputLlr (pf b 6 1 % 4))
    let dec := c.decode tb ns (fun i => (ys.drop (n * i)).take n)
    let bits := dec.1.map (fun x => c.info x.1 x.2)
    let code := c.again (if tb then (dec.1.headD (0, false)).1 else 0) bits (if tb then 0 else c.kc - 1)
    let wrong := (xs.zip (ys.zip code)).filter (fun x => x.1 != 0 && (decide (x.1 < 0) != x.2.2))
    let total := (ys.map (fun y => y.natAbs)).sum
    let m : Int := (total : Int) - 2 * ((wrong.map (fun x => x.2.1.natAbs)).sum : Nat)
    let conf := if total = 0 then 0 else (clampInt 0 255 (255 * m / (total : Int))).toNat
    let r := engResult false false src.2 false
    finish (d.engOut ni (pf b 24 8) (packBits bits)) r
      (viterbiStatus r dec.2 wrong.length conf d.doneTick)

/-! ### Turbo (R181 to R184) -/

/-- The 188 code-block sizes (TS 36.212 Table 5.1.3-3). -/
def turboSize (k : Nat) : Bool :=
  (decide (40 ≤ k ∧ k ≤ 512) && k % 8 == 0) || (decide (512 < k ∧ k ≤ 1024) && k % 16 == 0)
    || (decide (1024 < k ∧ k ≤ 2048) && k % 32 == 0) || (decide (2048 < k ∧ k ≤ 6144) && k % 64 == 0)

/-- The column permutation of the sub-block interleaver (TS 36.212 Table 5.1.4-1): five bits reversed. -/
def turboCol (j : Nat) : Nat := boolNat (bitAt j 4) + 2 * boolNat (bitAt j 3) + 4 * boolNat (bitAt j 2) + 8 * boolNat (bitAt j 1) + 16 * boolNat (bitAt j 0)

/-- Rows of the sub-block interleaver for D = K + 4. -/
def turboRows (k : Nat) : Nat := ceilDiv (k + 4) 32

/-- The stream (0 to 2) and index into d of a circular-buffer position; none for a dummy or a filler bit (TS 36.212
§5.1.4.1). -/
def turboSource (k f p : Nat) : Option (Nat × Nat) :=
  let r := turboRows k
  let kp := 32 * r
  let nd := kp - (k + 4)
  let pick := fun (stream y : Nat) => if y < nd ∨ (stream < 2 ∧ y - nd < f) then none else some (stream, y - nd)
  let plain := fun (i : Nat) => i % r * 32 + turboCol (i / r)
  if p < kp then pick 0 (plain p)
  else
    let i := (p - kp) / 2
    if (p - kp) % 2 = 0 then pick 1 (plain i) else pick 2 ((turboCol (i / r) + 32 * (i % r) + 1) % kp)

/-- The circular-buffer positions that E transmitted bits take (R181). -/
def turboPos (b : List Byte) : List Nat :=
  let k := pf b 2 2
  let ncb := pf b 4 2
  let r := turboRows k
  let k0 := r * (2 * ceilDiv ncb (8 * r) * (pf b 7 1 % 4) + 2)
  let order := ((List.range ncb).map (fun i => (k0 + i) % ncb)).filter (fun p => (turboSource k (pf b 6 1) p).isSome)
  if order.isEmpty then [] else (List.range (pf b 8 4)).map (fun i => order.getD (i % order.length) 0)

/-- A bit of FLAGS: 0 NEWDATA, 1 CBCRC, 2 ES_CRC, 3 TBSEG, 4 HWB. -/
def tFlag (b : List Byte) (i : Nat) : Bool := bitAt (pf b 1 1) i

/-- Bits a job writes (R184). -/
def turboOut (b : List Byte) : Nat := pf b 2 2 - pf b 6 1 - (if tFlag b 1 then 24 else 0)

/-- BAD_DESC of a TURBO job (Table 7.4, R181, R184). -/
def turboBad (b : List Byte) : Bool :=
  let k := pf b 2 2
  let esc := pf b 14 1 / 16
  decide (32 ≤ pf b 1 1) || !turboSize k || pf b 4 2 == 0 || decide (96 * turboRows k < pf b 4 2) || decide (63 < pf b 6 1)
    || decide (4 ≤ pf b 7 1) || pf b 8 4 == 0 || decide (262143 < pf b 8 4) || pf b 12 1 == 0 || decide (16 < pf b 12 1)
    || pf b 13 1 == 0 || decide (pf b 12 1 < pf b 13 1) || pf b 14 1 / 4 % 4 != 0 || (esc != 0 && decide (esc < 8))
    || decide (k < pf b 6 1 + (if tFlag b 1 then 24 else 0)) || turboOut b % 8 != 0
    || (tFlag b 3 && (pf b 16 2 == 0 || decide (256 < pf b 16 2) || decide (pf b 16 2 ≤ pf b 15 1) || decide (1023 < pf b 18 2)))
    || (tFlag b 4 && !tFlag b 0 && decide (pf b 40 8 < pf b 48 8 + pf b 4 2) && decide (pf b 48 8 < pf b 40 8 + pf b 4 2))

/-- The channel values of the three streams (R181, R182): the soft buffer's 6-bit values at their places, fillers +31, what the
buffer does not hold 0. -/
def turboChannel (b : List Byte) (buf : List Int) : Nat → Nat → Int :=
  let k := pf b 2 2
  let f := pf b 6 1
  let a := (buf.zipIdx.foldl (fun (a : Array Int) x => match turboSource k f x.2 with
    | some p => a.setIfInBounds (p.1 * (k + 4) + p.2) (inputLlr (pf b 14 1 % 4) x.1)
    | none => a) (List.replicate (3 * (k + 4)) (0 : Int)).toArray)
  fun stream i => if stream < 2 ∧ i < f then 31 else a.getD (stream * (k + 4) + i) 0

/-- The iterations (R183): the last iteration's a-posteriori values, iterations run, HDA and ITCUT. -/
def turboRun (b : List Byte) (streams : Nat → Nat → Int) (wait : Option Nat) : Nat → Nat → TurboRun → List Int × Nat × Bool × Bool
  | 0, i, r => (r.vals, i, false, false)
  | fuel + 1, i, r =>
    if cutAt wait 6 i then (r.vals, i, false, true)
    else
      let esc := pf b 14 1 / 16
      let x := turboIter (pf b 2 2) (if esc = 0 then 16 else esc) streams r
      let bits := x.vals.map (fun v => decide (v < 0))
      let poly := if tFlag b 1 then 0x800063 else 0x864CFB
      let ok := decide (pf b 13 1 ≤ i + 1)
      if tFlag b 2 then
        if ok && crcBits 24 poly 0 (bits.drop (pf b 6 1)) == 0 then (x.vals, i + 1, false, false)
        else turboRun b streams wait fuel (i + 1) x
      else if ok && x.agree then (x.vals, i + 1, true, false)
      else turboRun b streams wait fuel (i + 1) x

/-- The TURBO status word (Table 7.5). -/
def turboStatus (result iter : Nat) (hda crc cut : Bool) (apmin : Nat) (done pass skip : Bool) (clip rem : Nat) (tick : List Byte) :
    List Byte :=
  bytesOf 1 result ++ bytesOf 1 (iter % 32 + 32 * boolNat hda + 64 * boolNat crc + 128 * boolNat cut) ++ bytesOf 2 apmin
    ++ bytesOf 1 (boolNat done + 2 * boolNat pass + 4 * boolNat skip) ++ [0] ++ bytesOf 2 (Nat.min 0xFFFF clip) ++ tick
    ++ bytesOf 3 rem ++ [0]

/-- A TURBO job completes (R181 to R185). -/
def Dev.turboJob (d : Dev) (u : Nat) (j : Job) (run : Sys2Proof.DecodeRun) : Dev :=
  let ni := engineNi 8 u
  let b := d.descOf 8 u j 80
  let k := pf b 2 2
  let f := pf b 6 1
  let n := pf b 4 2
  let e := pf b 8 4
  let stat := pf b 64 8
  let finish := fun (d : Dev) (r : Nat) (word : List Byte) => (d.engOut ni stat word).engReport 8 u j r
  let badDesc := turboBad b
  let badAddr := !rangesMapped ([(pf b 32 8, e), (pf b 56 8, turboOut b / 8), (stat, 16)]
    ++ (if tFlag b 0 then [] else [(pf b 40 8, n)]) ++ (if tFlag b 4 then [(pf b 48 8, n)] else [])
    ++ (if tFlag b 3 then [(pf b 72 8, 8)] else []))
  if badDesc ∨ badAddr then
    let r := engResult badDesc badAddr false false
    finish d r (turboStatus r 0 false false false 0 false false false 0 0 d.doneTick)
  else
    let src := d.engIn ni (pf b 32 8) e
    let read := fun (p : Nat) => (turboSource k f p).isSome
    let hin := if tFlag b 0 then List.replicate n 0 else (d.engIn ni (pf b 40 8) n).1
    let hinBad := !tFlag b 0 && (List.range n).any (fun i => read i && d.engBad ni (pf b 40 8) n i)
    let old := hin.zipIdx.map (fun x => if read x.2 then llrOf x.1 else 0)
    let comb := combineLlrs old (turboPos b) (src.1.map llrOf)
    let d1 := if tFlag b 4 then d.engOut ni (pf b 48 8) (comb.1.map (fun x => BitVec.ofInt 8 x)) else d
    if !run.consistent then d1.engineFault 8 u 0x0015
    else
      let run := turboRun b (turboChannel b comb.1) (d.waitSince 8 u run.since) (pf b 12 1) 0 (turboStart k)
      let bits := run.1.map (fun v => decide (v < 0))
      let crc := tFlag b 1 && crcBits 24 0x800063 0 (bits.drop f) == 0
      let out := (bits.drop f).take (turboOut b)
      let apmin := (((run.1.drop f).take (turboOut b)).map (fun v => v.natAbs)).foldl Nat.min 255
      let d2 := d1.engOut ni (pf b 56 8) (packBits out)
      let rem := if tFlag b 3 then segRem false out (pf b 20 4) else 0
      let x := if tFlag b 3 then d2.tallyTake (pf b 18 2) (pf b 15 1) (pf b 16 2) (pf b 24 4) (pf b 72 8) rem (tFlag b 1 && !crc)
        else (d2, false, false, false, false)
      let counted := decide (0 < comb.2) || run.2.2.2 || x.2.2.1
      let r := if x.2.1 then 0x14 else engResult false false (src.2 || hinBad) counted
      finish x.1 r (turboStatus r run.2.1 run.2.2.1 crc run.2.2.2 apmin x.2.2.2.1 x.2.2.2.2 x.2.2.1 comb.2 rem x.1.doneTick)

/-! ### MLSE (R186 to R189) -/

/-- BAD_DESC of an MLSE job (Table 7.6, R186, R189). -/
def mlseBad (b : List Byte) : Bool :=
  let flags := pf b 1 1
  let psk := pf b 0 1 == 4
  let access := bitAt flags 0
  let set := pf b 2 1 / 16 % 4
  let shift := signedOf 8 (pf b 7 1)
  decide (8 ≤ flags) || (access && (psk || bitAt flags 2 || decide (2 < pf b 2 1 % 8))) || bitAt (pf b 2 1) 3
    || decide (64 ≤ pf b 2 1) || ((psk || bitAt flags 2) && decide (1 < set)) || pf b 3 1 == 0 || decide (5 < pf b 3 1)
    || decide (8 < pf b 4 1) || decide (shift < -4 ∨ 4 < shift) || decide (7 < pf b 12 1)

/-- The MLSE status word (Table 7.7). -/
def mlseStatus (result : Nat) (mod8 nosig : Bool) (toa snr clip pwr : Nat) (tick fn : List Byte) : List Byte :=
  bytesOf 1 result ++ bytesOf 1 (boolNat mod8 + 2 * boolNat nosig) ++ bytesOf 1 toa ++ bytesOf 1 snr
    ++ bytesOf 2 (Nat.min 0xFFFF clip) ++ bytesOf 2 pwr ++ tick ++ fn

/-- LLRs of a burst (R189). -/
def burstLlrs (access mod8 : Bool) : Nat := if access then 36 else if mod8 then 348 else 116

/-- An MLSE job completes (R185 to R189). -/
def Dev.mlseJob (d : Dev) (u : Nat) (j : Job) (consistent : Bool) : Dev :=
  let ni := engineNi 8 u
  let b := d.descOf 8 u j 64
  let flags := pf b 1 1
  let access := bitAt flags 0
  let antb := bitAt flags 1
  let blind := bitAt flags 2
  let psk := pf b 0 1 == 4
  let stat := pf b 40 8
  let fn := bytesOf 4 (pf b 8 4)
  let n := slotSamples (pf b 12 1)
  let finish := fun (d : Dev) (r : Nat) (word : List Byte) => (d.engOut ni stat word).engReport 8 u j r
  let badDesc := mlseBad b
  let badAddr := !rangesMapped ([(pf b 16 8, 4 * n), (pf b 32 8, if blind then 348 else burstLlrs access psk), (stat, 16)]
    ++ (if antb then [(pf b 24 8, 4 * n)] else []))
  if badDesc ∨ badAddr then
    let r := engResult badDesc badAddr false false
    finish d r (mlseStatus r false false 0 0 0 0 d.doneTick fn)
  else if !consistent then d.engineFault 8 u 0x0015
  else
    let a := d.engIn ni (pf b 16 8) (4 * n)
    let bb := if antb then d.engIn ni (pf b 24 8) (4 * n) else ([], false)
    let ants := antSamples a.1 n (signedOf 8 (pf b 5 1)) :: (if antb then [antSamples bb.1 n (signedOf 8 (pf b 6 1))] else [])
    let x := mlseBurst psk access blind (pf b 2 1 / 16) (pf b 2 1 % 8) (pf b 3 1) (pf b 4 1) (signedOf 8 (pf b 7 1)) ants
    let clip := (x.llrs.filter (fun v => v.2)).length
    let d1 := d.engOut ni (pf b 32 8) (x.llrs.map (fun v => BitVec.ofInt 8 v.1))
    let r := engResult false false (a.2 || bb.2) (x.nosig || decide (0 < clip))
    finish d1 r (mlseStatus r x.psk x.nosig (BitVec.ofInt 8 x.toa).toNat (Sys2Proof.Config.mlseSnr b (a.1 ++ bb.1)).toNat clip
      (Sys2Proof.Config.mlsePower b (a.1 ++ bb.1)).toNat d.doneTick fn)

/-! ### Rows -/

/-- A trellis row: the job's MODE is the row's. -/
def State.onTrellis (s : State) (u : Fin 4) (own : Nat → Bool) (f : Dev → Job → Dev) : Host.Outcome State Fault Refusal :=
  s.onEngine 8 u.val (fun d j => own (pf (d.descOf 8 u.val j 48) 0 1)) f

/-- A job whose MODE Table 7.1 does not list completes with BAD_DESC; its status word lies where VITERBI's does. -/
def Dev.trellisUnknown (d : Dev) (u : Nat) (j : Job) : Dev :=
  (d.engOut (engineNi 8 u) (pf (d.descOf 8 u j 48) 32 8) (viterbiStatus 0x10 false 0 0 d.doneTick)).engReport 8 u j 0x10

/-- VITERBI (R177 to R180), and jobs whose MODE Table 7.1 does not list. -/
def execViterbi (u : Fin 4) (consistent : Bool) (s : State) : Host.Outcome State Fault Refusal :=
  s.onTrellis u (fun m => m < 2 || decide (4 < m)) (fun d j =>
    if pf (d.descOf 8 u.val j 48) 0 1 = 1 then d.viterbiJob u.val j consistent else d.trellisUnknown u.val j)

/-- TURBO (R181 to R184). -/
def execTurbo (u : Fin 4) (run : Sys2Proof.DecodeRun) (s : State) : Host.Outcome State Fault Refusal :=
  s.onTrellis u (fun m => m == 2) (fun d j => d.turboJob u.val j run)

/-- MLSE_GMSK (R186 to R189). -/
def execMlseGmsk (u : Fin 4) (consistent : Bool) (s : State) : Host.Outcome State Fault Refusal :=
  s.onTrellis u (fun m => m == 3) (fun d j => d.mlseJob u.val j consistent)

/-- MLSE_8PSK (R186 to R189). -/
def execMlse8psk (u : Fin 4) (consistent : Bool) (s : State) : Host.Outcome State Fault Refusal :=
  s.onTrellis u (fun m => m == 4) (fun d j => d.mlseJob u.val j consistent)

end Sys2Proof.Machine
end

