-- ==== Sys2Proof/Machine/Shaper.lean ====
section
/-! DEFINITION. The transmit shapers (08_transmit_chain.md, R194 to R213): building downlink symbols, encoding for LTE and
GSM, GSM bursts, TDD edges and gate events. -/

namespace Sys2Proof.Machine

/-! ### Sequences and points (R198, R199; log entry 47) -/

/-- a × m / √n × 2^t as an 18-bit part: rounded half up, held at the top positive code (R127, R198). -/
def rootPart (a : Int) (n m : Nat) (t : Int) : Int :=
  let y := 4 * a.natAbs * a.natAbs * m * m
  let q := if 0 ≤ t then y * 4 ^ t.toNat / n else y / (n * 4 ^ (-t).toNat)
  let r : Int := ((Nat.sqrt q + 1) / 2 : Nat)
  if a < 0 then -r else min r 131071

/-- Whether the same fits 18 bits: a positive part whose carry past the top code does not count, a negative one as it is rounded
(R127). -/
def rootFits (a : Int) (n m : Nat) (t : Int) : Bool :=
  let y := 4 * a.natAbs * a.natAbs * m * m
  let q := Nat.sqrt (if 0 ≤ t then y * 4 ^ t.toNat / n else y / (n * 4 ^ (-t).toNat))
  if a < 0 then decide ((q + 1) / 2 ≤ 131072) else decide (q / 2 ≤ 131071)

/-- Points of an entry as 18-bit parts with its one exponent: the smallest for which every part fits (R127, R198). -/
def entryParts (pts : List (Int × Int)) (n m : Nat) (e : Int) : List (Int × Int) × Int :=
  let ends := pts.foldl (fun (k : Int × Int) p => (min k.1 (min p.1 p.2), max k.2 (max p.1 p.2))) (0, 0)
  let exp : Int := (((List.range 256).find? (fun (i : Nat) =>
    let t := e + 1 - ((i : Int) - 128)
    rootFits ends.1 n m t && rootFits ends.2 n m t)).getD 255 : Nat) - 128
  (pts.map (fun p => (rootPart p.1 n m (e + 1 - exp), rootPart p.2 n m (e + 1 - exp))), exp)

/-- Elements of a synchronisation signal: 127 of NR, 62 of LTE. -/
def syncLen (cinit : Nat) : Nat := if cinit % 4 < 2 then 127 else 62

/-- Element `k` of the synchronisation signal that CINIT names (Table 8.2), times BETA = m × 2^(e - 16). What an entry takes beyond the
signal's end is free. -/
def syncPoint (cinit m : Nat) (e : Int) (k : Nat) : Dyad :=
  let id := cinit / 2 ^ 16 % 1024
  let real := fun (x : Int) => (⟨x * (m : Int), 0, e - 16⟩ : Dyad)
  if syncLen cinit ≤ k then
    ⟨(Sys2Proof.Config.syncBeyond cinit k).1.toInt * (m : Int), (Sys2Proof.Config.syncBeyond cinit k).2.toInt * (m : Int), e - 33⟩
  else match cinit % 4 with
  | 0 => real (nrPss (id % 3) k)
  | 1 => real (nrSss (id / 3) (id % 3) k)
  | 2 =>
    let p := ltePss (id % 3) k
    let t := trigSeries (twoPi64 * (p.num % p.den : Nat) / (p.den : Int))
    ⟨t.1 * (m : Int), t.2 * (m : Int), e - 80⟩
  | _ => real (lteSss (id / 3) (id % 3) (bitAt cinit 2) k)

/-! ### BUILD (R197 to R203) -/

/-- An entry (Table 8.4) as its 56 bytes: KIND. -/
def eKind (e : List Byte) : Nat := pf e 0 1
/-- QM; GOLD and SYNC carry QPSK. -/
def eQm (e : List Byte) : Nat := pf e 1 1
/-- NL. -/
def eNl (e : List Byte) : Nat := pf e 2 1
/-- PRG. -/
def ePrg (e : List Byte) : Nat := pf e 3 1
/-- PRB0. -/
def ePrb0 (e : List Byte) : Nat := pf e 4 2
/-- NPRB. -/
def eNprb (e : List Byte) : Nat := pf e 6 2
/-- The port of a layer of a DMRS entry. -/
def ePort (e : List Byte) (l : Nat) : Nat := pf e 16 4 / 2 ^ (4 * l) % 16

/-- An entry whose range leaves the output range or whose fields exceed their ranges (R199, R203). -/
def entryBad (ns prb0 nprb : Nat) (e : List Byte) : Bool :=
  let k := eKind e
  k == 0 || decide (5 < k)
    || (if k = 1 then !([1, 2, 4, 6, 8, 10].contains (eQm e)) else eQm e != 0)
    || eNl e == 0 || decide (8 < eNl e) || ((k == 3 || k == 4) && eNl e != 1)
    || !([0, 2, 4].contains (ePrg e)) || decide (ePrb0 e < prb0) || decide (prb0 + nprb < ePrb0 e + eNprb e)
    || decide (4096 ≤ pf e 8 2) || (k != 5 && pf e 20 2 == 0) || pf e 23 1 != 0
    || (pf e 40 8 == 0 && decide (ns < eNl e))
    || (k == 2 && (List.range (eNl e)).any (fun l => decide ((if bitAt (pf e 10 1) 0 then 11 else 7) < ePort e l)))

/-- The resource elements an entry selects, PRB and subcarrier, in ascending order (R200). -/
def entryRes (e map : List Byte) : List (Nat × Nat) :=
  (List.range (12 * eNprb e)).filterMap (fun k =>
    let on := if pf e 48 8 = 0 then bitAt (pf e 8 2) (k % 12) else bitAt (pf map (k / 8) 1) (7 - k % 8)
    if on then some (ePrb0 e + k / 12, k % 12) else none)

/-- The value of a DM-RS port at a resource element: the index of r and its sign, none off its comb (TS 38.211 §7.4.1.1). -/
def dmrsAt (type2 second : Bool) (port prb sc : Nat) : Option (Nat × Bool) :=
  let delta := if type2 then 2 * (port / 2 % 3) else port / 2 % 2
  let x : Int := (12 * prb + sc : Nat) - (delta : Nat)
  let idx : Option Int := if type2 then (if x % 6 < 2 then some (2 * (x / 6) + x % 6) else none)
    else (if x % 2 = 0 then some (x / 2) else none)
  let neg := (port % 2 == 1)
  let wt := second && decide ((if type2 then 6 else 4) ≤ port)
  match idx with
  | some i => if 0 ≤ i then some (i.toNat, (neg && i % 2 == 1) != wt) else none
  | none => none

/-- An entry's precoder matrices. -/
def entryGroups (e : List Byte) : Nat :=
  if ePrg e = 0 then 1 else if eNprb e = 0 then 0 else (ePrb0 e + eNprb e - 1) / ePrg e - ePrb0 e / ePrg e + 1

/-- The ranges an entry reads: its map, its source, its precoder block. -/
def entryRanges (ns : Nat) (e : List Byte) (res : Nat) : List (Nat × Nat) :=
  let k := eKind e
  let first := pf e 16 4 / 8
  let src := if k = 1 then (pf e 32 8 + first, (pf e 16 4 % 8 + res * eNl e * eQm e + 7) / 8)
    else if k = 5 then (pf e 32 8, eNl e * eNprb e * 52) else (0, 0)
  [(if pf e 48 8 = 0 then (0, 0) else (pf e 48 8, ceilDiv (12 * eNprb e) 8)), src,
    (if pf e 40 8 = 0 then (0, 0) else (pf e 40 8, entryGroups e * (4 * ns * eNl e + 4)))]

/-- A contribution before precoding: PRB, subcarrier, layer, 18-bit parts and exponent. -/
structure Contrib where
  prb : Nat
  sc : Nat
  layer : Nat
  re : Int
  im : Int
  exp : Int
deriving DecidableEq, Repr

/-- Whether the code word of some byte of a range is bad. -/
def Dev.srcBad (d : Dev) (ni a n : Nat) : Bool := (d.engIn ni a n).2

/-- The symbols of an entry, layer by layer (R198, R199); those whose source is bad are left out (R209). -/
def Dev.entrySymbols (d : Dev) (ni : Nat) (e : List Byte) (res : List (Nat × Nat)) : List Contrib :=
  let nl := eNl e
  let beta := pf e 20 2
  let be := signedOf 8 (pf e 22 1)
  let off := pf e 16 4
  let cinit := pf e 12 4
  let n := res.length
  let place := fun (k l : Nat) (p : Int × Int) (x : Int) =>
    ({ prb := (res.getD k (0, 0)).1, sc := (res.getD k (0, 0)).2, layer := l, re := p.1, im := p.2, exp := x } : Contrib)
  match eKind e with
  | 1 =>
    let qm := eQm e
    let total := n * nl * qm
    let src := d.engIn ni (pf e 32 8 + off / 8) ((off % 8 + total + 7) / 8)
    let raw := ((src.1.flatMap bitsOfByte).drop (off % 8)).take total
    let bits := (raw.zip (goldBits cinit off total)).map (fun x => x.1 != x.2)
    let pts := (List.range (n * nl)).map (fun i => pointOf qm ((bits.drop (qm * i)).take qm))
    let p := entryParts pts (pointNorm qm) beta be
    (List.range n).flatMap (fun k => (List.range nl).filterMap (fun l =>
      let first := (off % 8 + (k * nl + l) * qm) / 8
      let last := (off % 8 + (k * nl + l) * qm + qm - 1) / 8
      if d.srcBad ni (pf e 32 8 + off / 8 + first) (last - first + 1) then none
      else some (place k l (p.1.getD (k * nl + l) (0, 0)) p.2)))
  | 2 =>
    let type2 := bitAt (pf e 10 1) 0
    let second := bitAt (pf e 10 1) 1
    let hits := (List.range n).flatMap (fun k => (List.range nl).filterMap (fun l =>
      let x := res.getD k (0, 0)
      (dmrsAt type2 second (ePort e l) x.1 x.2).map (fun v => (k, l, v.1, v.2))))
    let pts := hits.map (fun h =>
      let c := pointOf 2 (goldBits cinit (2 * h.2.2.1) 2)
      if h.2.2.2 then (-c.1, -c.2) else c)
    let p := entryParts pts 2 beta be
    (hits.zip p.1).map (fun x => place x.1.1 x.1.2.1 x.2 p.2)
  | 3 =>
    let bits := goldBits cinit (2 * off) (2 * n)
    let pts := (List.range n).map (fun k =>
      let c := pointOf 2 ((bits.drop (2 * k)).take 2)
      if bitAt (pf e 10 1) (k % 8) then (-c.1, -c.2) else c)
    let p := entryParts pts 2 beta be
    (List.range n).map (fun k => place k 0 (p.1.getD k (0, 0)) p.2)
  | 4 =>
    let x := fitBlock 18 ((List.range n).map (syncPoint cinit beta be))
    (List.range n).map (fun k => place k 0 (x.1.getD k (0, 0)) x.2)
  | _ =>
    (List.range n).flatMap (fun k => (List.range nl).filterMap (fun l =>
      let a := pf e 32 8 + (l * eNprb e + k / 12) * 52
      let w := d.engIn ni (a + 4 * (k % 12)) 4
      let x := d.engIn ni (a + 48) 1
      if w.2 || x.2 then none
      else some (place k l (4 * signedOf 16 (pf w.1 0 2), 4 * signedOf 16 (pf w.1 2 2)) (signedOf 8 (pf x.1 0 1)))))

/-- The precoder element of a stream and layer in a PRB: its parts and exponent; none where its matrix is bad or, without a
block, the layer feeds another stream (R203). -/
def Dev.weight (d : Dev) (ni ns : Nat) (e : List Byte) (prb s l : Nat) : Option (Int × Int × Int) :=
  let w := pf e 40 8
  if w = 0 then (if s = l then some (32768, 0, 0) else none)
  else
    let g := if ePrg e = 0 then 0 else prb / ePrg e - ePrb0 e / ePrg e
    let size := 4 * ns * eNl e + 4
    let m := d.engIn ni (w + g * size + 4 * (s * eNl e + l)) 4
    let x := d.engIn ni (w + g * size + 4 * ns * eNl e) 1
    if m.2 || x.2 then none else some (signedOf 16 (pf m.1 0 2), signedOf 16 (pf m.1 2 2), signedOf 8 (pf x.1 0 1))

/-- A PRB of FD16 from its sums (R198): parts x 2^(top - 32), with the smallest exponent for which every part fits (R127). -/
def prbOut (sums : List (Int × Int)) (top : Int) : List Byte :=
  let b := fitBlock 16 (sums.map (fun s => (⟨s.1, s.2, top - 32⟩ : Dyad)))
  sampleBytes b.1 ++ bytesOf 1 (BitVec.ofInt 8 b.2).toNat ++ [0, 0, 0]

/-- A PRB and stream from its contributions, entry by entry (R198): zero with exponent 0x80 where there is none. -/
def Dev.buildPrb (d : Dev) (ni ns prb s : Nat) (cs : List (List Byte × Contrib)) : List Byte :=
  let mine := cs.filterMap (fun c =>
    if c.2.prb ≠ prb then none
    else (d.weight ni ns c.1 prb s c.2.layer).map (fun w =>
      (c.2.sc, c.2.re * w.1 - c.2.im * w.2.1, c.2.re * w.2.1 + c.2.im * w.1, c.2.exp + w.2.2)))
  match mine with
  | [] => List.replicate 48 0 ++ [0x80, 0, 0, 0]
  | x :: rest =>
    let top := rest.foldl (fun m y => max m y.2.2.2) x.2.2.2
    prbOut ((List.range 12).map (fun sc =>
      (mine.filter (fun y => y.1 == sc)).foldl (fun (acc : Int × Int) y =>
        let k := (top - y.2.2.2).toNat
        (acc.1 + rhuShift y.2.1 k, acc.2 + rhuShift y.2.2.1 k)) (0, 0))) top

/-- The contributions that count (R201): at most 16 layers for a resource element, in entry order; and the elements that had
more. `layers` gives for each entry the elements it takes part in. -/
def capLayers (es : List (List Byte × List (Nat × Nat) × List Contrib)) : List (List Byte × Contrib) × Nat :=
  let run := es.foldl (fun (acc : List ((Nat × Nat) × Nat) × List (List Byte × Contrib)) e =>
    let before := fun (r : Nat × Nat) => ((acc.1.filter (fun x => x.1 == r)).map (fun x => x.2)).sum
    let keep := e.2.2.filter (fun c => decide (before (c.prb, c.sc) + c.layer < 16))
    (acc.1 ++ e.2.1.map (fun r => (r, eNl e.1)), acc.2 ++ keep.map (fun c => (e.1, c)))) ([], [])
  let res := (run.1.map (fun x => x.1)).eraseDups
  (run.2, (res.filter (fun r => decide (16 < ((run.1.filter (fun x => x.1 == r)).map (fun x => x.2)).sum))).length)

/-- The shaper status word (Table 8.9); `tail` is bits [127:96]. -/
def shaperStatus (result late beyond out : Nat) (tick tail : List Byte) : List Byte :=
  bytesOf 1 result ++ [0] ++ bytesOf 1 (Nat.min 255 late) ++ bytesOf 1 (Nat.min 255 beyond) ++ bytesOf 4 out ++ tick ++ padTo 4 tail

/-- BAD_DESC of a BUILD's descriptor (Table 8.3). -/
def buildBad (b : List Byte) : Bool :=
  pf b 0 1 != 1 || decide (4 ≤ pf b 1 1) || pf b 2 1 == 0 || decide (32 < pf b 2 1) || decide (13 < pf b 3 1)
    || pf b 6 2 == 0 || decide ((if bitAt (pf b 1 1) 1 then 66 else 273) < pf b 6 2) || pf b 8 2 == 0 || decide (256 < pf b 8 2)

/-- Late entries count with their resource elements in the slot they belong to (R202, R545). -/
def Dev.noteLateEntries (d : Dev) (j : Job) (deps : List Word) (nz : Nat) : Dev :=
  match j.serves with
  | none => d
  | some s =>
    let mine := fun (p : Plan) => p.cell == j.cell && p.down == s.down && p.start == s.start
    let known := ((d.cfg.plans.find? mine).map (fun p => p.lateDeps)).getD []
    let new := deps.eraseDups.filter (fun x => !known.contains x)
    let d1 := d.updCell j.cell (fun c => { c with lateTb := c.lateTb + new.length })
    { d1 with cfg := { d1.cfg with plans := d1.cfg.plans.map (fun p =>
        if mine p then { p with lateDeps := p.lateDeps ++ new, zero := p.zero + nz } else p) } }

/-- The subband of a job's cell that holds a PRB; 0 but for FR2. -/
def Dev.jobSub (d : Dev) (j : Job) (prb : Nat) : Nat :=
  match d.cell? j.cell with
  | some c => if c.cr.type = 3 then subbandOf ((nRb 3 c.cr.bw).getD 0) prb else 0
  | none => 0

/-- A BUILD job completes (R197 to R203, R209). -/
def Dev.buildJob (d : Dev) (u : Nat) (j : Job) : Dev :=
  let ni := engineNi 9 u
  let b := d.descOf 9 u j 48
  let ns := pf b 2 1
  let prb0 := pf b 4 2
  let nprb := pf b 6 2
  let nent := pf b 8 2
  let stat := pf b 32 8
  let dst := pf b 24 8
  let finish := fun (d : Dev) (r late beyond out : Nat) =>
    (d.engOut ni stat (shaperStatus r late beyond out d.doneTick [])).engReport 9 u j r
  let entAt := fun (i : Nat) => if j.copy.isEmpty then d.engIn ni (pf b 16 8 + 56 * i) 56 else (padTo 56 (j.copy.drop (48 + 56 * i)), false)
  let ents := if buildBad b then [] else (List.range nent).map entAt
  let maps := ents.map (fun e => if pf e.1 48 8 = 0 then ([], false) else d.engIn ni (pf e.1 48 8) (ceilDiv (12 * eNprb e.1) 8))
  let res := (ents.zip maps).map (fun x => entryRes x.1.1 x.2.1)
  let badDesc := buildBad b || ents.any (fun e => !e.2 && entryBad ns prb0 nprb e.1)
  let badAddr := !rangesMapped ([(dst, ns * nprb * 52), (stat, 16)] ++ (if j.copy.isEmpty then [(pf b 16 8, 56 * nent)] else [])
    ++ (ents.zip res).flatMap (fun x => entryRanges ns x.1.1 x.2.length))
  if badDesc ∨ badAddr then finish d (engResult badDesc badAddr false false) 0 0 0
  else
    let lateEnts := j.lateEnts.getD []
    let lost := (ents.zip maps).zipIdx.map (fun x => x.1.1.2 || x.1.2.2 || lateEnts.contains x.2)
    let use := ((ents.zip res).zip lost).filter (fun x => !x.2)
    let parts := use.map (fun x => (x.1.1.1, x.1.2, d.entrySymbols ni x.1.1.1 x.1.2))
    let cap := capLayers parts
    let out := (List.range ns).flatMap (fun s => (List.range nprb).flatMap (fun p => d.buildPrb ni ns (prb0 + p) s cap.1))
    let ecc := (ents.zip maps).any (fun x => x.1.2 || x.2.2)
      || ((ents.zip res).zip lost).any (fun x => !x.2 && (entryRanges ns x.1.1.1 x.1.2.length).any (fun r => d.srcBad ni r.1 r.2))
    let late := lateEnts.filter (fun i => decide (i < nent))
    let d1 := (d.engOut ni dst out).noteLateEntries j (late.map (fun i => BitVec.ofNat 32 (pf ((ents.getD i ([], false)).1) 24 4)))
      ((late.map (fun i => (res.getD i []).length)).sum)
    let lte := match d.cell? j.cell with | some c => c.cr.type == 4 | none => false
    let d2 := if lte then d1 else d1.offerAll j (d1.jobSub j prb0) prb0 true
      ((List.range ns).map (fun s => (out.drop (s * nprb * 52)).take (nprb * 52)))
    finish d2 (engResult false false ecc (decide (0 < late.length + cap.2))) late.length cap.2 (nprb * ns)

/-! ### ENCODE (R204) -/

/-- The code block sizes of TS 36.212 §5.1.2: blocks, those of the smaller size, both sizes, fillers of the first. -/
def turboSegments (b : Nat) : Nat × Nat × Nat × Nat × Nat :=
  let sizes := (List.range 6145).filter turboSize
  let c := if b ≤ 6144 then 1 else ceilDiv b (6144 - 24)
  let bp := if c = 1 then b else b + 24 * c
  let kPlus := (sizes.find? (fun k => decide (bp ≤ c * k))).getD 6144
  let kMinus := if c = 1 then 0 else ((sizes.filter (fun k => decide (k < kPlus))).getLast?).getD 0
  let cMinus := if c = 1 then 0 else (c * kPlus - bp) / Nat.max 1 (kPlus - kMinus)
  (c, cMinus, kMinus, kPlus, (c - cMinus) * kPlus + cMinus * kMinus - bp)

/-- The rate-matched bits of one turbo code block (TS 36.212 §5.1.3.2, §5.1.4.1). -/
def turboMatch (block : List Bool) (f ncb rv e : Nat) : List Bool :=
  let k := block.length
  let kw := 96 * turboRows k
  let n := if ncb = 0 then kw else Nat.min ncb kw
  let k0 := turboRows k * (2 * ceilDiv n (8 * turboRows k) * rv + 2)
  let streams := ((turboStreams block).map (fun s => s.toArray)).toArray
  let order := (((List.range n).map (fun i => (k0 + i) % n)).filterMap (turboSource k f)).toArray
  if order.isEmpty then []
  else (List.range e).map (fun i => let x := order.getD (i % order.size) (0, 0); (streams.getD x.1 #[]).getD x.2 false)

/-- The turbo operation: the number of code blocks and G bits. -/
def turboEncode (bits : List Bool) (b : List Byte) : Nat × List Bool :=
  let s := turboSegments bits.length
  let c := s.1
  let f := s.2.2.2.2
  let lens := (List.range c).map (fun r => (if r < s.2.1 then s.2.2.1 else s.2.2.2.1) - (if c = 1 then 0 else 24))
  let run := (List.range c).foldl (fun (acc : List Bool × List Bool) r =>
    let fill := if r = 0 then f else 0
    let take := lens.getD r 0 - fill
    let body := List.replicate fill false ++ acc.2.take take
    let crc := crcBits 24 0x800063 0 body
    let block := if c = 1 then body else body ++ (List.range 24).map (fun i => bitAt crc (23 - i))
    (acc.1 ++ turboMatch block fill (pf b 16 4) (pf b 12 1) (blockE (pf b 8 4) (pf b 3 1) (pf b 2 1) c r), acc.2.drop take)) ([], bits)
  (c, run.1)

/-- The outputs of a code over its information bits from a state; the register input is the bit and the feedback (R177). -/
def ConvCode.run (c : ConvCode) (s : Nat) (bits : List Bool) : List Bool × Nat :=
  bits.foldl (fun (acc : List Bool × Nat) x =>
    let a := if c.fb = 0 then x else x != oddBits c.kc ((c.fb / 2 * 2) &&& regOf acc.2 false)
    (acc.1 ++ c.out acc.2 a, regOf acc.2 a % 2 ^ (c.kc - 1))) ([], s)

/-- A block with its tail, or tail-biting: the state that the block ends in is the one it starts in. -/
def ConvCode.encode (c : ConvCode) (tb : Bool) (bits : List Bool) : List Bool :=
  if tb then
    let s := ((List.range (2 ^ (c.kc - 1))).find? (fun s => (c.run s bits).2 == s)).getD 0
    (c.run s bits).1
  else
    let r := c.run 0 bits
    r.1 ++ ((List.range (c.kc - 1)).foldl (fun (acc : List Bool × Nat) _ =>
      (acc.1 ++ c.out acc.2 false, regOf acc.2 false % 2 ^ (c.kc - 1))) ([], r.2)).1

/-- Rate matching of the tail-biting code (TS 36.212 §5.1.4.2): three streams of D bits, G bits from the first that is no
dummy. -/
def convMatch (code : List Bool) (dlen g : Nat) : List Bool :=
  let r := ceilDiv dlen 32
  let nd := 32 * r - dlen
  let order := (List.range (96 * r)).filterMap (fun p =>
    let i := p % (32 * r)
    let y := i % r * 32 + (turboCol (i / r) ^^^ 1)
    if y < nd then none else some (3 * (y - nd) + p / (32 * r)))
  if order.isEmpty then [] else (List.range g).map (fun i => code.getD (order.getD (i % order.length) 0) false)

/-- The code of an ENCODE descriptor; that of TS 36.212 §5.1.3.1 without NORM. -/
def encodeCode (b : List Byte) : ConvCode :=
  if bitAt (pf b 1 1) 2 then { kc := pf b 13 1, gens := (List.range (pf b 14 1)).map (fun k => pf b (20 + k) 1), fb := pf b 15 1 }
  else { kc := 7, gens := [0x6D, 0x4F, 0x57], fb := 0 }

/-- BAD_DESC of an ENCODE (Table 8.5). -/
def encodeBad (b : List Byte) : Bool :=
  let fl := pf b 1 1
  let conv := bitAt fl 0
  let norm := bitAt fl 2
  let a := pf b 4 4
  let c := encodeCode b
  pf b 0 1 != 2 || decide (16 ≤ fl) || decide (3 < pf b 12 1)
    || (if conv then
          decide (a < 1 ∨ 4096 < a) || (!norm && !bitAt fl 1)
            || (norm && (decide (c.kc < 5 ∨ 7 < c.kc) || decide (pf b 14 1 < 2 ∨ 6 < pf b 14 1)
                  || c.gens.any (fun g => decide (2 ^ c.kc ≤ g) || g % 2 == 0)
                  || ((List.range 6).drop (pf b 14 1)).any (fun k => pf b (20 + k) 1 != 0)
                  || decide (2 ^ c.kc ≤ c.fb) || (c.fb != 0 && c.fb % 2 == 0)))
        else a == 0 || a % 8 != 0 || !([2, 4, 6, 8, 10].contains (pf b 2 1)) || pf b 3 1 == 0 || decide (4 < pf b 3 1)
          || pf b 8 4 % Nat.max 1 (pf b 3 1 * pf b 2 1) != 0 || (!bitAt fl 3 && decide (a < 24)))

/-- An ENCODE job completes (R204). -/
def Dev.encodeJob (d : Dev) (u : Nat) (j : Job) : Dev :=
  let ni := engineNi 9 u
  let b := d.descOf 9 u j 64
  let fl := pf b 1 1
  let a := pf b 4 4
  let c := encodeCode b
  let conv := bitAt fl 0
  let outBits := if conv && bitAt fl 2 then c.gens.length * (if bitAt fl 1 then a else a + c.kc - 1) else pf b 8 4
  let stat := pf b 48 8
  let finish := fun (d : Dev) (r out blocks : Nat) =>
    (d.engOut ni stat (shaperStatus r 0 0 out d.doneTick (bytesOf 1 blocks))).engReport 9 u j r
  let badDesc := encodeBad b
  let badAddr := !rangesMapped [(pf b 32 8, ceilDiv a 8), (pf b 40 8, ceilDiv outBits 8), (stat, 16)]
  if badDesc ∨ badAddr then finish d (engResult badDesc badAddr false false) 0 0
  else
    let src := d.engIn ni (pf b 32 8) (ceilDiv a 8)
    let bits := bitsOf src.1 a
    if !conv && !bitAt fl 3 && !src.2 && crcBits 24 0x864CFB 0 bits != 0 then finish d 0x15 0 0
    else
      let x := if !conv then turboEncode bits b
        else if bitAt fl 2 then (1, c.encode (bitAt fl 1) bits) else (1, convMatch (c.encode true bits) a outBits)
      finish (d.engOut ni (pf b 40 8) (packBits x.2)) (engResult false false src.2 false) x.2.length (if conv then 0 else x.1)

/-! ### Ramps, bursts and edges (R205 to R208) -/

/-- The gain g_up of a sample of a ramp in Q15 (R206). -/
def Dev.rampGain (d : Dev) (prof rlen k : Nat) : Nat :=
  if prof = 0 then raisedCosine rlen k
  else
    let t := fun (i : Nat) => ((pf (d.cfg.ramps.toList.getD prof []) (4 + 2 * i) 2 : Nat) : Int)
    let num := 31 * (2 * k + 1)
    let den := 2 * rlen
    let i := num / den
    ((2 * (t i * (den : Nat) + ((num % den : Nat) : Int) * (t (i + 1) - t i)) + (den : Nat)) / (2 * (den : Nat) : Int)).toNat

/-- A product of a part and a Q15 gain, rounded under R127. -/
def gainPart (x : Int) (g : Nat) : Int := min (rhuShift (x * g) 15) 32767

/-- A sample times a gain. -/
def gainSample (x : Int × Int) (g : Nat) : Int × Int := (gainPart x.1 g, gainPart x.2 g)

/-- A sample in memory (R64). -/
def sampleAt (bs : List Byte) (i : Nat) : Int × Int := (signedOf 16 (pf bs (4 * i) 2), signedOf 16 (pf bs (4 * i + 2) 2))

/-- An EDGE job completes (R205). -/
def Dev.edgeJob (d : Dev) (u : Nat) (j : Job) : Dev :=
  let ni := engineNi 9 u
  let b := d.descOf 9 u j 32
  let down := bitAt (pf b 1 1) 0
  let prof := pf b 2 1
  let rlen := pf b 4 2
  let ncp := pf b 6 2
  let n := pf b 8 2
  let buf := pf b 16 8
  let stat := pf b 24 8
  let finish := fun (d : Dev) (r out : Nat) => (d.engOut ni stat (shaperStatus r 0 0 out d.doneTick [])).engReport 9 u j r
  let badDesc := pf b 0 1 != 4 || decide (7 < prof) || rlen == 0 || decide (ncp / 2 < rlen)
  let badAddr := !rangesMapped [(buf, 4 * (ncp + n + if down then rlen else 0)), (stat, 16)]
  if badDesc ∨ badAddr then finish d (engResult badDesc badAddr false false) 0
  else
    let src := d.engIn ni (if down then buf + 4 * ncp else buf) (4 * rlen)
    let out := (List.range rlen).map (fun k =>
      gainSample (sampleAt src.1 k) (d.rampGain prof rlen (if down then rlen - 1 - k else k)))
    let d1 := d.engOut ni (if down then buf + 4 * (ncp + n) else buf) (sampleBytes out)
    let d2 := d1.offerAll j 0 0 false [d1.mem.ifBytes buf (4 * (ncp + n))]
    finish d2 (engResult false false src.2 false) rlen

/-- BAD_DESC of a BURST (Table 8.7). -/
def burstBad (b : List Byte) : Bool :=
  let tsc := pf b 2 1
  pf b 0 1 != 3 || decide (16 ≤ pf b 1 1) || decide (64 ≤ tsc) || bitAt tsc 3 || (bitAt (pf b 1 1) 0 && decide (1 < tsc / 16))
    || decide (8 ≤ pf b 3 1) || pf b 4 1 == 0 || decide (8 < pf b 4 1) || decide (7 < pf b 5 1)

/-- Whether a block is modulated as 8-PSK; the dummy burst is GMSK (TS 45.002 §5.2.6, log entry 48). -/
def burstPsk (b : List Byte) : Bool := bitAt (pf b 1 1) 0 && !bitAt (pf b 1 1) 1

/-- The symbols of a block's burst (R207): none where it is idle. -/
def burstSymbols (b src : List Byte) : Array Nat :=
  let fl := pf b 1 1
  (if bitAt fl 2 then []
    else if bitAt fl 1 then dummyBurst
    else normalBurst (bitAt fl 0) (pf b 2 1 / 16) (pf b 2 1 % 8) (bitsOf src (if bitAt fl 0 then 348 else 116))).toArray

/-- A sample of a block before its gain. -/
def blockSample (b : List Byte) (syms : Array Nat) (j : Nat) : Int × Int :=
  burstSample (burstPsk b) (Sys2Proof.Config.burstPhase b).toNat syms j

/-- The guard samples of a block (R208). -/
def Dev.guardPart (d : Dev) (b : List Byte) (syms : Array Nat) (g : Nat) : List (Int × Int) :=
  let fl := pf b 1 1
  let active := !bitAt fl 2
  let next := bitAt fl 3
  let prof := pf b 3 1
  let rlen := pf b 4 1
  let a := burstGain (pf b 6 1)
  let nb := burstGain (pf b 7 1)
  let up := fun (k : Nat) => d.rampGain prof rlen k
  let scaled := fun (x w : Nat) => (gainPart (x : Int) w).toNat
  let env := fun (i : Nat) =>
    match active, next with
    | true, false => if i < rlen then scaled a (up (rlen - 1 - i)) else 0
    | false, true => if i < g - rlen then 0 else scaled nb (up (i - (g - rlen)))
    | true, true =>
      let h := (g - rlen) / 2
      if i < h then a
      else if i < h + rlen then (a + (rhuShift (((nb : Int) - a) * up (i - h)) 15)).toNat
      else nb
    | false, false => 0
  (List.range g).map (fun i => envSample (blockSample b syms (296 + i)) (env i))

/-- A BURST job completes (R207, R208). -/
def Dev.burstJob (d : Dev) (u : Nat) (j : Job) : Dev :=
  let ni := engineNi 9 u
  let b := d.descOf 9 u j 48
  let fl := pf b 1 1
  let g := 17 - pf b 5 1 % 2
  let needs := !bitAt fl 1 && !bitAt fl 2
  let srcLen := if !needs then 0 else if bitAt fl 0 then 44 else 15
  let stat := pf b 32 8
  let finish := fun (d : Dev) (r out : Nat) =>
    (d.engOut ni stat (shaperStatus r 0 0 out d.doneTick (bytesOf 4 (pf b 8 4)))).engReport 9 u j r
  let badDesc := burstBad b
  let badAddr := !rangesMapped [(pf b 16 8, srcLen), (pf b 24 8, 4 * (296 + g)), (stat, 16)]
  if badDesc ∨ badAddr then finish d (engResult badDesc badAddr false false) 0
  else
    let src := d.engIn ni (pf b 16 8) srcLen
    let syms := burstSymbols b src.1
    let a := burstGain (pf b 6 1)
    let part := (List.range 296).map (fun i =>
      if bitAt fl 2 then ((0 : Int), (0 : Int)) else envSample (blockSample b syms i) a)
    finish (d.engOut ni (pf b 24 8) (sampleBytes (part ++ d.guardPart b syms g))) (engResult false false src.2 false) (296 + g)

/-! ### GATE (R213) -/

/-- A GATE job completes: the events of its slot, from the cell's TDD pattern, or a TRX's idle timeslots. -/
def Dev.gateJob (d : Dev) (u : Nat) (j : Job) : Dev :=
  let done := fun (d : Dev) => d.engReport 9 u j 0
  match j.serves with
  | none => done d
  | some s =>
    let cell := d.cell? j.cell
    match (match cell with | some c => some c.cr | none => d.plannedCells.find? (fun c => c.cell == j.cell)) with
    | none => done d
    | some c =>
      let st := (cell.map (fun x => (x.gateOn, x.idleLast))).getD (false, false)
      if c.gategrp = 0xFF then done d
      else if c.type = 5 ∧ c.duplex.getLsbD 1 then
        let active := d.gsmActive j.cell s.start
        -- a run of idle timeslots that begins with the last timeslot of the frame before
        let back := st.1 && st.2 && !active.getD 0 true
        let d0 := if back then d.gateDerive c (gateOffEv c (d.time.symStart 5 (airShift s.start (-1)) 7)) else d
        let r := d0.gateWalk c s.start (st.1 && !back) (gsmWant active st.2)
        done (r.1.updCell j.cell (fun x => { x with gateOn := r.2, idleLast := !active.getD 7 true }))
      else
        let r := d.gateWalk c s.start st.1 ((List.range (slotSymbols c.type)).map (fun k => d.time.symDown c s.start k))
        done (r.1.updCell j.cell (fun x => { x with gateOn := r.2 }))

/-! ### Rows -/

/-- A shaper row: the job's MODE is the row's; a GATE job has no descriptor. -/
def State.onShaper (s : State) (u : Fin 8) (gate : Bool) (own : Nat → Bool) (f : Dev → Job → Dev) : Host.Outcome State Fault Refusal :=
  s.onEngine 9 u.val (fun d j => (j.gateJob == gate) && (gate || own (pf (d.descOf 9 u.val j 32) 0 1))) f

/-- BUILD (R198), and jobs whose MODE Table 8.1 does not give a descriptor, which complete with BAD_DESC. -/
def execBuild (u : Fin 8) (s : State) : Host.Outcome State Fault Refusal :=
  s.onShaper u false (fun m => !([2, 3, 4].contains m)) (fun d j => d.buildJob u.val j)

/-- ENCODE (R204). -/
def execEncode (u : Fin 8) (s : State) : Host.Outcome State Fault Refusal :=
  s.onShaper u false (fun m => m == 2) (fun d j => d.encodeJob u.val j)

/-- BURST (R207). -/
def execBurst (u : Fin 8) (s : State) : Host.Outcome State Fault Refusal :=
  s.onShaper u false (fun m => m == 3) (fun d j => d.burstJob u.val j)

/-- EDGE (R205). -/
def execEdge (u : Fin 8) (s : State) : Host.Outcome State Fault Refusal :=
  s.onShaper u false (fun m => m == 4) (fun d j => d.edgeJob u.val j)

/-- GATE (R213). -/
def execGate (u : Fin 8) (s : State) : Host.Outcome State Fault Refusal :=
  s.onShaper u true (fun _ => true) (fun d j => d.gateJob u.val j)

end Sys2Proof.Machine
end

