-- ==== Sys2Proof/Machine/Operands.lean ====
section
/-! DEFINITION. The operand forms of a Psiah bundle: decoding and spelling a slot word (03_signal_cores.md, R69 to R73;
04_matrix_coprocessor.md, R104), and address generation (R75 to R77). Bits that a format does not name are not read
(log entry 21). -/

namespace Sys2Proof.Machine

/-- A field of a slot word. -/
def fld (w : Word) (lo n : Nat) : BitVec n := w.extractLsb' lo n

/-- FN of the SR format by its number (Table 3.5). -/
def aluOf (n : BitVec 4) : AluFn :=
  match n.toNat with
  | 0 => .add | 1 => .sub | 2 => .and | 3 => .or | 4 => .xor | 5 => .shl | 6 => .shr | 7 => .sar
  | 8 => .mul | 9 => .mulh | 10 => .adds | 11 => .subs | 12 => .min | 13 => .max | 14 => .slt | _ => .sltu

/-- The number of an FN of the SR format. -/
def aluCode : AluFn → BitVec 4
  | .add => 0 | .sub => 1 | .and => 2 | .or => 3 | .xor => 4 | .shl => 5 | .shr => 6 | .sar => 7
  | .mul => 8 | .mulh => 9 | .adds => 10 | .subs => 11 | .min => 12 | .max => 13 | .slt => 14 | .sltu => 15

/-- The scalar/branch slot (Tables 3.4, 3.5); `none` where the encoding is unlisted. -/
def decodeSb (w : Word) : Option SbOp :=
  let sd := fld w 22 4
  let sa := fld w 18 4
  let imm := fld w 0 18
  match (fld w 26 6).toNat with
  | 0x00 => some .nop
  | 0x01 => if fld w 4 10 = 0 then some (.alu (aluOf (fld w 0 4)) sd sa (fld w 14 4)) else none
  | 0x02 => some (.imm .addi sd sa imm)
  | 0x03 => some (.imm .andi sd sa imm)
  | 0x04 => some (.imm .ori sd sa imm)
  | 0x05 => some (.imm .lui sd sa imm)
  | 0x08 => some (.amod (fld w 23 3) (fld w 20 3) (w.getLsbD 19))
  | 0x09 => some (.movta (fld w 22 4) (fld w 16 6))
  | 0x0A => some (.movfa (fld w 22 4) (fld w 16 6))
  | 0x10 => some (.br sd sa imm)
  | 0x11 => if sd = 0 ∧ sa = 0 then some (.jmp imm) else none
  | 0x12 => some (.call imm)
  | 0x13 => some (.jr sd)
  | 0x14 => if sd = 0 then some (.bmxb sa imm) else none
  | 0x18 => if fld w 12 9 = 0 then some (.rep (w.getLsbD 25) (fld w 21 4) (fld w 0 12)) else none
  | 0x20 => if fld w 0 10 = 0 then some (.csr .read sd (fld w 10 12)) else none
  | 0x21 => if fld w 0 10 = 0 then some (.csr .write sd (fld w 10 12)) else none
  | 0x22 => if fld w 0 10 = 0 then some (.csr .set sd (fld w 10 12)) else none
  | 0x23 => if fld w 0 10 = 0 then some (.csr .clear sd (fld w 10 12)) else none
  | 0x28 => some (.trap imm)
  | 0x29 => some .rett
  | 0x2A => some .brk
  | 0x2B => some .wait
  | 0x2C => if fld w 4 10 = 0 then some (.done sa) else none
  | _ => none

/-- The word of a scalar/branch slot operation, for EVAL (R90). -/
def spellSb : SbOp → Word
  | .nop => 0
  | .alu fn sd sa sb => (0x01 : BitVec 6) ++ sd ++ sa ++ sb ++ (0 : BitVec 10) ++ aluCode fn
  | .imm fn sd sa imm =>
    (match fn with | .addi => (0x02 : BitVec 6) | .andi => 0x03 | .ori => 0x04 | .lui => 0x05) ++ sd ++ sa ++ imm
  | .amod an mn circ => (0x08 : BitVec 6) ++ an ++ mn ++ BitVec.ofBool circ ++ (0 : BitVec 19)
  | .movta s t => (0x09 : BitVec 6) ++ s ++ t ++ (0 : BitVec 16)
  | .movfa s t => (0x0A : BitVec 6) ++ s ++ t ++ (0 : BitVec 16)
  | .br sa cond off => (0x10 : BitVec 6) ++ sa ++ cond ++ off
  | .jmp off => (0x11 : BitVec 6) ++ (0 : BitVec 8) ++ off
  | .call off => (0x12 : BitVec 6) ++ (0 : BitVec 8) ++ off
  | .jr sa => (0x13 : BitVec 6) ++ sa ++ (0 : BitVec 22)
  | .bmxb cond off => (0x14 : BitVec 6) ++ (0 : BitVec 4) ++ cond ++ off
  | .rep src sa count => (0x18 : BitVec 6) ++ BitVec.ofBool src ++ sa ++ (0 : BitVec 9) ++ count
  | .csr fn s num =>
    (match fn with | .read => (0x20 : BitVec 6) | .write => 0x21 | .set => 0x22 | .clear => 0x23)
      ++ s ++ num ++ (0 : BitVec 10)
  | .trap imm => (0x28 : BitVec 6) ++ (0 : BitVec 8) ++ imm
  | .rett => (0x29 : BitVec 6) ++ (0 : BitVec 26)
  | .brk => (0x2A : BitVec 6) ++ (0 : BitVec 26)
  | .wait => (0x2B : BitVec 6) ++ (0 : BitVec 26)
  | .done sa => (0x2C : BitVec 6) ++ (0 : BitVec 4) ++ sa ++ (0 : BitVec 18)

/-- The load/store slot (R72, Table 3.6); `none` where OP is unlisted. -/
def decodeLs (w : Word) : Option LsOp :=
  let mk := fun fn => some (LsOp.acc fn (fld w 22 5) (fld w 19 3) (fld w 16 3) (fld w 14 2) (fld w 0 14))
  match (fld w 27 5).toNat with
  | 0x00 => some .nop
  | 0x01 => mk .ldw
  | 0x02 => mk .stw
  | 0x03 => mk .ldv
  | 0x04 => mk .stv
  | 0x05 => mk .ldvb
  | 0x06 => mk .asv
  | 0x07 => mk .ald
  | _ => none

/-- The number of a load/store operation. -/
def lsCode : LsFn → BitVec 5
  | .ldw => 1 | .stw => 2 | .ldv => 3 | .stv => 4 | .ldvb => 5 | .asv => 6 | .ald => 7

/-- The word of a load/store slot operation. -/
def spellLs : LsOp → Word
  | .nop => 0
  | .acc fn r an mn mode imm => lsCode fn ++ r ++ an ++ mn ++ mode ++ imm

/-- The MXC instruction of an OP in VB, with FN[0] telling the two MXGETE forms apart (Table 4.1). -/
def mxOf (op : Nat) (fn0 : Bool) : MxFn :=
  match op with
  | 0x30 => .ld | 0x31 => .st | 0x32 => if fn0 then .getSeq else .getExp | 0x33 => .ident | 0x34 => .add
  | 0x35 => .mul | 0x36 => .gram | 0x37 => .inv | 0x38 => .scl | 0x39 => .ack | _ => .reserved

/-- The OP of an MXC instruction. -/
def mxCode : MxFn → BitVec 6
  | .ld => 0x30 | .st => 0x31 | .getExp => 0x32 | .getSeq => 0x32 | .ident => 0x33 | .add => 0x34 | .mul => 0x35
  | .gram => 0x36 | .inv => 0x37 | .scl => 0x38 | .ack => 0x39 | .reserved => 0x3A

/-- A vector slot (R73, Table 3.7); MXC instructions only in VB; `none` where OP or FN is unlisted. -/
def decodeV (slot : VSlot) (w : Word) : Option VOp :=
  let d := fld w 21 5
  let a := fld w 16 5
  let b := fld w 11 5
  let fn := fld w 5 6
  let mod := fld w 0 5
  let op := (fld w 26 6).toNat
  match op with
  | 0x00 => some .nop
  | 0x01 =>
    match fn.toNat with
    | 0 => some (.valu .add d a b mod)
    | 1 => some (.valu .sub d a b mod)
    | 2 => some (.valu .neg d a b mod)
    | 3 => some (.valu .conj d a b mod)
    | 4 => some (.valu .and d a b mod)
    | 5 => some (.valu .or d a b mod)
    | 6 => some (.valu .xor d a b mod)
    | 7 => some (.valu .sar d a b mod)
    | 8 => some (.valu .mulj d a b mod)
    | _ => none
  | 0x02 => some (.mul .mul d a b fn mod)
  | 0x03 => some (.mul .mac d a b fn mod)
  | 0x04 => some (.mul .msu d a b fn mod)
  | 0x05 => some (.mova d a b fn mod)
  | 0x06 => some (.movv d a)
  | 0x07 => some (.bexp d a)
  | 0x08 =>
    match fn.toNat with
    | 0 => some (.perm .rot d a b mod)
    | 1 => some (.perm .bfly d a b mod)
    | 2 => some (.perm .rev d a b mod)
    | 3 => some (.perm .bcast d a b mod)
    | _ => none
  | 0x09 => if w.getLsbD 10 then some (.ext d a (fld w 5 5)) else some (.ins d a (fld w 5 5))
  | _ => if 0x30 ≤ op ∧ slot = .vb then some (.mx (mxOf op (w.getLsbD 5)) d a b fn mod) else none

/-- The vector slot word of its fields (R73). -/
def vWord (op : BitVec 6) (d a b : BitVec 5) (fn : BitVec 6) (mod : BitVec 5) : Word := op ++ d ++ a ++ b ++ fn ++ mod

/-- The word of a vector slot operation. -/
def spellV : VOp → Word
  | .nop => 0
  | .valu fn d a b mod =>
    vWord 0x01 d a b
      (match fn with
       | .add => 0 | .sub => 1 | .neg => 2 | .conj => 3 | .and => 4 | .or => 5 | .xor => 6 | .sar => 7 | .mulj => 8) mod
  | .mul fn d a b fnf mod => vWord (match fn with | .mul => 0x02 | .mac => 0x03 | .msu => 0x04) d a b fnf mod
  | .mova d a b fnf mod => vWord 0x05 d a b fnf mod
  | .movv d a => vWord 0x06 d a 0 0 0
  | .bexp d a => vWord 0x07 d a 0 0 0
  | .perm fn d a b mod => vWord 0x08 d a b (match fn with | .rot => 0 | .bfly => 1 | .rev => 2 | .bcast => 3) mod
  | .ins d a lane => vWord 0x09 d a 0 ((0 : BitVec 1) ++ lane) 0
  | .ext d a lane => vWord 0x09 d a 0 ((1 : BitVec 1) ++ lane) 0
  | .mx fn d a b fnf mod => vWord (mxCode fn) d a b fnf mod

/-- The slots of a bundle's words (Table 3.3). -/
def decodeBundle (w : BundleWords) : Bundle :=
  { sb := ⟨w.sb, decodeSb w.sb⟩, ls := ⟨w.ls, decodeLs w.ls⟩
    va := ⟨w.va, decodeV .va w.va⟩, vb := ⟨w.vb, decodeV .vb w.vb⟩ }

/-- A bundle whose scalar/branch slot holds `op`. -/
def bundleSb (w : BundleWords) (op : SbOp) : Bundle := { decodeBundle w with sb := ⟨spellSb op, some op⟩ }
/-- A bundle whose load/store slot holds `op`. -/
def bundleLs (w : BundleWords) (op : LsOp) : Bundle := { decodeBundle w with ls := ⟨spellLs op, some op⟩ }
/-- A bundle whose named vector slot holds `op`. -/
def bundleV (w : BundleWords) (slot : VSlot) (op : VOp) : Bundle :=
  match slot with
  | .va => { decodeBundle w with va := ⟨spellV op, some op⟩ }
  | .vb => { decodeBundle w with vb := ⟨spellV op, some op⟩ }

/-- The size of an access in bytes (R75). -/
def lsSize : LsFn → Nat
  | .ldw => 4 | .stw => 4 | .ldvb => 4 | .ldv => 128 | .stv => 128 | .asv => 384 | .ald => 384

/-- Whether the operation is a load. -/
def lsIsLoad : LsFn → Bool
  | .ldw => true | .ldv => true | .ldvb => true | .ald => true | _ => false

/-- The circular offset of an address in a buffer of length `l` at `b`: (a - b + k) mod l, the sum taken on 32-bit integers
(R75). -/
def circOff (a b : Word) (k : Int) (l : Nat) : Word := BitVec.ofInt 32 ((a - b + BitVec.ofInt 32 k).toInt % (l : Int))

/-- Whether an access wraps element by element: circular, with a nonzero length (R76). -/
def lsWraps (c : Core) (an : BitVec 3) (mode : BitVec 2) : Bool :=
  mode == 3 && (c.l[(an.extractLsb' 0 2).toFin] != 0)

/-- The effective address of an access (R75). -/
def lsEa (c : Core) (an : BitVec 3) (mode : BitVec 2) (imm : BitVec 14) : Word :=
  let a := c.a[an.toFin]
  if mode = 0 then a + (imm.signExtend 32) * 4
  else if lsWraps c an mode then
    let i := (an.extractLsb' 0 2).toFin
    c.b[i] + circOff a c.b[i] 0 c.l[i].toNat
  else a

/-- The address register after the update of a mode (R75). -/
def lsAn (c : Core) (an mn : BitVec 3) (mode : BitVec 2) (imm : BitVec 14) : Word :=
  let a := c.a[an.toFin]
  let m := c.m[mn.toFin]
  if mode = 0 then a
  else if mode = 2 then a + (imm.signExtend 32) * 4
  else if lsWraps c an mode then
    let i := (an.extractLsb' 0 2).toFin
    c.b[i] + circOff a c.b[i] m.toInt c.l[i].toNat
  else a + m

/-- The address of element `k` of an access (R75). -/
def lsElem (c : Core) (an : BitVec 3) (mode : BitVec 2) (imm : BitVec 14) (k : Nat) : Word :=
  if lsWraps c an mode then
    let i := (an.extractLsb' 0 2).toFin
    c.b[i] + circOff c.a[an.toFin] c.b[i] (4 * k : Nat) c.l[i].toNat
  else lsEa c an mode imm + BitVec.ofNat 32 (4 * k)

/-- The element addresses of an access, lowest element first (R75). -/
def lsElems (c : Core) (fn : LsFn) (an : BitVec 3) (mode : BitVec 2) (imm : BitVec 14) : List Word :=
  (List.range (lsSize fn / 4)).map (lsElem c an mode imm)

end Sys2Proof.Machine
end

