-- ==== Sys2Proof/Machine/Flags.lean ====
section
/-! DEFINITION. Every flag computation of a Psiah core and its MXC: saturation and GOV of the vector operations
(03_signal_cores.md, R79 to R83), VSTAT, GOVMASK and BEXPACC after a bundle, the MX result exponent with its flags
(04_matrix_coprocessor.md, R102). -/

namespace Sys2Proof.Machine

/-- VSTAT.SAT, GOV, LASTGOV as bits (Table 3.13). -/
def vstatSat : Word := 1
/-- VSTAT.GOV. -/
def vstatGov : Word := 2
/-- VSTAT.LASTGOV. -/
def vstatLastGov : Word := 4

/-- A complex word of two parts after saturation, and whether a part saturated (R83). -/
def satCplx (re im : Int) : Word × Bool := (mkCplx (sat16 re) (sat16 im), sat16 re != re || sat16 im != im)

/-- One lane of a VALU operation with its saturation (R73, R83). -/
def valuLane (fn : ValuFn) (mod : BitVec 5) (x y : Word) : Word × Bool :=
  match fn with
  | .add => satCplx (partRe x + partRe y) (partIm x + partIm y)
  | .sub => satCplx (partRe x - partRe y) (partIm x - partIm y)
  | .neg => satCplx (-partRe x) (-partIm x)
  | .conj => satCplx (partRe x) (-partIm x)
  | .and => (x &&& y, false)
  | .or => (x ||| y, false)
  | .xor => (x ^^^ y, false)
  | .sar => (mkCplx (shiftRightInt (partRe x) (mod.extractLsb' 0 4).toNat)
      (shiftRightInt (partIm x) (mod.extractLsb' 0 4).toNat), false)
  | .mulj =>
    if partIm x = -32768 then
      ((x.extractLsb' 0 16) ++ Sys2Proof.Config.vmuljCorner, Sys2Proof.Config.vmuljCornerSat)
    else (mkCplx (-partIm x) (partRe x), false)

/-- The lanes of a VALU operation. -/
def valuLanes (fn : ValuFn) (mod : BitVec 5) (x y : VReg) : Vector (Word × Bool) 32 :=
  Vector.ofFn (fun k => valuLane fn mod x[k] y[k])

/-- One component limited to 40 bits (R79). -/
def sat40 (x : Int) : Int := clampInt (-(2 ^ 39)) (2 ^ 39 - 1) x

/-- The exact complex product of a lane with the modifiers of the multiply class (R73, R79): MOD[0] conjugates B,
MOD[1] conjugates A. -/
def mulLane (mod : BitVec 5) (x y : Word) : Int × Int :=
  let ar := partRe x
  let ai := if mod.getLsbD 1 then -partIm x else partIm x
  let br := partRe y
  let bi := if mod.getLsbD 0 then -partIm y else partIm y
  (ar * br - ai * bi, ar * bi + ai * br)

/-- One lane of an accumulator after a multiply-class instruction (R79). -/
def macLane (fn : MulFn) (old : AccLane) (p : Int × Int) : AccLane :=
  match fn with
  | .mul => { re := BitVec.ofInt 40 p.1, im := BitVec.ofInt 40 p.2, gov := false }
  | _ =>
    if old.gov then old
    else
      let re := if fn = .msu then old.re.toInt - p.1 else old.re.toInt + p.1
      let im := if fn = .msu then old.im.toInt - p.2 else old.im.toInt + p.2
      { re := BitVec.ofInt 40 (sat40 re), im := BitVec.ofInt 40 (sat40 im)
        gov := sat40 re != re || sat40 im != im }

/-- The B' of a multiply (R73): MOD[2] broadcasts lane FN[4:0] of B. -/
def mulB (fnf : BitVec 6) (mod : BitVec 5) (y : VReg) (k : Fin 32) : Word :=
  if mod.getLsbD 2 then y[(fnf.extractLsb' 0 5).toFin] else y[k]

/-- The accumulator after a multiply-class instruction (R79). -/
def macAcc (fn : MulFn) (fnf : BitVec 6) (mod : BitVec 5) (old : Acc) (x y : VReg) : Acc :=
  Vector.ofFn (fun k => macLane fn old[k] (mulLane mod x[k] (mulB fnf mod y k)))

/-- One component of VMOVA (R80): the part written and whether it saturated. -/
def movaPart (gov : Bool) (s : Int) (x : Int) : Int × Bool :=
  if gov then (if 0 ≤ x then 32767 else -32768, false)
  else (sat16 (shiftRightInt x (15 + s)), sat16 (shiftRightInt x (15 + s)) != shiftRightInt x (15 + s))

/-- One lane of VMOVA. -/
def movaLane (s : Int) (x : AccLane) : Word × Bool :=
  let r := movaPart x.gov s x.re.toInt
  let i := movaPart x.gov s x.im.toInt
  (mkCplx r.1 i.1, r.2 || i.2)

/-- The lanes of VMOVA with shift `s`. -/
def movaLanes (s : Int) (x : Acc) : Vector (Word × Bool) 32 := Vector.ofFn (fun k => movaLane s x[k])

/-- Whether some lane of a result saturated. -/
def anySat (r : Vector (Word × Bool) 32) : Bool := r.toList.any (fun e => e.2)

/-- The words of a result. -/
def laneWords (r : Vector (Word × Bool) 32) : VReg := r.map (fun e => e.1)

/-- The AUTO shift (R81): the smallest s from 0 to 9 for which no lane with GOV clear saturates. -/
def autoShift (x : Acc) : Nat := ((List.range 9).find? (fun (s : Nat) => !anySat (movaLanes (s : Int) x))).getD 9

/-- The GOV flags of an accumulator, bit l for lane l. -/
def govBits (x : Acc) : Word :=
  (List.range 32).foldl (fun w k => if ((x.toList[k]?).getD {}).gov then w ||| (1 <<< k) else w) 0

/-- VSTAT after a VMOVA whose source had the GOV flags `g` (R80, R81). -/
def vstatAfterMova (old g : Word) (sat : Bool) (auto : Option Nat) : Word :=
  let v1 := if sat then old ||| vstatSat else old
  let v2 := if g ≠ 0 then (v1 ||| vstatGov) ||| vstatLastGov else v1 &&& ~~~vstatLastGov
  match auto with
  | some s => (v2 &&& ~~~(0xF00 : Word)) ||| (BitVec.ofNat 32 s <<< 8)
  | none => v2

/-- BEXPACC after an AUTO move (R81). -/
def bexpaccAdd (old : BitVec 8) (s : Nat) : BitVec 8 := BitVec.ofNat 8 (Nat.min 255 (old.toNat + s))

/-- Redundant sign bits of a 16-bit part, from 0 to 15 (R82). -/
def redundantSign (x : Int) : Nat :=
  ((List.range 15).find? (fun n => !(decide (-(2 ^ (14 - n) : Int) ≤ x) && decide (x < (2 ^ (14 - n) : Int))))).getD 15

/-- The block exponent of a vector (R82). -/
def blockExp (x : VReg) : Nat :=
  x.toList.foldl (fun m w => Nat.min m (Nat.min (redundantSign (partRe w)) (redundantSign (partIm w)))) 15

/-- Whether SATINT is raised by a bundle (Table 3.12): SAT or GOV went from 0 to 1 with SATINT_EN set. -/
def satintRaised (corectl before after : Word) : Bool :=
  corectl.getLsbD 1 && (((after &&& ~~~before) &&& 3) != 0)

/-- Whether a component fits an exponent: floor (c * 2^u / 2^(e - 15)) lies in 16 bits (R102). -/
def fitsExp (u e : Int) (c : Int × Int) : Bool :=
  let r := shiftRightInt c.1 (e - 15 - u)
  let i := shiftRightInt c.2 (e - 15 - u)
  decide (-32768 ≤ r) && decide (r ≤ 32767) && decide (-32768 ≤ i) && decide (i ≤ 32767)

/-- The result exponent E_D of components in units of 2^u (R102); `none` where E_D would be above 127. -/
def resultExp (u : Int) (cs : List (Int × Int)) : Option Int :=
  ((List.range 256).map (fun (n : Nat) => (n : Int) - 128)).find? (fun e => cs.all (fitsExp u e))

/-- A result register of exact components in units of 2^u, and whether the EXPONENT late error arises (R102); its flags follow
by R103. -/
def mxResult (u : Int) (cs : Vector (Int × Int) 64) : MxReg × Bool :=
  match resultExp u cs.toList with
  | some e =>
    ({ elem := cs.map (fun c => mkCplx (shiftRightInt c.1 (e - 15 - u)) (shiftRightInt c.2 (e - 15 - u)))
       exp := BitVec.ofInt 8 e }, false)
  | none =>
    ({ elem := cs.map (fun c => mkCplx (sat16 (shiftRightInt c.1 (112 - u))) (sat16 (shiftRightInt c.2 (112 - u))))
       exp := 127 }, true)

end Sys2Proof.Machine
end

