-- ==== Sys2Proof/Machine/Psiah.lean ====
section
/-! DEFINITION. One bundle of a Psiah core: checks, traps, the effects of the four slots, REP and RETT
(03_signal_cores.md, R61 to R97; 04_matrix_coprocessor.md, R104 to R123). Every row of the Psiah families calls
`runBundle` with its own slot. -/

namespace Sys2Proof.Machine

/-- The states of an MXC (R120). -/
inductive MxState where
  | unavailable | run | stopped | waking | testing
deriving DecidableEq, Repr

/-- What a core sees of the rest of the device while a bundle issues. -/
structure CoreEnv where
  num : Fin 128
  tick : Word
  mx : MxState
  mxPresent : Bool
  freeEval : Word
deriving DecidableEq, Repr

/-- A core with the memory it loads from and stores to, and what a bundle reports outward. -/
structure CoreRun where
  core : Core
  mem : Memory
  /-- A wake request for the MXC's domain (R113). -/
  wake : Bool := false
  /-- A corrected error, counted for the health manager (R93). -/
  corrected : Bool := false
  /-- The failing address of an uncorrectable error, which starts the bank's self-test (R93). -/
  uncorrectable : Option Word := none
  /-- An element that an MXST read failed its parity check (R100, R116). -/
  mxParity : Bool := false
  /-- The last bundle trapped. -/
  trapped : Bool := false
deriving DecidableEq, Repr

/-- A failing synchronous check: code, slot and EVAL (R91, R92). -/
structure Trap where
  code : Nat
  slot : Nat
  eval : Word
deriving DecidableEq, Repr

/-- The device address of a core-local data address (R300). -/
def coreBase (k : Fin 128) : Nat := k.val * 0x80000

/-- The code of a level in CORESTAT and TSTAT (R89). -/
def levelCode : Level → BitVec 2
  | .task => 0 | .supervisor => 1 | .monitor => 2

/-- The level of a code; 0b11, which no trap saves, is taken as Task (log entry 24). -/
def levelOf (c : BitVec 2) : Level := if c = 1 then .supervisor else if c = 2 then .monitor else .task

/-- The trap registers a trap to Supervisor or Monitor uses. -/
def Core.trapRegs (c : Core) (toMonitor : Bool) : TrapRegs := if toMonitor then c.trapM else c.trapS

/-- Replace them. -/
def Core.setTrapRegs (c : Core) (toMonitor : Bool) (t : TrapRegs) : Core :=
  if toMonitor then { c with trapM := t } else { c with trapS := t }

/-- TSTAT of the current state with an interrupted repeat of `prep` iterations (R87, R90). -/
def tstatOf (c : Core) (prep : Option Nat) : Word :=
  let base := (levelCode c.level).setWidth 32 ||| (if c.ien.getLsbD 31 then 4 else 0)
  match prep with
  | some n => base ||| 8 ||| ((BitVec.ofNat 13 n).setWidth 32 <<< 4)
  | none => base

/-- TAKING A TRAP OR INTERRUPT (R92): PC to EPC, level, GIE and repeat to TSTAT, ECAUSE and EVAL written, GIE
cleared, the target level entered at TVB + 16 × code; entry costs 12 bundle times (Table 3.8). -/
def enterTrap (c : Core) (toMonitor : Bool) (code slot : Nat) (int : Bool) (eval epc : Word) (prep : Option Nat) :
    Core :=
  let t := c.trapRegs toMonitor
  let t' : TrapRegs :=
    { t with epc := epc, tstat := tstatOf c prep, eval := eval
             ecause := BitVec.ofNat 32 (code + slot * 256) ||| (if int then 0x80000000 else 0) }
  let c' := c.setTrapRegs toMonitor t'
  { c' with ien := c.ien &&& 0x7FFFFFFF, level := if toMonitor then .monitor else .supervisor
            pc := t.tvb + BitVec.ofNat 32 (16 * code), repact := false, repcnt := 0, waiting := false, loading := []
            btcount := c.btcount + 12 }

/-- Whether a synchronous trap of a code goes to Monitor (R91). -/
def trapToMonitor (c : Core) (code : Nat) : Bool :=
  if code = 0x09 ∨ code = 0x14 then true
  else if code = 0x02 then (c.level != .task) || c.corectl.getLsbD 2
  else c.level != .task

/-- Whether an interrupt with IPEND bit `b` can be taken (R91). -/
def intTakeable (c : Core) (b : Nat) : Bool :=
  c.ipend.getLsbD b && c.ien.getLsbD b && c.ien.getLsbD 31 && (c.level != .monitor)

/-- The RETURN FROM A TRAP (R92): level, GIE and PC from the current level's TSTAT and EPC. -/
def leaveTrap (c : Core) : Core :=
  let t := c.trapRegs (c.level == .monitor)
  { c with level := levelOf (t.tstat.extractLsb' 0 2)
           ien := if t.tstat.getLsbD 2 then c.ien ||| 0x80000000 else c.ien &&& 0x7FFFFFFF
           pc := t.epc }

/-- The iterations an RETT resumes (R87): PREPCNT where PREP is set. -/
def resumeCount (c : Core) : Nat :=
  let t := c.trapRegs (c.level == .monitor)
  if t.tstat.getLsbD 3 then (t.tstat.extractLsb' 4 13).toNat else 0

/-- MXS.BUSY: queued work, read as 0 where the MXC is not in RUN (R106, R108). -/
def mxBusy (env : CoreEnv) (c : Core) : Bool := (env.mx == .run) && !c.mxc.queue.isEmpty

/-- MXEN's bit for the current level (R89, R110). -/
def mxEnabled (c : Core) : Bool := c.mxen.getLsbD (levelCode c.level).toNat

/-- MXS (Table 4.7). -/
def readMxs (env : CoreEnv) (c : Core) : Word :=
  let st : Nat :=
    match env.mx with
    | .unavailable => 0 | .run => 1 | .stopped => 2 | .waking => 3 | .testing => 4
  let q := c.mxc.queue.length % 8
  BitVec.ofNat 32
    (boolNat (mxBusy env c) + q * 2 + (if c.mxc.started then st else 0) * 16 + boolNat (mxEnabled c) * 128
      + c.mxc.rcause.toNat * 256 + boolNat c.mxc.late * 2048 + boolNat c.mxc.lovf * 4096
      + c.mxc.lcause.toNat * 8192 + c.mxc.lreg.toNat * 65536 + c.mxc.lseq.toNat * 1048576)

/-- CORESTAT (Table 3.11). -/
def readCorestat (env : CoreEnv) (c : Core) : Word :=
  BitVec.ofNat 32
    ((levelCode c.level).toNat + boolNat c.repact * 4 + boolNat c.waiting * 8 + env.num.val * 16
      + boolNat env.mxPresent * 2048)

/-- The value of a control register; `none` where the number is unlisted (R90, Table 3.9). -/
def readCsr (env : CoreEnv) (c : Core) (num : BitVec 12) : Option Word :=
  match num.toNat with
  | 0x000 => some (readCorestat env c)
  | 0x001 => some c.corectl
  | 0x002 => some c.vstat
  | 0x003 => some c.govmask
  | 0x004 => some (c.bexpacc.setWidth 32)
  | 0x005 => some (c.repcnt.setWidth 32)
  | 0x006 => some (c.repmax.setWidth 32)
  | 0x010 => some (c.mxen.setWidth 32)
  | 0x011 => some (readMxs env c)
  | 0x020 => some c.trapS.tvb
  | 0x021 => some c.trapS.epc
  | 0x022 => some c.trapS.ecause
  | 0x023 => some c.trapS.eval
  | 0x024 => some c.trapS.tstat
  | 0x030 => some c.trapM.tvb
  | 0x031 => some c.trapM.epc
  | 0x032 => some c.trapM.ecause
  | 0x033 => some c.trapM.eval
  | 0x034 => some c.trapM.tstat
  | 0x040 => some c.ien
  | 0x041 => some (c.ipend.setWidth 32)
  | 0x050 => some c.twbase
  | 0x051 => some c.twlim
  | 0x052 => some c.tpbase
  | 0x053 => some c.tplim
  | 0x060 => some c.btcount
  | 0x061 => some env.tick
  | 0x062 => some (c.jobs.headD 0)
  | 0x070 => some (c.wdog.setWidth 32)
  | _ => none

/-- Whether Table 3.9 shows "—" for a control register at a level. -/
def csrBarred (l : Level) (num : BitVec 12) : Bool :=
  let n := num.toNat
  let monitorOnly := decide (0x030 ≤ n ∧ n ≤ 0x034)
  let notTask := n == 0x001 || decide (0x020 ≤ n ∧ n ≤ 0x024) || n == 0x040 || n == 0x041
    || decide (0x050 ≤ n ∧ n ≤ 0x053) || n == 0x070
  match l with
  | .task => monitorOnly || notTask
  | .supervisor => monitorOnly
  | .monitor => false

/-- Write a trap-state register, keeping only its fields (R90); EPC, a bundle address, keeps bits [3:0] 0 (log entry 68). -/
def writeTrapReg (t : TrapRegs) (i : Nat) (x : Word) : TrapRegs :=
  match i with
  | 0 => { t with tvb := x &&& 0x0001FFF0 }
  | 1 => { t with epc := x &&& 0xFFFFFFF0 }
  | 2 => { t with ecause := x &&& 0x800007FF }
  | 3 => { t with eval := x }
  | _ => { t with tstat := x &&& 0x0001FFFF }

/-- A write of a control register at a level (Table 3.9): read-only registers ignore it, VSTAT clears by 1, reserved
bits stay 0. REPMAX takes 4,096 for a value above it, as for 0 (DESIGN CHOICE, log entry 69: R86 gives the write of 0
alone). -/
def writeCsr (c : Core) (num : BitVec 12) (x : Word) : Core :=
  let n := num.toNat
  match n with
  | 0x001 =>
    { c with corectl := (x &&& 3) ||| (if c.level = .monitor then x &&& 4 else c.corectl &&& 4) }
  | 0x002 => { c with vstat := c.vstat &&& ~~~(x &&& 3) }
  | 0x004 => { c with bexpacc := x.setWidth 8 }
  | 0x006 =>
    if c.level = .task then c
    else
      let v := (x.extractLsb' 0 13).toNat
      { c with repmax := if v = 0 ∨ 4096 < v then 0x1000 else BitVec.ofNat 13 v }
  | 0x010 =>
    match c.level with
    | .task => c
    | .supervisor => { c with mxen := (c.mxen &&& 4) ||| (x.setWidth 3 &&& 3) }
    | .monitor => { c with mxen := x.setWidth 3 }
  | 0x040 => { c with ien := x &&& 0x8000000F }
  | 0x050 => { c with twbase := x &&& 0xFFFFFFFC }
  | 0x051 => { c with twlim := x &&& 0xFFFFFFFC }
  | 0x052 => { c with tpbase := x &&& 0xFFFFFFF0 }
  | 0x053 => { c with tplim := x &&& 0xFFFFFFF0 }
  | 0x070 => { c with wdog := x.setWidth 16, wdogTicks := 0 }
  | _ =>
    if 0x020 ≤ n ∧ n ≤ 0x024 then { c with trapS := writeTrapReg c.trapS (n - 0x020) x }
    else if 0x030 ≤ n ∧ n ≤ 0x034 then { c with trapM := writeTrapReg c.trapM (n - 0x030) x }
    else c

/-- The value a set or clear operation writes: for VSTAT, whose bits clear by 1, CSRS writes the bits of the source
and CSRC writes none (log entry 25). -/
def csrOpValue (fn : CsrFn) (num : BitVec 12) (old x : Word) : Word :=
  match fn with
  | .read => old
  | .write => x
  | .set => if num = 0x002 then x else old ||| x
  | .clear => if num = 0x002 then 0 else old &&& ~~~x

/-- The kind of register a MOVTA or MOVFA code names (Table 3.5). -/
def regOfCode (t : BitVec 6) : Option RegName :=
  if t.toNat < 0x08 then some (.a (t.extractLsb' 0 3))
  else if t.toNat < 0x10 then some (.m (t.extractLsb' 0 3))
  else if t.toNat < 0x14 then some (.b (t.extractLsb' 0 2))
  else if t.toNat < 0x18 then some (.l (t.extractLsb' 0 2))
  else none

/-- The value of a register by name; a vector or an accumulator is not named by a scalar slot. -/
def readReg (c : Core) : RegName → Word
  | .s i => c.s[i.toFin]
  | .a i => c.a[i.toFin]
  | .m i => c.m[i.toFin]
  | .b i => c.b[i.toFin]
  | .l i => (c.l[i.toFin]).setWidth 32
  | .v _ => 0
  | .acc _ => 0
  | .csr _ => 0

/-- Write an address, offset, base or length register. -/
def writeReg (c : Core) (r : RegName) (x : Word) : Core :=
  match r with
  | .s i => { c with s := c.s.set i.toFin x }
  | .a i => { c with a := c.a.set i.toFin x }
  | .m i => { c with m := c.m.set i.toFin x }
  | .b i => { c with b := c.b.set i.toFin x }
  | .l i => { c with l := c.l.set i.toFin (x.setWidth 19) }
  | .v _ => c
  | .acc _ => c
  | .csr _ => c

/-- Write a scalar register. -/
def Core.setS (c : Core) (i : BitVec 4) (x : Word) : Core := { c with s := c.s.set i.toFin x }
/-- Write a vector register. -/
def Core.setV (c : Core) (i : BitVec 5) (x : VReg) : Core := { c with v := c.v.set i.toFin x }
/-- Write an accumulator. -/
def Core.setAcc (c : Core) (i : BitVec 5) (x : Acc) : Core := { c with acc := c.acc.set (i.extractLsb' 0 3).toFin x }
/-- An accumulator by a 5-bit field whose upper bits are 0. -/
def Core.getAcc (c : Core) (i : BitVec 5) : Acc := c.acc[(i.extractLsb' 0 3).toFin]
/-- A scalar register by a 5-bit field whose upper bit is 0. -/
def Core.getS5 (c : Core) (i : BitVec 5) : Word := c.s[(i.extractLsb' 0 4).toFin]

/-- The result of a scalar operation (Table 3.5). -/
def aluResult (fn : AluFn) (x y : Word) : Word :=
  match fn with
  | .add => x + y
  | .sub => x - y
  | .and => x &&& y
  | .or => x ||| y
  | .xor => x ^^^ y
  | .shl => x <<< (y.toNat % 32)
  | .shr => x >>> (y.toNat % 32)
  | .sar => x.sshiftRight (y.toNat % 32)
  | .mul => x * y
  | .mulh => BitVec.ofInt 32 (x.toInt * y.toInt / 2 ^ 32)
  | .adds => BitVec.ofInt 32 (clampInt (-(2 ^ 31)) (2 ^ 31 - 1) (x.toInt + y.toInt))
  | .subs => BitVec.ofInt 32 (clampInt (-(2 ^ 31)) (2 ^ 31 - 1) (x.toInt - y.toInt))
  | .min => if x.toInt ≤ y.toInt then x else y
  | .max => if x.toInt ≤ y.toInt then y else x
  | .slt => if x.toInt < y.toInt then 1 else 0
  | .sltu => if x.toNat < y.toNat then 1 else 0

/-- The result of an immediate operation (Table 3.5). -/
def immResult (fn : ImmFn) (x : Word) (imm : BitVec 18) : Word :=
  match fn with
  | .addi => x + imm.signExtend 32
  | .andi => x &&& imm.signExtend 32
  | .ori => x ||| imm.signExtend 32
  | .lui => imm.setWidth 32 <<< 14

/-- Whether a branch condition holds (Table 3.5). -/
def brTaken (cond : BitVec 4) (x : Word) : Bool :=
  match cond.toNat with
  | 0 => x == 0
  | 1 => x != 0
  | 2 => decide (x.toInt < 0)
  | 3 => decide (0 ≤ x.toInt)
  | 4 => decide (0 < x.toInt)
  | _ => decide (x.toInt ≤ 0)

/-- A branch target: the branch's own address plus the offset in bundles (DEDUCED, log entry 67: R71 does not say from which
bundle OFF18 counts). -/
def brTarget (c : Core) (off : BitVec 18) : Word := c.pc + (off.signExtend 32) * 16

/-- The count of a REP (R84): COUNT + 1, or the register. -/
def repCount (c : Core) (fromReg : Bool) (sa count : BitVec 4 × BitVec 12) : Nat :=
  if fromReg then (c.s[sa.1.toFin]).toNat else count.2.toNat + 1

/-- Whether a bundle is repeatable (R85). -/
def repeatable (b : Bundle) : Bool :=
  (match b.sb.op with
   | some (.br _ _ _) => false | some (.jmp _) => false | some (.call _) => false | some (.jr _) => false
   | some (.bmxb _ _) => false | some (.rep _ _ _) => false | some (.trap _) => false | some .rett => false
   | some .brk => false | some .wait => false | some (.done _) => false
   | some (.csr .write _ _) => false | some (.csr .set _ _) => false | some (.csr .clear _ _) => false
   | _ => true)
  && (match b.ls.op with
      | some (.acc .asv _ _ _ _ _) => false | some (.acc .ald _ _ _ _ _) => false | _ => true)
  && (match b.vb.op with | some (.mx _ _ _ _ _ _) => false | _ => true)

/-- Whether PC may be fetched at the current level (R65, R66, Table 3.2). -/
def fetchOk (c : Core) : Bool :=
  let p := c.pc.toNat
  match c.level with
  | .monitor => decide (p < 0x20000)
  | .supervisor => decide (p < 0x1E000)
  | .task => decide (p < 0x1E000) && decide (c.tpbase.toNat ≤ p) && decide (p + 16 ≤ c.tplim.toNat)

/-- Whether a 4-byte element may be accessed at the current level (R65, R66, Table 3.2). -/
def elemOk (c : Core) (x : Word) : Bool :=
  let p := x.toNat
  (x.extractLsb' 0 2 == 0) &&
  match c.level with
  | .monitor => decide (p + 4 ≤ 0x60000)
  | .supervisor => decide (p + 4 ≤ 0x5C000)
  | .task => decide (p + 4 ≤ 0x5C000) && decide (c.twbase.toNat ≤ p) && decide (p + 4 ≤ c.twlim.toNat)

/-- Whether bits [31:19] of an address are clear (R77). -/
def addrLow (x : Word) : Bool := x.extractLsb' 19 13 == 0

/-- The failing data address of an access, if a check of R65, R66, R72, R76 or R77 fails. -/
def lsBadAddr (c : Core) (fn : LsFn) (an : BitVec 3) (mode : BitVec 2) (imm : BitVec 14) : Option Word :=
  let a := c.a[an.toFin]
  let ea := lsEa c an mode imm
  let i := (an.extractLsb' 0 2).toFin
  let q := if lsSize fn = 128 then 128 else 4
  if !addrLow a then some a
  else if lsWraps c an mode && !((c.b[i].toNat % q == 0) && ((c.l[i]).toNat % q == 0)) then some ea
  else if !addrLow ea then some ea
  else if lsSize fn = 384 ∧ ea.toNat % 128 ≠ 0 then some ea
  else (lsElems c fn an mode imm).find? (fun x => !elemOk c x)

/-- The checks of the scalar/branch slot. -/
def checkSb (env : CoreEnv) (c : Core) (sl : Slot SbOp) (next : Bundle) : List Trap :=
  let undef : List Trap := [⟨0x02, 0, sl.word⟩]
  match sl.op with
  | none => undef
  | some (.amod an _ circ) => if circ && decide (4 ≤ an.toNat) then undef else []
  | some (.movta _ t) => if (regOfCode t).isNone then undef else []
  | some (.movfa _ t) => if (regOfCode t).isNone then undef else []
  | some (.br _ cond _) => if 5 < cond.toNat then undef else []
  | some (.bmxb cond _) => if 1 < cond.toNat then undef else []
  | some (.rep src sa count) =>
    let n := repCount c src (sa, 0) (0, count)
    (if n = 0 ∨ c.repmax.toNat < n then [⟨0x04, 0, sl.word⟩] else [])
      ++ (if repeatable next then [] else [⟨0x01, 7, env.freeEval⟩])
  | some (.csr _ _ num) =>
    if csrBarred c.level num then [⟨0x03, 0, sl.word⟩] else if (readCsr env c num).isNone then undef else []
  | some (.trap service) => [⟨0x06, 0, service.signExtend 32⟩]
  | some .rett => if c.level = .task then [⟨0x03, 0, sl.word⟩] else []
  | some .wait => if c.level = .task then [⟨0x03, 0, sl.word⟩] else []
  | some (.done _) => if c.level = .task then [⟨0x03, 0, sl.word⟩] else []
  | some .brk => if c.corectl.getLsbD 0 then [⟨0x07, 0, sl.word⟩] else []
  | some _ => []

/-- The checks of the load/store slot. -/
def checkLs (c : Core) (sl : Slot LsOp) : List Trap :=
  match sl.op with
  | none => [⟨0x02, 1, sl.word⟩]
  | some .nop => []
  | some (.acc fn r an _ mode imm) =>
    let undef := (decide (4 ≤ an.toNat) && mode == 3) || ((decide (fn = .ldw) || decide (fn = .stw)) && r.getLsbD 4)
      || ((decide (fn = .asv) || decide (fn = .ald)) && (decide (8 ≤ r.toNat) || mode == 3))
    if undef then [⟨0x02, 1, sl.word⟩]
    else match lsBadAddr c fn an mode imm with
      | some x => [⟨0x05, 1, x⟩]
      | none => []

/-- Whether the size word of an MXC instruction names a size outside 1 to 8 (Table 4.2, R104). -/
def mxSizeBad (fn : MxFn) (w : Word) : Bool :=
  let bad := fun (lo : Nat) => (fld w lo 4 == 0) || decide (8 < (fld w lo 4).toNat)
  match fn with
  | .mul => bad 0 || bad 4 || bad 8
  | .gram => bad 0 || bad 4
  | .inv => bad 0
  | _ => false

/-- An encoding error of an MXC instruction (R104). -/
def mxEncodingBad (c : Core) (fn : MxFn) (d a b : BitVec 5) (fnf : BitVec 6) (mod : BitVec 5) : Bool :=
  let reg := fun (x : BitVec 5) => x.getLsbD 4
  let fnOver := fun (n : Nat) => decide (2 ^ n ≤ fnf.toNat)
  match fn with
  | .ld => reg d || (if fnf.getLsbD 1 then reg b else b != 0) || fnOver 2 || mod != 0
  | .st => reg a || b != 0 || fnOver 1 || mod != 0
  | .getExp => reg d || reg a || b != 0 || fnOver 1 || mod != 0
  | .getSeq => reg d || a != 0 || b != 0 || fnOver 1 || mod != 0
  | .ident => reg d || a != 0 || b != 0 || fnOver 1 || mod != 0
  | .add => reg d || reg a || reg b || fnOver 1 || mod != 0
  | .mul => reg d || reg a || reg b || fnOver 2 || mod.getLsbD 4 || mxSizeBad .mul (c.getS5 mod)
  | .gram => reg d || reg a || reg b || fnf != 0 || mod.getLsbD 4 || mxSizeBad .gram (c.getS5 mod)
  | .inv => reg d || reg a || b != 0 || fnf != 0 || mod.getLsbD 4 || mxSizeBad .inv (c.getS5 mod)
  | .scl => reg d || reg a || reg b || fnf != 0 || mod != 0
  | .ack => d != 0 || a != 0 || b != 0 || fnf != 0 || mod != 0
  | .reserved => true

/-- Whether an MXC instruction delivers to a core register (R107). -/
def mxDelivers : MxFn → Bool
  | .st => true | .getExp => true | .getSeq => true | _ => false

/-- The refusal cause of an MXC instruction, 0 where it is accepted (R111, Table 4.5). -/
def mxRefusal (env : CoreEnv) (c : Core) (fn : MxFn) (d a b : BitVec 5) (fnf : BitVec 6) (mod : BitVec 5) : BitVec 3 :=
  if env.mx = .unavailable then 1
  else if env.mx ≠ .run then 2
  else if !mxEnabled c then 3
  else if mxEncodingBad c fn d a b fnf mod then 4
  else if !mxDelivers fn && decide (4 ≤ c.mxc.queue.length) then 5
  else if mxDelivers fn && mxBusy env c then 6
  else 0

/-- The checks of a vector slot. -/
def checkV (env : CoreEnv) (c : Core) (slot : Nat) (sl : Slot VOp) : List Trap :=
  let bad : Bool := match sl.op with
    | none => true
    | some .nop => false
    | some (.valu _ _ _ _ _) => false
    | some (.mul _ d _ _ _ _) => decide (8 ≤ d.toNat)
    | some (.mova _ a b fnf mod) =>
      decide (8 ≤ a.toNat)
        || (if mod.getLsbD 0 then b.getLsbD 4
            else !(decide (-8 ≤ (fnf.extractLsb' 0 5).toInt) && decide ((fnf.extractLsb' 0 5).toInt ≤ 9)))
    | some (.movv d _) => decide (8 ≤ d.toNat)
    | some (.bexp d _) => d.getLsbD 4
    | some (.perm fn _ _ b _) => decide (fn = .rot) && b.getLsbD 4
    | some (.ins _ a _) => a.getLsbD 4
    | some (.ext d _ _) => d.getLsbD 4
    | some (.mx fn d a b fnf mod) => (slot != 3) || mxRefusal env c fn d a b fnf mod != 0
  if bad then [⟨0x02, slot, sl.word⟩] else []

/-- The registers the scalar/branch slot writes (R70): of the control registers those that a vector slot writes too. -/
def writesSb : Option SbOp → List RegName
  | some (.alu _ sd _ _) => [.s sd]
  | some (.imm _ sd _ _) => [.s sd]
  | some (.amod an _ _) => [.a an]
  | some (.movta _ t) => (regOfCode t).toList
  | some (.movfa s _) => [.s s]
  | some (.call _) => [.s 15]
  | some (.csr .read s _) => [.s s]
  | some (.csr _ _ num) => if num = 0x002 ∨ num = 0x004 then [.csr num] else []
  | _ => []

/-- The registers the load/store slot writes (R70). -/
def writesLs : Option LsOp → List RegName
  | some (.acc fn r an _ mode _) =>
    (match fn with
     | .ldw => [.s (r.extractLsb' 0 4)] | .ldv => [.v r] | .ldvb => [.v r] | .ald => [.acc (r.extractLsb' 0 3)]
     | _ => []) ++ (if mode = 0 then [] else [.a an])
  | _ => []

/-- The registers a vector slot writes (R70): VMOVA writes GOVMASK and VSTAT, and an AUTO move BEXPACC; setting the sticky
VSTAT.SAT is no write (DEDUCED, log entry 72). -/
def writesV : Option VOp → List RegName
  | some (.valu _ d _ _ _) => [.v d]
  | some (.mul _ d _ _ _ _) => [.acc (d.extractLsb' 0 3)]
  | some (.mova d _ b _ mod) =>
    [.v d, .csr 0x002, .csr 0x003] ++ (if mod.getLsbD 0 then [.s (b.extractLsb' 0 4), .csr 0x004] else [])
  | some (.movv d _) => [.acc (d.extractLsb' 0 3)]
  | some (.bexp d _) => [.s (d.extractLsb' 0 4)]
  | some (.perm _ d _ _ _) => [.v d]
  | some (.ins d _ _) => [.v d]
  | some (.ext d _ _) => [.s (d.extractLsb' 0 4)]
  | some (.mx .st d _ _ _ _) => [.v d]
  | some (.mx .getExp d _ _ _ _) => [.s (d.extractLsb' 0 4)]
  | some (.mx .getSeq d _ _ _ _) => [.s (d.extractLsb' 0 4)]
  | _ => []

/-- The address register a slot updates through a generator: AMOD and post-modify (R70, third case; log entry 26). -/
def genUpdates (b : Bundle) : List (BitVec 3) :=
  (match b.sb.op with | some (.amod an _ _) => [an] | _ => [])
    ++ (match b.ls.op with | some (.acc _ _ an _ mode _) => if mode = 0 then [] else [an] | _ => [])

/-- Whether a vector slot holds a multiply-class instruction. -/
def isMulClass : Option VOp → Bool
  | some (.mul _ _ _ _ _ _) => true | _ => false

/-- Whether the bundle itself is illegal (R70, but for the REP case, which `checkSb` holds). -/
def bundleIllegal (b : Bundle) : Bool :=
  let w0 := writesSb b.sb.op
  let w1 := writesLs b.ls.op
  let w2 := writesV b.va.op
  let w3 := writesV b.vb.op
  let meet := fun (x y : List RegName) => x.any (fun r => y.contains r)
  let g := genUpdates b
  meet w0 w1 || meet w0 w2 || meet w0 w3 || meet w1 w2 || meet w1 w3 || meet w2 w3
    || (isMulClass b.va.op && isMulClass b.vb.op)
    || (g.contains 4 && g.contains 5) || (g.contains 6 && g.contains 7)

/-- The refusal of the VB slot's MXC instruction, 0 where there is none (R111). -/
def vbRefusal (env : CoreEnv) (c : Core) (b : Bundle) : BitVec 3 :=
  match b.vb.op with
  | some (.mx fn d a bb fnf mod) => mxRefusal env c fn d a bb fnf mod
  | _ => 0

/-- Every failing check of a bundle (R92): a refusal first, which yields to a lower code alone (R111), then the slots in
order. ILLEGAL_BUNDLE, which no one slot raises, has SLOT 7, none, and a free EVAL; so has the REP case of R85 (DESIGN
CHOICE, log entry 70). -/
def bundleTraps (env : CoreEnv) (c : Core) (b next : Bundle) : List Trap :=
  (if vbRefusal env c b ≠ 0 then [⟨0x02, 3, b.vb.word⟩] else [])
    ++ (if bundleIllegal b then [⟨0x01, 7, env.freeEval⟩] else [])
    ++ checkSb env c b.sb next ++ checkLs c b.ls ++ checkV env c 2 b.va ++ checkV env c 3 b.vb

/-- The trap taken: the lowest code, and of equal codes the first (R92; log entry 27). -/
def lowestTrap (ts : List Trap) : Option Trap :=
  ts.foldl (fun best t =>
    match best with
    | none => some t
    | some u => if t.code < u.code then some t else best) none

/-- The effect of the scalar/branch slot, reading the old core `o` and writing into `c`. PC is set apart. -/
def applySb (env : CoreEnv) (o c : Core) (op : Option SbOp) : Core :=
  match op with
  | some (.alu fn sd sa sb) => c.setS sd (aluResult fn o.s[sa.toFin] o.s[sb.toFin])
  | some (.imm fn sd sa imm) => c.setS sd (immResult fn o.s[sa.toFin] imm)
  | some (.amod an mn circ) => writeReg c (.a an) (lsAn o an mn (if circ then 3 else 1) 0)
  | some (.movta s t) =>
    match regOfCode t with
    | some r => writeReg c r o.s[s.toFin]
    | none => c
  | some (.movfa s t) =>
    match regOfCode t with
    | some r => c.setS s (readReg o r)
    | none => c
  | some (.call _) => c.setS 15 (o.pc + 16)
  | some (.csr .read s num) => c.setS s ((readCsr env o num).getD 0)
  | some (.csr fn s num) => writeCsr c num (csrOpValue fn num ((readCsr env o num).getD 0) o.s[s.toFin])
  | some .wait => { c with waiting := true }
  | some (.done sa) =>
    match o.jobs with
    | [] => c
    | j :: rest => if j = 0 then c else { c with jobs := rest, doneOut := c.doneOut ++ [(j, o.s[sa.toFin])] }
  | _ => c

/-- The address of the next bundle (R71, R108). JR drops bits [3:0] of its register, PC being a multiple of 16 (DESIGN CHOICE,
log entry 68). -/
def nextPc (env : CoreEnv) (o : Core) (op : Option SbOp) : Word :=
  match op with
  | some (.br sa cond off) => if brTaken cond o.s[sa.toFin] then brTarget o off else o.pc + 16
  | some (.jmp off) => brTarget o off
  | some (.call off) => brTarget o off
  | some (.jr sa) => o.s[sa.toFin] &&& 0xFFFFFFF0
  | some (.bmxb cond off) => if mxBusy env o == (cond == 0) then brTarget o off else o.pc + 16
  | _ => o.pc + 16

/-- Whether a branch is taken, which costs one bundle time more (Table 3.8). -/
def branchCost (env : CoreEnv) (o : Core) (op : Option SbOp) : Nat :=
  match op with
  | some (.br sa cond _) => boolNat (brTaken cond o.s[sa.toFin])
  | some (.jmp _) => 1
  | some (.call _) => 1
  | some (.jr _) => 1
  | some (.bmxb cond _) => boolNat (mxBusy env o == (cond == 0))
  | _ => 0

/-- The words at element addresses. -/
def loadWords (m : Memory) (base : Nat) (xs : List Word) : List Word := xs.map (fun x => m.word (base + x.toNat))

/-- Words as a vector register, lane 0 first (R64). -/
def wordsToV (ws : List Word) : VReg := Vector.ofFn (fun k => ws.getD k.val 0)

/-- The bytes of one lane as ASV stores it (R95). -/
def asvLane (x : AccLane) : List Byte :=
  bytesOf 5 x.re.toNat ++ bytesOf 5 x.im.toNat ++ [if x.gov then 1 else 0, 0]

/-- One lane as ALD loads it (R95). -/
def aldLane (bs : List Byte) : AccLane :=
  { re := BitVec.ofNat 40 (natOf (bs.take 5)), im := BitVec.ofNat 40 (natOf ((bs.drop 5).take 5))
    gov := (bs.getD 10 0).getLsbD 0 }

/-- An accumulator from the 384 bytes of ALD. -/
def aldAcc (bs : List Byte) : Acc := Vector.ofFn (fun k => aldLane ((bs.drop (12 * k.val)).take 12))

/-- The load part of the load/store slot: the destination register, unless the load failed its check (R93). -/
def applyLoad (env : CoreEnv) (o c : Core) (m : Memory) (fn : LsFn) (r : BitVec 5) (xs : List Word) : Core :=
  let base := coreBase env.num
  let ws := loadWords m base xs
  match fn with
  | .ldw => c.setS (r.extractLsb' 0 4) (ws.headD 0)
  | .ldv => c.setV r (wordsToV ws)
  | .ldvb => c.setV r (Vector.replicate 32 (ws.headD 0))
  | .ald => c.setAcc r (aldAcc (m.bytes (base + (xs.headD 0).toNat) 384))
  | _ => { c with pc := o.pc }

/-- The store part of the load/store slot: element k of the data goes to element address k. -/
def storeWords (m : Memory) (base : Nat) (xs : List (Word × Word)) : Memory :=
  xs.foldl (fun m e => m.ifWrite (base + e.1.toNat) (bytesOf 4 e.2.toNat)) m

/-- The words a store writes. -/
def storeData (o : Core) (fn : LsFn) (r : BitVec 5) : List Word :=
  match fn with
  | .stw => [o.getS5 r]
  | .stv => (o.v[r.toFin]).toList
  | .asv =>
    let bs := (o.getAcc r).toList.flatMap asvLane
    (List.range 96).map (fun k => BitVec.ofNat 32 (natOf ((bs.drop (4 * k)).take 4)))
  | _ => []

/-- A vector register permuted (R73, VPERM). -/
def permLanes (fn : PermFn) (mod : BitVec 5) (amount : Word) (x : VReg) : VReg :=
  match fn with
  | .rot =>
    let n := amount.toNat % 32
    Vector.ofFn (fun k => x.toList.getD (if Sys2Proof.Config.vrotUp then (k.val + 32 - n) % 32 else (k.val + n) % 32) 0)
  | .bfly => Vector.ofFn (fun k => x[Sys2Proof.Config.vbflyLane (mod.extractLsb' 0 3) k])
  | .rev => Vector.ofFn (fun k => x.toList.getD (31 - k.val) 0)
  | .bcast => Vector.replicate 32 x[mod.toFin]

/-- The exponent word of a matrix register (Table 4.2). -/
def mxExpWord (r : MxReg) : Word :=
  r.exp.setWidth 32 ||| (if r.f then 0x100 else 0) ||| (if r.p then 0x200 else 0)

/-- Half `h` of a matrix register as a vector (R101). -/
def mxHalf (r : MxReg) (h : Bool) : VReg := Vector.ofFn (fun k => r.elem.toList.getD (k.val + if h then 32 else 0) 0)

/-- An MXC instruction that was accepted (R106, R107, R119): delivered at once, or queued with what it captured. MXGETE has a
number of its own, and delivers that of the instruction accepted next. -/
def acceptMx (o c : Core) (fn : MxFn) (d a b : BitVec 5) (fnf : BitVec 6) (mod : BitVec 5) : Core :=
  let ra := o.mxc.regs[(a.extractLsb' 0 4).toFin]
  let c1 := { c with mxc := { c.mxc with seq := o.mxc.seq + 1 } }
  match fn with
  | .st => c1.setV d (mxHalf ra (fnf.getLsbD 0))
  | .getExp => c1.setS (d.extractLsb' 0 4) (mxExpWord ra)
  | .getSeq => c1.setS (d.extractLsb' 0 4) ((o.mxc.seq + 1).setWidth 32)
  | _ =>
    let e : MxEntry :=
      { fn := fn, d := d.extractLsb' 0 4, a := a.extractLsb' 0 4, b := b.extractLsb' 0 4, fnf := fnf
        size := o.getS5 mod, param := o.getS5 b, data := o.v[a.toFin], seq := o.mxc.seq }
    { c1 with mxc := { c1.mxc with queue := o.mxc.queue ++ [e] } }

/-- The effect of a vector slot (R73, R79 to R83, R104). -/
def applyV (o c : Core) (op : Option VOp) : Core :=
  match op with
  | some (.valu fn d a b mod) =>
    let r := valuLanes fn mod o.v[a.toFin] o.v[b.toFin]
    let c1 := c.setV d (laneWords r)
    { c1 with vstat := if anySat r then c.vstat ||| vstatSat else c.vstat }
  | some (.mul fn d a b fnf mod) => c.setAcc d (macAcc fn fnf mod (o.getAcc d) o.v[a.toFin] o.v[b.toFin])
  | some (.mova d a b fnf mod) =>
    let x := o.getAcc a
    let g := govBits x
    if mod.getLsbD 0 then
      let s := autoShift x
      let r := movaLanes (s : Int) x
      let c1 := (c.setV d (laneWords r)).setS (b.extractLsb' 0 4) (BitVec.ofNat 32 s)
      { c1 with vstat := vstatAfterMova c.vstat g (anySat r) (some s), govmask := g
                bexpacc := bexpaccAdd c.bexpacc s }
    else
      let r := movaLanes (fnf.extractLsb' 0 5).toInt x
      let c1 := c.setV d (laneWords r)
      { c1 with vstat := vstatAfterMova c.vstat g (anySat r) none, govmask := g }
  | some (.movv d a) =>
    let x := o.v[a.toFin]
    c.setAcc d (Vector.ofFn (fun k =>
      { re := BitVec.ofInt 40 (partRe x[k] * 32768), im := BitVec.ofInt 40 (partIm x[k] * 32768), gov := false }))
  | some (.bexp d a) => c.setS (d.extractLsb' 0 4) (BitVec.ofNat 32 (blockExp o.v[a.toFin]))
  | some (.perm fn d a b mod) => c.setV d (permLanes fn mod (o.getS5 b) o.v[a.toFin])
  | some (.ins d a lane) => c.setV d ((o.v[d.toFin]).set lane.toFin (o.getS5 a))
  | some (.ext d a lane) => c.setS (d.extractLsb' 0 4) (o.v[a.toFin])[lane.toFin]
  | some (.mx fn d a b fnf mod) => acceptMx o c fn d a b fnf mod
  | _ => c

/-- Whether an access touches two 128-byte lines (Table 3.8). -/
def twoLines (xs : List Word) : Bool := xs.any (fun x => x.toNat / 128 != (xs.headD 0).toNat / 128)

/-- The 128-byte lines an access touches. -/
def linesOf (xs : List Word) : Nat := (xs.map (fun x => x.toNat / 128)).eraseDups.length

/-- The scalar and vector registers a bundle reads (R71 to R73). -/
def readsOf (b : Bundle) : List RegName :=
  let v := fun (op : Option VOp) => match op with
    | some (.valu fn _ a bb _) =>
      if fn = .neg ∨ fn = .conj ∨ fn = .sar ∨ fn = .mulj then [RegName.v a] else [RegName.v a, RegName.v bb]
    | some (.mul _ _ a bb _ _) => [.v a, .v bb]
    | some (.movv _ a) => [.v a]
    | some (.bexp _ a) => [.v a]
    | some (.perm fn _ a bb _) => .v a :: (if fn = .rot then [RegName.s (bb.extractLsb' 0 4)] else [])
    | some (.ins d a _) => [.v d, .s (a.extractLsb' 0 4)]
    | some (.ext _ a _) => [.v a]
    | some (.mx fn _ a bb fnf mod) =>
      (if fn = .ld then [RegName.v a] else [])
        ++ (if fn = .gram ∨ fn = .scl ∨ (fn = .ld ∧ fnf.getLsbD 1) then [RegName.s (bb.extractLsb' 0 4)] else [])
        ++ (if fn = .mul ∨ fn = .gram ∨ fn = .inv then [RegName.s (mod.extractLsb' 0 4)] else [])
    | _ => []
  (match b.sb.op with
   | some (.alu _ _ sa sb) => [RegName.s sa, RegName.s sb]
   | some (.imm fn _ sa _) => if fn = .lui then [] else [.s sa]
   | some (.movta s _) => [.s s]
   | some (.br sa _ _) => [.s sa]
   | some (.jr sa) => [.s sa]
   | some (.rep src sa _) => if src then [.s sa] else []
   | some (.csr fn s _) => if fn = .read then [] else [.s s]
   | some (.done sa) => [.s sa]
   | _ => [])
    ++ (match b.ls.op with
        | some (.acc .stw r _ _ _ _) => [RegName.s (r.extractLsb' 0 4)]
        | some (.acc .stv r _ _ _ _) => [RegName.v r]
        | _ => [])
    ++ v b.va.op ++ v b.vb.op

/-- The registers that a bundle's load and its delivering MXC instruction make visible only to the second bundle after it
(Table 3.8, R107). -/
def loadsOf (b : Bundle) : List RegName :=
  (match b.ls.op with
   | some (.acc .ldw r _ _ _ _) => [RegName.s (r.extractLsb' 0 4)]
   | some (.acc .ldv r _ _ _ _) => [RegName.v r]
   | some (.acc .ldvb r _ _ _ _) => [RegName.v r]
   | _ => [])
    ++ (match b.vb.op with
        | some (.mx .st d _ _ _ _) => [RegName.v d]
        | some (.mx .getExp d _ _ _ _) => [RegName.s (d.extractLsb' 0 4)]
        | some (.mx .getSeq d _ _ _ _) => [RegName.s (d.extractLsb' 0 4)]
        | _ => [])

/-- The bundle times a bundle takes (R74, Table 3.8): `waits` are the bank waits it met, of which R68 allows one per line
touched; a register still being loaded costs one more. All together are at most 6, and at most 4 of a repeatable bundle. -/
def bundleCost (env : CoreEnv) (o : Core) (b : Bundle) (waits : BitVec 3) : Nat :=
  let xs := match b.ls.op with
    | some (.acc fn _ an _ mode imm) => lsElems o fn an mode imm
    | _ => []
  let ls := match b.ls.op with
    | some (.acc fn _ _ _ _ _) => if lsSize fn = 384 then 3 else if lsSize fn = 128 ∧ twoLines xs then 2 else 1
    | _ => 1
  let use := boolNat (o.loading.any (fun r => (readsOf b).contains r))
  Nat.min (if repeatable b then 4 else 6) (ls + branchCost env o b.sb.op + Nat.min waits.toNat (linesOf xs) + use)

/-- The address of the first word of a load that fails its error check: poisoned in memory, or reported so. -/
def loadError (env : CoreEnv) (o : Core) (m : Memory) (b : Bundle) (ecc : BundleEcc) : Option Word :=
  match b.ls.op with
  | some (.acc fn _ an _ mode imm) =>
    if !lsIsLoad fn then none
    else
      let xs := lsElems o fn an mode imm
      match xs.find? (fun x => m.poisoned (coreBase env.num + x.toNat) 4) with
      | some x => some x
      | none => if ecc = .loadUncorrectable then xs.head? else none
  | _ => none

/-- Record one late error (R116): the first is kept, a further one sets LOVF. -/
def recordLate (x : Mxc) (d : BitVec 4) (seq : BitVec 12) (cause : BitVec 3) : Mxc :=
  if x.late then { x with lovf := true }
  else { x with late := true, lcause := cause, lreg := d, lseq := seq }

/-- A parity failure on what an MXST reads (R116, R118): a late error and a targeted self-test. LREG takes D[3:0] of the
vector register, which no MX register stands for (DESIGN CHOICE, log entry 75). -/
def storeParity (o c : Core) (b : Bundle) : Core :=
  match b.vb.op with
  | some (.mx .st d _ _ _ _) =>
    { c with mxc := { recordLate c.mxc (d.extractLsb' 0 4) o.mxc.seq 4 with testDue := true }
             ipend := if o.mxc.late then c.ipend else c.ipend ||| 4 }
  | _ => c

/-- All four slots take effect (R61): every slot reads the old core. An address register is post-modified also where the load
itself has an uncorrectable error, which R93 keeps from the destination register alone (DEDUCED, log entry 73). -/
def applyBundle (env : CoreEnv) (r : CoreRun) (b : Bundle) (waits : BitVec 3) (ecc : BundleEcc) : CoreRun :=
  let o := r.core
  let bad := loadError env o r.mem b ecc
  let c1 := applySb env o o b.sb.op
  let p := match b.ls.op with
    | some (.acc fn rr an mn mode imm) =>
      let xs := lsElems o fn an mode imm
      let c2 := if lsIsLoad fn && bad.isNone then applyLoad env o c1 r.mem fn rr xs else c1
      (writeReg c2 (.a an) (if mode = 0 then c2.a[an.toFin] else lsAn o an mn mode imm),
        storeWords r.mem (coreBase env.num) (xs.zip (storeData o fn rr)))
    | _ => (c1, r.mem)
  let c3 := applyV o p.1 b.va.op
  let c4 := applyV o c3 b.vb.op
  let c5 := { c4 with pc := nextPc env o b.sb.op
                      btcount := o.btcount + BitVec.ofNat 32 (bundleCost env o b waits)
                      loading := loadsOf b
                      ipend := if satintRaised o.corectl o.vstat c4.vstat then c4.ipend ||| 8 else c4.ipend }
  let mem' := match bad with
    | some x => p.2.markPoison (coreBase env.num + x.toNat)
    | none => p.2
  { r with core := c5, mem := mem', trapped := false, uncorrectable := bad
           corrected := r.corrected || decide (ecc = .loadCorrected) || decide (ecc = .fetchCorrected) }

/-- The refusal of the VB slot that the trap taken stands for, if it is one (R111). -/
def takenRefusal (env : CoreEnv) (c : Core) (b : Bundle) (t : Trap) : BitVec 3 :=
  if t.code = 0x02 ∧ t.slot = 3 then vbRefusal env c b else 0

/-- A trap of a bundle is entered; a refusal is recorded, and posts a wake request where the domain is stopped
(R111, R113). -/
def takeTrap (env : CoreEnv) (r : CoreRun) (b : Bundle) (t : Trap) (prep : Option Nat) : CoreRun :=
  let c := r.core
  let cause := takenRefusal env c b t
  let post := decide (cause = 2) && decide (env.mx = .stopped) && !c.mxc.wakePosted
  let c1 := if cause = 0 then c
    else { c with mxc := { c.mxc with rcause := cause, wakePosted := c.mxc.wakePosted || post } }
  { r with core := enterTrap c1 (trapToMonitor c t.code) t.code t.slot false t.eval c.pc prep
           wake := r.wake || post, trapped := true }

/-- The address and slot of the uncorrectable error a bundle met: of its fetch, else of its load (R93). -/
def eccFault (o : Core) (r : CoreRun) (ecc : BundleEcc) : Option (Word × Nat) :=
  if ecc = .fetchUncorrectable then some (o.pc, 7) else r.uncorrectable.map (fun x => (x, 1))

/-- ECC is taken after the bundle (R93): EPC holds the bundle's address; level, GIE and a repeat are saved as the bundle left
them. -/
def takeEcc (r : CoreRun) (epc : Word) (f : Word × Nat) (prep : Option Nat) : CoreRun :=
  { r with core := enterTrap r.core true 0x09 f.2 false f.1 epc prep, trapped := true, uncorrectable := some f.1 }

/-- The checks of a bundle before any slot changes state, then the effects of its slots (R61, R92). PADDR, which no slot
raises, has SLOT 7 and EVAL the PC (DESIGN CHOICE, log entry 70). -/
def issueOnce (env : CoreEnv) (r : CoreRun) (b next : Bundle) (waits : BitVec 3) (ecc : BundleEcc) (prep : Option Nat) :
    CoreRun :=
  let c := r.core
  if !fetchOk c then takeTrap env r b ⟨0x08, 7, c.pc⟩ prep
  else match lowestTrap (bundleTraps env c b next) with
    | some t =>
      let r' := takeTrap env r b t prep
      if ecc = .fetchUncorrectable then { r' with uncorrectable := some c.pc } else r'
    | none => applyBundle env r b waits ecc

/-- The iterations of a repeat (R84, R87): the core stands at the repeated bundle; `waits` are the bank waits of its
iterations in order. -/
def runRepeat (env : CoreEnv) (b : Bundle) : Nat → List (BitVec 3) → CoreRun → CoreRun
  | 0, _, r => { r with core := { r.core with repact := false, repcnt := 0, pc := r.core.pc + 16 } }
  | n + 1, waits, r =>
    let c0 := { r.core with repact := true, repcnt := BitVec.ofNat 13 n }
    let r1 := issueOnce env { r with core := c0 } b b (waits.headD 0) .none (some (n + 1))
    if r1.trapped then r1
    else match eccFault c0 r1 .none with
      | some f => takeEcc r1 c0.pc f (some (n + 1))
      | none => runRepeat env b n waits.tail { r1 with core := { r1.core with pc := r.core.pc } }

/-- A bundle with what follows from its scalar/branch slot: REP runs the next bundle (R84), RETT returns from the trap
and resumes a repeat (R87, R92). An uncorrectable error is taken after the bundle and before a repeat goes on (R93, log
entry 74). -/
def runBundle (env : CoreEnv) (r : CoreRun) (b : Bundle) (i : Issue) : CoreRun :=
  let next := decodeBundle i.next
  let r1 := issueOnce env r b next i.waits i.ecc none
  if r1.trapped then r1
  else
    let n := match b.sb.op with
      | some (.rep src sa count) => repCount r.core src (sa, 0) (0, count)
      | some .rett => resumeCount r.core
      | _ => 0
    let r2 := match b.sb.op with
      | some .rett => { r1 with core := leaveTrap r1.core }
      | _ => r1
    let r3 := match i.parity, b.vb.op with
      | true, some (.mx .st _ _ _ _ _) => { r2 with core := storeParity r.core r2.core b, mxParity := true }
      | _, _ => r2
    match eccFault r.core r1 i.ecc with
    | some f => takeEcc r3 r.core.pc f (if n = 0 then none else some n)
    | none => if n = 0 then r3 else runRepeat env next n i.repWaits r3

/-- An interrupt is entered between bundles (R87, R92): SLOT is 7, no slot. -/
def enterInterrupt (env : CoreEnv) (c : Core) (code : Nat) (toMonitor : Bool) : Core :=
  enterTrap c toMonitor code 7 true env.freeEval c.pc none

/-- The lowest pending interrupt that can be taken (R91; log entry 27). -/
def pendingInterrupt (c : Core) : Option Nat := (List.range 4).find? (intTakeable c)

/-- The pending interrupts that end WAIT (R96, Table 4.9): MXC_LATE only where IEN enables it (log entry 28). -/
def wakesCore (c : Core) : Bool := (c.ipend &&& (if c.ien.getLsbD 2 then 0xF else 0xB)) != 0

/-- INTERRUPT_ENTRY (R92, R96): the interrupt that is taken, where one can be; a pending interrupt also ends WAIT. Entry
clears the IPEND bit but for MXC_LATE, which MXACK clears (log entry 28). -/
def interruptEntry (env : CoreEnv) (c : Core) : Core :=
  match pendingInterrupt c with
  | some b =>
    let c1 := { c with waiting := false, ipend := if b = 2 then c.ipend else c.ipend &&& ~~~((1 : BitVec 4) <<< b) }
    enterInterrupt env c1 (0x10 + b) false
  | none => if wakesCore c then { c with waiting := false } else c

/-- The watchdog's condition (R94): PERIOD × 64 ticks without a write, PERIOD not 0. -/
def wdogExpired (c : Core) : Bool := (c.wdog != 0) && decide (c.wdog.toNat * 64 ≤ c.wdogTicks)

end Sys2Proof.Machine
end

