-- ==== Sys2Proof/Machine/Mxc.lean ====
section
/-! DEFINITION. What the matrix coprocessor does when the instruction at the head of its queue commits
(04_matrix_coprocessor.md, R102 to R106, R116 to R118). -/

namespace Sys2Proof.Machine

/-- The exponent of a register as an integer. -/
def mxE (r : MxReg) : Int := r.exp.toInt

/-- Element (row, column) as two integers. -/
def mxAt (r : MxReg) (i j : Nat) : Int × Int :=
  let w := r.elem.toList.getD (8 * i + j) 0
  (partRe w, partIm w)

/-- A sum over an index. -/
def cSum (n : Nat) (f : Nat → Int × Int) : Int × Int := (List.range n).foldl (fun s k => cAdd s (f k)) (0, 0)

/-- 8 × 8 components given by row and column, 0 outside `m` rows and `n` columns (R102). -/
def mxForm (m n : Nat) (f : Nat → Nat → Int × Int) : Vector (Int × Int) 64 :=
  Vector.ofFn (fun k => if k.val / 8 < m ∧ k.val % 8 < n then f (k.val / 8) (k.val % 8) else (0, 0))

/-- Element of op(A), conjugate transpose where `h` (Table 4.1). -/
def mxOp (h : Bool) (r : MxReg) (i j : Nat) : Int × Int := if h then cConj (mxAt r j i) else mxAt r i j

/-- MXADD (Table 4.1): the operand with the smaller E is shifted right with truncation before the exact sum. -/
def mxAddForm (sub : Bool) (x y : MxReg) : Int × Vector (Int × Int) 64 :=
  let e := max (mxE x) (mxE y)
  let al := fun (r : MxReg) (i j : Nat) =>
    (shiftRightInt (mxAt r i j).1 (e - mxE r), shiftRightInt (mxAt r i j).2 (e - mxE r))
  (e - 15, mxForm 8 8 (fun i j => if sub then cSub (al x i j) (al y i j) else cAdd (al x i j) (al y i j)))

/-- MXMUL (Table 4.1): M × K by K × N. -/
def mxMulForm (ha hb : Bool) (size : Word) (x y : MxReg) : Int × Vector (Int × Int) 64 :=
  let m := (fld size 0 4).toNat
  let k := (fld size 4 4).toNat
  let n := (fld size 8 4).toNat
  (mxE x + mxE y - 30, mxForm m n (fun i j => cSum k (fun l => cMul (mxOp ha x i l) (mxOp hb y l j))))

/-- MXGRAM (Table 4.1): A^H × A + ρI, exact in the smaller of the two units. -/
def mxGramForm (size rho : Word) (x : MxReg) : Int × Vector (Int × Int) 64 :=
  let m := (fld size 0 4).toNat
  let n := (fld size 4 4).toNat
  let ug := 2 * mxE x - 30
  let ur := (fld rho 16 8).toInt - 15
  let u := min ug ur
  let r := shiftRightInt (fld rho 0 16).toInt (u - ur)
  (u, mxForm n n (fun i j =>
    let g := cSum m (fun l => cMul (cConj (mxAt x l i)) (mxAt x l j))
    let g' := (shiftRightInt g.1 (u - ug), shiftRightInt g.2 (u - ug))
    if i = j then cAdd g' (r, 0) else g'))

/-- The elements MXINV reads: the lower triangle of the N × N part, all else 0 (R105). -/
def mxLower (n : Nat) (x : MxReg) : Vector Word 64 :=
  Vector.ofFn (fun k =>
    if k.val / 8 < n ∧ k.val % 8 ≤ k.val / 8 then x.elem[k] else 0)

/-- The half that MXLD loads (R101, R104). -/
def mxLoad (r : MxReg) (e : MxEntry) : MxReg :=
  let h := e.fnf.getLsbD 0
  let el := Vector.ofFn (fun (k : Fin 64) =>
    if (decide (32 ≤ k.val)) = h then e.data.toList.getD (k.val % 32) 0 else r.elem[k])
  if e.fnf.getLsbD 1 then
    { elem := el, exp := fld e.param 0 8, f := e.param.getLsbD 8, p := e.param.getLsbD 9 }
  else { r with elem := el }

/-- The identity of MXID: E = 0 and the diagonal element the part stores for 1 (Table 4.1; log entry 23). -/
def mxIdent (one : Bool) : MxReg :=
  { elem := Vector.ofFn (fun k =>
      if one ∧ k.val / 8 = k.val % 8 then (Sys2Proof.Config.mxIdentityDiag).setWidth 32 else 0) }

/-! ### MXINV (R105) -/

/-- The binary places of an integer beyond 23 magnitude bits; negative where it has fewer. -/
def over24 (x : Int) : Int :=
  let m := if x < 0 then (-x - 1).toNat else x.toNat
  ((if m = 0 then 0 else Nat.log2 m + 1 : Nat) : Int) - 23

/-- Internal values of a pass (R105): 24-bit signed mantissas with one shared exponent, the smallest that holds them all, by
truncation (R102; DEDUCED, log entry 76). -/
def fit24 (xs : List Dyad) : List Dyad :=
  let nz := xs.filter (fun x => x.re != 0 || x.im != 0)
  match nz with
  | [] => xs
  | x :: rest =>
    let need := fun (y : Dyad) => y.u + max (over24 y.re) (over24 y.im)
    let u := rest.foldl (fun m y => max m (need y)) (need x)
    xs.map (fun y => let p := y.parts u; ⟨p.1, p.2, u⟩)

/-- The factors of the N × N part of a register: its lower triangle, the rest taken as its conjugate transpose. -/
def ldlOf (n : Nat) (r : MxReg) : Ldl :=
  let tri := (List.range n).map (fun i => (List.range (i + 1)).map (fun j =>
    ({ re := (mxAt r i j).1, im := (mxAt r i j).2, u := mxE r - 15 } : Dyad)))
  (List.range n).foldl (fun x _ => ldlPass fit24 x) { rest := triRows n (fit24 tri.flatten) }

/-- The rows of the inverse of L, each of internal values (R105). -/
def Ldl.invRows (x : Ldl) (n : Nat) : List (List Dyad) :=
  (List.range n).foldl (fun (rows : List (List Dyad)) i =>
    rows ++ [fit24 ((List.range i).map (fun j =>
        ((List.range i).foldl (fun (s : Dyad) k => s.add ((x.low i k).mul ((rows.getD k []).getD j ⟨0, 0, 0⟩))) ⟨0, 0, 0⟩).neg))
      ++ [⟨1, 0, 0⟩]]) []

/-- The components of the inverse formed from the factors, exact in the unit given first (R105). -/
def Ldl.inverse (x : Ldl) (n : Nat) : Int × Vector (Int × Int) 64 :=
  let m := x.invRows n
  let one : Dyad := ⟨1, 0, 0⟩
  let recip := x.pivots.map (fun d => (fit24 [one.over d]).headD one)
  let at_ := fun (k i : Nat) => (m.getD k []).getD i ⟨0, 0, 0⟩
  let comp := fun (i j : Nat) =>
    (List.range n).foldl (fun (s : Dyad) k => s.add (((at_ k i).conj.mul (at_ k j)).mul (recip.getD k one))) ⟨0, 0, 0⟩
  let cs := (List.range 64).map (fun k => if k / 8 < n ∧ k % 8 < n then comp (k / 8) (k % 8) else ⟨0, 0, 0⟩)
  let u := cs.foldl (fun (u : Int) c => min u c.u) 0
  (u, Vector.ofFn (fun k => (cs.getD k.val ⟨0, 0, 0⟩).parts u))

/-- MXINV's result components and whether it meets SAT or PIVOT (R105): after either the values are those the passes happened
to produce, which are free. When an internal value saturates is free (log entry 76). -/
def mxInvForm (n : Nat) (r : MxReg) : (Int × Vector (Int × Int) 64) × Bool × Bool :=
  let src := mxLower n r
  let f := ldlOf n r
  let sat := Sys2Proof.Config.mxInvSat n src r.exp
  if f.bad || sat then
    ((Sys2Proof.Config.mxInvUnit n src r.exp, mxForm n n (fun i j => Sys2Proof.Config.mxInvPart n src r.exp i j)), sat, f.bad)
  else (f.inverse n, sat, f.bad)

/-- F and P of a result (R103): F from a source or a saturation, P from a parity failure; what the register held stays set
while a source is flagged. -/
def mxFlags (old : MxReg) (srcs : List MxReg) (sat bad : Bool) (r : MxReg) : MxReg :=
  let flagged := srcs.any (fun x => x.f || x.p)
  { r with f := srcs.any (fun x => x.f) || sat || (old.f && flagged), p := bad || (old.p && flagged) }

/-- The result of a queued instruction: the new register, if one is written, and the late errors found, by rising
code (R116, Table 4.6). `bad` says that a source element failed its parity check. -/
def mxCompute (x : Mxc) (e : MxEntry) (bad : Bool) : Option MxReg × List (BitVec 3) :=
  let ra := x.regs[e.a.toFin]
  let rb := x.regs[e.b.toFin]
  let old := x.regs[e.d.toFin]
  let par : List (BitVec 3) := if bad then [4] else []
  let two := fun (uc : Int × Vector (Int × Int) 64) (srcs : List MxReg) (early : List (BitVec 3)) =>
    let r := mxResult uc.1 uc.2
    (some (mxFlags old srcs (r.2 || !early.isEmpty) bad r.1), early ++ (if r.2 then [3] else []) ++ par)
  match e.fn with
  | .ld => (some (mxLoad old e), [])
  | .ident => (some (mxIdent (e.fnf.getLsbD 0)), [])
  | .add => two (mxAddForm (e.fnf.getLsbD 0) ra rb) [ra, rb] []
  | .mul => two (mxMulForm (e.fnf.getLsbD 0) (e.fnf.getLsbD 1) e.size ra rb) [ra, rb] []
  | .gram => two (mxGramForm e.size e.param ra) [ra] []
  | .inv =>
    let r := mxInvForm (fld e.size 0 4).toNat ra
    two r.1 [ra] ((if r.2.1 then [1] else []) ++ (if r.2.2 then [2] else []))
  | .scl =>
    let e' := mxE ra + (fld e.param 0 8).toInt
    let out := decide (e' < -128) || decide (127 < e')
    (some (mxFlags old [ra] out bad { ra with exp := if out then 127 else BitVec.ofInt 8 e' }),
      (if out then [3] else []) ++ par)
  | _ => (none, [])

/-- The head of the queue completes and commits (R106, R116, R117, R118): the new core, with IPEND bit 2 as R116 and
R117 say. -/
def mxCommit (c : Core) (bad : Bool) : Core :=
  match c.mxc.queue with
  | [] => c
  | e :: rest =>
    let x0 := { c.mxc with queue := rest }
    if e.fn = .ack then
      { c with mxc := { x0 with late := false, lovf := false, lcause := 0, lreg := 0, lseq := 0 }
               ipend := c.ipend &&& ~~~(4 : BitVec 4) }
    else
      let out := mxCompute c.mxc e bad
      let x1 := match out.1 with
        | some r => { x0 with regs := x0.regs.set e.d.toFin r }
        | none => x0
      let x2 := out.2.foldl (fun x k => recordLate x e.d e.seq k) x1
      { c with mxc := { x2 with testDue := x2.testDue || out.2.contains 4 }
               ipend := if out.2.isEmpty || c.mxc.late then c.ipend else c.ipend ||| 4 }

end Sys2Proof.Machine
end

