-- ==== Sys2Proof/Machine/Signal.lean ====
section
/-! DEFINITION. The rows of the signal cores and of their matrix coprocessors: one bundle of core `k`, the commit of a
queued MXC instruction, interrupts and the watchdog (03_signal_cores.md; 04_matrix_coprocessor.md). A core that is not
PRESENT, whose domain is not in Run, that is under test or that waits issues nothing (log entry 1). -/

namespace Sys2Proof.Machine

/-- The state of a core's MXC (R120, R121). -/
def Dev.mxState (d : Dev) (k : Nat) : MxState :=
  let x := d.dom (0x200 + k)
  if !d.present 2 k || x.st == .failed || x.st == .absent then .unavailable
  else if !(d.core k).mxc.started then .unavailable
  else if (d.unit 2 k).testing then .testing
  else match x.st with
    | .run => .run
    | .waking => .waking
    | .stopping => if x.step ≠ .closing then .run else if (d.core k).mxc.wakePosted then .waking else .stopped
    | _ => if (d.core k).mxc.wakePosted then .waking else .stopped

/-- What core `k` sees of the device. -/
def Dev.coreEnv (d : Dev) (k : Fin 128) : CoreEnv :=
  { num := k, tick := d.time.tick.setWidth 32, mx := d.mxState k.val, mxPresent := d.present 2 k.val
    freeEval := Sys2Proof.Config.freeWord d.free }

/-- Whether a core is powered and in service. -/
def Dev.coreUp (d : Dev) (k : Nat) : Bool := d.launched && d.unitWorks 1 k && !(d.unit 1 k).testing

/-- Whether a core issues bundles. -/
def Dev.coreIssues (d : Dev) (k : Nat) : Bool := d.coreUp k && !(d.core k).waiting

/-- The device address that an error check of a bundle is about: its fetch or its first load element (R93, R300). -/
def eccAddr (k : Fin 128) (c : Core) (b : Bundle) (ecc : BundleEcc) : Nat :=
  match ecc, b.ls.op with
  | .loadCorrected, some (.acc fn _ an _ mode imm) => coreBase k + ((lsElems c fn an mode imm).headD 0).toNat
  | _, _ => coreBase k + 0x60000 + c.pc.toNat

/-- What a bundle reports outward reaches the device: a wake for the MXC (R113), a parity failure of MXST (R116, R118), counted
and uncorrectable errors (R93). -/
def Dev.takeRun (d : Dev) (k : Fin 128) (b : Bundle) (ecc : BundleEcc) (r : CoreRun) : Dev :=
  let d1 : Dev := { d with cores := d.cores.set k r.core, mem := r.mem, free := d.free + 1 }
  let d2 := if r.wake then d1.domImplicit (0x200 + k.val) true (.mxc k.val) else d1
  let d2 := if r.mxParity then (d2.unitError 0x0016 2 k.val 0 true 0).startTests else d2
  let d3 := if r.corrected then d2.eccCorrected (eccAddr k d.cores[k] b ecc) else d2
  match r.uncorrectable with
  | some x =>
    (d3.eccUncorrectable (coreBase k + (if ecc = .fetchUncorrectable then 0x60000 else 0) + x.toNat)).startTests
  | none => d3

/-- Core `k` issues a bundle. -/
def Dev.issue (d : Dev) (k : Fin 128) (i : Issue) (b : Bundle) : Dev :=
  if d.coreIssues k.val then
    d.takeRun k b i.ecc (runBundle (d.coreEnv k) { core := d.cores[k], mem := d.mem } b i)
  else d

/-- A bundle whose scalar/branch slot holds `op`. -/
def issueSb (k : Fin 128) (i : Issue) (op : SbOp) (s : State) : Host.Outcome State Fault Refusal :=
  s.on (fun d => d.issue k i (bundleSb i.words op))

/-- A bundle whose load/store slot holds an access. -/
def issueLs (k : Fin 128) (i : Issue) (fn : LsFn) (r : BitVec 5) (an mn : BitVec 3) (mode : BitVec 2) (imm : BitVec 14)
    (s : State) : Host.Outcome State Fault Refusal :=
  s.on (fun d => d.issue k i (bundleLs i.words (.acc fn r an mn mode imm)))

/-- A bundle whose named vector slot holds `op`. -/
def issueV (k : Fin 128) (i : Issue) (slot : VSlot) (op : VOp) (s : State) : Host.Outcome State Fault Refusal :=
  s.on (fun d => d.issue k i (bundleV i.words slot op))

/-! ### The empty slot and the scalar/branch slot -/

/-- NOP (R69): the named slot does nothing. -/
def execNop (k : Fin 128) (i : Issue) (slot : SlotName) (s : State) : Host.Outcome State Fault Refusal :=
  match slot with
  | .sb => issueSb k i .nop s
  | .ls => s.on (fun d => d.issue k i (bundleLs i.words .nop))
  | .va => issueV k i .va .nop s
  | .vb => issueV k i .vb .nop s

/-- ADD (R71, Table 3.5). -/
def execAdd (k : Fin 128) (i : Issue) (sd sa sb : BitVec 4) (s : State) : Host.Outcome State Fault Refusal :=
  issueSb k i (.alu .add sd sa sb) s

/-- SUB (R71, Table 3.5). -/
def execSub (k : Fin 128) (i : Issue) (sd sa sb : BitVec 4) (s : State) : Host.Outcome State Fault Refusal :=
  issueSb k i (.alu .sub sd sa sb) s

/-- AND (R71, Table 3.5). -/
def execAnd (k : Fin 128) (i : Issue) (sd sa sb : BitVec 4) (s : State) : Host.Outcome State Fault Refusal :=
  issueSb k i (.alu .and sd sa sb) s

/-- OR (R71, Table 3.5). -/
def execOr (k : Fin 128) (i : Issue) (sd sa sb : BitVec 4) (s : State) : Host.Outcome State Fault Refusal :=
  issueSb k i (.alu .or sd sa sb) s

/-- XOR (R71, Table 3.5). -/
def execXor (k : Fin 128) (i : Issue) (sd sa sb : BitVec 4) (s : State) : Host.Outcome State Fault Refusal :=
  issueSb k i (.alu .xor sd sa sb) s

/-- SHL (R71, Table 3.5). -/
def execShl (k : Fin 128) (i : Issue) (sd sa sb : BitVec 4) (s : State) : Host.Outcome State Fault Refusal :=
  issueSb k i (.alu .shl sd sa sb) s

/-- SHR (R71, Table 3.5). -/
def execShr (k : Fin 128) (i : Issue) (sd sa sb : BitVec 4) (s : State) : Host.Outcome State Fault Refusal :=
  issueSb k i (.alu .shr sd sa sb) s

/-- SAR (R71, Table 3.5). -/
def execSar (k : Fin 128) (i : Issue) (sd sa sb : BitVec 4) (s : State) : Host.Outcome State Fault Refusal :=
  issueSb k i (.alu .sar sd sa sb) s

/-- MUL (R71, Table 3.5). -/
def execMul (k : Fin 128) (i : Issue) (sd sa sb : BitVec 4) (s : State) : Host.Outcome State Fault Refusal :=
  issueSb k i (.alu .mul sd sa sb) s

/-- MULH (R71, Table 3.5). -/
def execMulh (k : Fin 128) (i : Issue) (sd sa sb : BitVec 4) (s : State) : Host.Outcome State Fault Refusal :=
  issueSb k i (.alu .mulh sd sa sb) s

/-- ADDS (R71, Table 3.5). -/
def execAdds (k : Fin 128) (i : Issue) (sd sa sb : BitVec 4) (s : State) : Host.Outcome State Fault Refusal :=
  issueSb k i (.alu .adds sd sa sb) s

/-- SUBS (R71, Table 3.5). -/
def execSubs (k : Fin 128) (i : Issue) (sd sa sb : BitVec 4) (s : State) : Host.Outcome State Fault Refusal :=
  issueSb k i (.alu .subs sd sa sb) s

/-- MIN (R71, Table 3.5). -/
def execMin (k : Fin 128) (i : Issue) (sd sa sb : BitVec 4) (s : State) : Host.Outcome State Fault Refusal :=
  issueSb k i (.alu .min sd sa sb) s

/-- MAX (R71, Table 3.5). -/
def execMax (k : Fin 128) (i : Issue) (sd sa sb : BitVec 4) (s : State) : Host.Outcome State Fault Refusal :=
  issueSb k i (.alu .max sd sa sb) s

/-- SLT (R71, Table 3.5). -/
def execSlt (k : Fin 128) (i : Issue) (sd sa sb : BitVec 4) (s : State) : Host.Outcome State Fault Refusal :=
  issueSb k i (.alu .slt sd sa sb) s

/-- SLTU (R71, Table 3.5). -/
def execSltu (k : Fin 128) (i : Issue) (sd sa sb : BitVec 4) (s : State) : Host.Outcome State Fault Refusal :=
  issueSb k i (.alu .sltu sd sa sb) s

/-- ADDI (R71). -/
def execAddi (k : Fin 128) (i : Issue) (sd sa : BitVec 4) (imm : BitVec 18) (s : State) : Host.Outcome State Fault Refusal :=
  issueSb k i (.imm .addi sd sa imm) s

/-- ANDI (R71). -/
def execAndi (k : Fin 128) (i : Issue) (sd sa : BitVec 4) (imm : BitVec 18) (s : State) : Host.Outcome State Fault Refusal :=
  issueSb k i (.imm .andi sd sa imm) s

/-- ORI (R71). -/
def execOri (k : Fin 128) (i : Issue) (sd sa : BitVec 4) (imm : BitVec 18) (s : State) : Host.Outcome State Fault Refusal :=
  issueSb k i (.imm .ori sd sa imm) s

/-- LUI (R71). -/
def execLui (k : Fin 128) (i : Issue) (sd sa : BitVec 4) (imm : BitVec 18) (s : State) : Host.Outcome State Fault Refusal :=
  issueSb k i (.imm .lui sd sa imm) s

/-- AMOD (R75). -/
def execAmod (k : Fin 128) (i : Issue) (an mn : BitVec 3) (circ : Bool) (s : State) : Host.Outcome State Fault Refusal :=
  issueSb k i (.amod an mn circ) s

/-- MOVTA (R71). -/
def execMovta (k : Fin 128) (i : Issue) (ss : BitVec 4) (target : BitVec 6) (s : State) : Host.Outcome State Fault Refusal :=
  issueSb k i (.movta ss target) s

/-- MOVFA (R71). -/
def execMovfa (k : Fin 128) (i : Issue) (ss : BitVec 4) (source : BitVec 6) (s : State) : Host.Outcome State Fault Refusal :=
  issueSb k i (.movfa ss source) s

/-- BR (R71). -/
def execBr (k : Fin 128) (i : Issue) (sa cond : BitVec 4) (off : BitVec 18) (s : State) : Host.Outcome State Fault Refusal :=
  issueSb k i (.br sa cond off) s

/-- JMP (R71). -/
def execJmp (k : Fin 128) (i : Issue) (off : BitVec 18) (s : State) : Host.Outcome State Fault Refusal :=
  issueSb k i (.jmp off) s

/-- CALL (R71). -/
def execCall (k : Fin 128) (i : Issue) (off : BitVec 18) (s : State) : Host.Outcome State Fault Refusal :=
  issueSb k i (.call off) s

/-- JR (R71). -/
def execJr (k : Fin 128) (i : Issue) (sa : BitVec 4) (s : State) : Host.Outcome State Fault Refusal :=
  issueSb k i (.jr sa) s

/-- BMXB (R108). -/
def execBmxb (k : Fin 128) (i : Issue) (cond : BitVec 4) (off : BitVec 18) (s : State) : Host.Outcome State Fault Refusal :=
  issueSb k i (.bmxb cond off) s

/-- REP (R84 to R87), with the iterations of the next bundle. -/
def execRep (k : Fin 128) (i : Issue) (fromReg : Bool) (sa : BitVec 4) (count : BitVec 12) (s : State) : Host.Outcome State Fault Refusal :=
  issueSb k i (.rep fromReg sa count) s

/-- CSRR (R71, R90). -/
def execCsrr (k : Fin 128) (i : Issue) (ss : BitVec 4) (num : BitVec 12) (s : State) : Host.Outcome State Fault Refusal :=
  issueSb k i (.csr .read ss num) s

/-- CSRW (R71, R90). -/
def execCsrw (k : Fin 128) (i : Issue) (ss : BitVec 4) (num : BitVec 12) (s : State) : Host.Outcome State Fault Refusal :=
  issueSb k i (.csr .write ss num) s

/-- CSRS (R71, R90). -/
def execCsrs (k : Fin 128) (i : Issue) (ss : BitVec 4) (num : BitVec 12) (s : State) : Host.Outcome State Fault Refusal :=
  issueSb k i (.csr .set ss num) s

/-- CSRC (R71, R90). -/
def execCsrc (k : Fin 128) (i : Issue) (ss : BitVec 4) (num : BitVec 12) (s : State) : Host.Outcome State Fault Refusal :=
  issueSb k i (.csr .clear ss num) s

/-- TRAP (R71): SYSCALL is taken. -/
def execTrap (k : Fin 128) (i : Issue) (service : BitVec 18) (s : State) : Host.Outcome State Fault Refusal :=
  issueSb k i (.trap service) s

/-- RETT (R92), with the repeat it resumes (R87). -/
def execRett (k : Fin 128) (i : Issue) (s : State) : Host.Outcome State Fault Refusal :=
  issueSb k i .rett s

/-- BRK (R71): BREAK is taken where CORECTL.BRK_EN is set. -/
def execBrk (k : Fin 128) (i : Issue) (s : State) : Host.Outcome State Fault Refusal :=
  issueSb k i .brk s

/-- WAIT (R96). -/
def execWait (k : Fin 128) (i : Issue) (s : State) : Host.Outcome State Fault Refusal :=
  issueSb k i .wait s

/-- DONE (R97). -/
def execDone (k : Fin 128) (i : Issue) (sa : BitVec 4) (s : State) : Host.Outcome State Fault Refusal :=
  issueSb k i (.done sa) s

/-! ### The load/store slot -/

/-- LDW (R72). -/
def execLdw (k : Fin 128) (i : Issue) (r : BitVec 5) (an mn : BitVec 3) (mode : BitVec 2) (imm : BitVec 14) (s : State) : Host.Outcome State Fault Refusal :=
  issueLs k i .ldw r an mn mode imm s

/-- STW (R72). -/
def execStw (k : Fin 128) (i : Issue) (r : BitVec 5) (an mn : BitVec 3) (mode : BitVec 2) (imm : BitVec 14) (s : State) : Host.Outcome State Fault Refusal :=
  issueLs k i .stw r an mn mode imm s

/-- LDV (R72, R76). -/
def execLdv (k : Fin 128) (i : Issue) (r : BitVec 5) (an mn : BitVec 3) (mode : BitVec 2) (imm : BitVec 14) (s : State) : Host.Outcome State Fault Refusal :=
  issueLs k i .ldv r an mn mode imm s

/-- STV (R72, R76). -/
def execStv (k : Fin 128) (i : Issue) (r : BitVec 5) (an mn : BitVec 3) (mode : BitVec 2) (imm : BitVec 14) (s : State) : Host.Outcome State Fault Refusal :=
  issueLs k i .stv r an mn mode imm s

/-- LDVB (R72). -/
def execLdvb (k : Fin 128) (i : Issue) (r : BitVec 5) (an mn : BitVec 3) (mode : BitVec 2) (imm : BitVec 14) (s : State) : Host.Outcome State Fault Refusal :=
  issueLs k i .ldvb r an mn mode imm s

/-- ASV (R95). -/
def execAsv (k : Fin 128) (i : Issue) (r : BitVec 5) (an mn : BitVec 3) (mode : BitVec 2) (imm : BitVec 14) (s : State) : Host.Outcome State Fault Refusal :=
  issueLs k i .asv r an mn mode imm s

/-- ALD (R95). -/
def execAld (k : Fin 128) (i : Issue) (r : BitVec 5) (an mn : BitVec 3) (mode : BitVec 2) (imm : BitVec 14) (s : State) : Host.Outcome State Fault Refusal :=
  issueLs k i .ald r an mn mode imm s

/-! ### The vector slots -/

/-- VADD (R73, R83). -/
def execVadd (k : Fin 128) (i : Issue) (slot : VSlot) (d a b mod : BitVec 5) (s : State) : Host.Outcome State Fault Refusal :=
  issueV k i slot (.valu .add d a b mod) s

/-- VSUB (R73, R83). -/
def execVsub (k : Fin 128) (i : Issue) (slot : VSlot) (d a b mod : BitVec 5) (s : State) : Host.Outcome State Fault Refusal :=
  issueV k i slot (.valu .sub d a b mod) s

/-- VNEG (R73, R83). -/
def execVneg (k : Fin 128) (i : Issue) (slot : VSlot) (d a b mod : BitVec 5) (s : State) : Host.Outcome State Fault Refusal :=
  issueV k i slot (.valu .neg d a b mod) s

/-- VCONJ (R73, R83). -/
def execVconj (k : Fin 128) (i : Issue) (slot : VSlot) (d a b mod : BitVec 5) (s : State) : Host.Outcome State Fault Refusal :=
  issueV k i slot (.valu .conj d a b mod) s

/-- VAND (R73, R83). -/
def execVand (k : Fin 128) (i : Issue) (slot : VSlot) (d a b mod : BitVec 5) (s : State) : Host.Outcome State Fault Refusal :=
  issueV k i slot (.valu .and d a b mod) s

/-- VOR (R73, R83). -/
def execVor (k : Fin 128) (i : Issue) (slot : VSlot) (d a b mod : BitVec 5) (s : State) : Host.Outcome State Fault Refusal :=
  issueV k i slot (.valu .or d a b mod) s

/-- VXOR (R73, R83). -/
def execVxor (k : Fin 128) (i : Issue) (slot : VSlot) (d a b mod : BitVec 5) (s : State) : Host.Outcome State Fault Refusal :=
  issueV k i slot (.valu .xor d a b mod) s

/-- VSAR (R73, R83). -/
def execVsar (k : Fin 128) (i : Issue) (slot : VSlot) (d a b mod : BitVec 5) (s : State) : Host.Outcome State Fault Refusal :=
  issueV k i slot (.valu .sar d a b mod) s

/-- VMULJ (R73, R83). -/
def execVmulj (k : Fin 128) (i : Issue) (slot : VSlot) (d a b mod : BitVec 5) (s : State) : Host.Outcome State Fault Refusal :=
  issueV k i slot (.valu .mulj d a b mod) s

/-- VMUL (R78, R79). -/
def execVmul (k : Fin 128) (i : Issue) (slot : VSlot) (d a b : BitVec 5) (fn : BitVec 6) (mod : BitVec 5) (s : State) : Host.Outcome State Fault Refusal :=
  issueV k i slot (.mul .mul d a b fn mod) s

/-- VMAC (R78, R79). -/
def execVmac (k : Fin 128) (i : Issue) (slot : VSlot) (d a b : BitVec 5) (fn : BitVec 6) (mod : BitVec 5) (s : State) : Host.Outcome State Fault Refusal :=
  issueV k i slot (.mul .mac d a b fn mod) s

/-- VMSU (R78, R79). -/
def execVmsu (k : Fin 128) (i : Issue) (slot : VSlot) (d a b : BitVec 5) (fn : BitVec 6) (mod : BitVec 5) (s : State) : Host.Outcome State Fault Refusal :=
  issueV k i slot (.mul .msu d a b fn mod) s

/-- VMOVA (R80, R81). -/
def execVmova (k : Fin 128) (i : Issue) (slot : VSlot) (d a b : BitVec 5) (fn : BitVec 6) (mod : BitVec 5) (s : State) : Host.Outcome State Fault Refusal :=
  issueV k i slot (.mova d a b fn mod) s

/-- VMOVV (R79). -/
def execVmovv (k : Fin 128) (i : Issue) (slot : VSlot) (d a : BitVec 5) (s : State) : Host.Outcome State Fault Refusal :=
  issueV k i slot (.movv d a) s

/-- VBEXP (R82). -/
def execVbexp (k : Fin 128) (i : Issue) (slot : VSlot) (d a : BitVec 5) (s : State) : Host.Outcome State Fault Refusal :=
  issueV k i slot (.bexp d a) s

/-- VROT (R73). -/
def execVrot (k : Fin 128) (i : Issue) (slot : VSlot) (d a b mod : BitVec 5) (s : State) : Host.Outcome State Fault Refusal :=
  issueV k i slot (.perm .rot d a b mod) s

/-- VBFLY (R73). -/
def execVbfly (k : Fin 128) (i : Issue) (slot : VSlot) (d a b mod : BitVec 5) (s : State) : Host.Outcome State Fault Refusal :=
  issueV k i slot (.perm .bfly d a b mod) s

/-- VREV (R73). -/
def execVrev (k : Fin 128) (i : Issue) (slot : VSlot) (d a b mod : BitVec 5) (s : State) : Host.Outcome State Fault Refusal :=
  issueV k i slot (.perm .rev d a b mod) s

/-- VBCAST (R73). -/
def execVbcast (k : Fin 128) (i : Issue) (slot : VSlot) (d a b mod : BitVec 5) (s : State) : Host.Outcome State Fault Refusal :=
  issueV k i slot (.perm .bcast d a b mod) s

/-- VINS (R73). -/
def execVins (k : Fin 128) (i : Issue) (slot : VSlot) (d a lane : BitVec 5) (s : State) : Host.Outcome State Fault Refusal :=
  issueV k i slot (.ins d a lane) s

/-- VEXT (R73). -/
def execVext (k : Fin 128) (i : Issue) (slot : VSlot) (d a lane : BitVec 5) (s : State) : Host.Outcome State Fault Refusal :=
  issueV k i slot (.ext d a lane) s

/-! ### The MXC instructions, in VB -/

/-- MXLD (R104 to R107, R111). -/
def execMxld (k : Fin 128) (i : Issue) (d a b : BitVec 5) (fn : BitVec 6) (mod : BitVec 5) (s : State) : Host.Outcome State Fault Refusal :=
  issueV k i .vb (.mx .ld d a b fn mod) s

/-- MXST (R104 to R107, R111). -/
def execMxst (k : Fin 128) (i : Issue) (d a b : BitVec 5) (fn : BitVec 6) (mod : BitVec 5) (s : State) : Host.Outcome State Fault Refusal :=
  issueV k i .vb (.mx .st d a b fn mod) s

/-- MXGETE, the exponent form (R104 to R107, R111). -/
def execMxgeteExp (k : Fin 128) (i : Issue) (d a b : BitVec 5) (fn : BitVec 6) (mod : BitVec 5) (s : State) : Host.Outcome State Fault Refusal :=
  issueV k i .vb (.mx .getExp d a b fn mod) s

/-- MXGETE, the sequence form (R104 to R107, R111). -/
def execMxgeteSeq (k : Fin 128) (i : Issue) (d a b : BitVec 5) (fn : BitVec 6) (mod : BitVec 5) (s : State) : Host.Outcome State Fault Refusal :=
  issueV k i .vb (.mx .getSeq d a b fn mod) s

/-- MXID (R104 to R107, R111). -/
def execMxid (k : Fin 128) (i : Issue) (d a b : BitVec 5) (fn : BitVec 6) (mod : BitVec 5) (s : State) : Host.Outcome State Fault Refusal :=
  issueV k i .vb (.mx .ident d a b fn mod) s

/-- MXADD (R104 to R107, R111). -/
def execMxadd (k : Fin 128) (i : Issue) (d a b : BitVec 5) (fn : BitVec 6) (mod : BitVec 5) (s : State) : Host.Outcome State Fault Refusal :=
  issueV k i .vb (.mx .add d a b fn mod) s

/-- MXMUL (R104 to R107, R111). -/
def execMxmul (k : Fin 128) (i : Issue) (d a b : BitVec 5) (fn : BitVec 6) (mod : BitVec 5) (s : State) : Host.Outcome State Fault Refusal :=
  issueV k i .vb (.mx .mul d a b fn mod) s

/-- MXGRAM (R104 to R107, R111). -/
def execMxgram (k : Fin 128) (i : Issue) (d a b : BitVec 5) (fn : BitVec 6) (mod : BitVec 5) (s : State) : Host.Outcome State Fault Refusal :=
  issueV k i .vb (.mx .gram d a b fn mod) s

/-- MXINV (R104 to R107, R111). -/
def execMxinv (k : Fin 128) (i : Issue) (d a b : BitVec 5) (fn : BitVec 6) (mod : BitVec 5) (s : State) : Host.Outcome State Fault Refusal :=
  issueV k i .vb (.mx .inv d a b fn mod) s

/-- MXSCL (R104 to R107, R111). -/
def execMxscl (k : Fin 128) (i : Issue) (d a b : BitVec 5) (fn : BitVec 6) (mod : BitVec 5) (s : State) : Host.Outcome State Fault Refusal :=
  issueV k i .vb (.mx .scl d a b fn mod) s

/-- MXACK (R104 to R107, R111). -/
def execMxack (k : Fin 128) (i : Issue) (d a b : BitVec 5) (fn : BitVec 6) (mod : BitVec 5) (s : State) : Host.Outcome State Fault Refusal :=
  issueV k i .vb (.mx .ack d a b fn mod) s

/-! ### Device events of a core -/

/-- The head of core `k`'s MXC queue commits (R106, R116, R118): `bad` says that a source element failed its parity. -/
def Dev.mxcCommit (d : Dev) (k : Nat) (bad : Bool) : Dev :=
  match (d.core k).mxc.queue with
  | [] => d
  | e :: _ =>
    let d1 := d.updCore k (fun c => mxCommit c bad)
    if bad ∧ e.fn ≠ .ack ∧ (mxCompute (d.core k).mxc e bad).2.contains 4 then
      (d1.unitError 0x0016 2 k 0 true 0).startTests
    else d1.startTests

/-- MXC_COMMIT (R106, R116 to R118). -/
def execMxcCommit (k : Fin 128) (bad : Bool) (s : State) : Host.Outcome State Fault Refusal :=
  s.on (fun d => if d.mxState k.val = .run then d.mxcCommit k.val bad else d)

/-- INTERRUPT_ENTRY (R91, R92, R96; 09_almanac_scheduler.md, R236): a delivered job starts with its handler. -/
def execInterruptEntry (k : Fin 128) (s : State) : Host.Outcome State Fault Refusal :=
  s.on (fun d =>
    if d.coreUp k.val then
      let taken := pendingInterrupt d.cores[k]
      let d1 : Dev := { d with cores := d.cores.set k (interruptEntry (d.coreEnv k) d.cores[k]), free := d.free + 1 }
      match taken with
      | some 0 => d1.enterDelivery k.val true
      | some 1 => d1.enterDelivery k.val false
      | _ => d1
    else d)

/-- WDOG (R91, R94): the trap to Monitor, whose runtime reports the error. The count starts anew. -/
def execWdog (k : Fin 128) (s : State) : Host.Outcome State Fault Refusal :=
  s.on (fun d =>
    if d.coreUp k.val && wdogExpired d.cores[k] then
      let c := { d.cores[k] with waiting := false, wdogTicks := 0 }
      let d1 : Dev := { d with cores := d.cores.set k (enterInterrupt (d.coreEnv k) c 0x14 true), free := d.free + 1 }
      (d1.unitError 0x0017 1 k.val 0 true 0).startTests
    else d)

end Sys2Proof.Machine
end

