-- ==== Sys2Proof/Machine/Dispatch.lean ====
section
/-! DEFINITION. The meaning of every command: one arm per constructor of Instr, each a direct call. -/

namespace Sys2Proof.Machine

def exec (i : Instr) (s : State) : Host.Outcome State Fault Refusal :=
  match i with
  | .nop k iss slot => Sys2Proof.Machine.execNop k iss slot s
  | .add k iss sd sa sb => Sys2Proof.Machine.execAdd k iss sd sa sb s
  | .sub k iss sd sa sb => Sys2Proof.Machine.execSub k iss sd sa sb s
  | .and k iss sd sa sb => Sys2Proof.Machine.execAnd k iss sd sa sb s
  | .or k iss sd sa sb => Sys2Proof.Machine.execOr k iss sd sa sb s
  | .xor k iss sd sa sb => Sys2Proof.Machine.execXor k iss sd sa sb s
  | .shl k iss sd sa sb => Sys2Proof.Machine.execShl k iss sd sa sb s
  | .shr k iss sd sa sb => Sys2Proof.Machine.execShr k iss sd sa sb s
  | .sar k iss sd sa sb => Sys2Proof.Machine.execSar k iss sd sa sb s
  | .mul k iss sd sa sb => Sys2Proof.Machine.execMul k iss sd sa sb s
  | .mulh k iss sd sa sb => Sys2Proof.Machine.execMulh k iss sd sa sb s
  | .adds k iss sd sa sb => Sys2Proof.Machine.execAdds k iss sd sa sb s
  | .subs k iss sd sa sb => Sys2Proof.Machine.execSubs k iss sd sa sb s
  | .min k iss sd sa sb => Sys2Proof.Machine.execMin k iss sd sa sb s
  | .max k iss sd sa sb => Sys2Proof.Machine.execMax k iss sd sa sb s
  | .slt k iss sd sa sb => Sys2Proof.Machine.execSlt k iss sd sa sb s
  | .sltu k iss sd sa sb => Sys2Proof.Machine.execSltu k iss sd sa sb s
  | .addi k iss sd sa imm => Sys2Proof.Machine.execAddi k iss sd sa imm s
  | .andi k iss sd sa imm => Sys2Proof.Machine.execAndi k iss sd sa imm s
  | .ori k iss sd sa imm => Sys2Proof.Machine.execOri k iss sd sa imm s
  | .lui k iss sd sa imm => Sys2Proof.Machine.execLui k iss sd sa imm s
  | .amod k iss an mn circ => Sys2Proof.Machine.execAmod k iss an mn circ s
  | .movta k iss ss target => Sys2Proof.Machine.execMovta k iss ss target s
  | .movfa k iss ss source => Sys2Proof.Machine.execMovfa k iss ss source s
  | .br k iss sa cond off => Sys2Proof.Machine.execBr k iss sa cond off s
  | .jmp k iss off => Sys2Proof.Machine.execJmp k iss off s
  | .call k iss off => Sys2Proof.Machine.execCall k iss off s
  | .jr k iss sa => Sys2Proof.Machine.execJr k iss sa s
  | .bmxb k iss cond off => Sys2Proof.Machine.execBmxb k iss cond off s
  | .rep k iss fromReg sa count => Sys2Proof.Machine.execRep k iss fromReg sa count s
  | .csrr k iss ss num => Sys2Proof.Machine.execCsrr k iss ss num s
  | .csrw k iss ss num => Sys2Proof.Machine.execCsrw k iss ss num s
  | .csrs k iss ss num => Sys2Proof.Machine.execCsrs k iss ss num s
  | .csrc k iss ss num => Sys2Proof.Machine.execCsrc k iss ss num s
  | .trap k iss service => Sys2Proof.Machine.execTrap k iss service s
  | .rett k iss => Sys2Proof.Machine.execRett k iss s
  | .brk k iss => Sys2Proof.Machine.execBrk k iss s
  | .wait k iss => Sys2Proof.Machine.execWait k iss s
  | .done k iss sa => Sys2Proof.Machine.execDone k iss sa s
  | .ldw k iss r an mn mode imm => Sys2Proof.Machine.execLdw k iss r an mn mode imm s
  | .stw k iss r an mn mode imm => Sys2Proof.Machine.execStw k iss r an mn mode imm s
  | .ldv k iss r an mn mode imm => Sys2Proof.Machine.execLdv k iss r an mn mode imm s
  | .stv k iss r an mn mode imm => Sys2Proof.Machine.execStv k iss r an mn mode imm s
  | .ldvb k iss r an mn mode imm => Sys2Proof.Machine.execLdvb k iss r an mn mode imm s
  | .asv k iss r an mn mode imm => Sys2Proof.Machine.execAsv k iss r an mn mode imm s
  | .ald k iss r an mn mode imm => Sys2Proof.Machine.execAld k iss r an mn mode imm s
  | .vadd k iss slot d a b mod => Sys2Proof.Machine.execVadd k iss slot d a b mod s
  | .vsub k iss slot d a b mod => Sys2Proof.Machine.execVsub k iss slot d a b mod s
  | .vneg k iss slot d a b mod => Sys2Proof.Machine.execVneg k iss slot d a b mod s
  | .vconj k iss slot d a b mod => Sys2Proof.Machine.execVconj k iss slot d a b mod s
  | .vand k iss slot d a b mod => Sys2Proof.Machine.execVand k iss slot d a b mod s
  | .vor k iss slot d a b mod => Sys2Proof.Machine.execVor k iss slot d a b mod s
  | .vxor k iss slot d a b mod => Sys2Proof.Machine.execVxor k iss slot d a b mod s
  | .vsar k iss slot d a b mod => Sys2Proof.Machine.execVsar k iss slot d a b mod s
  | .vmulj k iss slot d a b mod => Sys2Proof.Machine.execVmulj k iss slot d a b mod s
  | .vmul k iss slot d a b fn mod => Sys2Proof.Machine.execVmul k iss slot d a b fn mod s
  | .vmac k iss slot d a b fn mod => Sys2Proof.Machine.execVmac k iss slot d a b fn mod s
  | .vmsu k iss slot d a b fn mod => Sys2Proof.Machine.execVmsu k iss slot d a b fn mod s
  | .vmova k iss slot d a b fn mod => Sys2Proof.Machine.execVmova k iss slot d a b fn mod s
  | .vmovv k iss slot d a => Sys2Proof.Machine.execVmovv k iss slot d a s
  | .vbexp k iss slot d a => Sys2Proof.Machine.execVbexp k iss slot d a s
  | .vrot k iss slot d a b mod => Sys2Proof.Machine.execVrot k iss slot d a b mod s
  | .vbfly k iss slot d a b mod => Sys2Proof.Machine.execVbfly k iss slot d a b mod s
  | .vrev k iss slot d a b mod => Sys2Proof.Machine.execVrev k iss slot d a b mod s
  | .vbcast k iss slot d a b mod => Sys2Proof.Machine.execVbcast k iss slot d a b mod s
  | .vins k iss slot d a lane => Sys2Proof.Machine.execVins k iss slot d a lane s
  | .vext k iss slot d a lane => Sys2Proof.Machine.execVext k iss slot d a lane s
  | .mxld k iss d a b fn mod => Sys2Proof.Machine.execMxld k iss d a b fn mod s
  | .mxst k iss d a b fn mod => Sys2Proof.Machine.execMxst k iss d a b fn mod s
  | .mxgeteExp k iss d a b fn mod => Sys2Proof.Machine.execMxgeteExp k iss d a b fn mod s
  | .mxgeteSeq k iss d a b fn mod => Sys2Proof.Machine.execMxgeteSeq k iss d a b fn mod s
  | .mxid k iss d a b fn mod => Sys2Proof.Machine.execMxid k iss d a b fn mod s
  | .mxadd k iss d a b fn mod => Sys2Proof.Machine.execMxadd k iss d a b fn mod s
  | .mxmul k iss d a b fn mod => Sys2Proof.Machine.execMxmul k iss d a b fn mod s
  | .mxgram k iss d a b fn mod => Sys2Proof.Machine.execMxgram k iss d a b fn mod s
  | .mxinv k iss d a b fn mod => Sys2Proof.Machine.execMxinv k iss d a b fn mod s
  | .mxscl k iss d a b fn mod => Sys2Proof.Machine.execMxscl k iss d a b fn mod s
  | .mxack k iss d a b fn mod => Sys2Proof.Machine.execMxack k iss d a b fn mod s
  | .mxcCommit k bad => Sys2Proof.Machine.execMxcCommit k bad s
  | .interruptEntry k => Sys2Proof.Machine.execInterruptEntry k s
  | .wdog k => Sys2Proof.Machine.execWdog k s
  | .jobEnq port bytes serves => Sys2Proof.Machine.execJobEnq port bytes serves s
  | .skipEnq port bytes => Sys2Proof.Machine.execSkipEnq port bytes s
  | .event port bytes => Sys2Proof.Machine.execEvent port bytes s
  | .timerSet port bytes => Sys2Proof.Machine.execTimerSet port bytes s
  | .timerCancel port bytes => Sys2Proof.Machine.execTimerCancel port bytes s
  | .qPut port bytes => Sys2Proof.Machine.execQPut port bytes s
  | .qGet port bytes => Sys2Proof.Machine.execQGet port bytes s
  | .create port bytes => Sys2Proof.Machine.execCreate port bytes s
  | .destroy port bytes => Sys2Proof.Machine.execDestroy port bytes s
  | .query port bytes => Sys2Proof.Machine.execQuery port bytes s
  | .unitCfg port bytes => Sys2Proof.Machine.execUnitCfg port bytes s
  | .tickEdge => Sys2Proof.Machine.execTickEdge s
  | .timerFire => Sys2Proof.Machine.execTimerFire s
  | .dispatch pool cluster => Sys2Proof.Machine.execDispatch pool cluster s
  | .wakePost c u => Sys2Proof.Machine.execWakePost c u s
  | .ptoExpiry k => Sys2Proof.Machine.execPtoExpiry k s
  | .jobCompletion pool u => Sys2Proof.Machine.execJobCompletion pool u s
  | .stuckHeadSkip id => Sys2Proof.Machine.execStuckHeadSkip id s
  | .timerRefillSweep => Sys2Proof.Machine.execTimerRefillSweep s
  | .segmentRefill place => Sys2Proof.Machine.execSegmentRefill place s
  | .recordEccError what => Sys2Proof.Machine.execRecordEccError what s
  | .unitFault c u cause => Sys2Proof.Machine.execUnitFault c u cause s
  | .drained c u => Sys2Proof.Machine.execDrained c u s
  | .fft u => Sys2Proof.Machine.execFft u s
  | .ifft u => Sys2Proof.Machine.execIfft u s
  | .dftsRx u => Sys2Proof.Machine.execDftsRx u s
  | .ofdmRx u => Sys2Proof.Machine.execOfdmRx u s
  | .ofdmTx u => Sys2Proof.Machine.execOfdmTx u s
  | .prach u => Sys2Proof.Machine.execPrach u s
  | .srs u => Sys2Proof.Machine.execSrs u s
  | .chan u => Sys2Proof.Machine.execChan u s
  | .synth u => Sys2Proof.Machine.execSynth u s
  | .est u => Sys2Proof.Machine.execEst u s
  | .apply u tapErrors => Sys2Proof.Machine.execApply u tapErrors s
  | .demap u => Sys2Proof.Machine.execDemap u s
  | .equaliserPreempt u => Sys2Proof.Machine.execEqualiserPreempt u s
  | .ldpcDecode u run => Sys2Proof.Machine.execLdpcDecode u run s
  | .tallyAgeClose n => Sys2Proof.Machine.execTallyAgeClose n s
  | .ldpcEncode u consistent => Sys2Proof.Machine.execLdpcEncode u consistent s
  | .decUci u consistent => Sys2Proof.Machine.execDecUci u consistent s
  | .decRm u consistent => Sys2Proof.Machine.execDecRm u consistent s
  | .decSmall u consistent => Sys2Proof.Machine.execDecSmall u consistent s
  | .encDci u consistent => Sys2Proof.Machine.execEncDci u consistent s
  | .encBch u consistent => Sys2Proof.Machine.execEncBch u consistent s
  | .viterbi u consistent => Sys2Proof.Machine.execViterbi u consistent s
  | .turbo u run => Sys2Proof.Machine.execTurbo u run s
  | .mlseGmsk u consistent => Sys2Proof.Machine.execMlseGmsk u consistent s
  | .mlse8psk u consistent => Sys2Proof.Machine.execMlse8psk u consistent s
  | .build u => Sys2Proof.Machine.execBuild u s
  | .encode u => Sys2Proof.Machine.execEncode u s
  | .burst u => Sys2Proof.Machine.execBurst u s
  | .edge u => Sys2Proof.Machine.execEdge u s
  | .gate u => Sys2Proof.Machine.execGate u s
  | .doorbell e n ni addr => Sys2Proof.Machine.execDoorbell e n ni addr s
  | .abort e n ni value => Sys2Proof.Machine.execAbort e n ni value s
  | .resume e n ni value => Sys2Proof.Machine.execResume e n ni value s
  | .retry e n ni value => Sys2Proof.Machine.execRetry e n ni value s
  | .shadowWrite e n ni off bytes => Sys2Proof.Machine.execShadowWrite e n ni off bytes s
  | .arm e n ni => Sys2Proof.Machine.execArm e n ni s
  | .dmaBeatResponse e n mishap ecc bufBad => Sys2Proof.Machine.execDmaBeatResponse e n mishap ecc bufBad s
  | .dmaBlockComplete e n => Sys2Proof.Machine.execDmaBlockComplete e n s
  | .rd src addr len dl mishap ecc => Sys2Proof.Machine.execRd src addr len dl mishap ecc s
  | .wr src addr data dl mishap ecc => Sys2Proof.Machine.execWr src addr data dl mishap ecc s
  | .msgPacket src dst data dl mishap => Sys2Proof.Machine.execMsgPacket src dst data dl mishap s
  | .maintRd src ni reg mishap => Sys2Proof.Machine.execMaintRd src ni reg mishap s
  | .maintWr src ni reg value mishap => Sys2Proof.Machine.execMaintWr src ni reg value mishap s
  | .mark vc1 => Sys2Proof.Machine.execMark vc1 s
  | .rdRsp dst tag mishap => Sys2Proof.Machine.execRdRsp dst tag mishap s
  | .wrRsp dst tag mishap => Sys2Proof.Machine.execWrRsp dst tag mishap s
  | .msgRsp dst tag mishap => Sys2Proof.Machine.execMsgRsp dst tag mishap s
  | .maintRdRsp dst tag mishap => Sys2Proof.Machine.execMaintRdRsp dst tag mishap s
  | .maintWrRsp dst tag mishap => Sys2Proof.Machine.execMaintWrRsp dst tag mishap s
  | .transactionTimeout src tag => Sys2Proof.Machine.execTransactionTimeout src tag s
  | .flitCrcError link f => Sys2Proof.Machine.execFlitCrcError link f s
  | .roadworksStart ring junction changes adds removes => Sys2Proof.Machine.execRoadworksStart ring junction changes adds removes s
  | .roadworksCommit => Sys2Proof.Machine.execRoadworksCommit s
  | .roadworksTimeout => Sys2Proof.Machine.execRoadworksTimeout s
  | .closingTimeout ni => Sys2Proof.Machine.execClosingTimeout ni s
  | .scrub addr ecc => Sys2Proof.Machine.execScrub addr ecc s
  | .ecnerFrameReceive l f => Sys2Proof.Machine.execEcnerFrameReceive l f s
  | .ecnerFrameTransmit l => Sys2Proof.Machine.execEcnerFrameTransmit l s
  | .containerDue cell start sym => Sys2Proof.Machine.execContainerDue cell start sym s
  | .losEntry w => Sys2Proof.Machine.execLosEntry w s
  | .losExit w => Sys2Proof.Machine.execLosExit w s
  | .defectWindowEnd l => Sys2Proof.Machine.execDefectWindowEnd l s
  | .drInconsistent l => Sys2Proof.Machine.execDrInconsistent l s
  | .holdoffExpiry l => Sys2Proof.Machine.execHoldoffExpiry l s
  | .wtrExpiry g => Sys2Proof.Machine.execWtrExpiry g s
  | .ecpriIqData l m => Sys2Proof.Machine.execEcpriIqData l m s
  | .ecpriRealTimeControl l m => Sys2Proof.Machine.execEcpriRealTimeControl l m s
  | .ecpriDelayMeasurement w => Sys2Proof.Machine.execEcpriDelayMeasurement w s
  | .ecpriStateSend l => Sys2Proof.Machine.execEcpriStateSend l s
  | .ethFrameReceive p f => Sys2Proof.Machine.execEthFrameReceive p f s
  | .ptpMessage p m => Sys2Proof.Machine.execPtpMessage p m s
  | .managementFrame p f => Sys2Proof.Machine.execManagementFrame p f s
  | .ethFrameTransmit p => Sys2Proof.Machine.execEthFrameTransmit p s
  | .ringNotify p tx => Sys2Proof.Machine.execRingNotify p tx s
  | .announceTimeout p => Sys2Proof.Machine.execAnnounceTimeout p s
  | .perstN => Sys2Proof.Machine.execPerstN s
  | .linkDown => Sys2Proof.Machine.execLinkDown s
  | .hotReset => Sys2Proof.Machine.execHotReset s
  | .functionLevelReset => Sys2Proof.Machine.execFunctionLevelReset s
  | .d3hot => Sys2Proof.Machine.execD3hot s
  | .busMasteringDisable => Sys2Proof.Machine.execBusMasteringDisable s
  | .hostLoss => Sys2Proof.Machine.execHostLoss s
  | .heartbeat => Sys2Proof.Machine.execHeartbeat s
  | .bar2Access write off n bytes ecc => Sys2Proof.Machine.execBar2Access write off n bytes ecc s
  | .getIdentity h p => Sys2Proof.Machine.execGetIdentity h p s
  | .getCapabilities h p => Sys2Proof.Machine.execGetCapabilities h p s
  | .getResult h p => Sys2Proof.Machine.execGetResult h p s
  | .cellAdd h p => Sys2Proof.Machine.execCellAdd h p s
  | .cellRemove h p => Sys2Proof.Machine.execCellRemove h p s
  | .cellModify h p => Sys2Proof.Machine.execCellModify h p s
  | .streamSet h p => Sys2Proof.Machine.execStreamSet h p s
  | .rampSet h p => Sys2Proof.Machine.execRampSet h p s
  | .harqSet h p => Sys2Proof.Machine.execHarqSet h p s
  | .harqClear h p => Sys2Proof.Machine.execHarqClear h p s
  | .slotSubmit h p => Sys2Proof.Machine.execSlotSubmit h p s
  | .imageLoad h p => Sys2Proof.Machine.execImageLoad h p s
  | .imageBind h p => Sys2Proof.Machine.execImageBind h p s
  | .imageDrop h p => Sys2Proof.Machine.execImageDrop h p s
  | .recoveryLoad h p => Sys2Proof.Machine.execRecoveryLoad h p s
  | .laneSet h p => Sys2Proof.Machine.execLaneSet h p s
  | .groupSet h p => Sys2Proof.Machine.execGroupSet h p s
  | .detourCmd h p => Sys2Proof.Machine.execDetourCmd h p s
  | .portSet h p => Sys2Proof.Machine.execPortSet h p s
  | .gccWrite h p => Sys2Proof.Machine.execGccWrite h p s
  | .gccRead h p => Sys2Proof.Machine.execGccRead h p s
  | .slackSet h p => Sys2Proof.Machine.execSlackSet h p s
  | .timeSourceSet h p => Sys2Proof.Machine.execTimeSourceSet h p s
  | .ppsSecond h p => Sys2Proof.Machine.execPpsSecond h p s
  | .tickSet h p => Sys2Proof.Machine.execTickSet h p s
  | .domainRequest h p => Sys2Proof.Machine.execDomainRequest h p s
  | .releasePads h p => Sys2Proof.Machine.execReleasePads h p s
  | .thermalSet h p => Sys2Proof.Machine.execThermalSet h p s
  | .hostlossSet h p => Sys2Proof.Machine.execHostlossSet h p s
  | .timeStep h p => Sys2Proof.Machine.execTimeStep h p s
  | .healthLogRead h p => Sys2Proof.Machine.execHealthLogRead h p s
  | .selftestRun h p => Sys2Proof.Machine.execSelftestRun h p s
  | .unitRemove h p => Sys2Proof.Machine.execUnitRemove h p s
  | .replaceAck h p => Sys2Proof.Machine.execReplaceAck h p s
  | .pmTimeSet h p => Sys2Proof.Machine.execPmTimeSet h p s
  | .pmThresholdSet h p => Sys2Proof.Machine.execPmThresholdSet h p s
  | .pmClear h p => Sys2Proof.Machine.execPmClear h p s
  | .epochGet h p => Sys2Proof.Machine.execEpochGet h p s
  | .epochGranSet h p => Sys2Proof.Machine.execEpochGranSet h p s
  | .commit h p => Sys2Proof.Machine.execCommit h p s
  | .discard h p => Sys2Proof.Machine.execDiscard h p s
  | .stageList h p => Sys2Proof.Machine.execStageList h p s
  | .snapshotRead h p => Sys2Proof.Machine.execSnapshotRead h p s
  | .modeRequest h p => Sys2Proof.Machine.execModeRequest h p s
  | .attest h p => Sys2Proof.Machine.execAttest h p s
  | .getDeviceKeys h p => Sys2Proof.Machine.execGetDeviceKeys h p s
  | .keyEnroll h p => Sys2Proof.Machine.execKeyEnroll h p s
  | .rollbackAdvance h p => Sys2Proof.Machine.execRollbackAdvance h p s
  | .debugUnlock h p => Sys2Proof.Machine.execDebugUnlock h p s
  | .tallyAgeSet h p => Sys2Proof.Machine.execTallyAgeSet h p s
  | .ptoSet h p => Sys2Proof.Machine.execPtoSet h p s
  | .leakySet h p => Sys2Proof.Machine.execLeakySet h p s
  | .regRead h p => Sys2Proof.Machine.execRegRead h p s
  | .regWrite h p => Sys2Proof.Machine.execRegWrite h p s
  | .loopback h p => Sys2Proof.Machine.execLoopback h p s
  | .trace h p => Sys2Proof.Machine.execTrace h p s
  | .stageTimeout => Sys2Proof.Machine.execStageTimeout s
  | .epochBoundary => Sys2Proof.Machine.execEpochBoundary s
  | .slackWindowEdge => Sys2Proof.Machine.execSlackWindowEdge s
  | .classAMiss => Sys2Proof.Machine.execClassAMiss s
  | .pmbusComplete reg cmd ack value => Sys2Proof.Machine.execPmbusComplete reg cmd ack value s
  | .pmbusRetry => Sys2Proof.Machine.execPmbusRetry s
  | .pmbusAlert reg word => Sys2Proof.Machine.execPmbusAlert reg word s
  | .slotSymbolEvent cell down start sym => Sys2Proof.Machine.execSlotSymbolEvent cell down start sym s
  | .gsmTimeslotEvent => Sys2Proof.Machine.execGsmTimeslotEvent s
  | .ppsEdge at_ => Sys2Proof.Machine.execPpsEdge at_ s
  | .ppsLoss => Sys2Proof.Machine.execPpsLoss s
  | .sourceDisagreement => Sys2Proof.Machine.execSourceDisagreement s
  | .pmSecond => Sys2Proof.Machine.execPmSecond s
  | .powerOn => Sys2Proof.Machine.execPowerOn s
  | .resetNAssert => Sys2Proof.Machine.execResetNAssert s
  | .resetNRelease => Sys2Proof.Machine.execResetNRelease s
  | .railOutOfRange rail above => Sys2Proof.Machine.execRailOutOfRange rail above s
  | .startStepTimeout => Sys2Proof.Machine.execStartStepTimeout s
  | .bootGo v => Sys2Proof.Machine.execBootGo v s
  | .hostwaitExpiry => Sys2Proof.Machine.execHostwaitExpiry s
  | .warmStart => Sys2Proof.Machine.execWarmStart s
  | .unitStopped code => Sys2Proof.Machine.execUnitStopped code s
  | .rampSlotGrant => Sys2Proof.Machine.execRampSlotGrant s
  | .powerGood code => Sys2Proof.Machine.execPowerGood code s
  | .wakeAttemptTimeout code => Sys2Proof.Machine.execWakeAttemptTimeout code s
  | .wakeRetry code => Sys2Proof.Machine.execWakeRetry code s
  | .housekeepingConversion value ok => Sys2Proof.Machine.execHousekeepingConversion value ok s
  | .modelStep m => Sys2Proof.Machine.execModelStep m s
  | .thermalLimitClear => Sys2Proof.Machine.execThermalLimitClear s
  | .bucketLeak => Sys2Proof.Machine.execBucketLeak s
  | .selftestComplete c u rep => Sys2Proof.Machine.execSelftestComplete c u rep s
  | .rollingSelftest => Sys2Proof.Machine.execRollingSelftest s
  | .replaceRequest => Sys2Proof.Machine.execReplaceRequest s
  | .alertCauseW1c v => Sys2Proof.Machine.execAlertCauseW1c v s
  | .alertMaskWrite v => Sys2Proof.Machine.execAlertMaskWrite v s
  | .ringEnable => Sys2Proof.Machine.execRingEnable s
  | .ringDisable => Sys2Proof.Machine.execRingDisable s
  | .cmdTail v => Sys2Proof.Machine.execCmdTail v s
  | .evtHead v => Sys2Proof.Machine.execEvtHead v s
  | .winbase ctl v => Sys2Proof.Machine.execWinbase ctl v s
  | .txen p on => Sys2Proof.Machine.execTxen p on s
  | .rxen p on => Sys2Proof.Machine.execRxen p on s
  | .txTail p v => Sys2Proof.Machine.execTxTail p v s
  | .rxTail p v => Sys2Proof.Machine.execRxTail p v s
  | .registerWrite off n v => Sys2Proof.Machine.execRegisterWrite off n v s
  | .jtagInstruction op => Sys2Proof.Machine.execJtagInstruction op s
  | .startStepComplete r => Sys2Proof.Machine.execStartStepComplete r s
  | .railsInRange => Sys2Proof.Machine.execRailsInRange s
  | .vaonLoss => Sys2Proof.Machine.execVaonLoss s
  | .perstNRelease => Sys2Proof.Machine.execPerstNRelease s
  | .pcieLinkUp => Sys2Proof.Machine.execPcieLinkUp s
  | .busMasteringEnable => Sys2Proof.Machine.execBusMasteringEnable s
  | .d0Entry => Sys2Proof.Machine.execD0Entry s
  | .ethernetLinkUp w => Sys2Proof.Machine.execEthernetLinkUp w s
  | .modeRequestTimeout => Sys2Proof.Machine.execModeRequestTimeout s
  | .heldCommandComplete chan seq o => Sys2Proof.Machine.execHeldCommandComplete chan seq o s
  | .debugChallengeExpiry => Sys2Proof.Machine.execDebugChallengeExpiry s
  | .cutComplete => Sys2Proof.Machine.execCutComplete s
  | .ptpTransmit p m => Sys2Proof.Machine.execPtpTransmit p m s
  | .ecpriMessageTransmit l w => Sys2Proof.Machine.execEcpriMessageTransmit l w s

end Sys2Proof.Machine
end

