-- ==== Sys2Proof/Safety.lean ====
section
/-! DEFINITION. What a safe run is, and the terms the statements use: a device with one part changed, when a bundle of a
core runs. -/

namespace Sys2Proof

/-- A step is safe where it answers a next state. -/
def SafeStep (s : Machine.State) : Prop := ∃ t, Machine.step s = .next t

end Sys2Proof

namespace Sys2Proof.Machine

/-- `s` with core `k` and the memory after a bundle, everything else as before but for the counter of free values. -/
def State.withCore (s : State) (k : Fin 128) (c : Core) (m : Memory) : State :=
  { s with dev := { s.dev with cores := s.dev.cores.set k c, mem := m, free := s.dev.free + 1 } }

/-- Core `k` issues bundles, PC may be fetched, and neither the error check nor a parity check reports anything. -/
def State.issues (s : State) (k : Fin 128) (i : Sys2Proof.Issue) : Prop :=
  s.dev.coreIssues k.val = true ∧ fetchOk s.dev.cores[k] = true ∧ i.ecc = .none ∧ i.parity = false

/-- Core `c` as a bundle `b` issued in `o` leaves it beside its own effects: PC at the next bundle, BTCOUNT with the bundle
times of Table 3.8, and what the next bundle may have to wait for (R61, R74). -/
def Core.passed (env : CoreEnv) (o c : Core) (b : Sys2Proof.Bundle) (i : Sys2Proof.Issue) : Core :=
  { c with pc := o.pc + 16, btcount := o.btcount + BitVec.ofNat 32 (bundleCost env o b i.waits), loading := loadsOf b }

/-- `s` after core `k` issued bundle `b` alone, which left the core as `c` and touched no memory. -/
def State.after (s : State) (k : Fin 128) (i : Sys2Proof.Issue) (b : Sys2Proof.Bundle) (c : Core) : State :=
  s.withCore k (s.dev.cores[k].passed (s.dev.coreEnv k) c b i) s.dev.mem

/-- Core `k` issues bundle `b`, no check of R91 fails, and no word it loads is poisoned. -/
def State.clean (s : State) (k : Fin 128) (i : Sys2Proof.Issue) (b : Sys2Proof.Bundle) : Prop :=
  s.issues k i ∧ bundleTraps (s.dev.coreEnv k) s.dev.cores[k] b (decodeBundle i.next) = []
    ∧ loadError (s.dev.coreEnv k) s.dev.cores[k] s.dev.mem b .none = none

/-! ### Chiop commands of the host -/

/-- The command is the next of the host's rings and new, its header is right, it carries `need` bytes of parameters inline, and
the host holds fewer than 64 commands (R392 to R401). -/
def Dev.takes (d : Dev) (op need : Nat) (h : Sys2Proof.ChiopHdr) : Prop :=
  canRead d h = true ∧ h.chan = 0 ∧ headerError op h = none ∧ isNew (d.chan 0) h.seq = true ∧ hIparam h = false ∧ hIreply h = false
    ∧ need ≤ h.plen.toNat ∧ (d.chan 0).held.length < 64

/-- The device once a command of the host is taken from its slot: its sequence is the highest accepted (R398). -/
def Dev.taken (d : Dev) (h : Sys2Proof.ChiopHdr) : Dev := (takeCmd d h).updChan 0 (fun c => { c with h := some h.seq, opened := true })

/-- The command taken in `d` is answered in `t`: its reply is retained and stands in its slot of the reply ring (R393, R398). -/
def Dev.answered (d t : Dev) (op : Nat) (h : Sys2Proof.ChiopHdr) (p : List Byte) (r : Reply) : Prop :=
  (t.chan 0).store = (⟨h.seq, contentCrc op h p, some r⟩ :: (d.chan 0).store).take 4096 ∧ (t.chan 0).h = some h.seq
    ∧ (t.chan 0).held = (d.chan 0).held ∧ t.host.cmdHead = d.host.cmdHead + 1
    ∧ t.mem = d.mem.ifWrite (hostAddr (d.host.rplBase.toNat + 256 * d.host.cmdHead.toNat)) r.bytes

/-- The command taken in `d` is held in `t`: its result is retained without a reply, and nothing is written (R399, R400). -/
def Dev.holding (d t : Dev) (op : Nat) (h : Sys2Proof.ChiopHdr) (p aux : List Byte) : Prop :=
  (t.chan 0).held = (d.chan 0).held ++ [⟨h.seq, op, d.host.cmdHead.toNat, d.chiop.gen, aux, none⟩]
    ∧ (t.chan 0).store = (⟨h.seq, contentCrc op h p, none⟩ :: (d.chan 0).store).take 4096 ∧ (t.chan 0).h = some h.seq
    ∧ t.host.cmdHead = d.host.cmdHead + 1 ∧ t.mem = d.mem

end Sys2Proof.Machine
end

