-- ==== Sys2Proof/WellFormed.lean ====
section
/-! DEFINITION. Which commands are well-formed: the ranges of operands that their types leave wider than the spec does. -/

namespace Sys2Proof.Machine

/-- A command entry: as many parameter bytes as its header says (R394, R395), read within one tick (R46) of the last command
that moved air time. -/
def wfChiop (h : Sys2Proof.ChiopHdr) (p : List Byte) : Bool := decide (p.length = paramCount h ∧ h.sinceTick ≤ 31458)

/-- A unit slot of Table 0.5. -/
def wfUnit (c u : Nat) : Bool := decide (1 ≤ c ∧ c ≤ 16 ∧ u < classSlots c)

/-- A link of Ringroad (R249). -/
def wfLink (l : Sys2Proof.LinkId) : Bool := decide (l.ring ≤ 8 ∧ l.junction < (if l.ring = 8 then 32 else 24) ∧ l.pair < 4)

/-- A pool of Table 9.6, for a spilled ready list. -/
def wfPlace (x : Sys2Proof.SpillPlace) : Bool :=
  match x with
  | .queue _ => true
  | .ready pool cluster => decide (1 ≤ pool ∧ (pool ≤ 9 ∨ pool = 16) ∧ cluster < 8)

/-- Whether a command is well-formed. -/
def wf (i : Sys2Proof.Instr) : Bool :=
  match i with
  | .nop _ _ _ | .add _ _ _ _ _ | .sub _ _ _ _ _ | .and _ _ _ _ _ | .or _ _ _ _ _ | .xor _ _ _ _ _ | .shl _ _ _ _ _
  | .shr _ _ _ _ _ | .sar _ _ _ _ _ | .mul _ _ _ _ _ | .mulh _ _ _ _ _ | .adds _ _ _ _ _ | .subs _ _ _ _ _
  | .min _ _ _ _ _ | .max _ _ _ _ _ | .slt _ _ _ _ _ | .sltu _ _ _ _ _ | .addi _ _ _ _ _ | .andi _ _ _ _ _
  | .ori _ _ _ _ _ | .lui _ _ _ _ _ | .amod _ _ _ _ _ | .movta _ _ _ _ | .movfa _ _ _ _ | .br _ _ _ _ _ | .jmp _ _ _
  | .call _ _ _ | .jr _ _ _ | .bmxb _ _ _ _ | .rep _ _ _ _ _ | .csrr _ _ _ _ | .csrw _ _ _ _ | .csrs _ _ _ _
  | .csrc _ _ _ _ | .trap _ _ _ | .rett _ _ | .brk _ _ | .wait _ _ | .done _ _ _ | .ldw _ _ _ _ _ _ _
  | .stw _ _ _ _ _ _ _ | .ldv _ _ _ _ _ _ _ | .stv _ _ _ _ _ _ _ | .ldvb _ _ _ _ _ _ _ | .asv _ _ _ _ _ _ _
  | .ald _ _ _ _ _ _ _ | .vadd _ _ _ _ _ _ _ | .vsub _ _ _ _ _ _ _ | .vneg _ _ _ _ _ _ _ | .vconj _ _ _ _ _ _ _
  | .vand _ _ _ _ _ _ _ | .vor _ _ _ _ _ _ _ | .vxor _ _ _ _ _ _ _ | .vsar _ _ _ _ _ _ _ | .vmulj _ _ _ _ _ _ _
  | .vmul _ _ _ _ _ _ _ _ | .vmac _ _ _ _ _ _ _ _ | .vmsu _ _ _ _ _ _ _ _ | .vmova _ _ _ _ _ _ _ _ | .vmovv _ _ _ _ _
  | .vbexp _ _ _ _ _ | .vrot _ _ _ _ _ _ _ | .vbfly _ _ _ _ _ _ _ | .vrev _ _ _ _ _ _ _ | .vbcast _ _ _ _ _ _ _
  | .vins _ _ _ _ _ _ | .vext _ _ _ _ _ _ | .mxld _ _ _ _ _ _ _ | .mxst _ _ _ _ _ _ _ | .mxgeteExp _ _ _ _ _ _ _
  | .mxgeteSeq _ _ _ _ _ _ _ | .mxid _ _ _ _ _ _ _ | .mxadd _ _ _ _ _ _ _ | .mxmul _ _ _ _ _ _ _
  | .mxgram _ _ _ _ _ _ _ | .mxinv _ _ _ _ _ _ _ | .mxscl _ _ _ _ _ _ _ | .mxack _ _ _ _ _ _ _ | .mxcCommit _ _
  | .interruptEntry _ | .wdog _ => true
  | .jobEnq _ bytes _ | .skipEnq _ bytes | .event _ bytes | .timerSet _ bytes | .timerCancel _ bytes | .qPut _ bytes
  | .qGet _ bytes | .create _ bytes | .destroy _ bytes | .query _ bytes | .unitCfg _ bytes =>
    decide (bytes.length = 32)
  | .tickEdge | .timerFire => true
  | .dispatch pool cluster => decide (1 ≤ pool ∧ pool ≤ 9 ∧ cluster < 8)
  | .wakePost c u => wfUnit c u
  | .ptoExpiry _ => true
  | .jobCompletion pool u => decide (1 ≤ pool ∧ pool ≤ 9) && wfUnit pool u
  | .stuckHeadSkip _ | .timerRefillSweep => true
  | .segmentRefill place => wfPlace place
  | .recordEccError _ => true
  | .unitFault c u _ | .drained c u => wfUnit c u
  | .fft _ | .ifft _ | .dftsRx _ | .ofdmRx _ | .ofdmTx _ | .prach _ | .srs _ | .chan _ | .synth _ | .est _ | .apply _ _
  | .demap _ | .equaliserPreempt _ | .ldpcDecode _ _ | .tallyAgeClose _ | .ldpcEncode _ _ | .decUci _ _ | .decRm _ _
  | .decSmall _ _ | .encDci _ _ | .encBch _ _ | .viterbi _ _ | .turbo _ _ | .mlseGmsk _ _ | .mlse8psk _ _ | .build _
  | .encode _ | .burst _ | .edge _ | .gate _ | .doorbell _ _ _ _ | .abort _ _ _ _ | .resume _ _ _ _ | .retry _ _ _ _ =>
    true
  | .shadowWrite _ _ _ off bytes => decide (off.val + bytes.length ≤ 64)
  | .arm _ _ _ | .dmaBeatResponse _ _ _ _ _ | .dmaBlockComplete _ _ | .rd _ _ _ _ _ _ | .wr _ _ _ _ _ _ => true
  | .msgPacket _ _ data _ _ => decide (data.length = 32)
  | .maintRd _ _ _ _ | .maintWr _ _ _ _ _ | .mark _ | .rdRsp _ _ _ | .wrRsp _ _ _ | .msgRsp _ _ _ | .maintRdRsp _ _ _
  | .maintWrRsp _ _ _ | .transactionTimeout _ _ => true
  | .flitCrcError link _ => wfLink link
  | .roadworksStart _ _ changes adds removes =>
    changes.all (fun c => decide (c.1 < 256) && c.2.all (fun e => decide (e.1 < 256))) && adds.all wfLink && removes.all wfLink
  | .roadworksCommit | .roadworksTimeout | .closingTimeout _ | .scrub _ _ | .ecnerFrameReceive _ _
  | .ecnerFrameTransmit _ => true
  | .containerDue cell _ sym => decide (cell < 1024 ∧ sym < 14)
  | .losEntry _ | .losExit _ | .defectWindowEnd _ | .drInconsistent _ | .holdoffExpiry _ | .wtrExpiry _
  | .ecpriIqData _ _ | .ecpriRealTimeControl _ _ | .ecpriDelayMeasurement _ | .ecpriStateSend _ | .ethFrameReceive _ _
  | .ptpMessage _ _ | .managementFrame _ _ | .ethFrameTransmit _ | .ringNotify _ _ | .announceTimeout _ | .perstN
  | .linkDown | .hotReset | .functionLevelReset | .d3hot | .busMasteringDisable | .hostLoss | .heartbeat => true
  | .bar2Access _ off n bytes _ =>
    decide (off.toNat + (if bytes.isEmpty then n.toNat else bytes.length) ≤ 0x4000000)
  | .getIdentity h p | .getCapabilities h p | .getResult h p | .cellAdd h p | .cellRemove h p | .cellModify h p
  | .streamSet h p | .rampSet h p | .harqSet h p | .harqClear h p | .slotSubmit h p | .imageLoad h p | .imageBind h p
  | .imageDrop h p | .recoveryLoad h p | .laneSet h p | .groupSet h p | .detourCmd h p | .portSet h p | .gccWrite h p
  | .gccRead h p | .slackSet h p | .timeSourceSet h p | .ppsSecond h p | .tickSet h p | .domainRequest h p
  | .releasePads h p | .thermalSet h p | .hostlossSet h p | .timeStep h p | .healthLogRead h p | .selftestRun h p
  | .unitRemove h p | .replaceAck h p | .pmTimeSet h p | .pmThresholdSet h p | .pmClear h p | .epochGet h p
  | .epochGranSet h p | .commit h p | .discard h p | .stageList h p | .snapshotRead h p | .modeRequest h p
  | .attest h p | .getDeviceKeys h p | .keyEnroll h p | .rollbackAdvance h p | .debugUnlock h p | .tallyAgeSet h p
  | .ptoSet h p | .leakySet h p | .regRead h p | .regWrite h p | .loopback h p | .trace h p => wfChiop h p
  | .stageTimeout | .epochBoundary | .slackWindowEdge | .classAMiss => true
  | .pmbusComplete reg _ _ _ => decide (0x40 ≤ reg.toNat ∧ reg.toNat ≤ 0x48)
  | .pmbusRetry => true
  | .pmbusAlert reg _ => decide (0x40 ≤ reg.toNat ∧ reg.toNat ≤ 0x48)
  | .slotSymbolEvent cell _ _ _ => decide (cell < 1024)
  | .gsmTimeslotEvent => true
  | .ppsEdge at_ => decide (at_ < airWrap)
  | .ppsLoss | .sourceDisagreement | .pmSecond | .powerOn | .resetNAssert | .resetNRelease | .railOutOfRange _ _
  | .startStepTimeout | .bootGo _ | .hostwaitExpiry | .warmStart => true
  | .unitStopped code => allDomains.contains code.toNat
  | .rampSlotGrant => true
  | .powerGood code | .wakeAttemptTimeout code | .wakeRetry code => allDomains.contains code.toNat
  | .housekeepingConversion _ _ | .modelStep _ | .thermalLimitClear | .bucketLeak => true
  | .selftestComplete c u _ => wfUnit c.toNat u.toNat
  | .rollingSelftest | .replaceRequest | .alertCauseW1c _ | .alertMaskWrite _ | .ringEnable | .ringDisable | .cmdTail _
  | .evtHead _ | .winbase _ _ | .txen _ _ | .rxen _ _ | .txTail _ _ | .rxTail _ _ | .registerWrite _ _ _
  | .jtagInstruction _ => true
  | .startStepComplete r =>
    r.bad.all (fun u => wfUnit u.1 u.2) && r.unwoken.all (fun c => allDomains.contains c)
      && decide (r.image.length ≤ 5488 + 0x2000000)
  | .railsInRange | .vaonLoss | .perstNRelease | .pcieLinkUp | .busMasteringEnable | .d0Entry | .ethernetLinkUp _
  | .modeRequestTimeout | .heldCommandComplete _ _ _ | .debugChallengeExpiry | .cutComplete | .ptpTransmit _ _
  | .ecpriMessageTransmit _ _ => true

end Sys2Proof.Machine
end

