-- ==== Sys2Proof/Certificates/Slice0/Obligations.lean ====
section
/-! DEFINITION. The statements: what a command does, what the machine keeps. -/

open Sys2Proof Sys2Proof.Machine

/-- On a core that issues, each of the sixteen SR-format instructions, alone in its bundle, answers the next state in
which S[SD] holds its value of S[SA] and S[SB] (shift counts S[SB][4:0]; MULH the high 32 bits of the signed product;
ADDS and SUBS saturate; SLT signed, SLTU unsigned), PC is 16 further, BTCOUNT counts the bundle and a wait for a
register still being loaded, and nothing else of the device changes. (03_signal_cores.md, Tables 3.4, 3.5, 3.8
(scalar/branch slot); 03_signal_cores.md, Execution) -/
def Obligations.LoneScalarArithmeticWritesItsResult : Prop :=
  ∀ (s : State) (k : Fin 128) (i : Issue) (sd sa sb : BitVec 4), s.issues k i → i.words = {} →
  ∀ row ∈ ([(Instr.add, AluFn.add, fun x y => x + y), (Instr.sub, .sub, fun x y => x - y), (Instr.and, .and, fun x y => x &&& y),
      (Instr.or, .or, fun x y => x ||| y), (Instr.xor, .xor, fun x y => x ^^^ y),
      (Instr.shl, .shl, fun x y => x <<< (y &&& 31)), (Instr.shr, .shr, fun x y => x >>> (y &&& 31)),
      (Instr.sar, .sar, fun x y => x.sshiftRight' (y &&& 31)), (Instr.mul, .mul, fun x y => x * y),
      (Instr.mulh, .mulh, fun x y => (x.signExtend 64 * y.signExtend 64).extractLsb' 32 32),
      (Instr.adds, .adds, fun x y => if x.saddOverflow y then (if x.msb then 0x80000000 else 0x7FFFFFFF) else x + y),
      (Instr.subs, .subs, fun x y => if x.ssubOverflow y then (if x.msb then 0x80000000 else 0x7FFFFFFF) else x - y),
      (Instr.min, .min, fun x y => if x.sle y then x else y), (Instr.max, .max, fun x y => if x.sle y then y else x),
      (Instr.slt, .slt, fun x y => if x.slt y then 1 else 0), (Instr.sltu, .sltu, fun x y => if x.ult y then 1 else 0)] :
        List ((Fin 128 → Issue → BitVec 4 → BitVec 4 → BitVec 4 → Instr) × AluFn × (Word → Word → Word))),
    exec (row.1 k i sd sa sb) s = .next (s.after k i (bundleSb {} (.alu row.2.1 sd sa sb))
      { s.dev.cores[k] with s := s.dev.cores[k].s.set sd.toFin (row.2.2 s.dev.cores[k].s[sa.toFin] s.dev.cores[k].s[sb.toFin]) })

/-- On a core that issues, a bundle of four NOPs (whichever slot is named), ADDI, ANDI, ORI (IMM18 sign-extended) and
LUI (IMM18 << 14), MOVTA to A, M, B or L (L keeps 19 bits) and MOVFA from them answer the next state with that one
register written, PC 16 further and BTCOUNT counted; nothing else of the device changes. On a core that issues, AMOD
alone in its bundle answers the next state in which only A[n] changes: to A[n] + M[m] with CIRC 0 or, on A0 to A3 with
CIRC 1, when L[n] is 0; to B[n] + ((A[n] - B[n] + M[m]) mod L[n]) with CIRC 1 and L[n] not 0, on signed 32-bit operands.
With CIRC 1 on A4 to A7 it takes the trap UNDEF: no address register changes. (03_signal_cores.md, Table 3.5;
03_signal_cores.md, Table 3.3; 03_signal_cores.md, Address generation (the pseudocode of R75)) -/
def Obligations.LoneImmediatesRegisterMovesAndAmod : Prop :=
  (
    ∀ (s : State) (k : Fin 128) (i : Issue) (sd sa : BitVec 4) (imm : BitVec 18), s.issues k i → i.words = {} →
      let c := s.dev.cores[k]
      let go := fun (op : SbOp) (c' : Core) => s.after k i (bundleSb {} op) c'
      (∀ slot : SlotName, exec (.nop k i slot) s = .next (go .nop c))
      ∧ exec (.addi k i sd sa imm) s = .next (go (.imm .addi sd sa imm) { c with s := c.s.set sd.toFin (c.s[sa.toFin] + imm.signExtend 32) })
      ∧ exec (.andi k i sd sa imm) s = .next (go (.imm .andi sd sa imm) { c with s := c.s.set sd.toFin (c.s[sa.toFin] &&& imm.signExtend 32) })
      ∧ exec (.ori k i sd sa imm) s = .next (go (.imm .ori sd sa imm) { c with s := c.s.set sd.toFin (c.s[sa.toFin] ||| imm.signExtend 32) })
      ∧ exec (.lui k i sd sa imm) s = .next (go (.imm .lui sd sa imm) { c with s := c.s.set sd.toFin (imm.setWidth 32 <<< 14) })
      ∧ (∀ n : BitVec 3,
          exec (.movta k i sd (0#3 ++ n)) s = .next (go (.movta sd (0#3 ++ n)) { c with a := c.a.set n.toFin c.s[sd.toFin] })
          ∧ exec (.movta k i sd (1#3 ++ n)) s = .next (go (.movta sd (1#3 ++ n)) { c with m := c.m.set n.toFin c.s[sd.toFin] })
          ∧ exec (.movfa k i sd (0#3 ++ n)) s = .next (go (.movfa sd (0#3 ++ n)) { c with s := c.s.set sd.toFin c.a[n.toFin] })
          ∧ exec (.movfa k i sd (1#3 ++ n)) s = .next (go (.movfa sd (1#3 ++ n)) { c with s := c.s.set sd.toFin c.m[n.toFin] }))
      ∧ (∀ n : BitVec 2,
          exec (.movta k i sd (4#4 ++ n)) s = .next (go (.movta sd (4#4 ++ n)) { c with b := c.b.set n.toFin c.s[sd.toFin] })
          ∧ exec (.movta k i sd (5#4 ++ n)) s = .next (go (.movta sd (5#4 ++ n)) { c with l := c.l.set n.toFin (c.s[sd.toFin].setWidth 19) })
          ∧ exec (.movfa k i sd (4#4 ++ n)) s = .next (go (.movfa sd (4#4 ++ n)) { c with s := c.s.set sd.toFin c.b[n.toFin] })
          ∧ exec (.movfa k i sd (5#4 ++ n)) s = .next (go (.movfa sd (5#4 ++ n)) { c with s := c.s.set sd.toFin (c.l[n.toFin].setWidth 32) })))
  ∧ (
    ∀ (s : State) (k : Fin 128) (i : Issue) (n m : BitVec 3), s.issues k i → i.words = {} →
      let c := s.dev.cores[k]
      let go := fun (circ : Bool) (x : Word) => s.after k i (bundleSb {} (.amod n m circ)) { c with a := c.a.set n.toFin x }
      exec (.amod k i n m false) s = .next (go false (c.a[n.toFin] + c.m[m.toFin]))
      ∧ (∀ q : BitVec 2, n = 0#1 ++ q → c.l[q.toFin] = 0 → exec (.amod k i n m true) s = .next (go true (c.a[n.toFin] + c.m[m.toFin])))
      ∧ (∀ q : BitVec 2, n = 0#1 ++ q → c.l[q.toFin] ≠ 0 → exec (.amod k i n m true) s = .next (go true (c.b[q.toFin]
            + BitVec.ofInt 32 ((c.a[n.toFin].toInt - c.b[q.toFin].toInt + c.m[m.toFin].toInt) % (c.l[q.toFin].toNat : Int)))))
      ∧ (∀ q : BitVec 2, n = 1#1 ++ q → ∃ t, exec (.amod k i n m true) s = .next t ∧ t.dev.cores[k].a = c.a ∧ t.dev.mem = s.dev.mem
            ∧ (if c.level = .task ∧ c.corectl.getLsbD 2 = false
               then t.dev.cores[k].trapS.ecause = 0x02 ∧ t.dev.cores[k].level = .supervisor
               else t.dev.cores[k].trapM.ecause = 0x02 ∧ t.dev.cores[k].level = .monitor)))

/-- On a core that issues, alone in the bundle: BR with COND 0 to 5 (EQZ, NEZ, LTZ, GEZ, GTZ, LEZ) goes to PC + 16 x
OFF18 where S[SA] meets it and else to PC + 16; JMP and CALL go to PC + 16 x OFF18, CALL writing PC + 16 to S15; JR goes
to S[SA] with bits [3:0] clear; BMXB branches with COND 0 when MXS.BUSY is 1 and with COND 1 when it is 0. BTCOUNT
counts 1, one more for a taken branch and one more where S[SA] is still being loaded. Nothing else changes. That PC
counts from the branch's own bundle and that JR clears bits [3:0] are the model's readings, log entries 67 and 68.
(03_signal_cores.md, Tables 3.5, 3.8; 04_matrix_coprocessor.md, R108) -/
def Obligations.BranchesSetTheProgramCounter : Prop :=
  ∀ (s : State) (k : Fin 128) (i : Issue) (sa : BitVec 4) (off : BitVec 18), s.issues k i → i.words = {} →
    let c := s.dev.cores[k]
    let x := c.s[sa.toFin]
    let far := c.pc + off.signExtend 32 * 16
    let go := fun (c' : Core) (taken : Bool) (wait : Bool) (pc : Word) => s.withCore k
      { c' with pc := pc, loading := []
                btcount := c.btcount + BitVec.ofNat 32 (1 + (if taken then 1 else 0) + (if wait then 1 else 0)) } s.dev.mem
    let late := c.loading.contains (.s sa)
    let pick := fun (b wait : Bool) => go c b wait (if b then far else c.pc + 16)
    let busy := s.dev.mxState k.val == .run && !c.mxc.queue.isEmpty
    exec (.br k i sa 0 off) s = .next (pick (x == 0) late) ∧ exec (.br k i sa 1 off) s = .next (pick (x != 0) late)
    ∧ exec (.br k i sa 2 off) s = .next (pick (x.slt 0) late) ∧ exec (.br k i sa 3 off) s = .next (pick (!x.slt 0) late)
    ∧ exec (.br k i sa 4 off) s = .next (pick ((0#32).slt x) late) ∧ exec (.br k i sa 5 off) s = .next (pick (!(0#32).slt x) late)
    ∧ exec (.jmp k i off) s = .next (go c true false far)
    ∧ exec (.call k i off) s = .next (go { c with s := c.s.set 15 (c.pc + 16) } true false far)
    ∧ exec (.jr k i sa) s = .next (go c true late (x &&& 0xFFFFFFF0))
    ∧ exec (.bmxb k i 0 off) s = .next (pick busy false) ∧ exec (.bmxb k i 1 off) s = .next (pick (!busy) false)

/-- On a core that issues, CSRR alone in its bundle answers the next state in which S[ss] holds the control register of
Table 3.9 at its number, for each of its 29 registers and each level whose access is not shown as barred; nothing else
of the device changes but PC and BTCOUNT. (03_signal_cores.md, Table 3.9 (control registers); 03_signal_cores.md, R89;
03_signal_cores.md, R90) -/
def Obligations.ControlRegisterReads : Prop :=
  ∀ (s : State) (k : Fin 128) (i : Issue) (ss : BitVec 4), s.issues k i → i.words = {} →
    let c := s.dev.cores[k]
    let env := s.dev.coreEnv k
    ∀ row ∈ ([(0x000, true, true, readCorestat env c), (0x001, false, true, c.corectl), (0x002, true, true, c.vstat),
        (0x003, true, true, c.govmask), (0x004, true, true, c.bexpacc.setWidth 32), (0x005, true, true, c.repcnt.setWidth 32),
        (0x006, true, true, c.repmax.setWidth 32), (0x010, true, true, c.mxen.setWidth 32), (0x011, true, true, readMxs env c),
        (0x020, false, true, c.trapS.tvb), (0x021, false, true, c.trapS.epc), (0x022, false, true, c.trapS.ecause),
        (0x023, false, true, c.trapS.eval), (0x024, false, true, c.trapS.tstat), (0x030, false, false, c.trapM.tvb),
        (0x031, false, false, c.trapM.epc), (0x032, false, false, c.trapM.ecause), (0x033, false, false, c.trapM.eval),
        (0x034, false, false, c.trapM.tstat), (0x040, false, true, c.ien), (0x041, false, true, c.ipend.setWidth 32),
        (0x050, false, true, c.twbase), (0x051, false, true, c.twlim), (0x052, false, true, c.tpbase), (0x053, false, true, c.tplim),
        (0x060, true, true, c.btcount), (0x061, true, true, s.dev.time.tick.setWidth 32), (0x062, true, true, c.jobs.headD 0),
        (0x070, false, true, c.wdog.setWidth 32)] : List (BitVec 12 × Bool × Bool × Word)),
    (c.level = .task → row.2.1 = true) → (c.level = .supervisor → row.2.2.1 = true) →
    exec (.csrr k i ss row.1) s = .next (s.after k i (bundleSb {} (.csr .read ss row.1)) { c with s := c.s.set ss.toFin row.2.2.2 })

/-- On a core that issues at a level that may access the register, CSRW writes S[ss], CSRS its old value with the bits
of S[ss] set and CSRC with them cleared: CORECTL keeps its three fields (UNDEF_M written by Monitor only), BEXPACC 8
bits, REPMAX 1 to 4,096 with 0 written as 4,096 (read-only at Task), the trap registers, IEN, the windows and WDOG their
fields; a write of WDOG restarts its count. CSRW to VSTAT clears SAT and GOV where the bit written is 1. Writes of read-
only registers change nothing. Nothing else changes but PC and BTCOUNT. REPMAX above 4,096 is stored as 4,096 (the
model's choice, log entry 69). (03_signal_cores.md, Table 3.9 (control registers); 03_signal_cores.md, Table 3.12;
03_signal_cores.md, R90; 03_signal_cores.md, R94) -/
def Obligations.ControlRegisterWrites : Prop :=
  ∀ (s : State) (k : Fin 128) (i : Issue) (ss : BitVec 4), s.issues k i → i.words = {} →
    let c := s.dev.cores[k]
    let x := c.s[ss.toFin]
    let go := fun (fn : CsrFn) (num : BitVec 12) (c' : Core) => s.after k i (bundleSb {} (.csr fn ss num)) c'
    (∀ row ∈ ([(0x001, false, true, c.corectl, fun w => { c with corectl := (w &&& 3) ||| (if c.level = .monitor then w &&& 4 else c.corectl &&& 4) }),
        (0x004, true, true, c.bexpacc.setWidth 32, fun w => { c with bexpacc := w.setWidth 8 }),
        (0x006, false, true, c.repmax.setWidth 32, fun w => { c with repmax := if w.extractLsb' 0 13 = 0 then 0x1000 else if (0x1000#13).ult (w.extractLsb' 0 13) then 0x1000 else w.extractLsb' 0 13 }),
        (0x010, false, false, c.mxen.setWidth 32, fun w => { c with mxen := w.setWidth 3 }),
        (0x020, false, true, c.trapS.tvb, fun w => { c with trapS := { c.trapS with tvb := w &&& 0x0001FFF0 } }),
        (0x021, false, true, c.trapS.epc, fun w => { c with trapS := { c.trapS with epc := w &&& 0xFFFFFFF0 } }),
        (0x022, false, true, c.trapS.ecause, fun w => { c with trapS := { c.trapS with ecause := w &&& 0x800007FF } }),
        (0x023, false, true, c.trapS.eval, fun w => { c with trapS := { c.trapS with eval := w } }),
        (0x024, false, true, c.trapS.tstat, fun w => { c with trapS := { c.trapS with tstat := w &&& 0x0001FFFF } }),
        (0x030, false, false, c.trapM.tvb, fun w => { c with trapM := { c.trapM with tvb := w &&& 0x0001FFF0 } }),
        (0x031, false, false, c.trapM.epc, fun w => { c with trapM := { c.trapM with epc := w &&& 0xFFFFFFF0 } }),
        (0x032, false, false, c.trapM.ecause, fun w => { c with trapM := { c.trapM with ecause := w &&& 0x800007FF } }),
        (0x033, false, false, c.trapM.eval, fun w => { c with trapM := { c.trapM with eval := w } }),
        (0x034, false, false, c.trapM.tstat, fun w => { c with trapM := { c.trapM with tstat := w &&& 0x0001FFFF } }),
        (0x040, false, true, c.ien, fun w => { c with ien := w &&& 0x8000000F }),
        (0x050, false, true, c.twbase, fun w => { c with twbase := w &&& 0xFFFFFFFC }),
        (0x051, false, true, c.twlim, fun w => { c with twlim := w &&& 0xFFFFFFFC }),
        (0x052, false, true, c.tpbase, fun w => { c with tpbase := w &&& 0xFFFFFFF0 }),
        (0x053, false, true, c.tplim, fun w => { c with tplim := w &&& 0xFFFFFFF0 }),
        (0x070, false, true, c.wdog.setWidth 32, fun w => { c with wdog := w.setWidth 16, wdogTicks := 0 })] :
          List (BitVec 12 × Bool × Bool × Word × (Word → Core))),
      (c.level = .task → row.2.1 = true) → (c.level = .supervisor → row.2.2.1 = true) →
      exec (.csrw k i ss row.1) s = .next (go .write row.1 (row.2.2.2.2 x))
      ∧ exec (.csrs k i ss row.1) s = .next (go .set row.1 (row.2.2.2.2 (row.2.2.2.1 ||| x)))
      ∧ exec (.csrc k i ss row.1) s = .next (go .clear row.1 (row.2.2.2.2 (row.2.2.2.1 &&& ~~~x))))
    ∧ exec (.csrw k i ss 0x002) s = .next (go .write 0x002 { c with vstat := c.vstat &&& ~~~(x &&& 3) })
    ∧ (c.level = .supervisor → exec (.csrw k i ss 0x010) s = .next (go .write 0x010 { c with mxen := (c.mxen &&& 4) ||| (x.setWidth 3 &&& 3) }))
    ∧ (∀ num ∈ ([0x000, 0x003, 0x005, 0x011, 0x060, 0x061, 0x062] : List (BitVec 12)),
        exec (.csrw k i ss num) s = .next (go .write num c) ∧ exec (.csrs k i ss num) s = .next (go .set num c) ∧ exec (.csrc k i ss num) s = .next (go .clear num c))
    ∧ (c.level = .task → exec (.csrw k i ss 0x006) s = .next (go .write 0x006 c) ∧ exec (.csrw k i ss 0x010) s = .next (go .write 0x010 c))

/-- On a core that issues at Task level, RETT, WAIT, DONE and any access of a control register barred to Task, alone in
the bundle, take PRIV to Supervisor: EPC_S the bundle, TSTAT_S level Task with GIE, ECAUSE_S code 3 and slot 0, EVAL_S
the slot word, GIE clear, PC at TVB_S + 0x30; no other state changes but BTCOUNT (12 bundle times). At Supervisor a
Monitor register takes PRIV to Monitor. (03_signal_cores.md, R89; 03_signal_cores.md, R91; 03_signal_cores.md, R92) -/
def Obligations.PrivilegedInstructionsTrapAtTaskLevel : Prop :=
  ∀ (s : State) (k : Fin 128) (i : Issue), s.issues k i → i.words = {} →
    let c := s.dev.cores[k]
    let toS := fun (w : Word) => s.withCore k { c with
      trapS := { tvb := c.trapS.tvb, epc := c.pc, ecause := 3, eval := w, tstat := if c.ien.getLsbD 31 then 4 else 0 }
      ien := c.ien &&& 0x7FFFFFFF, level := .supervisor, pc := c.trapS.tvb + 0x30, repact := false, repcnt := 0, loading := [], btcount := c.btcount + 12 } s.dev.mem
    let toM := fun (w : Word) => s.withCore k { c with
      trapM := { tvb := c.trapM.tvb, epc := c.pc, ecause := 3, eval := w, tstat := if c.ien.getLsbD 31 then 5 else 1 }
      ien := c.ien &&& 0x7FFFFFFF, level := .monitor, pc := c.trapM.tvb + 0x30, repact := false, repcnt := 0, loading := [], btcount := c.btcount + 12 } s.dev.mem
    (c.level = .task →
      exec (.rett k i) s = .next (toS 0xA4000000) ∧ exec (.wait k i) s = .next (toS 0xAC000000)
      ∧ (∀ sa : BitVec 4, exec (.done k i sa) s = .next (toS (0xB0000000 ||| sa.setWidth 32 <<< 18)))
      ∧ (∀ ss : BitVec 4, ∀ num ∈ ([0x001, 0x020, 0x021, 0x022, 0x023, 0x024, 0x030, 0x031, 0x032, 0x033, 0x034, 0x040, 0x041,
            0x050, 0x051, 0x052, 0x053, 0x070] : List (BitVec 12)),
          exec (.csrr k i ss num) s = .next (toS (0x20#6 ++ ss ++ num ++ 0#10)) ∧ exec (.csrw k i ss num) s = .next (toS (0x21#6 ++ ss ++ num ++ 0#10))
          ∧ exec (.csrs k i ss num) s = .next (toS (0x22#6 ++ ss ++ num ++ 0#10)) ∧ exec (.csrc k i ss num) s = .next (toS (0x23#6 ++ ss ++ num ++ 0#10))))
    ∧ (c.level = .supervisor → ∀ ss : BitVec 4, ∀ num ∈ ([0x030, 0x031, 0x032, 0x033, 0x034] : List (BitVec 12)),
          exec (.csrr k i ss num) s = .next (toM (0x20#6 ++ ss ++ num ++ 0#10)) ∧ exec (.csrw k i ss num) s = .next (toM (0x21#6 ++ ss ++ num ++ 0#10)))

/-- On a core that issues, TRAP alone in its bundle enters SYSCALL (code 6, EVAL the sign-extended service number) and
BRK with CORECTL.BRK_EN set enters BREAK (code 7, EVAL the slot word): from Task to Supervisor, else to Monitor; EPC
holds the bundle's address, TSTAT the level and GIE before, ECAUSE the code with slot 0, GIE is cleared, PC is TVB + 16
x code. With BRK_EN clear BRK only passes. Nothing else of the device changes. (03_signal_cores.md, R91;
03_signal_cores.md, R92; 03_signal_cores.md, Tables 3.5, 3.12, 3.14) -/
def Obligations.SystemCallAndBreakpoint : Prop :=
  ∀ (s : State) (k : Fin 128) (i : Issue), s.issues k i → i.words = {} →
    let c := s.dev.cores[k]
    let entry := fun (code eval : Word) => s.withCore k (if c.level = .task then
        { c with trapS := { tvb := c.trapS.tvb, epc := c.pc, ecause := code, eval := eval, tstat := if c.ien.getLsbD 31 then 4 else 0 }
                 ien := c.ien &&& 0x7FFFFFFF, level := .supervisor, pc := c.trapS.tvb + code * 16, repact := false, repcnt := 0, loading := [], btcount := c.btcount + 12 }
      else
        { c with trapM := { tvb := c.trapM.tvb, epc := c.pc, ecause := code, eval := eval
                            tstat := (if c.level = .supervisor then 1 else 2) + (if c.ien.getLsbD 31 then 4 else 0) }
                 ien := c.ien &&& 0x7FFFFFFF, level := .monitor, pc := c.trapM.tvb + code * 16, repact := false, repcnt := 0, loading := [], btcount := c.btcount + 12 })
      s.dev.mem
    (∀ service : BitVec 18, exec (.trap k i service) s = .next (entry 6 (service.signExtend 32)))
    ∧ (c.corectl.getLsbD 0 = true → exec (.brk k i) s = .next (entry 7 0xA8000000))
    ∧ (c.corectl.getLsbD 0 = false → exec (.brk k i) s = .next (s.after k i (bundleSb {} .brk) c))

/-- On a core that issues at Supervisor or Monitor, RETT alone in its bundle with TSTAT.PREP clear answers the next
state in which the level is TSTAT.PLEVEL (taken as Task for the code 3, the model's choice, log entry 24), GIE is
TSTAT.PIE and PC is EPC; nothing else changes but BTCOUNT. A TRAP of a Task followed by RETT, where both issue, leaves
every register of the core as it was but the Supervisor trap registers, the repeat count and BTCOUNT, and leaves memory
as it was. (03_signal_cores.md, R92; 03_signal_cores.md, R87) -/
def Obligations.ReturnFromATrapUndoesItsEntry : Prop :=
  (∀ (s : State) (k : Fin 128) (i : Issue), s.issues k i → i.words = {} →
    let c := s.dev.cores[k]
    c.level ≠ .task → ∀ t : TrapRegs, t = (if c.level = .monitor then c.trapM else c.trapS) → t.tstat.getLsbD 3 = false →
    exec (.rett k i) s = .next (s.withCore k
      { c.passed (s.dev.coreEnv k) c (bundleSb {} .rett) i with
               level := if t.tstat.extractLsb' 0 2 = 1 then .supervisor else if t.tstat.extractLsb' 0 2 = 2 then .monitor else .task
               ien := (c.ien &&& 0x7FFFFFFF) ||| (if t.tstat.getLsbD 2 then 0x80000000 else 0)
               pc := t.epc } s.dev.mem))
  ∧ (∀ (s t u : State) (k : Fin 128) (i j : Issue) (n : BitVec 18), s.issues k i → i.words = {} → j.words = {} →
      s.dev.cores[k].level = .task → exec (.trap k i n) s = .next t → t.issues k j → exec (.rett k j) t = .next u →
      u.dev.mem = s.dev.mem ∧ u.dev.cores[k] = { s.dev.cores[k] with
        trapS := t.dev.cores[k].trapS, repact := false, repcnt := 0, btcount := u.dev.cores[k].btcount, loading := [] })

/-- On a core that issues, REP alone in its bundle with a register count of 0, or a count above REPMAX in either form,
before a repeatable bundle, enters REPLIM (code 4, EVAL the slot word): no register but the trap registers changes, and
no memory. REPMAX is 4,096 after reset; every CSRW, CSRS and CSRC of any register keeps it from 1 to 4,096; CSRW of 0 by
Supervisor or Monitor sets 4,096. (03_signal_cores.md, R86) -/
def Obligations.RepeatLimits : Prop :=
  (∀ (s : State) (k : Fin 128) (i : Issue) (fromReg : Bool) (sa : BitVec 4) (count : BitVec 12), s.issues k i → i.words = {} →
    let c := s.dev.cores[k]
    let n := if fromReg then c.s[sa.toFin].toNat else count.toNat + 1
    (n = 0 ∨ c.repmax.toNat < n) → repeatable (decodeBundle i.next) = true →
    ∀ w : Word, w = 0x18#6 ++ BitVec.ofBool fromReg ++ sa ++ 0#9 ++ count →
    exec (.rep k i fromReg sa count) s = .next (s.withCore k (if c.level = .task then
        { c with trapS := { tvb := c.trapS.tvb, epc := c.pc, ecause := 4, eval := w, tstat := if c.ien.getLsbD 31 then 4 else 0 }
                 ien := c.ien &&& 0x7FFFFFFF, level := .supervisor, pc := c.trapS.tvb + 0x40, repact := false, repcnt := 0, loading := [], btcount := c.btcount + 12 }
      else
        { c with trapM := { tvb := c.trapM.tvb, epc := c.pc, ecause := 4, eval := w
                            tstat := (if c.level = .supervisor then 1 else 2) + (if c.ien.getLsbD 31 then 4 else 0) }
                 ien := c.ien &&& 0x7FFFFFFF, level := .monitor, pc := c.trapM.tvb + 0x40, repact := false, repcnt := 0, loading := [], btcount := c.btcount + 12 })
      s.dev.mem))
  ∧ (∀ k : Fin 128, State.reset.dev.cores[k].repmax = 0x1000)
  ∧ (∀ (s t : State) (k : Fin 128) (i : Issue) (ss : BitVec 4) (num : BitVec 12), s.issues k i → i.words = {} →
      (1 ≤ s.dev.cores[k].repmax.toNat ∧ s.dev.cores[k].repmax.toNat ≤ 4096) →
      (exec (.csrw k i ss num) s = .next t ∨ exec (.csrs k i ss num) s = .next t ∨ exec (.csrc k i ss num) s = .next t) →
      1 ≤ t.dev.cores[k].repmax.toNat ∧ t.dev.cores[k].repmax.toNat ≤ 4096)
  ∧ (∀ (s : State) (k : Fin 128) (i : Issue) (ss : BitVec 4), s.issues k i → i.words = {} → s.dev.cores[k].level ≠ .task →
      s.dev.cores[k].s[ss.toFin] = 0 → ∃ t, exec (.csrw k i ss 0x006) s = .next t ∧ t.dev.cores[k].repmax.toNat = 4096)

/-- On a core that issues, REP alone in its bundle with a count n from 1 to REPMAX, immediate or from a register, before
a bundle that holds ADDI alone and whose address may be fetched, answers the next state in which S[SD] has been set to
S[SA] + IMM18 n times in a row, PC is 32 further, REPACT and REPCNT are clear, BTCOUNT counts n + 1 bundles and a wait
of the first for a count still being loaded; nothing else of the device changes. (03_signal_cores.md, R84;
03_signal_cores.md, R85) -/
def Obligations.RepeatRunsTheNextBundle : Prop :=
  ∀ (s : State) (k : Fin 128) (i : Issue) (fromReg : Bool) (ra sd sa : BitVec 4) (count : BitVec 12) (imm : BitVec 18),
    s.issues k i → i.words = {} → i.next = { sb := 0x02#6 ++ sd ++ sa ++ imm } →
    let c := s.dev.cores[k]
    let n := if fromReg then c.s[ra.toFin].toNat else count.toNat + 1
    1 ≤ n → n ≤ c.repmax.toNat → c.repmax.toNat ≤ 4096 → fetchOk { c with pc := c.pc + 16 } = true →
    exec (.rep k i fromReg ra count) s = .next (s.withCore k
      { c with s := c.s.set sd.toFin (if sd = sa then c.s[sa.toFin] + BitVec.ofNat 32 n * imm.signExtend 32 else c.s[sa.toFin] + imm.signExtend 32)
               pc := c.pc + 32, repact := false, repcnt := 0, loading := []
               btcount := c.btcount + BitVec.ofNat 32 (1 + n + (if fromReg && c.loading.contains (.s ra) then 1 else 0)) } s.dev.mem)

/-- On a core that issues at Supervisor or Monitor, alone in the bundle: WAIT answers the next state with the core
waiting; DONE with a job in JOBID pops it from the job stack and reports it with the status S[SA]; DONE with JOBID 0 has
no effect. Nothing else changes but PC and BTCOUNT. A core that waits issues nothing: any bundle leaves the device as it
is. (03_signal_cores.md, R96; 03_signal_cores.md, R97) -/
def Obligations.WaitAndDone : Prop :=
  (∀ (s : State) (k : Fin 128) (i : Issue) (sa : BitVec 4), s.issues k i → i.words = {} → s.dev.cores[k].level ≠ .task →
    let c := s.dev.cores[k]
    let go := fun (op : SbOp) (c' : Core) => s.after k i (bundleSb {} op) c'
    exec (.wait k i) s = .next (go .wait { c with waiting := true })
    ∧ (c.jobs.headD 0 = 0 → exec (.done k i sa) s = .next (go (.done sa) c))
    ∧ (∀ j rest, c.jobs = j :: rest → j ≠ 0 →
        exec (.done k i sa) s = .next (go (.done sa) { c with jobs := rest, doneOut := c.doneOut ++ [(j, c.s[sa.toFin])] })))
  ∧ (∀ (s : State) (k : Fin 128) (i : Issue), (s.dev.core k.val).waiting = true → exec (.wait k i) s = .next s ∧ exec (.rett k i) s = .next s)

/-- On a core that issues, a load alone in its bundle, with legal fields, an address that meets R65, R66, R76 and R77
and no poisoned word, answers the next state in which the S register, every lane of the V register (lane l from element
l), every lane (LDVB) or the accumulator with its GOV flags (12 bytes a lane) holds what memory holds at the element
addresses of R75, An is as MODE says, PC is 16 further and BTCOUNT counts the bundle: 1, 2 where the vector touches two
lines, 3 for ASV and ALD, the bank waits and a wait for a register still being loaded, at most 6. Memory and everything
else stay. For every core, An, Mn, IMM14 and element k: MODE 0 is A[n] + 4 x IMM14 + 4k and leaves An; MODE 1 is A[n] +
4k and adds M[m]; MODE 2 is A[n] + 4k and adds 4 x IMM14; MODE 3 on A0 to A3 is as MODE 1 where L[n] is 0, and else B[n]
+ ((A[n] - B[n] + 4k) mod L[n]) for each element and B[n] + ((A[n] - B[n] + M[m]) mod L[n]) for the update, on signed
32-bit operands. (03_signal_cores.md, R64; 03_signal_cores.md, R72 and Table 3.6; 03_signal_cores.md, R75;
03_signal_cores.md, R95; 03_signal_cores.md, Table 3.8; 03_signal_cores.md, R75 (the pseudocode)) -/
def Obligations.LoadsAndEffectiveAddresses : Prop :=
  (
    ∀ (s : State) (k : Fin 128) (i : Issue) (an mn : BitVec 3) (mode : BitVec 2) (imm : BitVec 14), s.issues k i → i.words = {} →
      (mode = 3 → an.getLsbD 2 = false) →
      let c := s.dev.cores[k]
      let base := k.val * 0x80000
      let at_ := fun (l : Nat) => s.dev.mem.word (base + (lsElem c an mode imm l).toNat)
      let ok := fun (fn : LsFn) => lsBadAddr c fn an mode imm = none
        ∧ ∀ x ∈ lsElems c fn an mode imm, s.dev.mem.poisoned (base + x.toNat) 4 = false
      let go := fun (fn : LsFn) (r : BitVec 5) (c' : Core) =>
        s.after k i (bundleLs {} (.acc fn r an mn mode imm)) { c' with a := c.a.set an.toFin (lsAn c an mn mode imm) }
      (ok .ldw → ∀ r : BitVec 4, exec (.ldw k i (0#1 ++ r) an mn mode imm) s = .next (go .ldw (0#1 ++ r) { c with s := c.s.set r.toFin (at_ 0) }))
      ∧ (ok .ldv → ∀ r : BitVec 5, exec (.ldv k i r an mn mode imm) s
          = .next (go .ldv r { c with v := c.v.set r.toFin (Vector.ofFn (fun l => at_ l.val)) }))
      ∧ (ok .ldvb → ∀ r : BitVec 5, exec (.ldvb k i r an mn mode imm) s = .next (go .ldvb r { c with v := c.v.set r.toFin (Vector.replicate 32 (at_ 0)) }))
      ∧ (mode ≠ 3 → ok .ald → ∀ r : BitVec 3, exec (.ald k i (0#2 ++ r) an mn mode imm) s
          = .next (go .ald (0#2 ++ r) { c with acc := c.acc.set r.toFin (Vector.ofFn (fun l =>
              let p := base + (lsElem c an mode imm 0).toNat + 12 * l.val
              { re := BitVec.ofNat 40 (s.dev.mem.field p 5), im := BitVec.ofNat 40 (s.dev.mem.field (p + 5) 5)
                gov := (s.dev.mem.byte (p + 10)).getLsbD 0 })) })))
  ∧ (∀ (env : CoreEnv) (c : Core) (fn : LsFn) (r : BitVec 5) (an mn : BitVec 3) (mode : BitVec 2) (imm : BitVec 14) (w : BitVec 3),
      let n := bundleCost env c (bundleLs {} (.acc fn r an mn mode imm)) w
      let two := twoLines (lsElems c fn an mode imm)
      n ≤ 6 ∧ (c.loading = [] → w = 0 → n = (if fn = .asv ∨ fn = .ald then 3 else if (fn = .ldv ∨ fn = .stv) ∧ two then 2 else 1)))
  ∧ (
    ∀ (c : Core) (an mn : BitVec 3) (q : BitVec 2) (imm : BitVec 14) (k : Nat), k < 96 →
      lsElem c an 0 imm k = c.a[an.toFin] + imm.signExtend 32 * 4 + BitVec.ofNat 32 (4 * k) ∧ lsAn c an mn 0 imm = c.a[an.toFin]
      ∧ lsElem c an 1 imm k = c.a[an.toFin] + BitVec.ofNat 32 (4 * k) ∧ lsAn c an mn 1 imm = c.a[an.toFin] + c.m[mn.toFin]
      ∧ lsElem c an 2 imm k = c.a[an.toFin] + BitVec.ofNat 32 (4 * k) ∧ lsAn c an mn 2 imm = c.a[an.toFin] + imm.signExtend 32 * 4
      ∧ (an = 0#1 ++ q → c.l[q.toFin] = 0 →
          lsElem c an 3 imm k = c.a[an.toFin] + BitVec.ofNat 32 (4 * k) ∧ lsAn c an mn 3 imm = c.a[an.toFin] + c.m[mn.toFin])
      ∧ (an = 0#1 ++ q → c.l[q.toFin] ≠ 0 →
          lsElem c an 3 imm k = c.b[q.toFin] + BitVec.ofInt 32 ((c.a[an.toFin].toInt - c.b[q.toFin].toInt + 4 * k) % (c.l[q.toFin].toNat : Int))
          ∧ lsAn c an mn 3 imm = c.b[q.toFin] + BitVec.ofInt 32 ((c.a[an.toFin].toInt - c.b[q.toFin].toInt + c.m[mn.toFin].toInt) % (c.l[q.toFin].toNat : Int))))

/-- On a core that issues, in a state whose memory has its canonical form and whose HARQ area lies outside core-local
memory, a store alone in its bundle with legal fields and an address that meets R65, R66, R72, R76 and R77 answers a
next state in which memory holds S[R] (STW), lane l of V[R] at element l (STV) or the accumulator at 12 bytes a lane
with GOV in bit 0 of byte 10 and byte 11 zero (ASV), every byte outside the element words reads as before, the core
differs only in An, PC and BTCOUNT, and the rest of the device stays. (03_signal_cores.md, R72 and Table 3.6;
03_signal_cores.md, R75, R76; 03_signal_cores.md, R95) -/
def Obligations.StoresWriteTheirBytesAndNoOther : Prop :=
  ∀ (s : State) (k : Fin 128) (i : Issue) (an mn : BitVec 3) (mode : BitVec 2) (imm : BitVec 14), s.issues k i → i.words = {} →
    (mode = 3 → an.getLsbD 2 = false) → s.dev.mem.wf = true → (∀ x, x < 0x4000000 → s.dev.mem.inHarq x = false) →
    let c := s.dev.cores[k]
    let base := k.val * 0x80000
    let addr := fun (l : Nat) => base + (lsElem c an mode imm l).toNat
    let done := fun (fn : LsFn) (r : BitVec 5) (n : Nat) (t : State) =>
      t = s.withCore k (c.passed (s.dev.coreEnv k) { c with a := c.a.set an.toFin (lsAn c an mn mode imm) }
            (bundleLs {} (.acc fn r an mn mode imm)) i) t.dev.mem
      ∧ ∀ x : Nat, (∀ l, l < n → x < addr l ∨ addr l + 4 ≤ x) → t.dev.mem.byte x = s.dev.mem.byte x
    (lsBadAddr c .stw an mode imm = none → ∀ r : BitVec 4, ∃ t, exec (.stw k i (0#1 ++ r) an mn mode imm) s = .next t ∧ done .stw (0#1 ++ r) 1 t
        ∧ t.dev.mem.word (addr 0) = c.s[r.toFin])
    ∧ (lsBadAddr c .stv an mode imm = none → ∀ r : BitVec 5, ∃ t, exec (.stv k i r an mn mode imm) s = .next t
        ∧ done .stv r 32 t ∧ ∀ l : Fin 32, t.dev.mem.word (addr l.val) = c.v[r.toFin][l])
    ∧ (mode ≠ 3 → lsBadAddr c .asv an mode imm = none → ∀ r : BitVec 3, ∃ t, exec (.asv k i (0#2 ++ r) an mn mode imm) s = .next t
        ∧ done .asv (0#2 ++ r) 96 t ∧ ∀ l : Fin 32, let p := addr 0 + 12 * l.val
          t.dev.mem.field p 5 = c.acc[r.toFin][l].re.toNat ∧ t.dev.mem.field (p + 5) 5 = c.acc[r.toFin][l].im.toNat
          ∧ t.dev.mem.byte (p + 10) = (if c.acc[r.toFin][l].gov then 1 else 0) ∧ t.dev.mem.byte (p + 11) = 0)

/-- On a core that issues, a VALU instruction alone in its bundle, in VA or VB, answers the next state in which each
lane of V[D] is its operation on the lanes of V[A] and V[B]: the saturating ones limit each part to 16 bits, set
VSTAT.SAT where a part was limited and raise SATINT in IPEND where SATINT_EN is set and SAT was 0; the others change no
flag. VMULJ gives (-im, re) in a lane whose imaginary part is not -32768; in any other the imaginary part is re, and the
real part and whether VSTAT.SAT is set are free (log entry 22). Nothing else changes but PC and BTCOUNT. On a core that
issues, alone in the bundle in VA or VB: VREV gives lane l the lane 31 - l of V[A], VBCAST every lane the lane MOD of
V[A], VROT rotates the lanes of V[A] by S[B] mod 32 in the one direction that the configuration holds (free, log entry
22), VBFLY picks for each lane the lane of V[A] that the configuration's free map names (log entry 22), VINS sets one
lane of V[D] to S[A], VEXT sets S[D] to one lane of V[A]. Nothing else changes but PC and BTCOUNT. (03_signal_cores.md,
R73 and Table 3.7; 03_signal_cores.md, R83; 03_signal_cores.md, Tables 3.12, 3.13; 03_signal_cores.md, Table 3.7) -/
def Obligations.VectorLaneOperationsAndPermutations : Prop :=
  (
    ∀ (s : State) (k : Fin 128) (i : Issue) (slot : VSlot) (d a b mod : BitVec 5), s.issues k i → i.words = {} →
      let c := s.dev.cores[k]
      let x := fun (l : Fin 32) => c.v[a.toFin][l]
      let y := fun (l : Fin 32) => c.v[b.toFin][l]
      let fits := fun (p : Int) => -32768 ≤ p ∧ p ≤ 32767
      let lim := fun (p : Int) => if p < -32768 then (-32768 : Int) else if 32767 < p then 32767 else p
      let go := fun (op : VOp) (c' : Core) => s.after k i (bundleV {} slot op) c'
      (∀ row ∈ ([(Instr.vadd, ValuFn.add, fun l => partRe (x l) + partRe (y l), fun l => partIm (x l) + partIm (y l)),
          (Instr.vsub, .sub, fun l => partRe (x l) - partRe (y l), fun l => partIm (x l) - partIm (y l)),
          (Instr.vneg, .neg, fun l => -partRe (x l), fun l => -partIm (x l)),
          (Instr.vconj, .conj, fun l => partRe (x l), fun l => -partIm (x l))] :
            List ((Fin 128 → Issue → VSlot → BitVec 5 → BitVec 5 → BitVec 5 → BitVec 5 → Instr) × ValuFn × (Fin 32 → Int) × (Fin 32 → Int))),
        let v' : VReg := Vector.ofFn (fun l => mkCplx (lim (row.2.2.1 l)) (lim (row.2.2.2 l)))
        ((∀ l, fits (row.2.2.1 l) ∧ fits (row.2.2.2 l)) → exec (row.1 k i slot d a b mod) s = .next (go (.valu row.2.1 d a b mod) { c with v := c.v.set d.toFin v' }))
        ∧ ((∃ l, ¬ (fits (row.2.2.1 l) ∧ fits (row.2.2.2 l))) → exec (row.1 k i slot d a b mod) s = .next (go (.valu row.2.1 d a b mod) { c with
            v := c.v.set d.toFin v', vstat := c.vstat ||| 1
            ipend := if c.corectl.getLsbD 1 = true ∧ c.vstat.getLsbD 0 = false then c.ipend ||| 8 else c.ipend })))
      ∧ (∀ row ∈ ([(Instr.vand, ValuFn.and, fun l => x l &&& y l), (Instr.vor, .or, fun l => x l ||| y l), (Instr.vxor, .xor, fun l => x l ^^^ y l),
          (Instr.vsar, .sar, fun l => mkCplx (partRe (x l) / 2 ^ (mod.toNat % 16)) (partIm (x l) / 2 ^ (mod.toNat % 16)))] :
            List ((Fin 128 → Issue → VSlot → BitVec 5 → BitVec 5 → BitVec 5 → BitVec 5 → Instr) × ValuFn × (Fin 32 → Word))),
        exec (row.1 k i slot d a b mod) s = .next (go (.valu row.2.1 d a b mod) { c with v := c.v.set d.toFin (Vector.ofFn row.2.2) }))
      ∧ (∃ t, exec (.vmulj k i slot d a b mod) s = .next t
        ∧ t = go (.valu .mulj d a b mod) { c with v := c.v.set d.toFin t.dev.cores[k].v[d.toFin], vstat := t.dev.cores[k].vstat, ipend := t.dev.cores[k].ipend }
        ∧ ((∀ l, partIm (x l) ≠ -32768) → t.dev.cores[k].vstat = c.vstat ∧ t.dev.cores[k].ipend = c.ipend)
        ∧ ∀ l : Fin 32,
          (partIm (x l) ≠ -32768 → t.dev.cores[k].v[d.toFin][l] = mkCplx (-partIm (x l)) (partRe (x l)))
          ∧ (partIm (x l) = -32768 → partIm t.dev.cores[k].v[d.toFin][l] = partRe (x l))))
  ∧ (
    ∀ (s : State) (k : Fin 128) (i : Issue) (slot : VSlot) (d a b mod : BitVec 5) (r : BitVec 4), s.issues k i → i.words = {} →
      let c := s.dev.cores[k]
      let x : VReg := c.v[a.toFin]
      let go := fun (op : VOp) (c' : Core) => s.after k i (bundleV {} slot op) c'
      exec (.vrev k i slot d a b mod) s = .next (go (.perm .rev d a b mod) { c with v := c.v.set d.toFin (Vector.ofFn (fun l => x[l.rev])) })
      ∧ exec (.vbcast k i slot d a b mod) s = .next (go (.perm .bcast d a b mod) { c with v := c.v.set d.toFin (Vector.replicate 32 x[mod.toFin]) })
      ∧ exec (.vbfly k i slot d a b mod) s
          = .next (go (.perm .bfly d a b mod) { c with v := c.v.set d.toFin (Vector.ofFn (fun l => x[Config.vbflyLane (mod.extractLsb' 0 3) l])) })
      ∧ (∃ t, exec (.vrot k i slot d a (0#1 ++ r) mod) s = .next t ∧ (∀ l : Fin 32,
            let n := c.s[r.toFin].toNat % 32
            t.dev.cores[k].v[d.toFin][l] = x.toList.getD (if Config.vrotUp then (l.val + 32 - n) % 32 else (l.val + n) % 32) 0)
          ∧ t = go (.perm .rot d a (0#1 ++ r) mod) { c with v := c.v.set d.toFin t.dev.cores[k].v[d.toFin] })
      ∧ (∀ lane : BitVec 5, exec (.vins k i slot d (0#1 ++ r) lane) s
            = .next (go (.ins d (0#1 ++ r) lane) { c with v := c.v.set d.toFin (c.v[d.toFin].set lane.toFin c.s[r.toFin]) })
          ∧ exec (.vext k i slot (0#1 ++ r) a lane) s = .next (go (.ext (0#1 ++ r) a lane) { c with s := c.s.set r.toFin x[lane.toFin] })))

/-- On a core that issues, VBEXP alone in its bundle, in VA or VB, answers the next state in which S[D] is n with n at
most 15, every part p of V[A] satisfies -2^(15-n) <= p < 2^(15-n) and, where n is below 15, some part does not satisfy
this for n + 1; a vector of zeros gives 15. VSTAT, GOVMASK, BEXPACC, IPEND and everything else of the device stay, but
PC and BTCOUNT. (03_signal_cores.md, R82) -/
def Obligations.BlockExponent : Prop :=
  ∀ (s : State) (k : Fin 128) (i : Issue) (slot : VSlot) (r : BitVec 4) (a : BitVec 5), s.issues k i → i.words = {} →
    let c := s.dev.cores[k]
    let part := fun (l : Fin 32) (im : Bool) => if im then partIm c.v[a.toFin][l] else partRe c.v[a.toFin][l]
    let red := fun (n : Nat) (p : Int) => -(2 ^ (15 - n) : Int) ≤ p ∧ p < (2 ^ (15 - n) : Int)
    ∃ n : Nat, exec (.vbexp k i slot (0#1 ++ r) a) s = .next (s.after k i (bundleV {} slot (.bexp (0#1 ++ r) a))
        { c with s := c.s.set r.toFin (BitVec.ofNat 32 n) })
      ∧ n ≤ 15 ∧ (∀ l im, red n (part l im)) ∧ (n < 15 → ∃ l im, ¬ red (n + 1) (part l im))
      ∧ (c.v[a.toFin] = Vector.replicate 32 0 → n = 15)

/-- On a core that issues, alone in the bundle in VA or VB, with p the exact complex product of the lane of A
(conjugated with MOD[1]) and of B (its lane FN[4:0] in every lane with MOD[2], conjugated with MOD[0]): VMUL sets each
lane to p and clears its GOV; VMAC and VMSU leave a lane with GOV set, and else add or subtract p per component, limited
to 40 bits, setting GOV where a component was limited. No other accumulator, register or flag changes but PC and
BTCOUNT. (03_signal_cores.md, R73 (modifiers); 03_signal_cores.md, R79 (the pseudocode)) -/
def Obligations.MultiplyAccumulate : Prop :=
  ∀ (s : State) (k : Fin 128) (i : Issue) (slot : VSlot) (q : BitVec 3) (a b : BitVec 5) (fn : BitVec 6) (mod : BitVec 5), s.issues k i → i.words = {} →
    let c := s.dev.cores[k]
    let x := fun (l : Fin 32) => c.v[a.toFin][l]
    let y := fun (l : Fin 32) => if mod.getLsbD 2 then c.v[b.toFin][(fn.extractLsb' 0 5).toFin] else c.v[b.toFin][l]
    let xi := fun l => if mod.getLsbD 1 then -partIm (x l) else partIm (x l)
    let yi := fun l => if mod.getLsbD 0 then -partIm (y l) else partIm (y l)
    let pr := fun l => partRe (x l) * partRe (y l) - xi l * yi l
    let pi := fun l => partRe (x l) * yi l + xi l * partRe (y l)
    let old := fun (l : Fin 32) => c.acc[q.toFin][l]
    let top : Int := 0x7FFFFFFFFF
    let fits := fun (v : Int) => -top - 1 ≤ v ∧ v ≤ top
    let lim := fun (v : Int) => if v < -top - 1 then -top - 1 else if top < v then top else v
    let d : BitVec 5 := 0#2 ++ q
    let same := fun (mf : MulFn) (t : State) => t = s.after k i (bundleV {} slot (.mul mf d a b fn mod))
      { c with acc := c.acc.set q.toFin t.dev.cores[k].acc[q.toFin] }
    (∃ t, exec (.vmul k i slot d a b fn mod) s = .next t ∧ same .mul t ∧ ∀ l : Fin 32, let n := t.dev.cores[k].acc[q.toFin][l]
        n.re.toInt = pr l ∧ n.im.toInt = pi l ∧ n.gov = false)
    ∧ (∀ row ∈ ([(Instr.vmac, .mac, 1), (Instr.vmsu, .msu, -1)] :
          List ((Fin 128 → Issue → VSlot → BitVec 5 → BitVec 5 → BitVec 5 → BitVec 6 → BitVec 5 → Instr) × MulFn × Int)),
        ∃ t, exec (row.1 k i slot d a b fn mod) s = .next t ∧ same row.2.1 t ∧ ∀ l : Fin 32, let n := t.dev.cores[k].acc[q.toFin][l]
          let tr := (old l).re.toInt + row.2.2 * pr l
          let ti := (old l).im.toInt + row.2.2 * pi l
          ((old l).gov = true → n = old l)
          ∧ ((old l).gov = false → n.re.toInt = lim tr ∧ n.im.toInt = lim ti ∧ (n.gov = false ↔ fits tr ∧ fits ti)))

/-- On a core that issues, alone in the bundle: VMOVA with FN[4:0] = s from -8 to 9 writes each component of a lane with
GOV set as 0x7FFF or 0x8000 by its sign, and of another lane floor(acc / 2^(15+s)) limited to 16 bits; it copies the GOV
flags to GOVMASK and sets VSTAT.LASTGOV, VSTAT.GOV and VSTAT.SAT as R80 says. With MOD[0] it takes the smallest s from 0
to 9 for which no component of a lane with GOV clear is limited, writes it to S[B] and LASTSHIFT and adds it to BEXPACC
up to 255; SAT stays. VMOVV sets each lane to V[A] x 2^15 with GOV clear. Nothing else changes but PC, BTCOUNT and, with
SATINT_EN, IPEND. (03_signal_cores.md, R79 (VMOVV); 03_signal_cores.md, R80; 03_signal_cores.md, R81) -/
def Obligations.AccumulatorMoves : Prop :=
  ∀ (s : State) (k : Fin 128) (i : Issue) (slot : VSlot) (d b : BitVec 5) (q : BitVec 3) (r : BitVec 4) (fn : BitVec 6) (mod : BitVec 5),
    s.issues k i → i.words = {} →
    let c := s.dev.cores[k]
    let acc := fun (l : Fin 32) => c.acc[q.toFin][l]
    let quot := fun (e : Int) (v : Int) => if 0 ≤ e then v / (2 ^ e.toNat : Int) else v * (2 ^ (-e).toNat : Int)
    let fits := fun (sh : Int) (v : Int) => -32768 ≤ quot (15 + sh) v ∧ quot (15 + sh) v ≤ 32767
    let lim := fun (p : Int) => if p < -32768 then (-32768 : Int) else if 32767 < p then 32767 else p
    let out := fun (sh : Int) (g : Bool) (v : Int) => if g then (if 0 ≤ v then 32767 else -32768) else lim (quot (15 + sh) v)
    let lanes := fun (sh : Int) => (Vector.ofFn (fun l => mkCplx (out sh (acc l).gov (acc l).re.toInt) (out sh (acc l).gov (acc l).im.toInt)) : VReg)
    let clean := fun (sh : Int) => ∀ l, (acc l).gov = false → fits sh (acc l).re.toInt ∧ fits sh (acc l).im.toInt
    let flags := fun (t : State) => (∀ l : Fin 32, t.dev.cores[k].govmask.getLsbD l.val = (acc l).gov)
      ∧ (t.dev.cores[k].vstat.getLsbD 2 = true ↔ ∃ l, (acc l).gov = true)
      ∧ (t.dev.cores[k].vstat.getLsbD 1 = true ↔ c.vstat.getLsbD 1 = true ∨ ∃ l, (acc l).gov = true)
    let frame := fun (b : BitVec 5) (t : State) => t = s.after k i (bundleV {} slot (.mova d (0#2 ++ q) b fn mod)) { c with
      v := t.dev.cores[k].v, s := t.dev.cores[k].s, vstat := t.dev.cores[k].vstat,
      govmask := t.dev.cores[k].govmask, bexpacc := t.dev.cores[k].bexpacc, ipend := t.dev.cores[k].ipend }
    let sh := (fn.extractLsb' 0 5).toInt
    (mod.getLsbD 0 = false → -8 ≤ sh → sh ≤ 9 → ∃ t, exec (.vmova k i slot d (0#2 ++ q) b fn mod) s = .next t ∧ frame b t ∧ flags t
        ∧ t.dev.cores[k].v = c.v.set d.toFin (lanes sh) ∧ t.dev.cores[k].s = c.s ∧ t.dev.cores[k].bexpacc = c.bexpacc
        ∧ (t.dev.cores[k].vstat.getLsbD 0 = true ↔ c.vstat.getLsbD 0 = true ∨ ¬ clean sh)
        ∧ t.dev.cores[k].vstat.extractLsb' 8 4 = c.vstat.extractLsb' 8 4)
    ∧ (mod.getLsbD 0 = true → ∃ t, ∃ n : Nat, exec (.vmova k i slot d (0#2 ++ q) (0#1 ++ r) fn mod) s = .next t ∧ frame (0#1 ++ r) t ∧ flags t
        ∧ n ≤ 9 ∧ clean n ∧ (∀ m, m < n → ¬ clean m) ∧ t.dev.cores[k].v = c.v.set d.toFin (lanes n)
        ∧ t.dev.cores[k].s = c.s.set r.toFin (BitVec.ofNat 32 n) ∧ t.dev.cores[k].vstat.extractLsb' 8 4 = BitVec.ofNat 4 n
        ∧ t.dev.cores[k].vstat.getLsbD 0 = c.vstat.getLsbD 0 ∧ t.dev.cores[k].bexpacc.toNat = min 255 (c.bexpacc.toNat + n))
    ∧ (∀ a : BitVec 5, ∃ t, exec (.vmovv k i slot (0#2 ++ q) a) s = .next t
        ∧ t = s.after k i (bundleV {} slot (.movv (0#2 ++ q) a)) { c with acc := c.acc.set q.toFin t.dev.cores[k].acc[q.toFin] }
        ∧ ∀ l : Fin 32, let n := t.dev.cores[k].acc[q.toFin][l]
          n.re.toInt = partRe c.v[a.toFin][l] * 32768 ∧ n.im.toInt = partIm c.v[a.toFin][l] * 32768 ∧ n.gov = false)

/-- On a core that issues whose MXC is in RUN, enabled at the level, with a free queue entry, each non-delivering MXC
instruction alone in its bundle, with legal fields and sizes from 1 to 8, answers the next state in which the queue ends
with an entry of that instruction: its registers, FN bits, size word S[MOD], parameter word S[B], for MXLD the vector
V[A], and the sequence number; the sequence count is one higher. Nothing else changes but PC and BTCOUNT. On a core that
issues whose MXC is in RUN, enabled at the level and not busy, with legal fields: MXST writes half FN[0] of MX[A] to
V[D] (lane l of half h is element 32h + l, row by row); MXGETE writes E, F and P of MX[A] as an exponent word, or the
sequence number of the next accepted instruction, to S[D]. The queue stays and the sequence count is one higher. Nothing
else changes but PC and BTCOUNT. (04_matrix_coprocessor.md, R104 with Tables 4.1, 4.2; 04_matrix_coprocessor.md, R106;
04_matrix_coprocessor.md, R107; 04_matrix_coprocessor.md, R101) -/
def Obligations.MatrixInstructionsQueueOrDeliver : Prop :=
  (
    ∀ (s : State) (k : Fin 128) (i : Issue) (d a b m : BitVec 4) (va : BitVec 5), s.issues k i → i.words = {} →
      let c := s.dev.cores[k]
      s.dev.mxState k.val = .run → mxEnabled c = true → c.mxc.queue.length < 4 →
      let size := c.s[m.toFin]
      let dim := fun (lo : Nat) => 1 ≤ (size.extractLsb' lo 4).toNat ∧ (size.extractLsb' lo 4).toNat ≤ 8
      let took := fun (op : VOp) (e : MxEntry) => (Host.Outcome.next (s.after k i (bundleV {} .vb op) { c with
          mxc := { c.mxc with queue := c.mxc.queue ++ [e], seq := c.mxc.seq + 1 } }) : Host.Outcome State Fault Refusal)
      (∀ f : BitVec 1, ∃ e, exec (.mxld k i (0#1 ++ d) va 0 (0#5 ++ f) 0) s = took (.mx .ld (0#1 ++ d) va 0 (0#5 ++ f) 0) e
          ∧ e.fn = .ld ∧ e.d = d ∧ e.fnf = 0#5 ++ f ∧ e.data = c.v[va.toFin] ∧ e.seq = c.mxc.seq)
      ∧ (∀ f : BitVec 1, ∃ e, exec (.mxld k i (0#1 ++ d) va (0#1 ++ b) (0#4 ++ 1#1 ++ f) 0) s = took (.mx .ld (0#1 ++ d) va (0#1 ++ b) (0#4 ++ 1#1 ++ f) 0) e
          ∧ e.fn = .ld ∧ e.d = d ∧ e.fnf = 0#4 ++ 1#1 ++ f ∧ e.data = c.v[va.toFin] ∧ e.param = c.s[b.toFin] ∧ e.seq = c.mxc.seq)
      ∧ (∀ f : BitVec 1, ∃ e, exec (.mxid k i (0#1 ++ d) 0 0 (0#5 ++ f) 0) s = took (.mx .ident (0#1 ++ d) 0 0 (0#5 ++ f) 0) e ∧ e.fn = .ident ∧ e.d = d ∧ e.fnf = 0#5 ++ f ∧ e.seq = c.mxc.seq)
      ∧ (∀ f : BitVec 1, ∃ e, exec (.mxadd k i (0#1 ++ d) (0#1 ++ a) (0#1 ++ b) (0#5 ++ f) 0) s = took (.mx .add (0#1 ++ d) (0#1 ++ a) (0#1 ++ b) (0#5 ++ f) 0) e
          ∧ e.fn = .add ∧ e.d = d ∧ e.a = a ∧ e.b = b ∧ e.fnf = 0#5 ++ f ∧ e.seq = c.mxc.seq)
      ∧ (dim 0 → dim 4 → dim 8 → ∀ f : BitVec 2, ∃ e, exec (.mxmul k i (0#1 ++ d) (0#1 ++ a) (0#1 ++ b) (0#4 ++ f) (0#1 ++ m)) s = took (.mx .mul (0#1 ++ d) (0#1 ++ a) (0#1 ++ b) (0#4 ++ f) (0#1 ++ m)) e
          ∧ e.fn = .mul ∧ e.d = d ∧ e.a = a ∧ e.b = b ∧ e.fnf = 0#4 ++ f ∧ e.size = size ∧ e.seq = c.mxc.seq)
      ∧ (dim 0 → dim 4 → ∃ e, exec (.mxgram k i (0#1 ++ d) (0#1 ++ a) (0#1 ++ b) 0 (0#1 ++ m)) s = took (.mx .gram (0#1 ++ d) (0#1 ++ a) (0#1 ++ b) 0 (0#1 ++ m)) e
          ∧ e.fn = .gram ∧ e.d = d ∧ e.a = a ∧ e.size = size ∧ e.param = c.s[b.toFin] ∧ e.seq = c.mxc.seq)
      ∧ (dim 0 → ∃ e, exec (.mxinv k i (0#1 ++ d) (0#1 ++ a) 0 0 (0#1 ++ m)) s = took (.mx .inv (0#1 ++ d) (0#1 ++ a) 0 0 (0#1 ++ m)) e
          ∧ e.fn = .inv ∧ e.d = d ∧ e.a = a ∧ e.size = size ∧ e.seq = c.mxc.seq)
      ∧ (∃ e, exec (.mxscl k i (0#1 ++ d) (0#1 ++ a) (0#1 ++ b) 0 0) s = took (.mx .scl (0#1 ++ d) (0#1 ++ a) (0#1 ++ b) 0 0) e ∧ e.fn = .scl ∧ e.d = d ∧ e.a = a ∧ e.param = c.s[b.toFin] ∧ e.seq = c.mxc.seq)
      ∧ (∃ e, exec (.mxack k i 0 0 0 0 0) s = took (.mx .ack 0 0 0 0 0) e ∧ e.fn = .ack ∧ e.seq = c.mxc.seq))
  ∧ (
    ∀ (s : State) (k : Fin 128) (i : Issue) (a r : BitVec 4) (d : BitVec 5), s.issues k i → i.words = {} →
      let c := s.dev.cores[k]
      s.dev.mxState k.val = .run → mxEnabled c = true → c.mxc.queue = [] →
      let x := c.mxc.regs[a.toFin]
      let go := fun (op : VOp) (c' : Core) => (Host.Outcome.next (s.after k i (bundleV {} .vb op) { c' with
          mxc := { c.mxc with seq := c.mxc.seq + 1 } }) : Host.Outcome State Fault Refusal)
      (∀ f : BitVec 1, ∃ t, exec (.mxst k i d (0#1 ++ a) 0 (0#5 ++ f) 0) s = .next t ∧ Host.Outcome.next t = go (.mx .st d (0#1 ++ a) 0 (0#5 ++ f) 0) { c with v := c.v.set d.toFin t.dev.cores[k].v[d.toFin] }
          ∧ ∀ l : Fin 32, t.dev.cores[k].v[d.toFin][l] = x.elem.toList.getD (32 * f.toNat + l.val) 0)
      ∧ exec (.mxgeteExp k i (0#1 ++ r) (0#1 ++ a) 0 0 0) s = go (.mx .getExp (0#1 ++ r) (0#1 ++ a) 0 0 0) { c with s := c.s.set r.toFin (0#22 ++ BitVec.ofBool x.p ++ BitVec.ofBool x.f ++ x.exp) }
      ∧ exec (.mxgeteSeq k i (0#1 ++ r) 0 0 1 0) s = go (.mx .getSeq (0#1 ++ r) 0 0 1 0) { c with s := c.s.set r.toFin (0#20 ++ (c.mxc.seq + 1)) })

/-- On a core that issues, MXADD alone in its bundle is refused with the lowest cause that applies: 1 where the MXC is
unavailable, 2 where it is not in RUN, 3 where it is not enabled at the level, 4 where an operand field has bit 4 set, 5
where the queue is full. The answer is the trap UNDEF with SLOT 3 and EVAL the slot word, to Supervisor from Task
without UNDEF_M and else to Monitor; RCAUSE holds the cause; matrix registers, queue, sequence count and the late-error
record, the core's S, V, A registers and accumulators stay, and memory where no wake request is posted. A refusal with
cause 2 in Stop marks the wake request as posted. (04_matrix_coprocessor.md, R111 with Table 4.5;
04_matrix_coprocessor.md, R112; 04_matrix_coprocessor.md, R113) -/
def Obligations.MatrixRefusals : Prop :=
  ∀ (s : State) (k : Fin 128) (i : Issue) (d a b : BitVec 5) (f : BitVec 1) (cause : BitVec 3), s.issues k i → i.words = {} →
    let c := s.dev.cores[k]
    let mx := s.dev.mxState k.val
    cause = (if mx = .unavailable then 1 else if mx ≠ .run then 2 else if mxEnabled c = false then 3
      else if d.getLsbD 4 = true ∨ a.getLsbD 4 = true ∨ b.getLsbD 4 = true then 4 else if 4 ≤ c.mxc.queue.length then 5 else 0) →
    cause ≠ 0 →
    ∃ t, exec (.mxadd k i d a b (0#5 ++ f) 0) s = .next t ∧ (mx ≠ .stopped → t.dev.mem = s.dev.mem)
      ∧ (let n := t.dev.cores[k]
         n.mxc = { c.mxc with rcause := cause, wakePosted := c.mxc.wakePosted || (cause == 2 && mx == .stopped) }
         ∧ n.s = c.s ∧ n.v = c.v ∧ n.acc = c.acc ∧ n.a = c.a ∧ n.m = c.m ∧ n.b = c.b ∧ n.l = c.l ∧ n.vstat = c.vstat
         ∧ (if c.level = .task ∧ c.corectl.getLsbD 2 = false then
              n.level = .supervisor ∧ n.trapS.ecause = 0x302 ∧ n.trapS.epc = c.pc ∧ n.trapS.eval = 0x34#6 ++ d ++ a ++ b ++ 0#5 ++ f ++ 0#5
              ∧ n.pc = c.trapS.tvb + 0x20 ∧ n.trapM = c.trapM
            else
              n.level = .monitor ∧ n.trapM.ecause = 0x302 ∧ n.trapM.epc = c.pc ∧ n.trapM.eval = 0x34#6 ++ d ++ a ++ b ++ 0#5 ++ f ++ 0#5
              ∧ n.pc = c.trapM.tvb + 0x20 ∧ n.trapS = c.trapS))

/-- With the MXC in RUN, no self-test waiting and no parity failure, MXC_COMMIT answers a next state in which the head
has left the queue and: MXACK has cleared LATE, LOVF, LCAUSE, LREG, LSEQ and IPEND bit 2; MXLD has set the 32 elements
of one half from the captured vector, and E, F, P from the word where FN[1] is set; MXSCL has added the signed byte to
E, or set E 127, F and the late error EXPONENT where the sum leaves the range; MXADD writes, for exponents u and v of
its sources, the exact sum of the aligned parts shifted by the smallest E that fits all parts, with F of the sources; F
and P of the register written stay while a source is flagged. The other matrix registers stay; an empty queue leaves the
device as it is. (04_matrix_coprocessor.md, R101, R102, R103; 04_matrix_coprocessor.md, R104 with Table 4.1;
04_matrix_coprocessor.md, R106; 04_matrix_coprocessor.md, R116, R117) -/
def Obligations.MatrixCommits : Prop :=
  (∀ (s : State) (k : Fin 128) (bad : Bool), (s.dev.core k.val).mxc.queue = [] → exec (.mxcCommit k bad) s = .next s)
  ∧ (∀ (s : State) (k : Fin 128) (e : MxEntry) (rest : List MxEntry), s.dev.mxState k.val = .run → s.dev.health.testQueue = [] →
    let c := s.dev.cores[k]
    let m := c.mxc
    m.queue = e :: rest →
    let old := m.regs[e.d.toFin]
    let ra := m.regs[e.a.toFin]
    let next := fun (c' : Core) => (Host.Outcome.next { s with dev := { s.dev with cores := s.dev.cores.set k c' } } : Host.Outcome State Fault Refusal)
    let fl := ra.f || ra.p
    (e.fn = .ack → exec (.mxcCommit k false) s = next { c with
        mxc := { m with queue := rest, late := false, lovf := false, lcause := 0, lreg := 0, lseq := 0 }, ipend := c.ipend &&& 0xB })
    ∧ (e.fn = .ld → ∃ r : MxReg, exec (.mxcCommit k false) s = next { c with mxc := { m with queue := rest, regs := m.regs.set e.d.toFin r } }
        ∧ (∀ n : Fin 64, r.elem[n] = if (n.val / 32 = 1 ↔ e.fnf.getLsbD 0 = true) then e.data.toList.getD (n.val % 32) 0 else old.elem[n])
        ∧ (r.exp, r.f, r.p) = if e.fnf.getLsbD 1 then (e.param.extractLsb' 0 8, e.param.getLsbD 8, e.param.getLsbD 9) else (old.exp, old.f, old.p))
    ∧ (e.fn = .scl → let x := ra.exp.toInt + (e.param.extractLsb' 0 8).toInt
        (-128 ≤ x → x ≤ 127 → exec (.mxcCommit k false) s = next { c with mxc := { m with queue := rest, regs := m.regs.set e.d.toFin { ra with exp := BitVec.ofInt 8 x, f := ra.f || (old.f && fl), p := old.p && fl } } })
        ∧ ((x < -128 ∨ 127 < x) → m.late = false → exec (.mxcCommit k false) s = next { c with
            mxc := { m with queue := rest, regs := m.regs.set e.d.toFin { ra with exp := 127, f := true, p := old.p && fl }, late := true, lcause := 3, lreg := e.d, lseq := e.seq }, ipend := c.ipend ||| 4 }))
    ∧ (e.fn = .add → ∃ t, exec (.mxcCommit k false) s = .next t ∧ t.dev.cores[k].mxc.queue = rest
        ∧ (let r := t.dev.cores[k].mxc.regs[e.d.toFin]
           let x := m.regs[e.a.toFin]
           let y := m.regs[e.b.toFin]
           let eu := max x.exp.toInt y.exp.toInt
           let al := fun (z : MxReg) (w : Word) => (partRe w / 2 ^ (eu - z.exp.toInt).toNat, partIm w / 2 ^ (eu - z.exp.toInt).toNat)
           let sum := fun (n : Fin 64) => if e.fnf.getLsbD 0 then cSub (al x x.elem[n]) (al y y.elem[n]) else cAdd (al x x.elem[n]) (al y y.elem[n])
           let put := fun (ed : Int) (n : Fin 64) => (shiftRightInt (sum n).1 (ed - eu), shiftRightInt (sum n).2 (ed - eu))
           let fit := fun (ed : Int) => ∀ n, -32768 ≤ (put ed n).1 ∧ (put ed n).1 ≤ 32767 ∧ -32768 ≤ (put ed n).2 ∧ (put ed n).2 ≤ 32767
           ∀ ed : Int, -128 ≤ ed → ed ≤ 127 → fit ed → (∀ w, -128 ≤ w → w < ed → ¬ fit w) →
             r.exp.toInt = ed ∧ r.f = (x.f || y.f || (old.f && (x.p || y.p))) ∧ r.p = (old.p && (x.f || x.p || y.f || y.p)) ∧ ∀ n : Fin 64, partRe r.elem[n] = (put ed n).1 ∧ partIm r.elem[n] = (put ed n).2)
        ∧ (∀ j : Fin 16, j ≠ e.d.toFin → t.dev.cores[k].mxc.regs[j] = m.regs[j])))

/-- On a core in service below Monitor with GIE set, INTERRUPT_ENTRY with interrupt b pending and enabled, and none of
lower number (the lowest first is the model's choice, log entry 27), answers a next state with EPC_S the next bundle,
TSTAT_S level and GIE, ECAUSE_S INT, slot 7 and code 0x10 + b, GIE clear, PC at TVB_S + 16 x code, WAIT ended, and for
PREEMPT and MSG with a delivery pending, that job on top of the job stack; no S, V, A register or accumulator and no
memory changes. At Monitor or with GIE clear it enters nothing and only ends a WAIT where something is pending (MXC_LATE
only where it is enabled). WDOG expired enters 0x14 at Monitor from any level and restarts its count.
(03_signal_cores.md, R91 with Table 3.14; 03_signal_cores.md, R92; 03_signal_cores.md, R94; 03_signal_cores.md, R96;
09_almanac_scheduler.md, R236) -/
def Obligations.InterruptsEnterTheSupervisor : Prop :=
  (∀ (s : State) (k : Fin 128) (b : Fin 4), s.dev.coreUp k.val = true →
    let c := s.dev.cores[k]
    c.level ≠ .monitor → c.ien.getLsbD 31 = true → c.ipend.getLsbD b = true → c.ien.getLsbD b = true →
    (∀ q : Fin 4, q < b → c.ipend.getLsbD q = true → c.ien.getLsbD q = false) →
    ∃ t, exec (.interruptEntry k) s = .next t ∧ t.dev.mem = s.dev.mem
      ∧ (let n := t.dev.cores[k]
         n.level = .supervisor ∧ n.trapS.epc = c.pc ∧ n.trapS.ecause = 0x80000710 + BitVec.ofNat 32 b.val ∧ n.trapS.tvb = c.trapS.tvb
         ∧ n.trapS.tstat = (if c.level = .task then 4 else 5) ∧ n.pc = c.trapS.tvb + 0x100 + BitVec.ofNat 32 (16 * b.val)
         ∧ n.ien = c.ien &&& 0x7FFFFFFF ∧ n.waiting = false ∧ n.trapM = c.trapM ∧ n.s = c.s ∧ n.v = c.v ∧ n.acc = c.acc ∧ n.a = c.a
         ∧ n.m = c.m ∧ n.b = c.b ∧ n.l = c.l ∧ n.mxc = c.mxc
         ∧ (2 ≤ b.val → n.jobs = c.jobs)
         ∧ (∀ x : Delivery, b.val < 2 → s.dev.alm.deliveries.find? (fun y => y.core == k.val && y.preempt == (b.val == 0)) = some x →
              n.jobs = x.job :: c.jobs)))
  ∧ (∀ (s : State) (k : Fin 128), s.dev.coreUp k.val = true →
    let c := s.dev.cores[k]
    (c.level = .monitor ∨ c.ien.getLsbD 31 = false) →
    exec (.interruptEntry k) s = .next (s.withCore k { c with waiting := c.waiting && (c.ipend &&& (if c.ien.getLsbD 2 then 0xF else 0xB)) == 0 } s.dev.mem))
  ∧ (∀ (s : State) (k : Fin 128), s.dev.coreUp k.val = true →
    let c := s.dev.cores[k]
    c.wdog ≠ 0 → c.wdog.toNat * 64 ≤ c.wdogTicks →
    ∃ t, exec (.wdog k) s = .next t
      ∧ (let n := t.dev.cores[k]
         n.level = .monitor ∧ n.trapM.epc = c.pc ∧ n.trapM.ecause = 0x80000714 ∧ n.trapM.tvb = c.trapM.tvb ∧ n.pc = c.trapM.tvb + 0x140
         ∧ n.wdogTicks = 0 ∧ n.waiting = false ∧ n.trapS = c.trapS ∧ n.s = c.s ∧ n.v = c.v ∧ n.acc = c.acc))

/-- On a core that issues and whose MXC is not in Stop (a refusal there also posts a wake request), whatever words stand
in the other slots: a bundle with ADD in the scalar slot, with STV in the load/store slot or with VMAC in a vector slot,
of which any slot fails a check of R92 or which R70 calls illegal, answers a next state at Supervisor or Monitor in
which memory, the S, V, A, M, B, L registers, the accumulators, VSTAT, GOVMASK, BEXPACC, the MXC's registers, queue and
sequence count and the rest of the device's cores are as before; the trap registers hold the lowest failing code.
(03_signal_cores.md, R61; 03_signal_cores.md, R70; 03_signal_cores.md, R92) -/
def Obligations.BundleTakesEffectInAllSlotsOrNone : Prop :=
  ∀ (s : State) (k : Fin 128) (i : Issue), s.issues k i →
    let c := s.dev.cores[k]
    s.dev.mxState k.val ≠ .stopped →
    let held := fun (b : Bundle) (o : Host.Outcome State Fault Refusal) =>
      bundleTraps (s.dev.coreEnv k) c b (decodeBundle i.next) ≠ [] →
      ∃ t, o = .next t ∧ t.dev.mem = s.dev.mem ∧ (∀ j : Fin 128, j ≠ k → t.dev.cores[j] = s.dev.cores[j])
        ∧ (let n := t.dev.cores[k]
           n.s = c.s ∧ n.v = c.v ∧ n.acc = c.acc ∧ n.a = c.a ∧ n.m = c.m ∧ n.b = c.b ∧ n.l = c.l ∧ n.vstat = c.vstat
           ∧ n.govmask = c.govmask ∧ n.bexpacc = c.bexpacc ∧ n.mxc.regs = c.mxc.regs ∧ n.mxc.queue = c.mxc.queue ∧ n.mxc.seq = c.mxc.seq
           ∧ n.level ≠ .task
           ∧ ∃ x ∈ bundleTraps (s.dev.coreEnv k) c b (decodeBundle i.next),
               (∀ y ∈ bundleTraps (s.dev.coreEnv k) c b (decodeBundle i.next), x.code ≤ y.code)
               ∧ ((if n.level = .monitor then n.trapM else n.trapS).ecause.extractLsb' 0 8).toNat = x.code)
    (∀ sd sa sb, held (bundleSb i.words (.alu .add sd sa sb)) (exec (.add k i sd sa sb) s))
    ∧ (∀ r an mn mode imm, held (bundleLs i.words (.acc .stv r an mn mode imm)) (exec (.stv k i r an mn mode imm) s))
    ∧ (∀ slot d a b fn mod, held (bundleV i.words slot (.mul .mac d a b fn mod)) (exec (.vmac k i slot d a b fn mod) s))

/-- On a core that issues, LDW in a bundle whose other slots are VADD in VA and NOPs, that meets no check of R92 and
whose load meets an uncorrectable error, answers a next state at Monitor with EPC_M the bundle, ECAUSE_M code 9 and slot
1, EVAL_M the address of the word, S[R] unchanged, and V[D] the sum of VADD. (03_signal_cores.md, R93) -/
def Obligations.UncorrectableLoadIsPreciseButNotAtomic : Prop :=
  ∀ (s : State) (k : Fin 128) (i : Issue) (r : BitVec 4) (an mn : BitVec 3) (imm : BitVec 14) (d a b : BitVec 5),
    s.dev.coreIssues k.val = true → fetchOk s.dev.cores[k] = true → i.ecc = .loadUncorrectable →
    i.words = { va := 0x01#6 ++ d ++ a ++ b ++ 0#11 } →
    let c := s.dev.cores[k]
    lsBadAddr c .ldw an 0 imm = none →
    (∀ x ∈ lsElems c .ldw an 0 imm, s.dev.mem.poisoned (k.val * 0x80000 + x.toNat) 4 = false) →
    ∃ t, exec (.ldw k i (0#1 ++ r) an mn 0 imm) s = .next t
      ∧ (let n := t.dev.cores[k]
         n.level = .monitor ∧ n.trapM.epc = c.pc ∧ n.trapM.ecause = 0x109 ∧ n.trapM.eval = lsElem c an 0 imm 0 ∧ n.s = c.s ∧ n.a = c.a
         ∧ n.pc = c.trapM.tvb + 0x90
         ∧ n.v = c.v.set d.toFin (Vector.ofFn (fun l => (valuLane .add 0 c.v[a.toFin][l] c.v[b.toFin][l]).1)))

/-- In a device that has started, with no plan under way: a CREATE of a queue with LIMIT from 1 to 16,777,216 answers OK
with an identifier that named no object before and now names an empty queue of that limit. On a queue that is open:
Q_PUT of 16 bytes with room appends them and answers OK, Q_GET answers with the head and removes it, and EMPTY where
there is none; QUERY of it (no other object has its identifier) answers bytes 0 to 23 of its record; DESTROY of a queue
with entries closes it, of an empty one that no deferred request names frees it. Q_PUT into a full queue answers FULL,
and its OVERRUN counts one more, up to the top. Where records stand, on chip or in lay-by, is not said here.
(09_almanac_scheduler.md, R222 with Table 9.7; 09_almanac_scheduler.md, Table 9.5; 09_almanac_scheduler.md, Table 9.9;
09_almanac_scheduler.md, R219, R220, R224) -/
def Obligations.AlmanacQueueRequests : Prop :=
  ∀ (s : State) (k : Fin 8) (tag : BitVec 16), s.dev.launched = true → s.dev.cfg.plans = [] →
    let a := s.dev.alm
    let answer := fun (t : State) (st : Nat) (obj : Word) (data : List Byte) =>
      t.dev.alm.replies.head? = some (.control k, bytesOf 2 tag.toNat ++ bytesOf 1 st ++ [0] ++ bytesOf 4 obj.toNat ++ padTo 24 data)
    let held := fun (q : Queue) => ({ q with chip := 0, home := true, used := 0 } : Queue)
    (∀ limit : Nat, 1 ≤ limit → limit ≤ 16777216 → a.queues.length < 65536 → a.objects < 8388608 → ∃ t id,
      exec (.create (.control k) ([8, 0] ++ bytesOf 2 tag.toNat ++ [0, 0, 0, 0] ++ [1, 0, 0, 0] ++ bytesOf 4 limit)) s = .next t
      ∧ answer t 0 id [] ∧ a.known id = false ∧ t.dev.alm.queues.map held = (a.queues ++ [({ id := id, limit := limit } : Queue)]).map held)
    ∧ ∀ (id : Word) (q : Queue), a.queue? id = some q → q.closing = false →
      let req := fun (op : Byte) => [op, 0] ++ bytesOf 2 tag.toNat ++ bytesOf 4 id.toNat
      (∀ e : List Byte, e.length = 16 → q.hostev = false → q.entries.length + q.reserved < q.limit → a.entries < 16777216 →
        ∃ t q', exec (.qPut (.control k) (req 6 ++ e)) s = .next t ∧ answer t 0 id [] ∧ t.dev.alm.queue? id = some q'
          ∧ q'.entries = q.entries ++ [e] ∧ q'.limit = q.limit ∧ q'.closing = false ∧ q'.overrun = q.overrun)
      ∧ (∀ e : List Byte, e.length = 16 → q.hostev = false → q.limit ≤ q.entries.length + q.reserved →
        ∃ t, exec (.qPut (.control k) (req 6 ++ e)) s = .next t ∧ answer t 1 id []
          ∧ t.dev.alm.queues = a.queues.map (fun x => if x.id = id then { x with overrun := if x.hostev = false ∧ x.overrun ≠ 0xFFFFFFFF then x.overrun + 1 else x.overrun } else x))
      ∧ (∀ e rest, q.entries = e :: rest → ∃ t q', exec (.qGet (.control k) (req 7)) s = .next t ∧ answer t 0 id e
          ∧ t.dev.alm.queue? id = some q' ∧ q'.entries = rest)
      ∧ (q.entries = [] → ∃ t, exec (.qGet (.control k) (req 7)) s = .next t ∧ answer t 6 id [] ∧ t.dev.alm.queues = a.queues)
      ∧ (a.job? id = none → a.proc? id = none → a.timer? id = none → ∃ t, exec (.query (.control k) (req 10)) s = .next t
          ∧ answer t 0 id ([1, if q.hostev then 1 else 0, 0, 0] ++ bytesOf 4 q.limit ++ bytesOf 4 q.entries.length ++ bytesOf 4 q.overrun.toNat ++ bytesOf 8 0)
          ∧ t.dev.alm.queues.map held = a.queues.map held)
      ∧ (q.entries ≠ [] → ∃ t, exec (.destroy (.control k) (req 9)) s = .next t ∧ answer t 0 id []
          ∧ (t.dev.alm.queue? id).map held = some (held { q with closing := true }))
      ∧ (a.queues = [q] → q.entries = [] → a.namedDeferred id = false → ∃ t, exec (.destroy (.control k) (req 9)) s = .next t ∧ answer t 0 id []
          ∧ t.dev.alm.queues = [])

/-- In a device that has started, with no plan under way: an accepted JOB_ENQ without fallback timer at a control-core
port answers OK and adds one job with the fields of its bytes under an identifier that named nothing before: READY where
GATES is 0 and else WAITING. An EVENT for a WAITING job with more than one gate left lowers its GATES by one; with at
most one left and outside the equaliser pool the job becomes READY; for a job that is not WAITING it changes no job.
SKIP_ENQ on an open procession whose head is not complete adds a completed SKIP marker with the next PSEQ.
(09_almanac_scheduler.md, R223 with Tables 9.2, 9.8; 09_almanac_scheduler.md, R226; 09_almanac_scheduler.md, R241) -/
def Obligations.JobsAreEnqueuedAndReleasedByEvents : Prop :=
  ∀ (s : State) (k : Fin 8), s.dev.launched = true → s.dev.cfg.plans = [] →
    let a := s.dev.alm
    let held := fun (j : Job) => ({ j with chip := true } : Job)
    (∀ (tag : BitVec 16) (desc : DWord) (deadline : BitVec 40) (cls pool unit gates : Byte) (cell : BitVec 16),
      let r := [1, 0] ++ bytesOf 2 tag.toNat ++ [0, 0, 0, 0] ++ bytesOf 8 desc.toNat ++ bytesOf 5 deadline.toNat ++ [cls, pool, unit]
        ++ [gates, 0] ++ bytesOf 2 cell.toNat ++ [0, 0, 0, 0]
      s.dev.checkReq (.control k) r = 0 →
      ∃ t id j, exec (.jobEnq (.control k) r none) s = .next t ∧ a.known id = false
        ∧ t.dev.alm.replies.head? = some (.control k, bytesOf 2 tag.toNat ++ [0, 0] ++ bytesOf 4 id.toNat ++ padTo 24 [])
        ∧ t.dev.alm.jobs.map held = (a.jobs ++ [j]).map held ∧ j ∈ t.dev.alm.jobs ∧ j.id = id ∧ j.st = (if gates = 0 then .ready else .waiting) ∧ j.gates = gates.toNat
        ∧ j.cls = cls.toNat ∧ j.pool = pool.toNat ∧ j.unit = unit.toNat ∧ j.cell = cell.toNat ∧ j.desc = desc ∧ j.deadline = deadline
        ∧ j.runat = 0xFF ∧ j.proc = false ∧ j.link = 0)
    ∧ (∀ (id : Word) (j : Job), a.jobs = [j] → j.id = id →
        let e := exec (.event (.control k) ([3, 0, 0, 0] ++ bytesOf 4 id.toNat)) s
        (j.st = .waiting → 2 ≤ j.gates → ∃ t, e = .next t ∧ t.dev.alm.jobs = [{ j with gates := j.gates - 1 }])
        ∧ (j.st = .waiting → j.gates ≤ 1 → j.pool ≠ 4 → ∃ t j', e = .next t ∧ t.dev.alm.jobs = [j'] ∧ j'.st = .ready ∧ j'.gates = 0
            ∧ j'.id = id ∧ j'.cls = j.cls ∧ j'.pool = j.pool ∧ j'.desc = j.desc ∧ j'.order = a.nextOrder)
        ∧ (j.st ≠ .waiting → ∃ t, e = .next t ∧ t.dev.alm.jobs = [j]))
    ∧ (∀ (id : Word) (p : Procession), a.procs = [p] → p.id = id → p.closing = false → a.objects < 8388608 →
        (∀ j ∈ a.jobs, j.proc = true → j.link = id → j.pseq = p.headSeq → j.st ≠ .complete) → p.nextSeq ≠ p.headSeq →
        ∃ t j, exec (.skipEnq (.control k) ([2, 0, 0, 0] ++ bytesOf 4 id.toNat)) s = .next t ∧ t.dev.alm.jobs.map held = (a.jobs ++ [j]).map held
          ∧ j.st = .complete ∧ j.cls = 3 ∧ j.proc = true ∧ j.link = id ∧ j.pseq = p.nextSeq ∧ j.aflags = 2 ∧ a.known j.id = false
          ∧ t.dev.alm.procs = [{ p with nextSeq := p.nextSeq + 1, chip := true, used := s.dev.time.tick }])

/-- In a device that has started, with no plan under way: an accepted TIMER_SET adds one armed timer with the fields of
its bytes under a new identifier; TIMER_CANCEL of the only timer removes it; TIMER_FIRE of an only one-shot timer that
was armed at another tick and whose EXPIRY is not after the current tick frees it, and a periodic one is re-armed PERIOD
later; with action 3 its entry is put into the target queue. Where no timer is due TIMER_FIRE changes nothing. Every 256
ticks the refill sweep marks the timers within 2,048 ticks of expiry, and those past it, as on chip, and changes nothing
else; on other ticks it changes nothing. (09_almanac_scheduler.md, R222 with Table 9.7; 09_almanac_scheduler.md, R228
with Table 9.4; 09_almanac_scheduler.md, R244) -/
def Obligations.TimersAreSetCancelledAndFire : Prop :=
  ∀ (s : State) (k : Fin 8), s.dev.launched = true → s.dev.cfg.plans = [] →
    let a := s.dev.alm
    let now := s.dev.time.tick
    let held := fun (x : Timer) => ({ x with spilled := false } : Timer)
    (∀ (act cal : Byte) (target : Word) (expiry : BitVec 40) (period : BitVec 24) (entry : DWord),
      let r := [4, 0, 0, 0, 0, 0, 0, 0] ++ [act, cal, 0, 0] ++ bytesOf 4 target.toNat ++ bytesOf 5 expiry.toNat ++ bytesOf 3 period.toNat ++ bytesOf 8 entry.toNat
      s.dev.checkReq (.control k) r = 0 →
      ∃ t x, exec (.timerSet (.control k) r) s = .next t ∧ t.dev.alm.timers.map held = (a.timers ++ [x]).map held ∧ a.known x.id = false ∧ x.armed = true
        ∧ x.action = act.toNat ∧ x.cal = cal.toNat ∧ x.target = target ∧ x.expiry = expiry ∧ x.period = period ∧ x.entry = entry ∧ x.armedAt = now)
    ∧ (∀ x : Timer, a.timers = [x] →
        (∃ t, exec (.timerCancel (.control k) ([5, 0, 0, 0] ++ bytesOf 4 x.id.toNat)) s = .next t ∧ t.dev.alm.timers = [])
        ∧ (x.armed = true → x.armedAt ≠ now → (now - x.expiry).toNat ≤ 2 ^ 39 →
            ∃ t, exec .timerFire s = .next t
              ∧ (x.period = 0 → t.dev.alm.timers = [])
              ∧ (x.period ≠ 0 → t.dev.alm.timers = [{ x with expiry := x.expiry + x.period.setWidth 40, armedAt := now, spilled := false }])
              ∧ (∀ q, x.action = 3 → a.queues = [q] → q.id = x.target → q.hostev = false → q.entries.length + q.reserved < q.limit → a.entries < 16777216 →
                  ∃ q', t.dev.alm.queues = [q'] ∧ q'.entries = q.entries ++ [bytesOf 8 x.entry.toNat ++ bytesOf 8 0]))
        ∧ ((x.armed = false ∨ x.armedAt = now ∨ 2 ^ 39 < (now - x.expiry).toNat) → exec .timerFire s = .next s))
    ∧ (now.toNat % 256 = 0 → exec .timerRefillSweep s = .next { s with dev := { s.dev with alm := { a with timers := a.timers.map (fun x =>
          if (now - x.expiry).toNat ≤ 2 ^ 39 ∨ (x.expiry - now).toNat ≤ 2048 then { x with spilled := false } else x) } } })
    ∧ (now.toNat % 256 ≠ 0 → exec .timerRefillSweep s = .next s)

/-- In a device that has started, with no plan under way and one job: DISPATCH of a READY class C job of an accelerator
pool whose named unit is in its pool and in Run starts it there at the current tick; of a signal core's pool, on a core
that holds no job and no delivery, it writes the 64-byte job slot of its class into the core's mailbox, raises MSG and
keeps the delivery. JOB_COMPLETION of a class C job outside a procession that its unit has reported, with no deferred
request, puts the 16-byte completion record into its open queue with room and frees the record; a core's is the oldest
completion of DONE. A report of a job the unit does not hold is discarded and counted. (09_almanac_scheduler.md, R233;
09_almanac_scheduler.md, R235 with Table 9.11; 09_almanac_scheduler.md, R239 with Table 9.12; 09_almanac_scheduler.md,
R240; 09_almanac_scheduler.md, R97) -/
def Obligations.DispatchAndCompletion : Prop :=
  (∀ (s : State) (j : Job) (c : Nat) (u : Nat), s.dev.launched = true → s.dev.cfg.plans = [] → s.dev.alm.jobs = [j] →
    j.st = .ready → j.cls = 2 → j.chip = true → j.proc = false → j.pool = c → j.unit = u → 5 ≤ c → c ≤ 9 → u < 16 →
    s.dev.inPool c u = true → s.dev.unitRun c u = true →
    ∃ t j', exec (.dispatch c 0) s = .next t ∧ t.dev.alm.jobs = [j'] ∧ j'.st = .dispatched ∧ j'.runat = u ∧ j'.started = true
      ∧ j'.dtick = s.dev.time.tick ∧ j'.id = j.id ∧ j'.desc = j.desc ∧ t.dev.mem = s.dev.mem ∧ t.dev.cores = s.dev.cores)
  ∧ (∀ (s : State) (j : Job) (u : Fin 128), s.dev.launched = true → s.dev.cfg.plans = [] → s.dev.alm.jobs = [j] →
    j.st = .ready → j.cls = 2 → j.chip = true → j.proc = false → j.pool = 1 → j.unit = u.val → j.excluded = [] → s.dev.alm.deliveries = [] →
    s.dev.inPool 1 u.val = true → s.dev.domRun (0x100 + u.val) = true → s.dev.alm.unitCfg[u].getLsbD 2 = true →
    ∃ t j', exec (.dispatch 1 (u.val / 16)) s = .next t ∧ t.dev.alm.jobs = [j'] ∧ j'.st = .dispatched ∧ j'.runat = u.val ∧ j'.started = false
      ∧ t.dev.alm.deliveries = [⟨u.val, j.id, false, s.dev.time.tick⟩]
      ∧ t.dev.cores[u] = { s.dev.cores[u] with ipend := s.dev.cores[u].ipend ||| 2 }
      ∧ t.dev.mem = s.dev.mem.ifWrite (u.val * 0x80000 + 0x5B080) (s.dev.jobSlot j s.dev.time.tick)
      ∧ (∀ v : Fin 128, v ≠ u → t.dev.cores[v] = s.dev.cores[v]))
  ∧ (∀ (s : State) (j : Job) (q : Queue) (u : Nat) (r : Report), s.dev.launched = true → s.dev.cfg.plans = [] → s.dev.alm.jobs = [j] →
    s.dev.alm.queues = [q] → q.id = j.link → q.closing = false → q.hostev = false → q.entries.length + q.reserved < q.limit → s.dev.alm.entries < 16777216 →
    s.dev.alm.procs = [] → j.st = .dispatched → j.cls = 2 → j.proc = false → j.skipped = false → j.deferred = [] → j.runat = u → 5 ≤ j.pool → j.pool ≤ 9 →
    s.dev.alm.reports = [r] → r.pool = j.pool → r.slot = u → r.job = j.id →
    ∃ t q', exec (.jobCompletion j.pool u) s = .next t ∧ t.dev.alm.jobs = [] ∧ t.dev.alm.reports = [] ∧ t.dev.alm.queues = [q']
      ∧ q'.entries = q.entries ++ [bytesOf 4 j.id.toNat ++ bytesOf 4 r.status.toNat
          ++ bytesOf 1 ((if j.late then 1 else 0) + (if j.redisp then 4 else 0) + (if j.gateTimeout then 8 else 0)) ++ bytesOf 1 2 ++ bytesOf 2 j.cell
          ++ bytesOf 4 (s.dev.time.tick.setWidth 32).toNat])
  ∧ (∀ (s : State) (u : Fin 128) (id status : Word) (rest : List (Word × Word)), s.dev.launched = true → s.dev.cfg.plans = [] →
    s.dev.cores[u].doneOut = (id, status) :: rest → s.dev.alm.job? id = none →
    exec (.jobCompletion 1 u.val) s = .next { s with dev := { s.dev with
      cores := s.dev.cores.set u { s.dev.cores[u] with doneOut := rest }, alm := { s.dev.alm with discarded := s.dev.alm.discarded + 1 } } })

/-- In a device that has started, with no plan under way: the completion of a class C procession job whose PSEQ is not
the head's is held: the record stays in COMPLETE with its status, and no queue changes. STUCK_HEAD_SKIP, STUCK_TO ticks
after HEADSINCE, of a procession whose head job is not yet dispatched and has no later job, removes the head, puts its
record with SKIP and status 0 into the open RELQ with room, moves HEADSEQ on with HEADSINCE the current tick and counts
the skip; before that time, or with STUCK_TO 0, it changes nothing. (09_almanac_scheduler.md, R240;
09_almanac_scheduler.md, R242; 09_almanac_scheduler.md, R231) -/
def Obligations.ProcessionsReleaseInOrder : Prop :=
  (∀ (s : State) (j : Job) (p : Procession) (u : Nat) (r : Report), s.dev.launched = true → s.dev.cfg.plans = [] → s.dev.alm.jobs = [j] →
    s.dev.alm.procs = [p] → p.closing = false → p.id = j.link → j.pseq ≠ p.headSeq → (∀ q ∈ s.dev.alm.queues, q.closing = false) →
    j.st = .dispatched → j.cls = 2 → j.proc = true → j.skipped = false → j.deferred = [] → j.runat = u → 5 ≤ j.pool → j.pool ≤ 9 →
    s.dev.alm.reports = [r] → r.pool = j.pool → r.slot = u → r.job = j.id →
    ∃ t j', exec (.jobCompletion j.pool u) s = .next t ∧ t.dev.alm.jobs = [j'] ∧ j'.st = .complete ∧ j'.status = r.status ∧ j'.id = j.id
      ∧ j'.pseq = j.pseq ∧ t.dev.alm.procs = [p] ∧ t.dev.alm.queues = s.dev.alm.queues)
  ∧ (∀ (s : State) (j : Job) (p : Procession) (q : Queue), s.dev.launched = true → s.dev.cfg.plans = [] → s.dev.alm.jobs = [j] → s.dev.alm.deliveries = [] →
    s.dev.alm.procs = [p] → p.closing = false → p.id = j.link → j.proc = true → j.pseq = p.headSeq → p.nextSeq = p.headSeq + 1 → j.deferred = [] →
    (j.st = .waiting ∨ j.st = .ready) → s.dev.alm.queues = [q] → q.id = p.relq → q.closing = false → q.hostev = false → q.entries.length + q.reserved < q.limit → s.dev.alm.entries < 16777216 →
    p.stuckTo ≠ 0 → p.stuckTo.toNat ≤ (s.dev.time.tick - p.headSince).toNat →
    ∃ t q' p', exec (.stuckHeadSkip p.id) s = .next t ∧ t.dev.alm.jobs = [] ∧ t.dev.alm.procs = [p'] ∧ p'.headSeq = p.headSeq + 1 ∧ p'.nextSeq = p.nextSeq
      ∧ p'.headSince = s.dev.time.tick ∧ (p.skips ≠ 0xFFFFFFFF → p'.skips = p.skips + 1) ∧ t.dev.alm.queues = [q']
      ∧ q'.entries = q.entries ++ [bytesOf 4 j.id.toNat ++ bytesOf 4 0
          ++ bytesOf 1 (2 + (if j.redisp then 4 else 0) + (if j.gateTimeout then 8 else 0)) ++ bytesOf 1 j.cls ++ bytesOf 2 j.cell
          ++ bytesOf 4 (s.dev.time.tick.setWidth 32).toNat])
  ∧ (∀ (s : State) (p : Procession), s.dev.launched = true → s.dev.cfg.plans = [] → s.dev.alm.procs = [p] →
    (p.stuckTo = 0 ∨ (s.dev.time.tick - p.headSince).toNat < p.stuckTo.toNat) → exec (.stuckHeadSkip p.id) s = .next s)

/-- In a device that has started, with no plan under way: an accepted UNIT_CFG in a signal core's outbox sets that
core's class mask and no other. WAKE_POST for a stopped unit that a job waits for and that is not host-held sets its
domain waking. PTO_EXPIRY of an only delivery PREEMPT that has waited PTO ticks takes it back: the job is READY again
with the core excluded, IPEND bit 0 is clear and the expiry counted. UNIT_FAULT of a PRESENT accelerator other than an
equaliser engine marks it failing, and a job it held is READY with REDISP unless NORETRY. DRAINED moves a drained domain
on from its drain step and leaves any other domain as it is. (09_almanac_scheduler.md, R222 (UNIT_CFG);
09_almanac_scheduler.md, R221; 09_almanac_scheduler.md, R233; 09_almanac_scheduler.md, R238; 09_almanac_scheduler.md,
R247) -/
def Obligations.UnitsLeaveAndComeBack : Prop :=
  (∀ (s : State) (k : Fin 128) (bytes : List Byte), s.dev.launched = true → s.dev.cfg.plans = [] → s.dev.domRun (0x100 + k.val) = true → s.dev.mailReady k.val = true →
    let head := s.dev.mem.field (k.val * 0x80000 + 0x5B0C4) 4 % 64
    let r := s.dev.mem.bytes (k.val * 0x80000 + 0x5A000 + 32 * head) 32
    rf r 0 1 = 11 → s.dev.checkReq (.core k) r = 0 →
    ∃ t, exec (.unitCfg (.core k) bytes) s = .next t ∧ t.dev.alm = { s.dev.alm with unitCfg := s.dev.alm.unitCfg.set k (BitVec.ofNat 3 (rf r 8 1)) }
      ∧ t.dev.cores = s.dev.cores)
  ∧ (∀ (s : State) (c u : Nat), s.dev.launched = true → s.dev.cfg.plans = [] → s.dev.present c u = true →
    let code := unitDomain c u
    (s.dev.dom code).st = .stop → (s.dev.dom code).cur = none → (s.dev.dom code).hostHeld = false → s.dev.domCheck code true = none → s.dev.domTesting code = false →
    (∃ j ∈ s.dev.alm.jobs, s.dev.waitsFor c u j = true) →
    ∃ t, exec (.wakePost c u) s = .next t ∧ t.dev.alm = s.dev.alm ∧ t.dev.power.waiting = s.dev.power.waiting ++ [code]
      ∧ (t.dev.dom code).st = .waking)
  ∧ (∀ (s : State) (k : Fin 128) (j : Job) (x : Delivery), s.dev.launched = true → s.dev.cfg.plans = [] → s.dev.alm.jobs = [j] → s.dev.alm.deliveries = [x] →
    x.core = k.val → x.preempt = true → x.job = j.id → s.dev.cfg.pto ≤ (s.dev.time.tick - x.tick).toNat →
    ∃ t, exec (.ptoExpiry k) s = .next t ∧ t.dev.alm.jobs = [{ j with st := .ready, runat := 0xFF, excluded := j.excluded ++ [k.val] }]
      ∧ t.dev.alm.deliveries = [] ∧ t.dev.alm.ptoExpiries = s.dev.alm.ptoExpiries + 1
      ∧ t.dev.cores[k] = { s.dev.cores[k] with ipend := s.dev.cores[k].ipend &&& 0xE })
  ∧ (∀ (s : State) (c u : Nat) (j : Job) (cause : Sys2Proof.FaultCause), s.dev.launched = true → s.dev.cfg.plans = [] → s.dev.present c u = true → 5 ≤ c → c ≤ 9 → u < 16 →
    s.dev.alm.jobs = [j] → j.st = .dispatched → j.pool = c → j.runat = u → j.deferred = [] → j.noretry = false →
    ∃ t j', exec (.unitFault c u cause) s = .next t ∧ t.dev.alm.jobs = [j'] ∧ j'.st = .ready ∧ j'.redisp = true ∧ j'.runat = 0xFF ∧ j'.id = j.id
      ∧ j'.order = j.order)
  ∧ (∀ (s : State) (c u : Nat), s.dev.launched = true → s.dev.cfg.plans = [] →
    let code := unitDomain c u
    (((s.dev.dom code).st ≠ .stopping ∨ (s.dev.dom code).step ≠ .drain ∨ s.dev.domDrained code = false) → exec (.drained c u) s = .next s)
    ∧ ((s.dev.dom code).st = .stopping → (s.dev.dom code).step = .drain → s.dev.domDrained code = true →
        ∃ t, exec (.drained c u) s = .next t ∧ t.dev = (s.dev.domClose code).settlePlans))

/-- In a device that has started, with no plan under way and one queue: SEGMENT_REFILL of the queue with fewer than 128
entries on chip brings 64 more on chip, at most all, and with 128 or more changes nothing; RECORD_ECC_ERROR of entries
of that open queue removes exactly those entries and adds their number to OVERRUN; of an identifier that names nothing
it changes nothing. (09_almanac_scheduler.md, R244; 09_almanac_scheduler.md, R245) -/
def Obligations.SpilledAndLostRecords : Prop :=
  ∀ (s : State) (q : Queue), s.dev.launched = true → s.dev.cfg.plans = [] → s.dev.alm.queues = [q] → q.closing = false →
    (q.chip < 128 → exec (.segmentRefill (.queue q.id)) s = .next { s with dev := { s.dev with alm := { s.dev.alm with
        queues := [{ q with chip := min q.entries.length (q.chip + 64) }] } } })
    ∧ (128 ≤ q.chip → exec (.segmentRefill (.queue q.id)) s = .next s)
    ∧ (∀ first count, s.dev.alm.procs = [] → q.overrun.toNat + q.entries.length < 2 ^ 32 → first + count ≤ q.entries.length →
        ∃ t q', exec (.recordEccError (.entries q.id first count)) s = .next t ∧ t.dev.alm.queues = [q']
          ∧ q'.entries = q.entries.take first ++ q.entries.drop (first + count) ∧ q'.overrun.toNat = q.overrun.toNat + count)
    ∧ (∀ id, s.dev.alm.known id = false → exec (.recordEccError (.object id)) s = .next s)

/-- TICK_EDGE answers a next state in which the tick number is one higher modulo 2^40; inside a frame (not its last
edge) the edge index is one higher, air time is at the edge, every core with WDOG PERIOD not 0 in a running domain
counts one tick more and every other core and memory, the Chiop, link and Almanac state stay as they were.
(02_timing_and_deadlines.md, R46; 03_signal_cores.md, R94) -/
def Obligations.TickEdgeCountsTicks : Prop :=
  ∀ (s : State), let tm := s.dev.time
    tm.tickIdx + 1 < edgesPerFrame tm.tickCode →
    ∃ t, exec .tickEdge s = .next t ∧ t.dev.time.tick = tm.tick + 1 ∧ t.dev.time.tickIdx = tm.tickIdx + 1 ∧ t.dev.time.tickCode = tm.tickCode
      ∧ t.dev.time.edgeAt = tm.nextEdge ∧ (tm.air < airWrap → airPast tm.air tm.nextEdge = false → t.dev.time.air = tm.nextEdge)
      ∧ (∀ k : Fin 128, t.dev.cores[k] = if s.dev.cores[k].wdog ≠ 0 ∧ s.dev.domRun (0x100 + k.val) = true
          then { s.dev.cores[k] with wdogTicks := s.dev.cores[k].wdogTicks + 1 } else s.dev.cores[k])
      ∧ t.dev.mem = s.dev.mem ∧ t.dev.chiop = s.dev.chiop ∧ t.dev.alm = s.dev.alm ∧ t.dev.link = s.dev.link ∧ t.pending = s.pending

/-- In a device that has started, on a PRESENT engine whose domain is in Run and that runs a job, the row of the job's
MODE (for an engine whose checker finds no fault, and taps without errors) answers a next state in which the last
completion reported to Almanac is this job's, from this pool and unit, with a result of the engines' tables as its
status. A row of another MODE, and any row on an engine that runs no job, leaves the device as it is.
(05_transform_and_equaliser.md, R125, R136 with Table 5.7; 06_ldpc_and_polar.md, R151; 07_trellis_engine.md, R175;
08_transmit_chain.md, R194; 09_almanac_scheduler.md, R239) -/
def Obligations.EngineJobsCompleteWithAReport : Prop :=
  ∀ (s : State) (j : Job) (u : Nat) (u16 : Fin 16) (u12 : Fin 12) (u8 : Fin 8) (u4 : Fin 4), s.dev.launched = true →
    let mode := fun (pool n : Nat) => pf (s.dev.descOf pool u j n) 0 1
    let runs := fun (pool : Nat) => s.dev.engineJob pool u = some j
    let done := fun (i : Instr) (pool : Nat) => ∃ t r, exec i s = .next t ∧ t.dev.alm.reports.getLast? = some ⟨pool, u, j.id, BitVec.ofNat 32 r⟩
      ∧ r ∈ [0, 1, 0x10, 0x11, 0x12, 0x13, 0x14, 0x15, 0x16]
    (u16.val = u → ∀ row ∈ ([(Instr.fft u16, 1), (.ifft u16, 2), (.dftsRx u16, 3), (.ofdmRx u16, 5), (.ofdmTx u16, 6), (.prach u16, 7),
        (.srs u16, 8), (.chan u16, 9), (.synth u16, 10)] : List (Instr × Nat)),
      (runs 3 → mode 3 48 = row.2 → done row.1 3)
      ∧ (runs 3 → mode 3 48 ≠ row.2 → mode 3 48 ∈ [1, 2, 3, 5, 6, 7, 8, 9, 10] → exec row.1 s = .next s)
      ∧ (s.dev.engineJob 3 u = none → exec row.1 s = .next s))
    ∧ (u16.val = u → runs 4 → (mode 4 64 = 1 → done (.est u16) 4) ∧ (mode 4 48 = 2 → done (.apply u16 []) 4) ∧ (mode 4 48 = 3 → done (.demap u16) 4))
    ∧ (u12.val = u → runs 5 → ∀ n, done (.ldpcDecode u12 ⟨true, n⟩) 5)
    ∧ (u4.val = u → runs 6 → done (.ldpcEncode u4 true) 6)
    ∧ (u4.val = u → ∀ row ∈ ([(Instr.decUci u4 true, 1), (.decRm u4 true, 2), (.decSmall u4 true, 3), (.encDci u4 true, 4), (.encBch u4 true, 5)] : List (Instr × Nat)),
        runs 7 → mode 7 48 = row.2 → done row.1 7)
    ∧ (u4.val = u → ∀ row ∈ ([(Instr.viterbi u4 true, 1), (.mlseGmsk u4 true, 3), (.mlse8psk u4 true, 4)] : List (Instr × Nat)),
        runs 8 → mode 8 48 = row.2 → done row.1 8)
    ∧ (u4.val = u → runs 8 → mode 8 48 = 2 → ∀ n, done (.turbo u4 ⟨true, n⟩) 8)
    ∧ (u8.val = u → j.gateJob = false → ∀ row ∈ ([(Instr.build u8, 1), (.encode u8, 2), (.burst u8, 3), (.edge u8, 4)] : List (Instr × Nat)),
        runs 9 → mode 9 32 = row.2 → done row.1 9)
    ∧ (u8.val = u → j.gateJob = true → runs 9 → done (.gate u8) 9)

/-- In a device that has started, on an engine that runs a job: a transform job with MODE 0, 4 or above 10 (by the row
FFT), a polar job with MODE 0 or above 5 (by DEC_UCI) and a trellis job with MODE 0 or above 4 (by VITERBI) answer the
next state in which a 16-byte status word with RESULT 0x10 has been written at byte 32 of the descriptor, where the
engine may reach it, and the job is reported with 0x10; nothing else changes. That these rows take such jobs is the
model's choice (log entry 71). (05_transform_and_equaliser.md, R136 with Table 5.7; 06_ldpc_and_polar.md, Table 6.8;
07_trellis_engine.md, Table 7.1) -/
def Obligations.UnlistedModesCompleteWithBadDesc : Prop :=
  ∀ (s : State) (j : Job) (u16 : Fin 16) (u4 : Fin 4), s.dev.launched = true →
    let bad := fun (i : Instr) (pool u : Nat) => ∃ w : List Byte, w.length = 16 ∧ w.head? = some 0x10
      ∧ exec i s = .next { s with dev := (s.dev.engOut (engineNi pool u) (pf (s.dev.descOf pool u j 48) 32 8) w).engReport pool u j 0x10 }
    (s.dev.engineJob 3 u16.val = some j → pf (s.dev.descOf 3 u16.val j 48) 0 1 ∉ [1, 2, 3, 5, 6, 7, 8, 9, 10] → bad (.fft u16) 3 u16.val)
    ∧ (s.dev.engineJob 7 u4.val = some j → pf (s.dev.descOf 7 u4.val j 48) 0 1 ∉ [1, 2, 3, 4, 5] → bad (.decUci u4 true) 7 u4.val)
    ∧ (s.dev.engineJob 8 u4.val = some j → pf (s.dev.descOf 8 u4.val j 48) 0 1 ∉ [1, 2, 3, 4] → bad (.viterbi u4 true) 8 u4.val)

/-- In a device that has started whose memory has its canonical form and whose HARQ area holds neither range, on a polar
engine that runs a job: the row of its MODE answers a next state in which every byte outside the output range (ceil(A/8)
bytes for a decoder, ceil(E/8) for an encoder, at byte 24 of the descriptor) and the 16 bytes of the status word (at
byte 32) reads as before, and no core, link, Chiop or lane state changes. (06_ldpc_and_polar.md, Tables 6.8 to 6.10;
06_ldpc_and_polar.md, R161; 12_memory.md, R306) -/
def Obligations.PolarJobsWriteOnlyOutputAndStatus : Prop :=
  ∀ (s : State) (j : Job) (u : Fin 4), s.dev.launched = true → s.dev.engineJob 7 u.val = some j → s.dev.mem.wf = true →
    let b := s.dev.descOf 7 u.val j 48
    let dst := pf b 24 8
    let stat := pf b 32 8
    let len := ((if 4 ≤ pf b 0 1 then pf b 4 4 else pf b 2 2) + 7) / 8
    (∀ x, (dst ≤ x ∧ x < dst + len) ∨ (stat ≤ x ∧ x < stat + 16) → s.dev.mem.inHarq x = false) →
    ∀ row ∈ ([(Instr.decUci u true, 1), (.decRm u true, 2), (.decSmall u true, 3), (.encDci u true, 4), (.encBch u true, 5)] : List (Instr × Nat)),
      pf b 0 1 = row.2 → ∃ t, exec row.1 s = .next t
        ∧ (∀ x, ¬ (dst ≤ x ∧ x < dst + len) → ¬ (stat ≤ x ∧ x < stat + 16) → t.dev.mem.byte x = s.dev.mem.byte x)
        ∧ t.dev.cores = s.dev.cores ∧ t.dev.link = s.dev.link ∧ t.dev.chiop = s.dev.chiop ∧ t.dev.cfg = s.dev.cfg

/-- On an equaliser engine in service that runs a class B or C job other than DEMAP while it holds one class A job not
started that need not wait for an EST or APPLY, EQUALISER_PREEMPT answers a next state in which the running job is
paused and the class A job runs; where the other job is of another class or must wait it leaves the device as it is. In
a started device TALLY_AGE_CLOSE of an open tally older than the age limit answers a next state with that tally closed,
and otherwise leaves the device as it is. (05_transform_and_equaliser.md, R148; 06_ldpc_and_polar.md, R163) -/
def Obligations.EqualiserPreemptAndTallyAge : Prop :=
  (∀ (s : State) (j x : Job) (u : Fin 16), s.dev.alm.jobs = [j, x] → s.dev.engineJob 4 u.val = some j → j.cls ≠ 0 →
    pf (s.dev.descOf 4 u.val j 48) 0 1 ≠ 3 → x.id ≠ j.id →
    (x.st = .dispatched → x.pool = 4 → x.runat = u.val → x.cls = 0 → x.started = false → s.dev.mayStart 4 u.val x = true →
      ∃ t x', exec (.equaliserPreempt u) s = .next t ∧ t.dev.alm.jobs = [{ j with started := false, paused := true }, x'] ∧ x'.id = x.id
        ∧ x'.started = true ∧ x'.paused = false ∧ x'.st = .dispatched ∧ x'.runat = u.val)
    ∧ ((x.cls ≠ 0 ∨ s.dev.mayStart 4 u.val x = false) → exec (.equaliserPreempt u) s = .next s))
  ∧ (∀ (s : State) (n : Fin 1024), s.dev.launched = true →
    let y := s.dev.tallyRec n.val
    (y.st = .opened → s.dev.cfg.tallyAge < (s.dev.time.tick - y.tick).toNat →
      ∃ t, exec (.tallyAgeClose n) s = .next t ∧ (t.dev.tallyRec n.val).st = .closed ∧ t.dev.alm = s.dev.alm ∧ t.dev.cores = s.dev.cores)
    ∧ ((y.st ≠ .opened ∨ (s.dev.time.tick - y.tick).toNat ≤ s.dev.cfg.tallyAge) → exec (.tallyAgeClose n) s = .next s))

/-- In a powered device, a register write by the NI that owns an assigned channel and reaches its block answers the next
state in which only that channel changes: DOORBELL in REG mode or with 64 chains queued sets DBOVF, on a busy or halted
channel queues the chain, on an idle one with an empty queue reads the 64-byte descriptor and begins its block; ABORT of
a running block ends it with ABORTED; RESUME of a halted channel without a chain to flush clears HALT; RETRY in REG mode
runs the active set again; SHADOW_WRITE puts its bytes into SHADOW and clears ARM; ARM sets ARM, and on an idle REG-mode
channel hands SHADOW over to a new block. A write by another NI changes nothing. (11_dma.md, R280, R281; 11_dma.md,
R283; 11_dma.md, R294; 11_dma.md, R296) -/
def Obligations.DmaRegisterWritesActOnTheirChannel : Prop :=
  ∀ (s : State) (e : Fin 8) (n : Fin 320) (ni : Fin 256), s.dev.up = true →
    let c := s.dev.dmaChan e.val n.val
    let ok := fun (off len : Nat) => s.dev.reach ni.val ni.val (0x30000000 + e.val * 0x10000 + n.val * 128 + off) len = 0
    let set := fun (c' : DmaChan) => (Host.Outcome.next { s with dev := { s.dev with dma := { s.dev.dma with chan := s.dev.dma.chan.set (dmaIdx e.val n.val) c' } } } : Host.Outcome State Fault Refusal)
    (s.dev.dmaOwned ni.val e.val n.val = true →
      (∀ addr : DWord, ok 8 8 →
        ((c.mode = true ∨ 64 ≤ c.queue.length) → exec (.doorbell e n ni addr) s = set { c with dbovf := true })
        ∧ (c.mode = false → c.queue.length < 64 → c.idle = false → exec (.doorbell e n ni addr) s = set { c with queue := c.queue ++ [addr] })
        ∧ (c.mode = false → c.queue = [] → c.idle = true → addr.toNat % 64 = 0 → s.dev.reach (216 + e.val) c.owner addr.toNat 64 = 0 →
            s.dev.mem.poisoned addr.toNat 64 = false →
            ∃ r, exec (.doorbell e n ni addr) s = set { c with run := some r } ∧ r.desc = s.dev.mem.ifBytes addr.toNat 64 ∧ r.at_ = addr ∧ r.written = 0))
      ∧ (∀ (v : Word) (r : DmaRun), ok 0 4 → c.run = some r → r.done = none → exec (.abort e n ni v) s = set { c with run := some { r with done := some (0x25, 0) } })
      ∧ (∀ v : Word, ok 0 4 → c.halt = true → c.run = none → c.queue = [] → (c.failed = none ∨ c.mode = true) →
          exec (.resume e n ni v) s = set { c with halt := false, failed := none })
      ∧ (∀ v : Word, ok 0 4 → c.halt = true → c.run = none → c.mode = true → v.getLsbD 3 = false →
          ∃ r, exec (.retry e n ni v) s = set { c with halt := false, failed := none, run := some r } ∧ r.desc = c.active)
      ∧ (∀ (off : Fin 64) (bytes : List Byte), bytes ≠ [] → ok (0x40 + off.val) (bytes.take (64 - off.val)).length →
          exec (.shadowWrite e n ni off bytes) s = set { c with armed := false, shadow := (List.range c.shadow.length).map (fun x =>
            if off.val ≤ x ∧ x < off.val + (bytes.take (64 - off.val)).length then bytes.getD (x - off.val) 0 else c.shadow.getD x 0) })
      ∧ (ok 0x3C 4 → (c.idle = false ∨ c.mode = false) → exec (.arm e n ni) s = set { c with armed := true })
      ∧ (ok 0x3C 4 → c.idle = true → c.mode = true → ∃ r, exec (.arm e n ni) s = set { c with active := c.shadow, armed := false, taken := true, run := some r }
          ∧ r.desc = c.shadow))
    ∧ (s.dev.dmaOwned ni.val e.val n.val = false → ∀ (addr : DWord) (v : Word) (off : Fin 64) (bytes : List Byte),
      ∀ i ∈ [Instr.doorbell e n ni addr, .abort e n ni v, .resume e n ni v, .retry e n ni v, .shadowWrite e n ni off bytes, .arm e n ni],
        exec i s = .next s)

/-- In a powered device with no self-test waiting, for a channel other than C255 with a COPY block in progress without
error, whose turn it is in its engine: with nothing read and not yet written, a beat that its target answers takes the
next packet of the rounded source range into the buffer, its data bytes alone; a lost one ends the block with READ_ERR
and TIMEOUT; with a whole write packet in the buffer, a beat that its target takes writes exactly these bytes at the
destination, counts them, and with the last byte the block is done with OK. No other channel changes. Out of its turn a
beat changes nothing. Where the control engine serves no burst and has passed no channel over 64 times, the channel
whose turn it is has the highest PRIO of those ready. (11_dma.md, R286; 11_dma.md, R287; 11_dma.md, R290, R292;
11_dma.md, R293 with Table 11.9; 11_dma.md, R295) -/
def Obligations.DmaBeatsMoveTheBlock : Prop :=
  ∀ (s : State) (e : Fin 8) (n : Fin 320) (r : DmaRun), s.dev.up = true → s.dev.health.testQueue = [] → n.val ≠ 319 →
    let c := s.dev.dmaChan e.val n.val
    c.run = some r → r.done = none → r.readFail = none → r.check = false →
    (s.dev.dmaTurn e.val n.val = false → exec (.dmaBeatResponse e n .none .none false) s = .next s)
    ∧ (64 ≤ n.val → s.dev.dmaTurn e.val n.val = true → (s.dev.dmaTurns e.val).serving = none → (∀ x ∈ (s.dev.dmaTurns e.val).passed, x.2 < 64) →
        ∀ k ∈ s.dev.dmaReady e.val, (s.dev.dmaChan e.val k).prio ≤ c.prio)
    ∧ (s.dev.dmaTurn e.val n.val = true →
    let set := fun (r' : DmaRun) (m : Memory) => (Host.Outcome.next { s with dev := { s.dev with
      dma := { (s.dev.dmaTake e.val n.val).dma with chan := s.dev.dma.chan.set (dmaIdx e.val n.val) { c with run := some r' } }, mem := m } } : Host.Outcome State Fault Refusal)
    let a := r.readBase + r.readPos
    let k := min (r.readSize - r.readPos) (512 - a % 512)
    let w := r.dst + r.written
    let q := min (r.total - r.written) (512 - w % 512)
    (r.buf = [] → exec (.dmaBeatResponse e n .lost .none false) s = set { r with done := some (0x22, 7) } s.dev.mem)
    ∧ (r.buf = [] → r.saved = none → r.crcSel = 0 → r.store = false → s.dev.reach (216 + e.val) c.owner a k = 0 → s.dev.mem.poisoned a k = false →
        let bs := ((s.dev.mem.ifBytes a k).take (min k (r.src + r.len - a))).drop (r.src - a)
        ∃ r', exec (.dmaBeatResponse e n .none .none false) s = set r' s.dev.mem ∧ r'.readPos = r.readPos + k ∧ r'.got = r.got + bs.length
          ∧ r'.buf = bs ∧ r'.written = r.written ∧ r'.desc = r.desc ∧ r'.done = none)
    ∧ (0 < q → q ≤ r.buf.length → s.dev.reach (216 + e.val) c.owner w q = 0 → s.dev.mem.partialPoison w q = false →
        exec (.dmaBeatResponse e n .none .none false) s = set { r with
          written := r.written + q, buf := r.buf.drop q, okBytes := min r.len (r.written + q),
          done := if r.written + q = r.total then some (0, 0) else none } (s.dev.mem.ifWrite w (r.buf.take q))))

/-- In a powered device, for a channel other than C255 in DESC mode that is not flushing and whose engine serves no
burst and whose block is done, with no status word, queue entry, event or chain asked for and without overlap: a block
done with OK on a channel with no queued chain answers the next state in which the channel is idle with LASTRESULT 0;
with any other result it is halted, keeps the failed block, and LASTRESULT and LASTDETAIL hold the result. Nothing else
changes. A channel without a finished block stays as it is. (11_dma.md, R293; 11_dma.md, R294) -/
def Obligations.DmaBlocksComplete : Prop :=
  ∀ (s : State) (e : Fin 8) (n : Fin 320), s.dev.up = true → n.val ≠ 319 →
    let c := s.dev.dmaChan e.val n.val
    (s.dev.dmaTurns e.val).serving = none →
    let set := fun (c' : DmaChan) => (Host.Outcome.next { s with dev := { s.dev with dma := { s.dev.dma with chan := s.dev.dma.chan.set (dmaIdx e.val n.val) c' } } } : Host.Outcome State Fault Refusal)
    (∀ (r : DmaRun) (res det : Nat), c.run = some r → r.done = some (res, det) → c.mode = false → c.flushing = false →
      r.flag 0 = false → r.flag 1 = false → r.flag 2 = false → r.flag 3 = false → r.overlaps = false →
      (res = 0 → c.queue = [] → exec (.dmaBlockComplete e n) s = set { c with run := none, lastResult := 0, lastDetail := det })
      ∧ (res ≠ 0 → exec (.dmaBlockComplete e n) s = set { c with run := none, halt := true, failed := some r, lastResult := res, lastDetail := det }))
    ∧ ((∀ r, c.run = some r → r.done = none) → exec (.dmaBlockComplete e n) s = .next s)

/-- In a device in service with no self-test waiting, for an NI whose shell is open, that holds no request, may send one
and has a valid itinerary over whole links to an open shell: RD of data memory, cluster memory or global SRAM within
Table 10.6 takes the lowest free tag and sets an answer with STATUS OK and the bytes on its way; WR stores its bytes and
is answered OK; MSG_PACKET to a port other than Almanac's is delivered and answered. Lost on its way it gets no answer
and has no effect, and one that meets traffic has entered the rings, on the virtual channel of its itinerary, and has no
effect yet; a request that breaks Table 10.6 completes at once with DECODE; an NI whose shell is closed or absent sends
nothing. (10_ringroad.md, R255, R256, R257; 10_ringroad.md, R266; 10_ringroad.md, R268; 10_ringroad.md, R275 with Table
10.13; 12_memory.md, R300, R306) -/
def Obligations.RingroadRequestsReachTheirTarget : Prop :=
  ∀ (s : State) (src : Fin 256) (dl : Bool), s.dev.up = true → s.dev.mode.mode ≠ 9 → s.dev.health.testQueue = [] →
    let ni := s.dev.niRec src.val
    let sent := fun (kind len : Nat) (dst : Nat) (addr : DWord) => (⟨ni.freeTag, BitVec.ofNat 8 kind, BitVec.ofNat 8 dst, BitVec.ofNat 16 len, addr, s.dev.time.air⟩ : Trans)
    (ni.shell = .open_ → ni.held = [] → s.dev.ring.works = none → s.dev.ring.net.worms = [] →
      (∀ (addr : DWord) (r : Region), regionOf addr.toNat = some r → r.kind = .coreData ∨ r.kind = .cluster ∨ r.kind = .sram →
        let dst := regionNi r addr.toNat
        entryValid (s.dev.entry src.val dst) = true → s.dev.pathCut src.val dst = false → s.dev.shellSays dst = 0 →
        (∀ len : Half, badRequest 1 addr.toNat len.toNat = false → ni.canSend 1 len.toNat = true → oneRegion addr.toNat len.toNat = true →
            s.dev.mem.poisoned addr.toNat len.toNat = false →
          (∃ t, exec (.rd src addr len dl .none .none) s = .next t ∧ t.dev.mem = s.dev.mem
            ∧ (t.dev.niRec src.val).trans = ni.trans ++ [sent 1 len.toNat dst addr]
            ∧ t.dev.ring.answers = s.dev.ring.answers ++ [⟨dst, src.val, 0x81, 0, ni.freeTag, s.dev.mem.ifBytes addr.toNat len.toNat, addr⟩])
          ∧ (∀ m ∈ [Sys2Proof.Mishap.lost, .slow], ∃ t, exec (.rd src addr len dl m .none) s = .next t ∧ t.dev.mem = s.dev.mem ∧ t.dev.ring.answers = s.dev.ring.answers
            ∧ (t.dev.niRec src.val).trans = ni.trans ++ [sent 1 len.toNat dst addr]
            ∧ (let vc := requestVc (s.dev.entry src.val dst) (s.dev.marksDl src.val dl)
               let p : Packet := { route := routeWord (s.dev.entry src.val dst) vc, kind := 1, len := len.toNat, src := src.val, dst := dst, tag := ni.freeTag, dl := s.dev.marksDl src.val dl, addr := addr }
               t.dev.ring.net.worms.map (fun w => (w.pkt, w.from_)) = (if m = .slow then [(p, src.val)] else []))))
        ∧ (∀ data : List Byte, badRequest 2 addr.toNat data.length = false → ni.canSend 2 data.length = true → oneRegion addr.toNat data.length = true →
            s.dev.mem.partialPoison addr.toNat data.length = false →
          ∃ t, exec (.wr src addr data dl .none .none) s = .next t ∧ t.dev.mem = s.dev.mem.ifWrite addr.toNat data
            ∧ (t.dev.niRec src.val).trans = ni.trans ++ [sent 2 data.length dst addr]
            ∧ t.dev.ring.answers = s.dev.ring.answers ++ [⟨dst, src.val, 0x82, 0, ni.freeTag, [], addr⟩]))
      ∧ (∀ (dst : Fin 256) (data : List Byte), dst.val ≠ 253 → entryValid (s.dev.entry src.val dst.val) = true → s.dev.pathCut src.val dst.val = false →
          s.dev.shellSays dst.val = 0 → ni.canSend 3 32 = true →
          ∃ t, exec (.msgPacket src dst data dl .none) s = .next t ∧ t.dev.mem = s.dev.mem
            ∧ t.dev.ring.messages = s.dev.ring.messages ++ [(dst.val, padTo 32 data)]
            ∧ t.dev.ring.answers = s.dev.ring.answers ++ [⟨dst.val, src.val, 0x83, 0, ni.freeTag, [], 0⟩])
      ∧ (∀ (addr : DWord) (len : Half) (r : Region), regionOf addr.toNat = some r → badRequest 1 addr.toNat len.toNat = true →
          ∃ t, exec (.rd src addr len dl .none .none) s = .next t ∧ t.dev.niRec src.val = { ni with last := some (ni.freeTag, 4, []) }
            ∧ t.dev.mem = s.dev.mem ∧ t.dev.ring.answers = s.dev.ring.answers))
    ∧ ((ni.shell = .closed ∨ ni.shell = .absent) → ∀ (addr : DWord) (len : Half) (data : List Byte) (dst : Fin 256),
        exec (.rd src addr len dl .none .none) s = .next s ∧ exec (.wr src addr data dl .none .none) s = .next s
        ∧ exec (.msgPacket src dst data dl .none) s = .next s)

/-- In a device in service, for a requester with an open shell and no held request, and no packet on the rings: where
one answer of the row's KIND for its tag is on its way from a target with an open shell over whole links, and the
transaction is open, the response row answers a next state in which the answer is gone, the tag is free and the
transaction's outcome is the answer's status and data (LINK and no data where it came poisoned); where the tag is not
open it is discarded and counted. TRANSACTION_TIMEOUT of an open tag whose 64 us have passed completes it with TIMEOUT.
CLOSING_TIMEOUT closes a closing shell and frees its tags; any other shell stays. (10_ringroad.md, R257, R267;
10_ringroad.md, R269; 10_ringroad.md, R270; 10_ringroad.md, R277) -/
def Obligations.RingroadResponsesAndTimeouts : Prop :=
  (∀ (s : State) (dst : Fin 256) (tag : Byte) (a : Answer), s.dev.up = true → s.dev.mode.mode ≠ 9 → s.dev.ring.answers = [a] → a.dst = dst.val → a.tag = tag →
    a.target < 256 → (s.dev.niRec a.target).shell = .open_ → (s.dev.niRec dst.val).shell = .open_ → (s.dev.niRec dst.val).held = [] →
    s.dev.pathCut a.target dst.val = false → s.dev.ring.net.worms = [] →
    let ni := s.dev.niRec dst.val
    ∀ row ∈ ([(Instr.rdRsp, 0x81), (Instr.wrRsp, 0x82), (Instr.msgRsp, 0x83), (Instr.maintRdRsp, 0x84), (Instr.maintWrRsp, 0x85)] :
        List ((Fin 256 → Byte → Sys2Proof.Mishap → Instr) × Nat)), a.kind = row.2 →
      ((∃ x ∈ ni.trans, x.tag = tag) → ∀ m ∈ [Sys2Proof.Mishap.none, .poison], ∃ t, exec (row.1 dst tag m) s = .next t ∧ t.dev.ring.answers = []
        ∧ t.dev.mem = s.dev.mem
        ∧ (let st := if m = .poison then 5 else a.status
           t.dev.niRec dst.val = { ni with trans := ni.trans.filter (fun x => x.tag != tag), last := some (tag, st, if st = 0 then a.data else []) }))
      ∧ ((∀ x ∈ ni.trans, x.tag ≠ tag) → ∃ t, exec (row.1 dst tag .none) s = .next t ∧ t.dev.ring.answers = []
        ∧ t.dev.niRec dst.val = { ni with stray := ni.stray + 1 }))
  ∧ (∀ (s : State) (src : Fin 256) (tag : Byte) (x : Trans), s.dev.up = true → s.dev.mode.mode ≠ 9 → (s.dev.niRec src.val).shell = .open_ →
    (s.dev.niRec src.val).held = [] → (s.dev.niRec src.val).trans = [x] → x.tag = tag → airPast s.dev.time.air ((x.sent + usToTc 64) % airWrap) = true →
    ∃ t, exec (.transactionTimeout src tag) s = .next t ∧ t.dev.niRec src.val = { s.dev.niRec src.val with trans := [], last := some (tag, 7, []) }
      ∧ t.dev.mem = s.dev.mem)
  ∧ (∀ (s : State) (ni : Fin 256), s.dev.up = true → s.dev.mode.mode ≠ 9 →
    ((s.dev.niRec ni.val).shell = .closing → ∃ t, exec (.closingTimeout ni) s = .next t
      ∧ t.dev.niRec ni.val = { s.dev.niRec ni.val with shell := .closed, trans := [], held := [] }
      ∧ t.dev.ring.answers = s.dev.ring.answers.map (fun a => if a.target = ni.val then { a with status := 1, data := [] } else a))
    ∧ ((s.dev.niRec ni.val).shell ≠ .closing → exec (.closingTimeout ni) s = .next s))

/-- In a device in service with no packet on the rings where a maintenance packet is sent: MAINT_RD by a control core of
a DMA channel is answered with its CHCTL; MAINT_WR by a control core to an idle DMA channel assigns it to the OWNER of
the value; neither by any other NI changes anything. ROADWORKS_START with one NI and one new entry, while none is under
way, stores that entry unused with GEN one higher and awaits two marks on VC0 and VC2 and one on VC1; a second start
changes nothing. The awaited marks set DRAINED; ROADWORKS_COMMIT then makes the entry the NI's itinerary; the VC1 mark
ends the roadworks. Before DRAINED a commit changes nothing. With no failed link ROADWORKS_TIMEOUT changes nothing.
(10_ringroad.md, R255, R261; 10_ringroad.md, R272, R273, R274; 11_dma.md, R280) -/
def Obligations.MaintenanceMarksAndRoadworks : Prop :=
  ∀ (s : State), s.dev.up = true → s.dev.mode.mode ≠ 9 →
    (∀ (k : Fin 8) (e : Fin 8) (n : Fin 320) (v : DWord),
      let src : Fin 256 := ⟨245 + k.val, by omega⟩
      let ni : Fin 256 := ⟨216 + e.val, by omega⟩
      (s.dev.niRec src.val).shell = .open_ → s.dev.pathCut src.val ni.val = false → s.dev.ring.net.worms = [] →
      ((s.dev.niRec src.val).canSend 4 8 = true → ∃ t, exec (.maintRd src ni (.channel n) .none) s = .next t ∧ t.dev.ring.answers = s.dev.ring.answers ++
          [⟨ni.val, src.val, 0x84, 0, (s.dev.niRec src.val).freeTag, bytesOf 8 (s.dev.dmaChan e.val n.val).ctl, 0⟩])
      ∧ ((s.dev.niRec src.val).canSend 5 8 = true → (s.dev.dmaChan e.val n.val).idle = true → n.val ≠ 319 →
          ∃ t, exec (.maintWr src ni (.channel n) v .none) s = .next t ∧ (t.dev.dmaChan e.val n.val).assigned = true
            ∧ (t.dev.dmaChan e.val n.val).owner = v.toNat / 65536 % 256
            ∧ t.dev.ring.answers = s.dev.ring.answers ++ [⟨ni.val, src.val, 0x85, 0, (s.dev.niRec src.val).freeTag, [], 0⟩]))
    ∧ (∀ (src ni : Fin 256) (reg : Sys2Proof.MaintReg) (v : DWord) (m : Sys2Proof.Mishap), (src.val < 245 ∨ 252 < src.val) →
        exec (.maintRd src ni reg m) s = .next s ∧ exec (.maintWr src ni reg v m) s = .next s)
    ∧ (∀ (ring : Fin 9) (j : Fin 32) (k dst : Fin 256) (e : DWord), s.dev.ring.works = none → ∃ t, exec (.roadworksStart ring j [(k.val, [(dst.val, e)])] [] []) s = .next t
        ∧ t.dev.ring.works = some { ring := ring.val, junction := j.val, nis := [k.val], expected := 2, expected1 := 1, drained := false, removes := [], adds := [] }
        ∧ t.dev.niRec k.val = { s.dev.niRec k.val with newItin := [(dst.val, withGen (s.dev.entry k.val dst.val) e)] })
    ∧ (∀ w : Roadworks, s.dev.ring.works = some w →
        (∀ (ring : Fin 9) (j : Fin 32) (changes : List (Nat × List (Nat × DWord))) (adds removes : List Sys2Proof.LinkId),
          exec (.roadworksStart ring j changes adds removes) s = .next s)
        ∧ (w.counted < w.expected → w.adds = [] → exec (.mark false) s = .next { s with dev := { s.dev with ring := { s.dev.ring with
            works := some { w with counted := w.counted + 1, drained := decide (w.counted + 1 = w.expected) } } } })
        ∧ (w.committed = true → w.counted1 + 1 = w.expected1 → w.removes = [] → exec (.mark true) s = .next { s with dev := { s.dev with
            ring := { s.dev.ring with works := none, failedAt := none } } })
        ∧ (w.drained = false → exec .roadworksCommit s = .next s)
        ∧ (∀ k : Fin 256, w.drained = true → w.committed = false → 0 < w.expected1 → w.nis = [k.val] → (s.dev.niRec k.val).held = [] →
            ∃ t, exec .roadworksCommit s = .next t ∧ t.dev.ring.works = some { w with committed := true }
              ∧ (let n := s.dev.niRec k.val
                 t.dev.niRec k.val = { n with itin := n.newItin ++ n.itin.filter (fun e => !(n.newItin.any (fun x => x.1 == e.1))), newItin := [] }))
        ∧ (∀ at_ : Nat, s.dev.ring.failedAt = some at_ → airPast s.dev.time.air ((at_ + usToTc 10) % airWrap) = true → w.committed = true →
            s.dev.ring.links.filter (fun r => r.failed && !r.removed) = [] →
            exec .roadworksTimeout s = .next { s with dev := { s.dev with ring := { s.dev.ring with works := none, failedAt := none } } }))
    ∧ (s.dev.ring.failedAt = none → exec .roadworksTimeout s = .next s)

/-- In a device in service: a flit that a junction forms, of its ring's width, passes the check and FLIT_CRC_ERROR
changes nothing; of a flit whose CRC is wrong FLIT_CRC_ERROR on a link that exists and has no record adds one with one
replay and one failure; on a link with a record it counts a replay, and the third failure in succession of one flit
fails the link; on a failed link it changes nothing. SCRUB that finds an uncorrectable word in the store of a PRESENT
unit in Run, with no self-test able to start, marks it poisoned; a clean one, or one outside the stores, changes nothing
where no self-test waits. (10_ringroad.md, R254, R270; 12_memory.md, R306, R307) -/
def Obligations.LinkErrorsAndScrub : Prop :=
  ∀ (s : State) (l : Sys2Proof.LinkId) (f : Sys2Proof.RxFlit), s.dev.up = true → s.dev.mode.mode ≠ 9 →
    (∀ (data : List Byte) (low : Fin 256), data.length = flitBytes l.ring → flitGood l.ring (mkFlit data low.val) = true)
    ∧ (flitGood l.ring f = true → exec (.flitCrcError l f) s = .next s)
    ∧ (linkExists s.dev.part l = true → flitGood l.ring f = false →
      ((s.dev.ring.links.find? (fun r => r.link == l)) = none → ∃ t, exec (.flitCrcError l f) s = .next t
        ∧ t.dev.ring.links.find? (fun r => r.link == l) = some { link := l, run := 1, replays := 1, failed := false })
      ∧ (∀ old : LinkRec, (s.dev.ring.links.find? (fun r => r.link == l)) = some old → old.failed = false → old.removed = false →
          ∃ t, exec (.flitCrcError l f) s = .next t ∧ (let n := if f.again then old.run + 1 else 1
            t.dev.ring.links.find? (fun r => r.link == l) = some { old with run := n, replays := old.replays + 1, failed := decide (3 ≤ n) }))
      ∧ (∀ old : LinkRec, (s.dev.ring.links.find? (fun r => r.link == l)) = some old → old.failed = true → exec (.flitCrcError l f) s = .next s))
    ∧ (s.dev.health.testQueue = [] → ∀ addr : DWord,
        exec (.scrub addr .none) s = .next s
        ∧ (storeUnit addr.toNat = none → ∀ e, exec (.scrub addr e) s = .next s)
        ∧ (∀ c u off, storeUnit addr.toNat = some (c, u) → s.dev.present c u = true → s.dev.domRun (unitDomain c u) = true →
            ∃ t, exec (.scrub addr (.uncorrectable off)) s = .next t ∧ codeWordOf addr.toNat ∈ t.dev.mem.poison))

/-- LOS_ENTRY at a working Ecner lane sets LOS and LOF and sends the receiver to HUNT with no candidates; LOS_EXIT
clears LOS alone; at a working ETHERNET lane, or at a working port without or with the defect, they set and clear the
defect named; at a lane that does not work both change nothing. DEFECT_WINDOW_END judges the oldest window that has
ended by the lane's four thresholds; with none it changes nothing. DR_INCONSISTENT sets the defect after 12 frames
without an accepted pair, else nothing. HOLDOFF_EXPIRY, due, raises FAIL, or DEGRADE where no FAIL is delayed;
WTR_EXPIRY, due, ends the RESTORE_WAIT; with none running they change nothing. (13_ecner_framing.md, R336, R337, R347;
13_ecner_framing.md, R340, R343; 15_ethernet_and_host_port.md, R370) -/
def Obligations.LaneDefectsAndRequests : Prop :=
  ∀ (s : State) (l : Fin 32), let d := s.dev
    (d.laneUp l.val = true → d.laneMode l.val = 1 →
      (∃ t, exec (.losEntry (.lane l)) s = .next t ∧ (t.dev.lane l.val).rx.los = true ∧ (t.dev.lane l.val).rx.lof = true
        ∧ (t.dev.lane l.val).rx.align = .hunt ∧ (t.dev.lane l.val).rx.cands = [] ∧ t.dev.cores = d.cores)
      ∧ (∃ t, exec (.losExit (.lane l)) s = .next t ∧ (t.dev.lane l.val).rx.los = false
        ∧ (t.dev.lane l.val).rx.lof = (d.lane l.val).rx.lof ∧ (t.dev.lane l.val).rx.align = (d.lane l.val).rx.align))
    ∧ (d.laneUp l.val = true → d.laneMode l.val = 2 → ∀ f : Sys2Proof.EthDefect,
      (∃ t, exec (.losEntry (.eth l f)) s = .next t ∧ (t.dev.lane l.val).rx.defect (ethLaneBit f) = true
        ∧ ((f = .los ∨ f = .lof) → (t.dev.lane l.val).rx.align = .hunt))
      ∧ (∃ t, exec (.losExit (.eth l f)) s = .next t ∧ (t.dev.lane l.val).rx.defect (ethLaneBit f) = false))
    ∧ (d.laneUp l.val = false → ∀ f : Sys2Proof.EthDefect,
      exec (.losEntry (.lane l)) s = .next s ∧ exec (.losExit (.lane l)) s = .next s
        ∧ exec (.losEntry (.eth l f)) s = .next s ∧ exec (.losExit (.eth l f)) s = .next s)
    ∧ (∀ (p : Fin 4) (f : Sys2Proof.EthDefect), d.portUp p.val = true →
      (∃ t, exec (.losEntry (.port p f)) s = .next t ∧ (t.dev.ethPort p.val).defect f = true)
      ∧ (∃ t, exec (.losExit (.port p f)) s = .next t ∧ (t.dev.ethPort p.val).defect f = false))
    ∧ ((d.lane l.val).rx.windows = [] → exec (.defectWindowEnd l) s = .next s)
    ∧ (∀ (w : Nat × Nat) (rest : List (Nat × Nat)), (d.lane l.val).rx.windows = w :: rest → ∃ t, exec (.defectWindowEnd l) s = .next t ∧
        (let old := (d.lane l.val).rx
         let r := (t.dev.lane l.val).rx
         let sf := if !old.sf ∧ (d.laneField l.val 12 2 ≤ w.1 ∨ 64 ≤ w.2) then true
           else if old.sf ∧ w.1 < d.laneField l.val 14 2 ∧ w.2 = 0 then false else old.sf
         r.windows = rest ∧ r.sf = sf
         ∧ r.sd = (if !old.sd ∧ !sf ∧ d.laneField l.val 8 2 ≤ w.1 then true
           else if old.sd ∧ w.1 < d.laneField l.val 10 2 then false else old.sd)
         ∧ r.los = old.los ∧ r.lof = old.lof ∧ r.lom = old.lom ∧ r.align = old.align))
    ∧ (12 ≤ (d.lane l.val).rx.drSince → ∃ t, exec (.drInconsistent l) s = .next t ∧ (t.dev.lane l.val).rx.drBad = true)
    ∧ ((d.lane l.val).rx.drSince < 12 → exec (.drInconsistent l) s = .next s)
    ∧ (∀ g c, d.laneGroup l.val = some (g, c) →
      (∀ at_, (d.lane l.val).rx.failSince = some at_ → airPast d.time.air ((at_ + d.holdoff g) % airWrap) = true →
        exec (.holdoffExpiry l) s = .next { s with dev := d.updRx l.val (fun r => { r with failSince := none, fail := true }) })
      ∧ (∀ at_, (d.lane l.val).rx.failSince = none → (d.lane l.val).rx.degSince = some at_ →
          airPast d.time.air ((at_ + d.holdoff g) % airWrap) = true →
        exec (.holdoffExpiry l) s = .next { s with dev := d.updRx l.val (fun r => { r with degSince := none, deg := true }) }))
    ∧ ((d.lane l.val).rx.failSince = none → (d.lane l.val).rx.degSince = none → exec (.holdoffExpiry l) s = .next s)
    ∧ (∀ g : Fin 16, ((d.group g.val).wtr = none → exec (.wtrExpiry g) s = .next s)
      ∧ (∀ w, (d.group g.val).wtr = some w → airPast d.time.air w.2 = true →
          exec (.wtrExpiry g) s = .next { s with dev := d.updGroup g.val (fun x => { x with wtr := none }) }))

/-- At a working Ecner lane without LOS, at or before the present: in HUNT a clean Waymark at an offset makes it a
candidate and the state PRESYNC; a candidate with two good frames whose MS goes on enters SYNC with LOF clear; in SYNC
the fourth frame in succession with more than 3 errors in the Waymark enters HUNT with LOF; with LOS, or at a lane that
does not work, nothing changes. ECNER_FRAME_TRANSMIT at a working transmitter whose frame is due, with no self-test
waiting: the frame number, its start and MS go on by one; its overhead of 24 bytes holds MAINT (while a self-test takes
the line up), CFGT and MS, the parity of the frame before, TS and two GCC bytes. CONTAINER_DUE of a symbol whose due
event has come leaves no downlink stream of the cell undecided and offers a BLANK for one that had nothing; of no cell
it does nothing. (13_ecner_framing.md, R321, R322, R324, R326; 13_ecner_framing.md, R336; 13_ecner_framing.md, R330) -/
def Obligations.EcnerFramesAndContainers : Prop :=
  (∀ (s : State) (l : Fin 32) (f : Sys2Proof.RxFrame), let d := s.dev
    let r := (d.lane l.val).rx
    let ms := rawMs f
    ((d.laneUp l.val = false ∨ d.laneMode l.val ≠ 1 ∨ r.los = true) → airPast d.time.air f.at_ = true →
      exec (.ecnerFrameReceive l f) s = .next s)
    ∧ (d.laneUp l.val = true → d.laneMode l.val = 1 → r.los = false → airPast d.time.air f.at_ = true →
      (r.align = .hunt → r.cands = [] → waymarkErrors f = 0 → ∃ t, exec (.ecnerFrameReceive l f) s = .next t
          ∧ (t.dev.lane l.val).rx = { r with cands := [⟨f.off, ms, 0⟩], align := .presync }
          ∧ (t.dev.lane l.val).tx = (d.lane l.val).tx ∧ t.dev.mem = d.mem)
      ∧ (∀ m, r.align = .presync → r.cands = [⟨f.off, m, 2⟩] → waymarkErrors f = 0 → ms = (m + 1) % 64 →
          ∃ t, exec (.ecnerFrameReceive l f) s = .next t ∧ (t.dev.lane l.val).rx.align = .sync ∧ (t.dev.lane l.val).rx.lof = false
            ∧ (t.dev.lane l.val).rx.ms = ms ∧ (t.dev.lane l.val).rx.cands = [⟨f.off, ms, 3⟩])
      ∧ (∀ m k, r.align = .sync → r.cands = [⟨f.off, m, k⟩] → 3 < waymarkErrors f → r.bad = 3 →
          ∃ t, exec (.ecnerFrameReceive l f) s = .next t ∧ (t.dev.lane l.val).rx.align = .hunt ∧ (t.dev.lane l.val).rx.lof = true
            ∧ (t.dev.lane l.val).rx.bad = 0)))
  ∧ (∀ (s : State) (l : Fin 32), let d := s.dev
    (d.lane l.val).tx.on = true → d.laneMode l.val = 1 → d.laneUp l.val = true → airPast d.time.air ((d.lane l.val).tx.tsAt 0) = true →
      d.health.testQueue = [] →
      let old := (d.lane l.val).tx.catchUp d.time.air
      ∃ t, exec (.ecnerFrameTransmit l) s = .next t ∧ (let x := (t.dev.lane l.val).tx
        x.frame = old.frame + 1 ∧ x.next = (old.next + frameStep) % microWrap ∧ x.ms = (old.ms + 1) % 64 ∧ x.on = old.on
        ∧ x.cfgt = (old.cfgt != old.cfgtDue) ∧ x.gcc = old.gcc.drop 2 ∧ x.sentHead.length = 24
        ∧ x.sentHead.take 2 = [BitVec.ofNat 8 (128 * boolNat (d.lineTest l.val) + 64 * boolNat (old.cfgt != old.cfgtDue) + old.ms), BitVec.ofNat 8 old.bip]
        ∧ (x.sentHead.drop 5).take 8 = msbOf 8 (d.time.stampAt (old.tsAt 0)).toNat
        ∧ (x.sentHead.drop 18).take 2 = padTo 2 (old.gcc.take 2 ++ List.replicate 2 0x7E)))
  ∧ (∀ (s : State) (c : Cell) (cell start sym : Nat), let d := s.dev
    let at_ := d.time.symStart c.cr.type start sym
    d.cell? cell = some c → c.inService = true → start < airWrap → 0 ≤ airDiff start c.since → (d.time.slotSpan c.cr.type start).1 = start →
      sym < slotSymbols c.cr.type → d.time.symDown c.cr start sym = true → airPast d.time.air (dueOf c.cr at_) = true →
      airDiff d.time.air at_ < (usToTc 20000 : Nat) →
      ∃ t, exec (.containerDue cell start sym) s = .next t
        ∧ (∀ e ∈ d.streamsFor at_, e.down = true → e.cell = cell → (e.sid, at_) ∈ t.dev.link.made
            ∧ ((e.sid, at_) ∉ d.link.made → ((d.carried e.lane).1 || (d.carried e.lane).2) = true →
                ∃ o ∈ t.dev.link.out, o.sid = e.sid ∧ o.at_ = at_ ∧ o.kind = 4 ∧ o.last = true ∧ o.body = []))
        ∧ t.dev.mem = d.mem)
  ∧ (∀ (s : State) (cell start sym : Nat), s.dev.cell? cell = none → exec (.containerDue cell start sym) s = .next s)

/-- At a lane in ETHERNET personality with its link up, at or before the present: a type 0 or type 2 message without E =
1, or shorter than 4 bytes, is counted as discarded; a type 2 message with E = 1 sets the sequence number expected next;
a type 0 one that carries no whole container header is discarded as not fitting; one whose container fits, belongs to an
uplink stream of a serving cell that has selected this lane, and comes in its time and for the first time is delivered.
A delay request is answered with a response that holds its identifier. ECPRI_STATE_SEND 100 µs after the last sends one
real-time control message of type 2 and notes the time. ECPRI_MESSAGE_TRANSMIT of a measurement sends a request of type
5 and remembers it; of a gate word with none waiting nothing. ETHERNET_LINK_UP at a working lane without LOS ends LOF;
at a working port without LOS and link brings the link up. At a lane without a link the five change nothing.
(13_ecner_framing.md, R348; 13_ecner_framing.md, R318; 15_ethernet_and_host_port.md, R377, R378) -/
def Obligations.EcpriMessages : Prop :=
  (∀ (s : State) (l : Fin 32) (m : Sys2Proof.EcpriMsg), let d := s.dev
    let x := d.lane l.val
    let seq := msbNat ((m.payload.drop 2).take 2)
    (d.ethLaneUp l.val = false → exec (.ecpriIqData l m) s = .next s ∧ exec (.ecpriRealTimeControl l m) s = .next s
      ∧ exec (.ecpriDelayMeasurement (.lane l m)) s = .next s ∧ exec (.ecpriStateSend l) s = .next s
      ∧ ∀ w, exec (.ecpriMessageTransmit l w) s = .next s)
    ∧ (d.ethLaneUp l.val = true → airPast d.time.air m.at_ = true →
      (∀ row ∈ ([(Instr.ecpriIqData, 0), (Instr.ecpriRealTimeControl, 2)] : List ((Fin 32 → Sys2Proof.EcpriMsg → Instr) × Nat)),
        m.type = row.2 → (m.payload.length < 4 ∨ bitAt seq 7 = false) → exec (row.1 l m) s = .next { s with dev := d.discard l.val 8 })
      ∧ (m.type = 2 → 4 ≤ m.payload.length → bitAt seq 7 = true → ∃ t, exec (.ecpriRealTimeControl l m) s = .next t
          ∧ (t.dev.lane l.val).rx.seqs.find? (fun y => y.1 == msbNat (m.payload.take 2)) = some (msbNat (m.payload.take 2), (seq / 256 + 1) % 256)
          ∧ (t.dev.lane l.val).rx.drops = x.rx.drops ∧ t.dev.mem = d.mem)
      ∧ (m.type = 0 → 4 ≤ m.payload.length → m.payload.length < 12 → bitAt seq 7 = true → ∃ t, exec (.ecpriIqData l m) s = .next t
          ∧ (t.dev.lane l.val).rx.drops = Nat.min 0xFFFF (x.rx.drops + 1) ∧ (t.dev.lane l.val).rx.disc[(4 : Fin 10)] = Nat.min 0xFFFFFFFF (x.rx.disc[(4 : Fin 10)] + 1)
          ∧ t.dev.mem = d.mem)
      ∧ (∀ (e : StreamRec) (z : Cell) (at_ start sym : Nat), let c := rxContOf ((m.payload.drop 4).take 8) (m.payload.drop 12) false false
          m.type = 0 → 12 ≤ m.payload.length → bitAt seq 7 = true → m.full = false → c.fits = true →
          d.rxEntry c.sid c.tag m.at_ = some (e, some (at_, start, sym)) → d.selectedLane e = l.val → d.sfClass l.val = false → d.cell? e.cell = some z →
          z.inService = true → 0 ≤ airDiff start z.since → e.kind = c.kind → 1 ≤ c.kind → c.kind ≤ 3 → 0 ≤ airDiff m.at_ at_ →
          airAhead at_ m.at_ ≤ airAhead at_ (d.time.symStart z.cr.type start (sym + 1)) + usToTc (d.laneField l.val 18 2) →
          d.link.delivered.any (fun y => y.1 == c.sid && y.2.1 == c.tag && y.2.2.1 == c.ofs && decide (airAhead y.2.2.2 m.at_ < usToTc 2000)) = false →
          ∃ t, exec (.ecpriIqData l m) s = .next t ∧ (c.sid, c.tag, c.ofs, m.at_) ∈ t.dev.link.delivered
            ∧ (t.dev.lane l.val).rx.drops = x.rx.drops ∧ t.dev.cores = d.cores)
      ∧ (m.type = 5 → (pf m.payload 1 1 = 0 ∨ pf m.payload 1 1 = 1) → ∃ t, exec (.ecpriDelayMeasurement (.lane l m)) s = .next t
          ∧ (t.dev.lane l.val).tx.sent = d.laneFrame l.val (ecpriMsg 5 (m.payload.take 1 ++ [2] ++ ecpriStamp (d.time.taiNs m.at_) ++ List.replicate 8 0))
          ∧ (t.dev.lane l.val).rx = x.rx)
      ∧ (airPast d.time.air ((x.tx.stateAt + usToTc 100) % airWrap) = true → ∃ t w, exec (.ecpriStateSend l) s = .next t
          ∧ (t.dev.lane l.val).tx.stateAt = d.time.air
          ∧ (t.dev.lane l.val).tx.sent = d.laneFrame l.val (ecpriMsg 2 (msbOf 2 0x0FFF ++ seqId (nextSeq x.tx.seqs 0x0FFF).1 ++ msbOf 4 w ++ msbOf 8 d.stamp.toNat)))
      ∧ (∃ t, exec (.ecpriMessageTransmit l .measure) s = .next t
          ∧ (t.dev.lane l.val).tx.ask = some (x.tx.askNext, d.time.taiNs d.time.air)
          ∧ (t.dev.lane l.val).tx.askNext = (x.tx.askNext + 1) % 256 ∧ (t.dev.lane l.val).rx = x.rx
          ∧ (t.dev.lane l.val).tx.sent = d.laneFrame l.val (ecpriMsg 5 (bytesOf 1 x.tx.askNext ++ [0] ++ ecpriStamp (d.time.taiNs d.time.air) ++ List.replicate 8 0)))
      ∧ (x.tx.msgs = [] → exec (.ecpriMessageTransmit l .gate) s = .next s ∧ exec (.ecpriMessageTransmit l .second) s = .next s)))
  ∧ (∀ (s : State) (l : Fin 32), s.dev.laneUp l.val = true → s.dev.laneMode l.val = 2 → (s.dev.lane l.val).rx.los = false →
      ∃ t, exec (.ethernetLinkUp (.lane l)) s = .next t ∧ (t.dev.lane l.val).rx.lof = false ∧ (t.dev.lane l.val).rx.align = .sync)
  ∧ (∀ (s : State) (p : Fin 4), s.dev.portUp p.val = true → (s.dev.ethPort p.val).los = false → (s.dev.ethPort p.val).link = false →
      ∃ t, exec (.ethernetLinkUp (.port p)) s = .next t ∧ (t.dev.ethPort p.val).link = true ∧ (t.dev.ethPort p.val).lof = false)

/-- At a working port with its link up, at or before the present: a frame with a wrong FCS or shorter than 64 bytes
counts FCSERR, one beyond the MTU counts too big, a control frame counts CTRL, and none of them changes anything else. A
frame for the host into a descriptor that the host gave and that is large enough goes to its buffer, and the head moves
on; with no descriptor it is dropped and counted. A management frame with a command from a known peer joins the
interpreter's arrivals. ETH_FRAME_TRANSMIT sends the first of the port's own frames before any of the host's.
RING_NOTIFY with completions to tell of and none told in the last 16 µs raises the ring's vector once; with none it
changes nothing. Without the link no frame changes anything. (15_ethernet_and_host_port.md, R372, R373, R374, R376;
22_host_registers.md, R539) -/
def Obligations.PortFramesAndRings : Prop :=
  (∀ (s : State) (p : Fin 4) (f : Sys2Proof.EthFrame), let d := s.dev
    let x := ethParts f.bytes
    let n := f.bytes.length + 4
    let e := d.ethPort p.val
    ((d.portUp p.val = false ∨ e.link = false) → exec (.ethFrameReceive p f) s = .next s ∧ exec (.managementFrame p f) s = .next s)
    ∧ (d.portUp p.val = true → e.link = true → airPast d.time.air f.at_ = true →
      ((f.fcsOk = false ∨ n < 64) → exec (.ethFrameReceive p f) s = .next { s with dev := d.updEth p.val (fun e => { e with fcsErr := Nat.min 0xFFFF (e.fcsErr + 1) }) })
      ∧ (f.fcsOk = true → 64 ≤ n → d.portField p.val 10 2 + 22 < n →
          exec (.ethFrameReceive p f) s = .next { s with dev := d.updEth p.val (fun e => { e with tooBig := Nat.min 0xFFFF (e.tooBig + 1) }) })
      ∧ (f.fcsOk = true → 64 ≤ n → n ≤ d.portField p.val 10 2 + 22 → x.etype = 0x8808 →
          exec (.ethFrameReceive p f) s = .next { s with dev := d.updEth p.val (fun e => { e with ctrl := Nat.min 0xFFFF (e.ctrl + 1) }) })
      ∧ (f.fcsOk = true → 64 ≤ n → n ≤ d.portField p.val 10 2 + 22 → x.etype = d.portField p.val 16 2 → x.etype ≠ 0x8808 → x.etype ≠ 0x88F7 →
          d.portRole p.val 2 = true → x.dst = List.replicate 6 0xFF → ∀ i, d.peerOf p.val x = some i → pf x.body 0 1 = 1 → pf x.body 2 2 ≤ 256 →
          exec (.managementFrame p f) s = .next { s with dev := { d with chiop := { d.chiop with mgmtIn := d.chiop.mgmtIn ++ [1 + 4 * p.val + i] } } })
      ∧ (f.fcsOk = true → 64 ≤ n → n ≤ d.portField p.val 10 2 + 22 → x.etype ≠ d.portField p.val 16 2 → x.etype ≠ 0x8808 → x.etype ≠ 0x88F7 →
          x.etype ≠ 0xAEFE → d.portRole p.val 0 = true → x.dst = List.replicate 6 0xFF →
          let r := d.portRing p.val
          let a := descAddr r.rxBase r.rxHead.toNat
          let b := d.mem.ifBytes a 32
          let data := if x.tag.isSome then f.bytes.take 12 ++ f.bytes.drop 16 else f.bytes
          (r.rxen = false → exec (.ethFrameReceive p f) s = .next { s with dev := d.updEth p.val (fun e => { e with rxDrop := Nat.min 0xFFFF (e.rxDrop + 1) }) })
          ∧ (r.rxen = true → r.rxStop = false → r.rxHead ≠ r.rxTail → d.ni244 = true → bitAt (pf b 10 1) 0 = true → data.length ≤ pf b 8 2 →
              ∃ t, exec (.ethFrameReceive p f) s = .next t ∧ (t.dev.ethPort p.val).rxHost = Nat.min 0xFFFFFFFF (e.rxHost + 1)
                ∧ (t.dev.portRing p.val).rxHead = BitVec.ofNat 16 ((r.rxHead.toNat + 1) % r.rxSize.toNat) ∧ (t.dev.portRing p.val).rxNotify = true
                ∧ t.dev.mem = (((((d.mem.ifWrite (hostAddr (pf b 0 8)) data).ifWrite (a + 8) (bytesOf 2 data.length)).ifWrite (a + 11)
                    (bytesOf 1 0 ++ bytesOf 2 (x.tag.getD 0))).ifWrite (a + 16) (bytesOf 8 d.stamp.toNat)).ifWrite (a + 10) (bytesOf 1 (4 * boolNat x.tag.isSome)))))))
  ∧ (∀ (s : State) (p : Fin 4), let d := s.dev
    let r := d.portRing p.val
    (∀ (q : EthTx), d.portUp p.val = true → (d.ethPort p.val).link = true → (d.ethPort p.val).queue = [q] →
      exec (.ethFrameTransmit p) s = .next { s with dev := d.updEth p.val (fun e => { e with queue := [], sent := q.bytes }) })
    ∧ (d.portUp p.val = false → exec (.ethFrameTransmit p) s = .next s)
    ∧ (r.txTold = none → r.txNotify = true → exec (.ringNotify p true) s = .next { s with dev :=
        (d.updPort p.val (fun r => { r with txNotify := false, txTold := some d.time.air })).raiseVector (7 + p.val) })
    ∧ (r.rxTold = none → r.rxNotify = true → exec (.ringNotify p false) s = .next { s with dev :=
        (d.updPort p.val (fun r => { r with rxNotify := false, rxTold := some d.time.air })).raiseVector (3 + p.val) })
    ∧ (∀ (u : Nat), r.txTold = some u → r.txNotify = true → airPast d.time.air ((u + usToTc 16) % airWrap) = true →
        exec (.ringNotify p true) s = .next { s with dev := (d.updPort p.val (fun r => { r with txNotify := false, txTold := some d.time.air })).raiseVector (7 + p.val) })
    ∧ (r.txNotify = false → exec (.ringNotify p true) s = .next s) ∧ (r.rxNotify = false → exec (.ringNotify p false) s = .next s))

/-- An edge with PPS not selected only uses up the number announced for it; one with no second known for it changes
nothing; the first edge of an announced second is accepted and numbered; in LOCKED one more than 1 µs off is rejected.
PPS_LOSS after 1.5 s ends the delivery, and LOCKED by PPS alone becomes HOLDOVER. SOURCE_DISAGREEMENT after 16 edges
starts the count anew, before that nothing. A PTP message at a port that PTP does not serve changes nothing; an announce
sets the port's state; a one-step Sync at the slave port in use gives the phase error against the path's delay, a two-
step one waits for its Follow_Up, a Delay_Resp gives the delay, a Delay_Req is answered by a master. PTP_TRANSMIT queues
the message the port's state sends; ANNOUNCE_TIMEOUT puts the port back to listening. A GSM timeslot boundary that is
due is counted, one beyond the next tick edge is not. PM_SECOND, due, counts the second, puts the committed thresholds
into force and starts the groups' counts anew. (02_timing_and_deadlines.md, R39, R42, R43; 21_pins_and_electrical.md,
R521, R522; 14_link_performance.md, R352, R367) -/
def Obligations.TimeSources : Prop :=
  (∀ (s : State) (at_ : Nat), let d := s.dev
    let t0 := d.time
    airPast t0.air at_ = true →
      (t0.sel.getLsbD 0 = false → exec (.ppsEdge at_) s = .next { s with dev := { d with time := { t0 with ppsNext := none } } })
      ∧ (t0.ppsNum = none → t0.ppsNext = none → exec (.ppsEdge at_) s = .next s)
      ∧ (∀ n, t0.sel.getLsbD 0 = true → t0.ppsNext = some n → t0.ppsNum = none → t0.ppsLast = none → t0.tq ≠ .locked → ∃ t, exec (.ppsEdge at_) s = .next t
          ∧ t.dev.time.ppsLast = some (at_ % airWrap) ∧ t.dev.time.ppsNum = some n ∧ t.dev.time.ppsNext = none ∧ t.dev.time.ppsDelivering = true
          ∧ t.dev.time.ppsPhase = airDiff (at_ % airWrap) (gpsAir n) ∧ t.dev.time.air = t0.air ∧ t.dev.mem = d.mem)
      ∧ (∀ n, t0.sel.getLsbD 0 = true → t0.ppsNext = some n → t0.ppsNum = none → t0.tq = .locked → beyond1us (airDiff (at_ % airWrap) (gpsAir n)) = true →
          exec (.ppsEdge at_) s = .next { s with dev := { d with time := { t0 with ppsNext := none } } }))
  ∧ (∀ s : State, let d := s.dev
    let t0 := d.time
    (t0.ppsLast = none → exec .ppsLoss s = .next s) ∧ (t0.ppsDelivering = false → exec .ppsLoss s = .next s)
    ∧ (∀ a, t0.ppsLast = some a → t0.ppsDelivering = true → 15 * secondTc ≤ airAhead a t0.air * 10 → ∃ t, exec .ppsLoss s = .next t
        ∧ t.dev.time.ppsDelivering = false ∧ t.dev.time.ppsGood = 0 ∧ (t0.used = 1 → t0.tq = .locked → t0.sel.getLsbD 1 = false → t.dev.time.tq = .holdover))
    ∧ (t0.disagree < 16 → exec .sourceDisagreement s = .next s)
    ∧ (16 ≤ t0.disagree → ∃ t, exec .sourceDisagreement s = .next t ∧ t.dev.time = { t0 with disagree := 0 } ∧ t.dev.cfg = d.cfg))
  ∧ (∀ (s : State) (p : Fin 4), let d := s.dev
    let e := d.ethPort p.val
    (d.ptpUp p.val = false → (∀ m, exec (.ptpMessage p m) s = .next s) ∧ (∀ m, exec (.ptpTransmit p m) s = .next s)
      ∧ exec (.announceTimeout p) s = .next s)
    ∧ (d.ptpUp p.val = true →
      (∀ st f b, ∃ t, exec (.ptpMessage p (.announce st f b)) s = .next t ∧ (t.dev.ethPort p.val).ptp = st.val ∧ t.dev.time.air = d.time.air)
      ∧ (∀ at_ seq origin corr m, e.ptp = 2 → e.pathDelay = some m → d.time.sel.getLsbD 1 = true → d.ptpBest = some p.val →
          ∃ t, exec (.ptpMessage p (.sync at_ false seq origin corr)) s = .next t ∧ t.dev.time.ptpDelivering = true
            ∧ t.dev.time.ptpPhase = tcOf (cycDiff (65536 * ((airNs at_ : Nat) - ptpNs origin) - corr) - m) ∧ t.dev.cfg = d.cfg)
      ∧ (∀ at_ seq origin corr, e.ptp = 2 → ∃ t, exec (.ptpMessage p (.sync at_ true seq origin corr)) s = .next t
          ∧ (t.dev.ethPort p.val).sync2 = some (seq, airNs at_, corr) ∧ t.dev.time = d.time)
      ∧ (∀ at_ seq origin c corr, e.sync2 = some (seq, at_, c) → e.pathDelay = none → ∃ t, exec (.ptpMessage p (.followUp seq origin corr)) s = .next t
          ∧ (t.dev.ethPort p.val).masterToSlave = some (cycDiff (65536 * ((at_ : Nat) - ptpNs origin) - (c + corr))) ∧ t.dev.time = d.time)
      ∧ (∀ at_ seq src corr, e.ptp = 3 → d.portField p.val 13 1 = 1 → ∃ t, exec (.ptpMessage p (.delayReq at_ seq src corr)) s = .next t
          ∧ (t.dev.ethPort p.val).queue = e.queue ++ [⟨2, padFrame (d.portFrame p.val (ptpDest p.val) 0x88F7
              (d.ptpPdu p.val 9 0 seq corr 0xFC (ecpriStamp (d.time.taiNs at_) ++ padTo 10 (src.take 10))))⟩])
      ∧ (∀ seq left ms x corr, e.reqOut = some (seq, left) → e.masterToSlave = some ms → ∃ t,
          exec (.ptpMessage p (.delayResp seq x (d.ptpIdentity p.val) corr)) s = .next t ∧ (t.dev.ethPort p.val).reqOut = none
            ∧ (t.dev.ethPort p.val).pathDelay = some ((ms + cycDiff (65536 * (ptpNs x - ((left : Int) - 19000000000)) - corr)) / 2))
      ∧ exec (.ptpMessage p .other) s = .next s
      ∧ (e.ptp = 3 → d.portField p.val 13 1 = 1 →
          (∃ t, exec (.ptpTransmit p .sync) s = .next t ∧ (t.dev.ethPort p.val).syncSeq = e.syncSeq + 1
            ∧ (t.dev.ethPort p.val).queue = e.queue ++ [⟨1, padFrame (d.portFrame p.val (ptpDest p.val) 0x88F7
                (d.ptpPdu p.val 0 0 e.syncSeq 0 0xFC (List.replicate 10 0)))⟩])
          ∧ (∃ t, exec (.ptpTransmit p .announce) s = .next t ∧ (t.dev.ethPort p.val).announceSeq = e.announceSeq + 1
            ∧ (t.dev.ethPort p.val).queue = e.queue ++ [⟨2, padFrame (d.portFrame p.val (ptpDest p.val) 0x88F7
                (d.ptpPdu p.val 11 (d.announceBody p.val).1 e.announceSeq 0 0xFD (d.announceBody p.val).2))⟩]))
      ∧ (e.ptp = 2 → ∃ t, exec (.ptpTransmit p .delayReq) s = .next t ∧ (t.dev.ethPort p.val).reqSeq = e.reqSeq + 1
          ∧ (t.dev.ethPort p.val).queue = e.queue ++ [⟨1, padFrame (d.portFrame p.val (ptpDest p.val) 0x88F7
              (d.ptpPdu p.val 1 0 e.reqSeq 0 0x7F (List.replicate 10 0)))⟩])
      ∧ (∃ t, exec (.announceTimeout p) s = .next t ∧ (t.dev.ethPort p.val).ptp = 1 ∧ t.dev.time.air = d.time.air)))
  ∧ (∀ s : State, let d := s.dev
    let n := d.time.gsmSlots + 1
    let at_ := ((n * 14745600 / 13) % (airWrap : Nat)).toNat
    (airPast d.time.air at_ = true → exec .gsmTimeslotEvent s = .next { s with dev := { d with time := { d.time with gsmSlots := n } } })
    ∧ (airPast d.time.air at_ = false → d.time.nextEdgeIn < airAhead d.time.air at_ → exec .gsmTimeslotEvent s = .next s))
  ∧ (∀ s : State, let d := s.dev
    let n := d.link.second + 1
    let at_ := ((n * (secondTc : Nat)) % (airWrap : Nat)).toNat
    (airPast d.time.air at_ = true → ∃ t, exec .pmSecond s = .next t ∧ t.dev.link.second = n ∧ t.dev.link.thresholds = d.cfg.thresholds
      ∧ (∀ g < 16, (t.dev.group g).switches = 0) ∧ t.dev.cfg = d.cfg ∧ t.dev.time.air = d.time.air)
    ∧ (airPast d.time.air at_ = false → d.time.nextEdgeIn < airAhead d.time.air at_ → exec .pmSecond s = .next s))

/-- A boundary that is due, with no MODE_REQUEST held: during a start the counter stays and the next boundary is set,
and once the start is complete M4 follows; in M3 the counter goes on by one; in M9 nothing. CUT_COMPLETE marks the cut
complete. MODE_REQUEST_TIMEOUT 20 ms after a request into service that still awaits domains answers it with TIMEOUT and
the mode stays; with none held it does nothing. A window edge moves both slack records to the snapshot and clears them;
in M9 nothing. CLASS_A_MISS takes one signal and starts a boost: VCORE is commanded to V_CEIL; in a boost it is counted;
with no signal nothing. The start event of an uplink slot of a serving cell without a plan records that it runs without
one; of an unknown cell nothing. (16_chiop_commands.md, R402, R407; 17_operating_modes.md, R424;
02_timing_and_deadlines.md, R47, R49, R51, R52; 16_chiop_commands.md, R545) -/
def Obligations.BoundariesWindowsAndSlots : Prop :=
  (∀ s : State, let d := s.dev
    let c := d.chiop
    d.up = true → airPast d.time.air c.nextAt = true →
      (d.mode.mode = 9 → exec .epochBoundary s = .next s)
      ∧ (d.mode.req = none → (d.mode.mode = 1 ∨ d.mode.mode = 2) →
        (d.mode.startDone = false → exec .epochBoundary s = .next { s with dev := d.nextEpoch c.nextAt false })
        ∧ (d.mode.startDone = true → ∃ t, exec .epochBoundary s = .next t ∧ t.dev.mode.mode = 4 ∧ t.dev.mode.startDone = false
            ∧ t.dev.chiop.epoch = c.epoch ∧ t.dev.chiop.boundary = c.nextAt ∧ t.dev.cfg = d.cfg))
      ∧ (d.mode.req = none → d.mode.mode = 3 → ∃ t, exec .epochBoundary s = .next t ∧ t.dev.chiop.epoch = c.epoch + 1 ∧ t.dev.chiop.boundary = c.nextAt
          ∧ t.dev.chiop.nextAt = (c.nextAt + epochTc t.dev.chiop.gran) % airWrap ∧ t.dev.chiop.prevCut = c.cut ∧ t.dev.chiop.cutDone = false ∧ t.dev.mode = d.mode))
  ∧ (∀ s : State, exec .cutComplete s = .next { s with dev := { s.dev with chiop := { s.dev.chiop with cutDone := true } } })
  ∧ (∀ s : State, let d := s.dev
    (d.mode.req = none → exec .modeRequestTimeout s = .next s)
    ∧ (∀ (r : ModeReq) (x : Held) (crc : Word), d.up = true → d.mode.req = some r → r.target = 6 → r.allRunAt = none → (d.mode.mode = 4 ∨ d.mode.mode = 5) →
        airPast d.time.air ((r.readAt + 20 * 1966080) % airWrap) = true → r.chan < 17 → d.cfg.plans = [] → d.alm.procs = [] →
        (d.chan r.chan).held = [x] → x.seq = r.seq → x.op = 0x0807 → x.place = none → (d.chan r.chan).store = [⟨r.seq, crc, none⟩] →
        ∃ t, exec .modeRequestTimeout s = .next t ∧ t.dev.mode = { d.mode with req := none } ∧ (t.dev.chan r.chan).held = []
          ∧ (t.dev.chan r.chan).store = [⟨r.seq, crc, some (mkReply 0x0807 r.seq d.chiop.epoch 0x0109 (errDetail 0xFFFF 0 0 0))⟩]))
  ∧ (∀ s : State, let d := s.dev
    let w := d.time.subframes
    (d.mode.mode = 9 → exec .slackWindowEdge s = .next s)
    ∧ (d.up = true → d.mode.mode ≠ 9 → w ≠ d.slack.recA.window → ∃ t, exec .slackWindowEdge s = .next t
        ∧ t.dev.slack.snapA = d.slack.recA ∧ t.dev.slack.snapB = d.slack.recB ∧ t.dev.slack.recA = { window := w } ∧ t.dev.slack.recB = { window := w }
        ∧ t.dev = { d with slack := t.dev.slack })
    ∧ (d.almRuns = true → d.cfg.plans = [] →
      (d.slack.signals = 0 → exec .classAMiss s = .next s)
      ∧ (0 < d.slack.signals → d.slack.boost = false → d.thermal.limit = false → d.slack.vLost = false → ∃ t, exec .classAMiss s = .next t
          ∧ t.dev.slack.signals = d.slack.signals - 1 ∧ t.dev.slack.boost = true ∧ t.dev.slack.triggers = d.slack.triggers + 1
          ∧ t.dev.slack.vcore = 10 * d.slack.cfg.vCeil ∧ t.dev.slack.phase = .write ∧ t.dev = { d with slack := t.dev.slack })
      ∧ (0 < d.slack.signals → d.slack.boost = true → d.slack.boostDone = false → exec .classAMiss s = .next { s with dev := { d with slack := { d.slack with
          signals := d.slack.signals - 1, triggers := d.slack.triggers + 1, boostInWindow := true } } })))
  ∧ (∀ (s : State) (cell start : Nat) (down full : Bool) (sym : Byte), s.dev.cfg.plans = [] → s.dev.planCell cell = none →
      exec (.slotSymbolEvent cell down start ⟨sym, full⟩) s = .next s)
  ∧ (∀ (s : State) (c : Cell) (cell start : Nat), let d := s.dev
    let span := d.time.slotSpan c.cr.type start
    d.almRuns = true → d.cfg.plans = [] → d.cell? cell = some c → c.inService = true → span.1 = start →
      airPast d.time.air (d.time.symStart c.cr.type start 0) = true → airPast d.time.air span.2 = false → d.time.carries c.cr start false = true →
      exec (.slotSymbolEvent cell false start ⟨0xFF, false⟩) s = .next { s with dev := { d with cfg := { d.cfg with plans :=
        [{ cell := c.cr.cell, down := false, at_ := d.time.slotAt c.cr.type start, start := start, records := [], jobs := [], running := true, noPlan := true,
           carried := true, endAt := span.2 }] } } })

/-- With no host image being fetched, PERST_N, and over a link LINK_DOWN, HOT_RESET and FUNCTION_LEVEL_RESET, disable
the rings and bus mastering and close NI 244; HBCOUNT and memory stay; FLR keeps the link. D3HOT, D0_ENTRY,
BUS_MASTERING_DISABLE and ENABLE set their bit and NI 244 is open exactly where the port may be. Without a link they
change nothing. PERST_N_RELEASE releases; PCIE_LINK_UP needs power, PERST_N high and the port's domain in Run.
HEARTBEAT, due, counts HBCOUNT and one event; HOST_LOSS, due, is noted and the host's stage is gone; before that neither
changes anything. BAR2_ACCESS with BAR2 not answering changes nothing; with the window not valid a write is dropped and
a read has no completion data; with it valid they write and read the device bytes at WINBASE.
(15_ethernet_and_host_port.md, R381, R386, R387, R388, R389; 22_host_registers.md, R533, R537, R538) -/
def Obligations.PciePortAndHostLoss : Prop :=
  (∀ s : State, let d := s.dev
    d.start.step ≠ 6 →
      (∃ t, exec .perstN s = .next t ∧ t.dev.start.perstLow = true ∧ t.dev.host.linkUp = false ∧ t.dev.host.enable = false
        ∧ t.dev.host.busMaster = false ∧ t.dev.ni244 = false ∧ t.dev.host.hbcount = d.host.hbcount ∧ t.dev.mem = d.mem)
      ∧ (∀ c ∈ [Instr.linkDown, Instr.hotReset], d.host.linkUp = true → ∃ t, exec c s = .next t ∧ t.dev.host.linkUp = false ∧ t.dev.host.enable = false
        ∧ t.dev.host.busMaster = false ∧ t.dev.ni244 = false ∧ t.dev.host.hbcount = d.host.hbcount ∧ t.dev.mem = d.mem ∧ t.dev.start = d.start)
      ∧ (d.host.linkUp = true → ∃ t, exec .functionLevelReset s = .next t ∧ t.dev.host.linkUp = true ∧ t.dev.host.flr = true ∧ t.dev.host.enable = false
        ∧ t.dev.host.busMaster = false ∧ t.dev.ni244 = false ∧ t.dev.host.hbcount = d.host.hbcount ∧ t.dev.mem = d.mem ∧ t.dev.start = d.start))
  ∧ (∀ s : State, let d := s.dev
    (d.host.linkUp = false → ∀ c ∈ [Instr.linkDown, .hotReset, .functionLevelReset, .d3hot, .d0Entry, .busMasteringDisable, .busMasteringEnable],
      exec c s = .next s)
    ∧ (d.host.linkUp = true →
      (∃ t, exec .d3hot s = .next t ∧ t.dev.host.d3hot = true ∧ t.dev.ni244 = false ∧ t.dev.host.enable = d.host.enable ∧ t.dev.host.cmdBase = d.host.cmdBase)
      ∧ (∃ t, exec .busMasteringDisable s = .next t ∧ t.dev.host.busMaster = false ∧ t.dev.ni244 = false ∧ t.dev.host.enable = d.host.enable
          ∧ t.dev.host.cmdBase = d.host.cmdBase)
      ∧ (d.chiop.backlog = [] → d.chiop.lostNow = 0 → (∃ t, exec .d0Entry s = .next t ∧ t.dev.host.d3hot = false ∧ t.dev.ni244 = t.dev.hostOpen)
          ∧ (∃ t, exec .busMasteringEnable s = .next t ∧ t.dev.host.busMaster = true ∧ t.dev.host.flr = false ∧ t.dev.ni244 = t.dev.hostOpen)))
    ∧ exec .perstNRelease s = .next { s with dev := { d with start := { d.start with perstLow := false } } }
    ∧ (d.up = true → d.start.perstLow = false → d.mode.mode ≠ 9 → (d.dom 0x800).st = .run → (d.dom 0x800).padLatch = false →
        ∃ t, exec .pcieLinkUp s = .next t ∧ t.dev.host.linkUp = true ∧ t.dev.ni244 = t.dev.hostOpen)
    ∧ ((d.up = false ∨ d.start.perstLow = true ∨ d.mode.mode = 9) → exec .pcieLinkUp s = .next s))
  ∧ (∀ s : State, let d := s.dev
    ((d.up = false ∨ d.serves = false) → exec .heartbeat s = .next s)
    ∧ (d.up = true → d.serves = true → airPast d.time.air ((d.host.hbAt + 19660800) % airWrap) = true → ∃ t, exec .heartbeat s = .next t
        ∧ t.dev.host.hbcount = d.host.hbcount + 1 ∧ t.dev.host.hbAt = d.time.air ∧ t.dev.chiop.evSeq = d.chiop.evSeq + 1 ∧ t.dev.cfg = d.cfg)
    ∧ ((d.up = false ∨ d.host.hostlossMs = 0 ∨ d.ni244 = true ∨ d.host.lost = true) → exec .hostLoss s = .next s)
    ∧ (d.up = true → d.host.hostlossMs ≠ 0 → d.ni244 = false → d.host.lost = false →
        airPast d.time.air ((d.host.closedAt + d.host.hostlossMs * 1966080) % airWrap) = true → ∃ t, exec .hostLoss s = .next t
          ∧ t.dev.host.lost = true ∧ t.dev.mode = { d.mode with hostLoss := true } ∧ (d.chiop.owner = some 0 → t.dev.chiop.stage = [] ∧ t.dev.chiop.owner = none)
          ∧ (d.chiop.owner ≠ some 0 → t.dev.chiop.stage = d.chiop.stage ∧ t.dev.chiop.owner = d.chiop.owner)))
  ∧ (∀ (s : State) (off : BitVec 26) (n : Half) (bs : List Byte), let d := s.dev
    let a := d.host.winbase.toNat + off.toNat
    (d.barUp = false → ∀ (w : Bool) (e : Sys2Proof.EccHit), exec (.bar2Access w off n bs e) s = .next s)
    ∧ (d.barUp = true → d.windowValid = false → ∀ e : Sys2Proof.EccHit, exec (.bar2Access true off n bs e) s = .next s
        ∧ exec (.bar2Access false off n bs e) s = .next { s with dev := { d with host := { d.host with barRead := none } } })
    ∧ (d.barUp = true → d.windowValid = true → d.health.testQueue = [] →
      (off.toNat + bs.length ≤ windowSize → d.reach 244 244 a bs.length = 0 →
        exec (.bar2Access true off n bs .none) s = .next { s with dev := { d with mem := d.mem.ifWrite a bs } })
      ∧ (off.toNat + n.toNat ≤ windowSize → d.reach 244 244 a n.toNat = 0 → d.mem.poisoned a n.toNat = false →
        exec (.bar2Access false off n bs .none) s = .next { s with dev := { d with host := { d.host with barRead := some (d.mem.ifBytes a n.toNat) } } })))

/-- While BAR0 does not answer no row changes anything. A REGISTER_WRITE of another size than 4 or 8 bytes, or not
naturally aligned, is dropped and reported through AER; one to a read-only register or to an offset not listed changes
nothing; SCRATCH and the 64-bit BOOT_ADDR take the value. W1C clears edge bits alone. RING_ENABLE enables rings that
pass the checks with all four indices 0, else sets CFGERR and raises RING_ERR; RING_DISABLE disables and forgets the
events that waited. CMD_TAIL with ENABLE 0 or a bit above 11 set raises RING_ERR alone; EVT_HEAD at or above EVT_SIZE
too. WINBASE and WINCTL take their value, the port tails too and let a stopped ring go on; TXEN and RXEN follow R539.
JTAG_INSTRUCTION: with DEBUG_LOCK set and debug not open, one of no standard instruction is BYPASS.
(22_host_registers.md, R531, R532, R534, R535, R536, R538, R539; 18_start_and_security.md, R456;
15_ethernet_and_host_port.md, R381) -/
def Obligations.HostRegistersAndJtag : Prop :=
  (∀ (s : State) (c : Instr), s.dev.barUp = false → (∃ (v : Word) (w : DWord) (x : Half) (b : Bool) (n : Byte) (p : Fin 4) (off : BitVec 20),
      c = .registerWrite off n w ∨ c = .alertCauseW1c v ∨ c = .alertMaskWrite v ∨ c = .ringEnable ∨ c = .ringDisable ∨ c = .cmdTail v ∨ c = .evtHead v
      ∨ c = .bootGo v ∨ c = .winbase b w ∨ c = .txen p b ∨ c = .rxen p b ∨ c = .txTail p x ∨ c = .rxTail p x) → exec c s = .next s)
  ∧ (∀ s : State, let d := s.dev
    let h := d.host
    let on := fun (h : HostState) => (Host.Outcome.next ({ s with dev := { d with host := h } } : State) : Host.Outcome State Fault Refusal)
    d.barUp = true →
      (∀ (off : BitVec 20) (n : Byte) (v : DWord), ¬(n = 4 ∧ off.toNat % 4 = 0) → ¬(n = 8 ∧ off.toNat % 8 = 0) →
          exec (.registerWrite off n v) s = on { h with aer := true })
      ∧ (∀ (off : BitVec 20) (v : DWord), off ∈ [(0x000 : BitVec 20), 0x008, 0x010, 0x014, 0x018, 0x124, 0x128, 0x00C, 0x400] →
          exec (.registerWrite off 4 v) s = .next s)
      ∧ (∀ v : DWord, exec (.registerWrite 0x004 4 v) s = on { h with scratch := v.setWidth 32 } ∧ exec (.registerWrite 0x200 8 v) s = on { h with bootAddr := v })
      ∧ (∀ v : Word, exec (.alertCauseW1c v) s = on { h with alertEdge := h.alertEdge &&& ~~~(v &&& 0x3F00) })
      ∧ (∀ v : Word, ∃ t, exec (.alertMaskWrite v) s = .next t ∧ t.dev.host.alertMask = v ∧ t.dev.host.alertEdge = h.alertEdge ∧ t.dev.mem = d.mem)
      ∧ (h.enable = true → exec .ringEnable s = .next s)
      ∧ (h.enable = false → h.ringsOk = true → exec .ringEnable s = .next { s with dev := { d with
          host := { h with enable := true, cfgerr := false, cmdTail := 0, cmdHead := 0, evtTail := 0, evtHead := 0 },
          chiop := { d.chiop with gen := d.chiop.gen + 1 } } })
      ∧ (h.enable = false → h.ringsOk = false → ∃ t, exec .ringEnable s = .next t ∧ t.dev.host.enable = false ∧ t.dev.host.cfgerr = true
          ∧ t.dev.host.alertEdge = (h.alertEdge ||| 0x800) ∧ t.dev.chiop = d.chiop)
      ∧ (h.enable = false → exec .ringDisable s = .next s)
      ∧ (h.enable = true → ∃ t, exec .ringDisable s = .next t ∧ t.dev.host = { h with enable := false } ∧ t.dev.chiop.backlog = [] ∧ t.dev.mem = d.mem)
      ∧ (∀ v : Word, h.enable = true → v.toNat < 4096 → exec (.cmdTail v) s = on { h with cmdTail := BitVec.ofNat 12 v.toNat })
      ∧ (∀ v : Word, (h.enable = false ∨ 4096 ≤ v.toNat) → ∃ t, exec (.cmdTail v) s = .next t ∧ t.dev.host.cmdTail = h.cmdTail
          ∧ t.dev.host.alertEdge = (h.alertEdge ||| 0x800))
      ∧ (∀ v : Word, v.toNat < h.evtSize.toNat → d.chiop.backlog = [] → d.chiop.lostNow = 0 → exec (.evtHead v) s = on { h with evtHead := BitVec.ofNat 18 v.toNat })
      ∧ (∀ v : Word, h.evtSize.toNat ≤ v.toNat → ∃ t, exec (.evtHead v) s = .next t ∧ t.dev.host.evtHead = h.evtHead
          ∧ t.dev.host.alertEdge = (h.alertEdge ||| 0x800))
      ∧ (∀ v : DWord, exec (.winbase false v) s = on { h with winbase := v } ∧ exec (.winbase true v) s = on { h with winEnable := v.getLsbD 0 })
      ∧ (∀ p : Fin 4, let r := d.portRing p.val
          (∀ v : Half, exec (.txTail p v) s = .next { s with dev := d.updPort p.val (fun r => { r with txTail := v, txStop := false }) }
            ∧ exec (.rxTail p v) s = .next { s with dev := d.updPort p.val (fun r => { r with rxTail := v, rxStop := false }) })
          ∧ exec (.txen p r.txen) s = .next s ∧ exec (.rxen p r.rxen) s = .next s
          ∧ (r.txen = true → exec (.txen p false) s = .next { s with dev := d.updPort p.val (fun r => { r with txen := false }) })
          ∧ (r.rxen = true → exec (.rxen p false) s = .next { s with dev := d.updPort p.val (fun r => { r with rxen := false }) })
          ∧ (r.txen = false → r.ok true = true → exec (.txen p true) s = .next { s with dev := d.updPort p.val (fun r => { r with txen := true, txStop := false, cfgerr := false }) })
          ∧ (r.rxen = false → r.ok false = true → exec (.rxen p true) s = .next { s with dev := d.updPort p.val (fun r => { r with rxen := true, rxStop := false, cfgerr := false }) })
          ∧ (r.txen = false → r.ok true = false → ∃ t, exec (.txen p true) s = .next t ∧ t.dev.portRing p.val = { r with cfgerr := true }
              ∧ t.dev.host.alertEdge = (h.alertEdge ||| 0x800))
          ∧ (r.rxen = false → r.ok false = false → ∃ t, exec (.rxen p true) s = .next t ∧ t.dev.portRing p.val = { r with cfgerr := true }
              ∧ t.dev.host.alertEdge = (h.alertEdge ||| 0x800))))
  ∧ (∀ (s : State) (op : Sys2Proof.JtagOp), let d := s.dev
    (d.start.powered = false → exec (.jtagInstruction op) s = .next s)
    ∧ (d.start.powered = true → ∃ t, exec (.jtagInstruction op) s = .next t
        ∧ t.dev.start.jtag = (if d.start.fuses.debugLock = true ∧ d.start.debugOpen = false ∧ op = .other then .bypass else op)
        ∧ t.dev = { d with start := { d.start with jtag := t.dev.start.jtag } }))

/-- A new staged command of the host, read in a mode that accepts it, not stale under GUARD, with the stage unowned or
the host's own: if its check finds nothing, it stands at the end of the stage with its sequence and parameters, the host
owns the stage, the reply is OK in its slot and retained, and the committed configuration is as before; if its check
finds an error, or another channel owns the stage, the reply carries that error and the stage is as before.
(16_chiop_commands.md, R391, R398, R403) -/
def Obligations.StagedCommandsJoinTheStage : Prop :=
  ∀ row ∈ ([(Instr.cellAdd, 0x0201, modesCfg, 96, withGates checkCellAdd 0x0201), (Instr.cellRemove, 0x0202, modesCfg, 2, checkCellRemove),
      (Instr.cellModify, 0x0203, modesCfg, 96, withGates checkCellModify 0x0203), (Instr.streamSet, 0x0204, modesCfg, 8, checkStreamSet),
      (Instr.rampSet, 0x0205, modesCfg, 72, checkRampSet), (Instr.harqSet, 0x0206, modesCfg, 16, checkHarqSet),
      (Instr.harqClear, 0x0207, modesCfg, 16, checkHarqClear), (Instr.imageBind, 0x0302, [4, 5, 6, 7], 20, checkImageBind),
      (Instr.laneSet, 0x0401, modesCfg, 132, checkLaneSet), (Instr.groupSet, 0x0402, modesCfg, 16, checkGroupSet),
      (Instr.detourCmd, 0x0403, [6, 7, 8, 11], 3, checkDetourCmd), (Instr.portSet, 0x0404, modesCfg, 68, checkPortSet),
      (Instr.slackSet, 0x0501, modesCfgQ, 10, checkSlackSet), (Instr.timeSourceSet, 0x0502, modesCfgQ, 8, checkTimeSourceSet),
      (Instr.tickSet, 0x0504, [4, 5], 1, checkTickSet), (Instr.thermalSet, 0x0507, modesCfgQ, 8, checkThermalSet),
      (Instr.unitRemove, 0x0603, modesCfg, 2, checkUnitRemove), (Instr.pmTimeSet, 0x0701, modesCfg, 4, checkPmTimeSet),
      (Instr.pmThresholdSet, 0x0702, modesCfg, 8, checkPmThresholdSet),
      (Instr.pmClear, 0x0703, modesCfg, 1, fun (d : Dev) (p : List Byte) => checkPmSubject d (pf p 0 1)),
      (Instr.tallyAgeSet, 0x0A01, modesCfg, 4, fun (_ : Dev) (p : List Byte) => rangeUnless (decide (1000 ≤ pf p 0 4 ∧ pf p 0 4 ≤ 1000000)) 0),
      (Instr.ptoSet, 0x0A02, modesCfg, 4, fun (_ : Dev) (p : List Byte) => rangeUnless (decide (4 ≤ pf p 0 2 ∧ pf p 0 2 ≤ 1024)) 0),
      (Instr.leakySet, 0x0A03, modesCfg, 10, checkLeakySet)] :
      List ((Sys2Proof.ChiopHdr → List Byte → Instr) × Nat × List Nat × Nat × (Dev → List Byte → Option ChErr))),
    ∀ (s : State) (h : Sys2Proof.ChiopHdr) (p : List Byte), let d := s.dev
      let op := row.2.1
      let ps := paramsOf h p
      d.takes op row.2.2.2.1 h → d.mode.mode ∈ row.2.2.1 → (hGuard h = false ∨ (h.epoch - d.chiop.configEpoch).toNat < 2 ^ 31) →
        ((d.chiop.owner = none ∨ d.chiop.owner = some 0) →
          (row.2.2.2.2 (d.taken h) ps = none → ∃ t, exec (row.1 h p) s = .next t ∧ d.answered t.dev op h p (mkReply op h.seq d.chiop.epoch 0 [])
            ∧ t.dev.chiop.stage = d.chiop.stage ++ [⟨h.seq, op, ps⟩] ∧ t.dev.chiop.owner = some 0 ∧ t.dev.chiop.stagedAt = nowOf d h
            ∧ t.dev.cfg = d.cfg ∧ t.dev.cores = d.cores ∧ t.dev.units = d.units)
          ∧ (∀ e, row.2.2.2.2 (d.taken h) ps = some e → ∃ t, exec (row.1 h p) s = .next t
            ∧ d.answered t.dev op h p (mkReply op h.seq d.chiop.epoch e.status (errDetail e.offset e.reason e.unit e.extra))
            ∧ t.dev.chiop.stage = d.chiop.stage ∧ t.dev.chiop.owner = d.chiop.owner ∧ t.dev.cfg = d.cfg))
        ∧ (∀ o, d.chiop.owner = some o → o ≠ 0 → ∃ t, exec (row.1 h p) s = .next t
            ∧ d.answered t.dev op h p (mkReply op h.seq d.chiop.epoch 0x0103 (errDetail 0xFFFF 8 0 0)) ∧ t.dev.chiop.stage = d.chiop.stage)

/-- A new staged command of the host, read in a mode that accepts it, with GUARD set and its EPOCH below CONFIG_EPOCH in
the wrapping order of epochs, is answered with SUPERSEDED, reason GUARD, whatever its parameters; the stage, its owner
and the committed configuration are as before. (16_chiop_commands.md, R404) -/
def Obligations.GuardedStagingIsSuperseded : Prop :=
  ∀ row ∈ ([(Instr.cellAdd, 0x0201, modesCfg, 96), (Instr.cellRemove, 0x0202, modesCfg, 2), (Instr.cellModify, 0x0203, modesCfg, 96),
      (Instr.streamSet, 0x0204, modesCfg, 8), (Instr.rampSet, 0x0205, modesCfg, 72), (Instr.harqSet, 0x0206, modesCfg, 16),
      (Instr.harqClear, 0x0207, modesCfg, 16), (Instr.imageBind, 0x0302, [4, 5, 6, 7], 20), (Instr.laneSet, 0x0401, modesCfg, 132),
      (Instr.groupSet, 0x0402, modesCfg, 16), (Instr.detourCmd, 0x0403, [6, 7, 8, 11], 3), (Instr.portSet, 0x0404, modesCfg, 68),
      (Instr.slackSet, 0x0501, modesCfgQ, 10), (Instr.timeSourceSet, 0x0502, modesCfgQ, 8), (Instr.tickSet, 0x0504, [4, 5], 1),
      (Instr.thermalSet, 0x0507, modesCfgQ, 8), (Instr.unitRemove, 0x0603, modesCfg, 2), (Instr.pmTimeSet, 0x0701, modesCfg, 4),
      (Instr.pmThresholdSet, 0x0702, modesCfg, 8), (Instr.pmClear, 0x0703, modesCfg, 1), (Instr.tallyAgeSet, 0x0A01, modesCfg, 4),
      (Instr.ptoSet, 0x0A02, modesCfg, 4), (Instr.leakySet, 0x0A03, modesCfg, 10)] :
      List ((Sys2Proof.ChiopHdr → List Byte → Instr) × Nat × List Nat × Nat)),
    ∀ (s : State) (h : Sys2Proof.ChiopHdr) (p : List Byte), let d := s.dev
      d.takes row.2.1 row.2.2.2 h → d.mode.mode ∈ row.2.2.1 → hGuard h = true → 2 ^ 31 ≤ (h.epoch - d.chiop.configEpoch).toNat →
        ∃ t, exec (row.1 h p) s = .next t
          ∧ d.answered t.dev row.2.1 h p (mkReply row.2.1 h.seq d.chiop.epoch 0x0107 (errDetail 0xFFFF 9 0 0))
          ∧ t.dev.chiop.stage = d.chiop.stage ∧ t.dev.chiop.owner = d.chiop.owner ∧ t.dev.cfg = d.cfg

/-- A new immediate command of the host, read in a mode that accepts it: GET_IDENTITY, GET_CAPABILITIES, EPOCH_GET,
STAGE_LIST, HEALTH_LOG_READ and GET_DEVICE_KEYS answer what they ask for and change nothing else; GCC_WRITE, GCC_READ,
PPS_SECOND, RELEASE_PADS, IMAGE_DROP and REPLACE_ACK have their effect and no other; REG_READ, REG_WRITE, LOOPBACK and
TRACE answer OK with a free value (log entry 53, the model's); a ROLLBACK_ADVANCE to a value already reached is OK;
SNAPSHOT_READ answers from the complete cut with its epoch; DISCARD empties the stage and tells how many it held;
EPOCH_GRAN_SET and HOSTLOSS_SET note their value; SLOT_SUBMIT, accepted, adds its plan. (16_chiop_commands.md, R391,
R402, R403, R409, R415, R417; 00_scope.md, R7; 13_ecner_framing.md, R326; 18_start_and_security.md, R449, R452;
19_power_domains.md, R473; 20_thermal_and_health.md, R501, R504; 21_pins_and_electrical.md, R522;
15_ethernet_and_host_port.md, R389) -/
def Obligations.ImmediateCommandsAnswer : Prop :=
  (∀ row ∈ ([(Instr.getIdentity, 0x0101, modesAll, 0, fun _ _ => True, fun d _ => d, fun d _ => d.identity),
      (Instr.getCapabilities, 0x0102, modesAll, 0, fun _ _ => True, fun d _ => d, fun d _ => d.capabilities),
      (Instr.epochGet, 0x0801, modesAll, 0, fun _ _ => True, fun d _ => d, fun d _ => d.epochGet),
      (Instr.stageList, 0x0805, modesAll, 0, fun _ _ => True, fun d _ => d, fun d _ => d.stageList),
      (Instr.healthLogRead, 0x0601, modesAll, 6, fun _ _ => True, fun d _ => d, fun d p => d.logRead p),
      (Instr.getDeviceKeys, 0x0902, modesAll, 0, fun _ _ => True, fun d _ => d, fun d _ => d.deviceKeys),
      (Instr.gccWrite, 0x0405, modesCfg, 4, fun d p => pf p 0 1 ≤ 31 ∧ 1 ≤ pf p 2 2 ∧ pf p 2 2 ≤ 224 ∧ 4 + pf p 2 2 ≤ p.length ∧ d.present 13 (pf p 0 1) = true
          ∧ (d.lane (pf p 0 1)).rx.align = .sync,
        fun d p => d.updTx (pf p 0 1) (fun t => { t with gcc := t.gcc ++ (p.drop 4).take (pf p 2 2) }), fun _ _ => []),
      (Instr.gccRead, 0x0406, modesCfg, 1, fun d p => pf p 0 1 ≤ 31 ∧ d.present 13 (pf p 0 1) = true,
        fun d p => d.updRx (pf p 0 1) (fun r => { r with gcc := (d.lane (pf p 0 1)).rx.gcc.drop 240 }), fun d p => (d.lane (pf p 0 1)).rx.gcc.take 240),
      (Instr.ppsSecond, 0x0503, modesAll, 8, fun _ _ => True, fun d p => { d with time := { d.time with ppsNext := some (pf p 0 8) } }, fun _ _ => []),
      (Instr.releasePads, 0x0506, modesCfgQ, 2, fun d p => domSwitched (pf p 0 2) = true ∧ domPads (pf p 0 2) = true ∧ pf p 0 2 ≠ 0x800 ∧ d.domRun (pf p 0 2) = true,
        fun d p => d.updDom (pf p 0 2) (fun x => { x with padLatch := false }), fun _ _ => []),
      (Instr.imageDrop, 0x0303, [4, 5, 6, 7], 2, fun d p => d.start.images.any (fun i => i.handle == pf p 0 2) = true ∧ d.imageBound (pf p 0 2) = false,
        fun d p => { d with start := { d.start with images := d.start.images.filter (fun i => i.handle != pf p 0 2) } }, fun _ _ => []),
      (Instr.replaceAck, 0x0604, modesAll, 0, fun _ _ => True, fun d _ => { d with health := { d.health with replaceOut := false } }, fun _ _ => []),
      (Instr.regRead, 0x0A10, [11], 0, fun _ _ => True, fun d _ => { d with free := d.free + 1 }, fun d p => Sys2Proof.Config.diagData d.free 0x0A10 p),
      (Instr.regWrite, 0x0A11, [11], 0, fun _ _ => True, fun d _ => { d with free := d.free + 1 }, fun d p => Sys2Proof.Config.diagData d.free 0x0A11 p),
      (Instr.loopback, 0x0A12, [11], 0, fun _ _ => True, fun d _ => { d with free := d.free + 1 }, fun d p => Sys2Proof.Config.diagData d.free 0x0A12 p),
      (Instr.trace, 0x0A13, [11], 0, fun _ _ => True, fun d _ => { d with free := d.free + 1 }, fun d p => Sys2Proof.Config.diagData d.free 0x0A13 p),
      (Instr.rollbackAdvance, 0x0904, [4], 3, fun d p => pf p 0 1 ≤ 1 ∧ pf p 1 2 ≤ 128 ∧
          pf p 1 2 ≤ (if pf p 0 1 = 0 then d.start.fuses.rbc0 else d.start.fuses.rbc1), fun d _ => d, fun _ _ => [])] :
      List ((Sys2Proof.ChiopHdr → List Byte → Instr) × Nat × List Nat × Nat × (Dev → List Byte → Prop) × (Dev → List Byte → Dev) × (Dev → List Byte → List Byte))),
    ∀ (s : State) (h : Sys2Proof.ChiopHdr) (p : List Byte), let d := s.dev
      let x := d.taken h
      let ps := paramsOf h p
      d.takes row.2.1 row.2.2.2.1 h → d.mode.mode ∈ row.2.2.1 → row.2.2.2.2.1 x ps → ∃ t, exec (row.1 h p) s = .next t
        ∧ d.answered t.dev row.2.1 h p (mkReply row.2.1 h.seq d.chiop.epoch 0 (row.2.2.2.2.2.2 x ps))
        ∧ { t.dev with host := x.host, chiop := x.chiop, mem := x.mem } = row.2.2.2.2.2.1 x ps)
  ∧ (∀ (s : State) (h : Sys2Proof.ChiopHdr) (p : List Byte), let d := s.dev
      let x := d.taken h
      let ps := paramsOf h p
      (d.takes 0x0806 4 h → d.mode.mode ∈ modesAll →
        (let n := pf ps 0 1
         let sel := fun (i : Nat) => (ps.drop (4 + 8 * i)).take 8
         1 ≤ n → n ≤ 64 → 4 + 8 * n ≤ ps.length → (∀ i < n, (selectorOf (sel i)).bad = none ∧ x.selectorAbsent (selectorOf (sel i)) = none) →
          let c := if d.chiop.cutDone then d.chiop.cut else d.chiop.prevCut
          ∃ t, exec (.snapshotRead h p) s = .next t
            ∧ d.answered t.dev 0x0806 h p (mkReply 0x0806 h.seq c.epoch 0 ((List.range n).flatMap (fun i => sel i ++ c.read (selectorOf (sel i)))))))
      ∧ (d.takes 0x0804 0 h → d.mode.mode ∈ modesCfgQ → (d.chiop.owner = none ∨ d.chiop.owner = some 0) → ∃ t, exec (.discard h p) s = .next t
          ∧ t.dev.chiop.stage = [] ∧ t.dev.chiop.owner = none ∧ t.dev.cfg = d.cfg
          ∧ d.answered t.dev 0x0804 h p (mkReply 0x0804 h.seq d.chiop.epoch 0 (bytesOf 2 d.chiop.stage.length)))
      ∧ (d.takes 0x0802 1 h → d.mode.mode ∈ modesCfg → d.chiop.owner = none → d.chiop.commit = none → pf ps 0 1 ≤ 1 → ∃ t, exec (.epochGranSet h p) s = .next t
          ∧ t.dev.chiop.granPending = some (pf ps 0 1 == 1) ∧ t.dev.chiop.gran = d.chiop.gran
          ∧ d.answered t.dev 0x0802 h p (mkReply 0x0802 h.seq d.chiop.epoch 0 []))
      ∧ (d.takes 0x0508 4 h → d.mode.mode ∈ modesAll → (pf ps 0 4 = 0 ∨ (10 ≤ pf ps 0 4 ∧ pf ps 0 4 ≤ 60000)) → ∃ t, exec (.hostlossSet h p) s = .next t
          ∧ t.dev.host.hostlossMs = pf ps 0 4 ∧ d.answered t.dev 0x0508 h p (mkReply 0x0508 h.seq d.chiop.epoch 0 []))
      ∧ (∀ (c : CellRec) (start : Nat), d.takes 0x0208 24 h → slotMode d = true → pf ps 2 1 ≤ 1 → 1 ≤ pf ps 16 2 → pf ps 16 2 ≤ 1024 →
          x.planCell (pf ps 0 2) = some (c, none) → x.time.planStart c.type (pf ps 4 4) (nowOf x h) = some start →
          (let down := pf ps 2 1 == 1
           let ahead := airDiff start (nowOf x h)
           let a := pf ps 8 8
           let n := pf ps 16 2
           let recs := (List.range n).map (fun i => d.mem.ifBytes (a + 16 * i) 16)
           ((if down then usToTc (500 + c.txadv) else usToTc 250) : Nat) ≤ ahead → ahead ≤ (usToTc 20000 : Nat) →
           d.cfg.plans.any (fun y => y.cell == pf ps 0 2 && y.down == down && y.start == start) = false →
           h.ind.fetch = 0 → x.fetchResult a (16 * n) = 0 → crc32c (d.mem.ifBytes a (16 * n)) = pf ps 20 4 → x.recsError recs = none →
           ∃ t, exec (.slotSubmit h p) s = .next t ∧ t.dev.cfg.streams = d.cfg.streams
             ∧ ∃ q ∈ t.dev.cfg.plans, q.cell = c.cell ∧ q.down = down ∧ q.start = start ∧ q.records.length = n ∧ q.running = false)))

/-- A new command of the host, accepted, is held without a reply: IMAGE_LOAD, RECOVERY_LOAD, ATTEST, KEY_ENROLL of a
free slot, ROLLBACK_ADVANCE to a value it may take, DEBUG_UNLOCK for a challenge, TIME_STEP with no cell in service,
MODE_REQUEST (the mode asked for is noted), COMMIT (the stage is sealed for its target), DOMAIN_REQUEST of Run for a
domain in Stop (it waits for a ramp slot), SELFTEST_RUN (the test is queued or runs). HELD_COMMAND_COMPLETE of none held
changes nothing; of a ROLLBACK_ADVANCE read back right the counter has its value; of an IMAGE_LOAD that fails its check
no image joins. GET_RESULT of a completed command gives its reply with REPEAT and is not retained. STAGE_TIMEOUT after
60 s empties the stage; DEBUG_CHALLENGE_EXPIRY after 60 s forgets the challenge. (16_chiop_commands.md, R393, R399,
R400, R403, R405; 17_operating_modes.md, R422; 02_timing_and_deadlines.md, R44; 18_start_and_security.md, R445, R447,
R448, R449, R453, R454, R457; 19_power_domains.md, R463, R469; 20_thermal_and_health.md, R495) -/
def Obligations.HeldCommandsAndTheirEnds : Prop :=
  (∀ row ∈ ([(Instr.imageLoad, 0x0301, [4, 5, 6, 7], 0, fun _ _ => True, fun _ p => p),
      (Instr.recoveryLoad, 0x0304, [3], 0, fun d _ => d.heldOp 0x0304 = false, fun h p => bytesOf 8 h.ind.paddr.toNat ++ bytesOf 4 h.ind.plen.toNat ++ p),
      (Instr.attest, 0x0901, modesAll, 32, fun d _ => d.start.keyStore = true, fun _ p => p),
      (Instr.keyEnroll, 0x0903, [4], 100, fun d p => pf p 0 1 = 0 ∧ pf p 1 1 ≤ 3 ∧ (d.start.fuses.slot (pf p 1 1)).valid = false ∧ d.fuseBusy = false, fun _ p => p),
      (Instr.rollbackAdvance, 0x0904, [4], 3, fun d p => pf p 0 1 = 0 ∧ pf p 1 2 ≤ 128 ∧ d.start.fuses.rbc0 < pf p 1 2 ∧ pf p 1 2 ≤ d.start.fwSvn ∧ d.fuseBusy = false,
        fun _ p => p),
      (Instr.debugUnlock, 0x0905, [11], 1, fun _ p => pf p 0 1 = 0, fun _ p => p)] :
      List ((Sys2Proof.ChiopHdr → List Byte → Instr) × Nat × List Nat × Nat × (Dev → List Byte → Prop) × (Sys2Proof.ChiopHdr → List Byte → List Byte))),
    ∀ (s : State) (h : Sys2Proof.ChiopHdr) (p : List Byte), let d := s.dev
      d.takes row.2.1 row.2.2.2.1 h → d.mode.mode ∈ row.2.2.1 → row.2.2.2.2.1 (d.taken h) (paramsOf h p) → ∃ t, exec (row.1 h p) s = .next t
        ∧ d.holding t.dev row.2.1 h p (row.2.2.2.2.2 h (paramsOf h p)) ∧ t.dev.start = d.start ∧ t.dev.cfg = d.cfg)
  ∧ (∀ (s : State) (h : Sys2Proof.ChiopHdr) (p : List Byte), let d := s.dev
      let ps := paramsOf h p
      (d.takes 0x0509 8 h → d.mode.mode ∈ [4, 5] → d.anyInService = false → d.time.stepPending = none → ∃ t, exec (.timeStep h p) s = .next t
          ∧ d.holding t.dev 0x0509 h p ps ∧ t.dev.time = { d.time with stepPending := some (pfSigned64 ps 0, 0, h.seq) })
      ∧ (d.takes 0x0807 1 h → d.mode.mode ∈ modesAll → d.mode.req = none → 1 ≤ pf ps 0 1 → pf ps 0 1 ≤ 12 → pf ps 0 1 ≠ 6 → ∃ t, exec (.modeRequest h p) s = .next t
          ∧ d.holding t.dev 0x0807 h p ps ∧ t.dev.mode = { d.mode with req := some { chan := 0, seq := h.seq, target := pf ps 0 1, readAt := nowOf d h, await := [], allRunAt := none } })
      ∧ (∀ n, d.takes 0x0803 4 h → d.mode.mode ∈ modesCfgQ → (d.chiop.owner = none ∨ d.chiop.owner = some 0) → d.chiop.commit = none →
          (d.taken h).commitAhead (nowOf d h) (BitVec.ofNat 32 (pf ps 0 4)) = .ok n → ∃ t, exec (.commit h p) s = .next t ∧ d.holding t.dev 0x0803 h p ps
            ∧ t.dev.chiop.commit = some ⟨0, h.seq, d.chiop.epoch + BitVec.ofNat 32 n, d.chiop.stage⟩ ∧ t.dev.chiop.stage = [] ∧ t.dev.chiop.owner = none
            ∧ t.dev.cfg = d.cfg)
      ∧ (d.takes 0x0505 3 h → d.mode.mode ∈ modesCfgQ → pf ps 2 1 = 1 →
          (let code := pf ps 0 2
           domHostRange code true 0 = true → d.domCheck code true = none → (d.dom code).st = .stop → (d.dom code).cur = none → d.domTesting code = false →
            ∃ t, exec (.domainRequest h p) s = .next t ∧ d.holding t.dev 0x0505 h p ps ∧ (t.dev.dom code).st = .waking ∧ (t.dev.dom code).step = .waitSlot
              ∧ (t.dev.dom code).hostHeld = false ∧ t.dev.power.waiting = d.power.waiting ++ [code] ∧ t.dev.power.ramping = d.power.ramping))
      ∧ (d.takes 0x0602 2 h → d.mode.mode ∈ [4, 5, 6, 7, 8] → d.mode.todo = [] →
          (let c := pf ps 0 1
           let u := pf ps 1 1
           1 ≤ c → c ≤ 15 → c ≠ 12 → u < classSlots c → d.present c u = true → d.health.testQueue = [] → ∃ t, exec (.selftestRun h p) s = .next t
            ∧ (t.dev.chan 0).held = (d.chan 0).held ++ [⟨h.seq, 0x0602, d.host.cmdHead.toNat, d.chiop.gen, ps, none⟩]
            ∧ ((t.dev.unit c u).queued = true ∨ (t.dev.unit c u).testing = true))))
  ∧ (∀ (s : State) (chan : Fin 17) (seq : Word) (o : Sys2Proof.HeldDone), let d := s.dev
      ((d.chan chan.val).held.find? (fun x => x.seq == seq) = none → exec (.heldCommandComplete chan seq o) s = .next s)
      ∧ (∀ x, d.up = true → (d.chan chan.val).held.find? (fun x => x.seq == seq) = some x →
        (x.op = 0x0904 → o.readBack = true → ∃ t, exec (.heldCommandComplete chan seq o) s = .next t
          ∧ t.dev.start.fuses = d.start.fuses.advance (pf x.params 0 1) (pf x.params 1 2) ∧ ∀ y ∈ (t.dev.chan chan.val).held, y.seq ≠ seq)
        ∧ (∀ e, x.op = 0x0301 → d.loadError x.params = some e → ∃ t, exec (.heldCommandComplete chan seq o) s = .next t
          ∧ t.dev.start = d.start ∧ ∀ y ∈ (t.dev.chan chan.val).held, y.seq ≠ seq)))
  ∧ (∀ (s : State) (h : Sys2Proof.ChiopHdr) (p : List Byte), let d := s.dev
      let target := BitVec.ofNat 32 (pf (paramsOf h p) 0 4)
      canRead d h = true → h.chan = 0 → headerError 0x0103 h = none → hIparam h = false → hIreply h = false → 4 ≤ h.plen.toNat → d.mode.mode ∈ modesAll →
        (∀ r rep, retained (d.chan 0) target = some r → r.reply = some rep → ∃ t, exec (.getResult h p) s = .next t
          ∧ t.dev.mem = d.mem.ifWrite (hostAddr (d.host.rplBase.toNat + 256 * d.host.cmdHead.toNat)) ({ rep with repeated := true } : Reply).bytes
          ∧ t.dev.chiop = d.chiop ∧ t.dev.host.cmdHead = d.host.cmdHead + 1)
        ∧ (retained (d.chan 0) target = none → ∃ t, exec (.getResult h p) s = .next t
          ∧ t.dev.mem = d.mem.ifWrite (hostAddr (d.host.rplBase.toNat + 256 * d.host.cmdHead.toNat))
              (mkReply 0x0103 h.seq d.chiop.epoch 0x0101 (errDetail 0xFFFF 3 0 0)).bytes ∧ t.dev.chiop = d.chiop))
  ∧ (∀ s : State, let d := s.dev
      (d.chiop.owner = none → exec .stageTimeout s = .next s)
      ∧ (∀ o, d.chiop.owner = some o → airPast d.time.air ((d.chiop.stagedAt + 60 * secondTc) % airWrap) = true → ∃ t, exec .stageTimeout s = .next t
          ∧ t.dev.chiop.stage = [] ∧ t.dev.chiop.owner = none ∧ t.dev.cfg = d.cfg)
      ∧ (d.start.challenge = none → exec .debugChallengeExpiry s = .next s)
      ∧ (d.start.challenge ≠ none → airPast d.time.air ((d.start.challengeAt + 60 * secondTc) % airWrap) = true →
          exec .debugChallengeExpiry s = .next { s with dev := { d with start := { d.start with challenge := none } } }))

/-- POWER_ON without power, RESET_N_RELEASE and RAILS_IN_RANGE where nothing else holds the device begin a cold start:
mode M1, step 1, rings disabled, Almanac and configuration empty. RESET_N_ASSERT and a rail that falls out of range hold
the device. VAON_LOSS takes power and all of PD.AON but the fuses, none being written. START_STEP_COMPLETE without a
fault goes from step 1 to 2, from 2 to 3 with the interpreter ready, from 4 to 5 with every core fresh, from 8 to 9 with
the key store open exactly under DEBUG_LOCK, from 9 to 10; with no start running nothing. START_STEP_TIMEOUT counts a
failed attempt and begins again, and in the third enters M3. BOOT_GO with bit 0 set and a length in range ends the wait
for the host; HOSTWAIT_EXPIRY goes to the next source. WARM_START, due, begins a warm start in M2. Where their cause
does not hold they change nothing. (18_start_and_security.md, R430, R431, R437, R438, R441, R450;
20_thermal_and_health.md, R489; 21_pins_and_electrical.md, R515, R516, R517; 22_host_registers.md, R537) -/
def Obligations.StartsAndResets : Prop :=
  (∀ s : State, let d := s.dev
    let cold := fun (t : State) => t.dev.mode.mode = 1 ∧ t.dev.start.step = 1 ∧ t.dev.start.kind = .cold ∧ t.dev.up = true ∧ t.dev.host.enable = false
      ∧ t.dev.alm = {} ∧ t.dev.cfg = {} ∧ t.dev.cores = d.cores
    (d.start.powered = true → exec .powerOn s = .next s)
    ∧ (d.start.powered = false → ∃ t, exec .powerOn s = .next t ∧ cold t)
    ∧ (d.start.powered = true → d.start.resetLow = false → ∃ t, exec .resetNAssert s = .next t ∧ t.dev.start.resetLow = true ∧ t.dev.start.step = 0 ∧ t.dev.mode = {}
        ∧ t.dev.time = {} ∧ t.dev.host.enable = false ∧ t.dev.cores = d.cores)
    ∧ (d.start.resetLow = true → exec .resetNAssert s = .next s)
    ∧ (d.start.resetLow = false → exec .resetNRelease s = .next s)
    ∧ (d.start.resetLow = true → d.start.powered = true → d.start.railHold = false → ∃ t, exec .resetNRelease s = .next t ∧ cold t)
    ∧ (d.start.resetLow = true → d.start.railHold = true → exec .resetNRelease s = .next { s with dev := { d with start := { d.start with resetLow := false } } })
    ∧ (d.start.railHold = false → exec .railsInRange s = .next s)
    ∧ (d.start.railHold = true → d.start.powered = true → d.start.resetLow = false → ∃ t, exec .railsInRange s = .next t ∧ cold t)
    ∧ (∀ (rail : Fin 9),
        (d.start.powered = false → ∀ above, exec (.railOutOfRange rail above) s = .next s)
        ∧ (d.up = true → ∃ t, exec (.railOutOfRange rail true) s = .next t ∧ t.dev.mode = d.mode ∧ t.dev.start.railHold = d.start.railHold ∧ t.dev.cfg = d.cfg)
        ∧ (d.mode.mode = 9 → rail.val ≠ 6 → rail.val ≠ 7 → exec (.railOutOfRange rail false) s = .next s)
        ∧ (d.up = true → d.mode.mode ≠ 9 → ¬(d.mode.mode = 2 ∧ d.start.step = 1) → ∃ t, exec (.railOutOfRange rail false) s = .next t
            ∧ t.dev.start.railHold = true ∧ t.dev.start.brownOut = some (24 + rail.val) ∧ t.dev.up = false ∧ t.dev.mode = {}))
    ∧ (d.start.powered = false → exec .vaonLoss s = .next s)
    ∧ (d.start.powered = true → d.fuseBusy = false → ∃ t, exec .vaonLoss s = .next t ∧ t.dev.start.powered = false ∧ t.dev.start.fuses = d.start.fuses
        ∧ t.dev.chiop = {} ∧ t.dev.time = {} ∧ t.dev.part = d.part))
  ∧ (∀ (s : State) (r : Sys2Proof.StartReport), let d := s.dev
    (d.starting = false → exec (.startStepComplete r) s = .next s ∧ exec .startStepTimeout s = .next s ∧ exec .hostwaitExpiry s = .next s)
    ∧ (d.starting = true → r.watchdog = false → r.fault = false →
      (d.start.step = 1 → exec (.startStepComplete r) s = .next { s with dev := { d with
          start := { d.start.readFlash r with refClk := r.refClk, step := 2 }, slack := d.slack.command d.slack.ceil } })
      ∧ (d.start.step = 2 → d.start.kind ≠ .warm → r.unwoken = [] → ∃ t, exec (.startStepComplete r) s = .next t ∧ t.dev.start.step = 3
          ∧ t.dev.start.ready = true ∧ (t.dev.dom 0x800).st = .run ∧ (t.dev.dom 0x800).padLatch = false ∧ t.dev.host.hbcount = 0)
      ∧ (d.start.step = 4 → d.start.kind ≠ .warm → ∃ t, exec (.startStepComplete r) s = .next t ∧ t.dev.start.step = 5
          ∧ (∀ k : Fin 128, t.dev.cores[k] = { mxc := { started := d.cores[k].mxc.started } }) ∧ t.dev.units = d.units)
      ∧ (d.start.step = 8 → exec (.startStepComplete r) s = .next { s with dev := { d with start := { d.start with
          keyStore := d.start.fuses.debugLock, step := 9 } } })
      ∧ (d.start.step = 9 → ∃ t, exec (.startStepComplete r) s = .next t ∧ t.dev.start.step = 10 ∧ t.dev.cores = d.cores ∧ t.dev.mem = d.mem))
    ∧ (d.start.step = 6 → exec .startStepTimeout s = .next s)
    ∧ (d.starting = true → d.start.step ≠ 6 → d.start.kind ≠ .warm →
      (d.start.cfail < 2 → ∃ t, exec .startStepTimeout s = .next t ∧ t.dev.start.cfail = d.start.cfail + 1 ∧ t.dev.start.step = 1 ∧ t.dev.mode.mode = 1 ∧ t.dev.start.cause = 9)
      ∧ (d.start.cfail = 2 → ∃ t, exec .startStepTimeout s = .next t ∧ t.dev.start.cfail = 3 ∧ t.dev.mode.mode = 3 ∧ t.dev.start.ready = true))
    ∧ (d.starting = true → d.start.step ≠ 6 → d.start.kind = .warm → d.start.wfail = 0 → ∃ t, exec .startStepTimeout s = .next t ∧ t.dev.start.wfail = 1
        ∧ t.dev.start.step = 1 ∧ t.dev.start.kind = .warm ∧ t.dev.mode.mode = 2))
  ∧ (∀ (s : State) (v : Word), let d := s.dev
    (d.barUp = true → ((d.starting && d.start.hostWait) = false ∨ v.toNat % 2 = 0) → exec (.bootGo v) s = .next s)
    ∧ (d.barUp = true → d.starting = true → d.start.hostWait = true → v.toNat % 2 = 1 → 5504 ≤ d.host.bootLen.toNat → d.host.bootLen.toNat ≤ 5488 + 0x2000000 →
        exec (.bootGo v) s = .next { s with dev := { d with start := { d.start with hostWait := false } } })
    ∧ (d.start.hostWait = false → exec .hostwaitExpiry s = .next s)
    ∧ (∀ x y rest, d.starting = true → d.start.hostWait = true → d.start.sources = x :: y :: rest → ∃ t, exec .hostwaitExpiry s = .next t
        ∧ t.dev.start.sources = y :: rest ∧ t.dev.start.step = 6 ∧ t.dev.start.hostWait = decide (y = 2) ∧ t.dev.mode = d.mode)
    ∧ ((d.up && d.restartDue) = false → exec .warmStart s = .next s)
    ∧ (d.up = true → d.restartDue = true → ∃ t, exec .warmStart s = .next t ∧ t.dev.mode.mode = 2 ∧ t.dev.start.step = 1 ∧ t.dev.start.kind = .warm
        ∧ d.time.air ∈ t.dev.thermal.restarts ∧ t.dev.start.starts = d.start.starts))

/-- In a device with power and no reset: PMBUS_COMPLETE moves the VCORE command from write to read and confirms it, an
unacknowledged one waits for PMBUS_RETRY, a bus address of no regulator does nothing; PMBUS_ALERT raises one health
event. A stopping domain whose shells are CLOSED enters Stop; a wake that waits gets one of 16 ramp slots; POWER_GOOD
enters Run and opens its shells; a failed attempt waits for a retry, the third fails the domain; WAKE_RETRY takes a slot
or waits. A conversion is stored under its channel, a diode out of range is marked faulty; MODEL_STEP takes the
temperatures and sets the limit at TLIMIT; THERMAL_LIMIT_CLEAR clears it after 20,000 steps below. A new second leaks
every bucket. SELFTEST_COMPLETE records the outcome (the one reported, or a failure where a faulty row has no spare
left), epoch and rate; ROLLING_SELFTEST starts the next test; REPLACE_REQUEST repeats after 60 s. Where their cause does
not hold they change nothing. (02_timing_and_deadlines.md, R55; 19_power_domains.md, R467, R469, R470, R477;
20_thermal_and_health.md, R478, R479, R482, R487, R493, R495, R498, R501) -/
def Obligations.PowerThermalAndHealth : Prop :=
  (∀ s : State, let d := s.dev
    let sl := d.slack
    d.up = true →
      (∀ (reg : BitVec 8) c ack v, (reg.toNat < 0x40 ∨ 0x48 < reg.toNat) → exec (.pmbusComplete reg c ack v) s = .next s)
      ∧ (∀ v, sl.phase = .write → exec (.pmbusComplete 0x40 .voutCommand true v) s = .next { s with dev := { d with slack := { sl with phase := .read } } })
      ∧ (∀ v, sl.phase = .write → sl.vLost = false → sl.pmFails < 2 →
          exec (.pmbusComplete 0x40 .voutCommand false v) s = .next { s with dev := { d with slack := { sl with phase := .retry, pmFails := sl.pmFails + 1 } } })
      ∧ (∀ v, sl.phase = .read → v ≤ sl.vcore + 200 → sl.vcore ≤ v + 200 → sl.boost = false →
          exec (.pmbusComplete 0x40 .readVout true v) s = .next { s with dev := { d with slack := { sl with
            phase := .idle, pmFails := 0, vLost := false, vconf := sl.vcore, band := bandOf sl.vcore } } })
      ∧ (sl.phase = .retry → exec .pmbusRetry s = .next { s with dev := { d with slack := { sl with phase := .write } } })
      ∧ (sl.phase ≠ .retry → exec .pmbusRetry s = .next s)
      ∧ (∀ (reg : BitVec 8) (w : Half), d.health.merge = [] → ∃ t, exec (.pmbusAlert reg w) s = .next t ∧ t.dev.chiop.evSeq = d.chiop.evSeq + 1
          ∧ t.dev.health.merge.length = 1 ∧ t.dev.cfg = d.cfg ∧ t.dev.units = d.units))
  ∧ (∀ (s : State) (code : Half), let d := s.dev
    let n := code.toNat
    let x := d.dom n
    d.up = true →
      (domSwitched n = false → exec (.unitStopped code) s = .next s ∧ exec (.powerGood code) s = .next s ∧ exec (.wakeAttemptTimeout code) s = .next s
        ∧ exec (.wakeRetry code) s = .next s)
      ∧ (domSwitched n = true →
        (x.st ≠ .stopping → x.step ≠ .drain → exec (.unitStopped code) s = .next s)
        ∧ (domPooled n = false → x.st = .stopping → x.step = .closing → (∀ k ∈ domNis n, (d.niRec k).shell ≠ .closing) → x.pend = none → (∃ r, x.cur = some r ∧ r.src = .control) →
            ∃ t, exec (.unitStopped code) s = .next t ∧ (t.dev.dom n).st = .stop ∧ (t.dev.dom n).step = .none ∧ (t.dev.dom n).cur = none
              ∧ (t.dev.dom n).padLatch = (domPads n || x.padLatch) ∧ t.dev.mem = d.mem)
        ∧ (d.mode.req = none → d.health.testQueue = [] → x.step ≠ .ramp → exec (.powerGood code) s = .next s ∧ exec (.wakeAttemptTimeout code) s = .next s)
        ∧ (d.mode.req = none → d.health.testQueue = [] → x.step = .ramp → n ≠ 0x800 → x.pend = none → d.domTesting n = false → (∃ r, x.cur = some r ∧ r.src = .control) →
            ∃ t, exec (.powerGood code) s = .next t ∧ (t.dev.dom n).st = .run ∧ (t.dev.dom n).step = .none ∧ (t.dev.dom n).cur = none
              ∧ t.dev.power.ramping = d.power.ramping.erase n ∧ ∀ k ∈ domNis n, (d.niRec k).shell ≠ .absent → (t.dev.niRec k).shell = .open_)
        ∧ (d.mode.req = none → x.step = .ramp → x.attempts < 2 → ∃ t, exec (.wakeAttemptTimeout code) s = .next t ∧ (t.dev.dom n).step = .retryWait
            ∧ (t.dev.dom n).attempts = x.attempts + 1 ∧ t.dev.power.ramping = d.power.ramping.erase n)
        ∧ (d.mode.req = none → x.step = .ramp → x.attempts = 2 → x.pend = none → (∃ r, x.cur = some r ∧ r.src = .control) → ∃ t, exec (.wakeAttemptTimeout code) s = .next t
            ∧ (t.dev.dom n).st = .failed ∧ (t.dev.dom n).cur = none ∧ ∀ u ∈ domUnits n, (t.dev.unit u.1 u.2).markFail = true)
        ∧ (x.step ≠ .retryWait → exec (.wakeRetry code) s = .next s)
        ∧ (x.step = .retryWait → d.power.ramping.length < 16 → ∃ t, exec (.wakeRetry code) s = .next t ∧ (t.dev.dom n).step = .ramp
            ∧ t.dev.power.ramping = d.power.ramping ++ [n])
        ∧ (x.step = .retryWait → 16 ≤ d.power.ramping.length → ∃ t, exec (.wakeRetry code) s = .next t ∧ (t.dev.dom n).step = .waitSlot
            ∧ t.dev.power.waiting = n :: d.power.waiting)))
  ∧ (∀ s : State, let d := s.dev
    d.up = true → (d.power.waiting = [] → exec .rampSlotGrant s = .next s)
      ∧ (16 ≤ d.power.ramping.length → exec .rampSlotGrant s = .next s)
      ∧ (∀ n rest, d.power.waiting = n :: rest → d.power.ramping.length < 16 → ∃ t, exec .rampSlotGrant s = .next t ∧ (t.dev.dom n).step = .ramp
          ∧ t.dev.power.waiting = rest ∧ t.dev.power.ramping = d.power.ramping ++ [n]))
  ∧ (∀ (s : State) (v : Half) (ok : Bool), let d := s.dev
    let ch := d.thermal.channel
    (d.up = false → exec (.housekeepingConversion v ok) s = .next s)
    ∧ (d.up = true → d.mode.mode ≠ 9 → 24 ≤ ch → ch < 49 → exec (.housekeepingConversion v ok) s = .next { s with dev := { d with thermal := { d.thermal with
        fresh := Vector.ofFn (fun i => if i.val = ch then v else d.thermal.fresh[i]), channel := ch + 1, coolFor := 0 } } })
    ∧ (d.up = true → d.mode.mode ≠ 9 → ch < 24 → d.thermal.faulty.getLsbD ch = false → (v.toInt < -640 ∨ 2400 < v.toInt) → ∃ t,
        exec (.housekeepingConversion v ok) s = .next t ∧ t.dev.thermal.faulty = (d.thermal.faulty ||| ((1 : BitVec 24) <<< ch)) ∧ t.dev.thermal.channel = ch + 1
          ∧ t.dev.mode = d.mode))
  ∧ (∀ (s : State) (m : Sys2Proof.ModelStep), let d := s.dev
    d.up = true → d.thermal.valid = true → (∀ i : Fin 96, m.nodes[i].toInt < 1920) → ∃ t, exec (.modelStep m) s = .next t
      ∧ t.dev.thermal.node = Vector.ofFn (fun i => m.nodes[i].toInt) ∧ t.dev.thermal.pcore = m.pcore.toNat
      ∧ t.dev.thermal.limit = (d.thermal.limit || decide (t.dev.thermal.tlim ≤ t.dev.thermal.td)) ∧ t.dev.mode = d.mode ∧ t.dev.cfg = d.cfg)
  ∧ (∀ s : State, let d := s.dev
    d.up = true →
      ((d.thermal.limit = false ∨ d.thermal.belowSteps < 20000) → exec .thermalLimitClear s = .next s)
      ∧ (d.thermal.limit = true → 20000 ≤ d.thermal.belowSteps → ∃ t, exec .thermalLimitClear s = .next t ∧ t.dev.thermal = { d.thermal with limit := false })
      ∧ (d.time.air / secondTc ≠ d.health.leakSecond → ∃ t, exec .bucketLeak s = .next t ∧ t.dev.health.leakSecond = d.time.air / secondTc
          ∧ ∀ i : Fin 2048, t.dev.units[i] = { d.units[i] with level := d.units[i].level - (d.health.leaky.toList.getD (i.val / 128) {}).leak })
      ∧ (∀ (c u : BitVec 8) (r : Sys2Proof.TestReport),
          ((d.unit c.toNat u.toNat).testing = false → exec (.selftestComplete c u r) s = .next s)
          ∧ ((d.unit c.toNat u.toNat).testing = true → d.health.testQueue = [] → d.mode.todo = [] → d.heldTest c.toNat u.toNat = none →
              (d.dom (unitDomain c.toNat u.toNat)).pend = none → ∃ t, exec (.selftestComplete c u r) s = .next t
                ∧ (let x := t.dev.unit c.toNat u.toNat
                   x.testing = false ∧ x.last = (match d.testOutcome c.toNat u.toNat r with | .pass => 1 | .fail => 2 | .slow => 3) ∧ x.testEpoch = d.chiop.epoch ∧ x.rate = r.rate
                   ∧ (d.testOutcome c.toNat u.toNat r = .slow → x.markRetire = true) ∧ (d.testOutcome c.toNat u.toNat r = .fail → neverRetired c.toNat u.toNat = false → x.markRetire = true))))
      ∧ ((d.mode.mode ∉ [4, 5, 6, 7, 8] ∨ d.health.testQueue ≠ []) → exec .rollingSelftest s = .next s)
      ∧ (∀ k, d.mode.mode ∈ [4, 5, 6, 7, 8] → d.health.testQueue = [] →
          ((List.range rollingUnits.length).map (fun k => (d.health.rolling + k) % rollingUnits.length)).find? (fun k =>
            let u := rollingUnits.getD k (0, 0)
            d.present u.1 u.2 && !(d.unit u.1 u.2).testing && d.poolSpare u && d.testCanStart u) = some k →
          ∃ t, exec .rollingSelftest s = .next t ∧ t.dev.health.rolling = (k + 1) % rollingUnits.length
            ∧ (let u := rollingUnits.getD k (0, 0)
               (t.dev.unit u.1 u.2).testing = true ∧ (t.dev.unit u.1 u.2).rolling = true))
      ∧ (d.health.replaceOut = false → exec .replaceRequest s = .next s)
      ∧ (d.health.replaceOut = true → airPast d.time.air ((d.health.replaceAt + 60 * secondTc) % airWrap) = true → ∃ t, exec .replaceRequest s = .next t
          ∧ t.dev.health.repeatCount = d.health.repeatCount + 1 ∧ t.dev.health.replaceAt = d.time.air ∧ t.dev.chiop.evSeq = d.chiop.evSeq + 1))

/-- With a command at the front of the queue, a step answers what the command answers on the device with the queue's
rest; with no command waiting and no packet on the rings it changes nothing, and with packets on them one flit time
passes (log entries 2 and 80, the model's choice). (16_chiop_commands.md, R392) -/
def Obligations.StepRunsTheFrontCommand : Prop :=
  (∀ (s : State) (c : Instr) (rest : List Instr), s.pending = c :: rest → step s = exec c { s with pending := rest })
  ∧ (∀ s : State, s.pending = [] → step s = .next s.idle ∧ (s.dev.ring.net.worms = [] → step s = .next s))

/-- For every command and every state, the command answers a next state: it never stops the block. The queue behind it
is as before, and a step on a queue that is not empty answers a next state whose queue is the rest.
(16_chiop_commands.md, R392; 09_almanac_scheduler.md, R222) -/
def Obligations.EveryStepCompletesAndTakesOneCommand : Prop :=
  (∀ (c : Instr) (s : State), ∃ t, exec c s = .next t ∧ t.pending = s.pending)
  ∧ (∀ (s : State) (c : Instr) (rest : List Instr), s.pending = c :: rest → ∃ t, step s = .next t ∧ t.pending = rest)

/-- After reset no command waits; air time is 0 in FREE_RUN with a tick of 1 µs; every core is at Monitor level at
0x0001_E000 with REPMAX 0x1000, TVB_M 0x0001_E000 and its other registers 0; UNIT_CFG admits all classes; ALERT_MASK
reads 0xF, EVT_SIZE 0x1000, the rings are disabled with indices 0, BAR0 has SCRATCH, HBCOUNT and WINBASE 0; the memory
lists nothing and has its canonical form. (02_timing_and_deadlines.md, R40, R46; 03_signal_cores.md, R63, Table 3.9;
09_almanac_scheduler.md, R222; 22_host_registers.md, Tables 22.1, 22.5 to 22.7) -/
def Obligations.ResetValues : Prop :=
  let d := State.reset.dev
  State.reset.pending = []
  ∧ d.time.air = 0 ∧ d.time.tq = .freeRun ∧ d.time.src = 0 ∧ d.time.tickCode = 2
  ∧ (∀ k : Fin 128, d.cores[k].level = .monitor ∧ d.cores[k].pc = 0x0001E000 ∧ d.cores[k].repmax = 0x1000 ∧ d.cores[k].trapM = { tvb := 0x0001E000 }
      ∧ d.cores[k].trapS = {} ∧ (∀ i : Fin 16, d.cores[k].s[i] = 0) ∧ (∀ i : Fin 8, d.cores[k].a[i] = 0 ∧ d.cores[k].m[i] = 0) ∧ d.cores[k].vstat = 0
      ∧ d.cores[k].corectl = 0 ∧ d.cores[k].ien = 0)
  ∧ (∀ k : Fin 128, d.alm.unitCfg[k] = 7)
  ∧ d.host.alertMask = 0xF ∧ d.host.evtSize = 0x1000 ∧ d.host.enable = false ∧ d.host.cmdTail = 0 ∧ d.host.cmdHead = 0 ∧ d.host.evtTail = 0 ∧ d.host.evtHead = 0
  ∧ d.host.scratch = 0 ∧ d.host.hbcount = 0 ∧ d.host.winbase = 0 ∧ d.host.alertEdge = 0
  ∧ d.mem.cells = [] ∧ d.mem.wf = true

/-- For every scalar/branch, load/store and vector operation, with every value of every field, decoding the slot word
spelled from the spec's formats gives the operation back; of the two MXGETE forms each with its FN bit. An MXC operation
spelled into slot VA is no listed encoding. A word that decodes in the scalar/branch or load/store slot has the OP of
its operation. (03_signal_cores.md, R69, R71, R72, R73, Tables 3.4 to 3.7; 04_matrix_coprocessor.md, R104, Table 4.1) -/
def Obligations.SlotWordsReadBackAsTheirOperations : Prop :=
  (∀ op : Sys2Proof.SbOp, decodeSb (spellSb op) = some op)
  ∧ (∀ op : Sys2Proof.LsOp, decodeLs (spellLs op) = some op)
  ∧ (∀ (slot : Sys2Proof.VSlot) (op : Sys2Proof.VOp), (∀ fn d a b fnf mod, op ≠ .mx fn d a b fnf mod) → decodeV slot (spellV op) = some op)
  ∧ (∀ (fn : Sys2Proof.MxFn) (d a b : BitVec 5) (fnf : BitVec 6) (mod : BitVec 5), decodeV .va (spellV (.mx fn d a b fnf mod)) = none
      ∧ ((fn = .getExp → fnf.getLsbD 0 = false) → (fn = .getSeq → fnf.getLsbD 0 = true) →
          decodeV .vb (spellV (.mx fn d a b fnf mod)) = some (.mx fn d a b fnf mod)))
  ∧ (∀ (w : Word) (op : Sys2Proof.SbOp), decodeSb w = some op → fld (spellSb op) 26 6 = fld w 26 6)
  ∧ (∀ (w : Word) (op : Sys2Proof.LsOp), decodeLs w = some op → fld (spellLs op) 27 5 = fld w 27 5)
end

