-- ==== Sys2Proof/Laws/Memory.lean ====
section
/-! SUPPORT. The laws of the sparse memory: the canonical form is kept by every operation, a read after a write gives what
was written, and every other address reads as before. -/

namespace Sys2Proof.Machine

/-! ### The cells -/

theorem cellsWfFrom_mono (m : List Host.Cell) : ∀ {lo hi : Nat}, lo ≤ hi → cellsWfFrom hi m = true → cellsWfFrom lo m = true := by
  intro lo hi h hm
  cases m with
  | nil => rfl
  | cons c rest =>
    obtain ⟨k, v⟩ := c
    simp only [cellsWfFrom, Bool.and_eq_true, decide_eq_true_eq] at hm ⊢
    exact ⟨⟨by omega, hm.1.2⟩, hm.2⟩

theorem cellsWrite_wfFrom (b : Byte) : ∀ (m : List Host.Cell) (lo a : Nat), lo ≤ a → cellsWfFrom lo m = true →
    cellsWfFrom lo (cellsWrite m a b) = true := by
  intro m
  induction m with
  | nil =>
    intro lo a h _
    simp only [cellsWrite]
    split <;> simp_all [cellsWfFrom]
  | cons c rest ih =>
    intro lo a h hm
    obtain ⟨k, v⟩ := c
    simp only [cellsWfFrom, Bool.and_eq_true, decide_eq_true_eq] at hm
    obtain ⟨⟨h1, h2⟩, h3⟩ := hm
    simp only [cellsWrite]
    split
    · split
      · simp only [cellsWfFrom, Bool.and_eq_true, decide_eq_true_eq]; exact ⟨⟨h1, h2⟩, h3⟩
      · rename_i hb
        simp only [cellsWfFrom, Bool.and_eq_true, decide_eq_true_eq]
        exact ⟨⟨h, hb⟩, ⟨by omega, h2⟩, h3⟩
    · split
      · subst_vars
        split
        · exact cellsWfFrom_mono rest (by omega) h3
        · rename_i hb
          simp only [cellsWfFrom, Bool.and_eq_true, decide_eq_true_eq]
          exact ⟨⟨h, hb⟩, h3⟩
      · simp only [cellsWfFrom, Bool.and_eq_true, decide_eq_true_eq]
        exact ⟨⟨h1, h2⟩, ih (k + 1) a (by omega) h3⟩

theorem cellsRead_below : ∀ (m : List Host.Cell) (lo a : Nat), a < lo → cellsWfFrom lo m = true → cellsRead m a = 0 := by
  intro m
  cases m with
  | nil => intros; rfl
  | cons c rest =>
    intro lo a h hm
    obtain ⟨k, v⟩ := c
    simp only [cellsWfFrom, Bool.and_eq_true, decide_eq_true_eq] at hm
    simp only [cellsRead]
    rw [if_neg (by omega), if_pos (by omega)]

theorem cellsRead_write (b : Byte) : ∀ (m : List Host.Cell) (lo a x : Nat), lo ≤ a → cellsWfFrom lo m = true →
    cellsRead (cellsWrite m a b) x = if x = a then b else cellsRead m x := by
  intro m
  induction m with
  | nil =>
    intro lo a x _ _
    simp only [cellsWrite]
    (split <;> split) <;> simp_all [cellsRead] <;> omega
  | cons c rest ih =>
    intro lo a x h hm
    obtain ⟨k, v⟩ := c
    simp only [cellsWfFrom, Bool.and_eq_true, decide_eq_true_eq] at hm
    obtain ⟨⟨h1, h2⟩, h3⟩ := hm
    simp only [cellsWrite]
    split
    · split
      · split
        · subst_vars; simp only [cellsRead]; rw [if_neg (by omega), if_pos (by omega)]
        · rfl
      · simp only [cellsRead]
        by_cases hx : x = a
        · simp [hx]
        · rw [if_neg (Ne.symm hx), if_neg hx]
          split
          · rw [if_neg (by omega), if_pos (by omega)]
          · rfl
    · split
      · subst_vars
        split
        · subst_vars
          split
          · subst_vars; exact cellsRead_below rest _ _ (Nat.lt_succ_self _) h3
          · simp only [cellsRead]
            rename_i hx
            rw [if_neg (Ne.symm hx)]
            split
            · exact cellsRead_below rest _ _ (by omega) h3
            · rfl
        · by_cases hx : x = k
          · simp [cellsRead, hx]
          · simp only [cellsRead]; rw [if_neg (Ne.symm hx), if_neg hx, if_neg (Ne.symm hx)]
      · simp only [cellsRead]
        split
        · subst_vars; rw [if_neg (by omega)]
        · split
          · rw [if_neg (by omega)]
          · exact ih (k + 1) a x (by omega) h3

theorem cellsWriteAll_wf : ∀ (bs : List Byte) (m : List Host.Cell) (a : Nat), cellsWf m = true → cellsWf (cellsWriteAll m a bs) = true
  | [], _, _, h => h
  | b :: bs, m, a, h => cellsWriteAll_wf bs _ (a + 1) (cellsWrite_wfFrom b m 0 a (Nat.zero_le _) h)

theorem cellsFilter_wfFrom (p : Host.Cell → Bool) : ∀ (m : List Host.Cell) (lo : Nat), cellsWfFrom lo m = true →
    cellsWfFrom lo (m.filter p) = true := by
  intro m
  induction m with
  | nil => intros; rfl
  | cons c rest ih =>
    intro lo hm
    obtain ⟨k, v⟩ := c
    simp only [cellsWfFrom, Bool.and_eq_true, decide_eq_true_eq] at hm
    obtain ⟨⟨h1, h2⟩, h3⟩ := hm
    simp only [List.filter]
    split
    · simp only [cellsWfFrom, Bool.and_eq_true, decide_eq_true_eq]
      exact ⟨⟨h1, h2⟩, ih _ h3⟩
    · exact ih lo (cellsWfFrom_mono rest (by omega) h3)

/-! ### The memory -/

theorem Memory.wf_reset : (Memory.wf {}) = true := by decide

theorem Memory.setBytes_wf (m : Memory) (a : Nat) (bs : List Byte) (h : m.wf = true) : (m.setBytes a bs).wf = true :=
  cellsWriteAll_wf bs _ a h

theorem Memory.markPoison_wf (m : Memory) (a : Nat) (h : m.wf = true) : (m.markPoison a).wf = true := h

theorem Memory.firstUse_wf (m : Memory) (a : Nat) (h : m.wf = true) : (m.firstUse a).wf = true := by
  unfold Memory.firstUse
  split
  · exact cellsFilter_wfFrom _ _ _ h
  · exact h

theorem Memory.ifWriteByte_wf (m : Memory) (base n a : Nat) (b : Byte) (h : m.wf = true) : (m.ifWriteByte base n a b).wf = true := by
  have h1 := Memory.firstUse_wf m a h
  unfold Memory.ifWriteByte
  simp only
  split
  · split
    · exact cellsWrite_wfFrom b _ 0 a (Nat.zero_le _) h1
    · exact h1
  · exact cellsWrite_wfFrom b _ 0 a (Nat.zero_le _) h1

theorem Memory.ifWriteFrom_wf (base n : Nat) : ∀ (bs : List Byte) (m : Memory) (a : Nat), m.wf = true →
    (m.ifWriteFrom base n a bs).wf = true
  | [], _, _, h => h
  | b :: bs, m, a, h => Memory.ifWriteFrom_wf base n bs _ (a + 1) (Memory.ifWriteByte_wf m base n a b h)

theorem Memory.ifWrite_wf (m : Memory) (a : Nat) (bs : List Byte) (h : m.wf = true) : (m.ifWrite a bs).wf = true :=
  Memory.ifWriteFrom_wf a bs.length bs m a h

theorem Memory.clearRange_wf (m : Memory) (a n : Nat) (h : m.wf = true) : (m.clearRange a n).wf = true :=
  cellsFilter_wfFrom _ _ _ h

theorem Memory.storeWords_wf (base : Nat) : ∀ (xs : List (Word × Word)) (m : Memory), m.wf = true → (storeWords m base xs).wf = true := by
  intro xs
  induction xs with
  | nil => intro m h; exact h
  | cons c rest ih =>
    intro m h
    obtain ⟨x, w⟩ := c
    rw [storeWords]
    apply ih; apply Memory.ifWrite_wf; exact h

theorem Memory.setHarq_wf (m : Memory) (b n : Nat) (h : m.wf = true) : (m.setHarq b n).wf = true := by
  unfold Memory.setHarq; simp only [Memory.wf] at h ⊢; exact h

/-- A write changes no byte outside its range (R306, R312), outside the pages of the HARQ area that it uses first. -/
theorem Memory.ifWriteByte_byte (m : Memory) (base n a : Nat) (b : Byte) (h : m.wf = true) (hq : m.inHarq a = false) (x : Nat)
    (hx : x ≠ a) : (m.ifWriteByte base n a b).byte x = m.byte x := by
  have hf : m.firstUse a = m := by simp [Memory.firstUse, hq]
  have hw : cellsRead (cellsWrite m.cells a b) x = cellsRead m.cells x := by
    rw [cellsRead_write b m.cells 0 a x (Nat.zero_le _) h, if_neg hx]
  simp only [Memory.ifWriteByte, hf]
  split
  · split
    · exact hw
    · rfl
  · exact hw

end Sys2Proof.Machine
end

