-- ==== Sys2Proof/Laws/State.lean ====
section
/-! SUPPORT. The small lemmas of State: each named update leaves every other field of the device alone, and a row
leaves the queue alone. -/

namespace Sys2Proof.Machine

/-! ### Rows and the queue -/

@[simp] theorem State.on_eq (s : State) (f : Dev → Dev) : s.on f = .next { s with dev := f s.dev } := rfl
@[simp] theorem State.onAlive_eq (s : State) (f : Dev → Dev) :
    s.onAlive f = .next { s with dev := if s.dev.alive then f s.dev else s.dev } := rfl
@[simp] theorem State.onAlmanac_eq (s : State) (f : Dev → Dev) :
    s.onAlmanac f = .next { s with dev := if s.dev.almRuns then (f s.dev).settlePlans else s.dev } := rfl
@[simp] theorem State.onRing_eq (s : State) (f : Dev → Dev) :
    s.onRing f = .next { s with dev := if s.dev.up && s.dev.mode.mode != 9 then f s.dev else s.dev } := rfl
@[simp] theorem State.onBar0_eq (s : State) (f : Dev → Dev) :
    s.onBar0 f = .next { s with dev := if s.dev.barUp then f s.dev else s.dev } := rfl

theorem step_nil (s : State) (h : s.pending = []) : step s = .next s.idle := by simp [step, h]

/-- Without packets on the rings an empty queue idles. -/
@[simp] theorem State.idle_quiet (s : State) (h : s.dev.ring.net.worms = []) : s.idle = s := by simp [State.idle, h]

/-- Over free rings a packet does at once what it does on arrival. -/
theorem Dev.carry_free (d : Dev) (p : Packet) (k : Nat) (c : Cargo) (m : Sys2Proof.Mishap) (f : Dev → Dev)
    (hm : m ≠ .slow) (h : d.ring.net.worms = []) :
    d.carry p k c m f = f { d with ring := { d.ring with last := some p } } := by simp [Dev.carry, h, hm]

/-- A packet that meets traffic enters the rings and does nothing else yet. -/
theorem Dev.carry_slow (d : Dev) (p : Packet) (k : Nat) (c : Cargo) (f : Dev → Dev) :
    d.carry p k c .slow f = { d with ring := { d.ring with net :=
      { d.ring.net with worms := d.ring.net.worms ++ [p.worm k c false] } } } := by simp [Dev.carry]

theorem step_cons (s : State) (c : Sys2Proof.Instr) (rest : List Sys2Proof.Instr) (h : s.pending = c :: rest) :
    step s = exec c { s with pending := rest } := by simp [step, h]

/-! ### updUnit -/

@[simp] theorem Dev.updUnit_part (d : Dev) (c s : Nat) (f : UnitRec → UnitRec) : (d.updUnit c s f).part = d.part := by unfold Dev.updUnit; rfl
@[simp] theorem Dev.updUnit_stepping (d : Dev) (c s : Nat) (f : UnitRec → UnitRec) : (d.updUnit c s f).stepping = d.stepping := by unfold Dev.updUnit; rfl
@[simp] theorem Dev.updUnit_cores (d : Dev) (c s : Nat) (f : UnitRec → UnitRec) : (d.updUnit c s f).cores = d.cores := by unfold Dev.updUnit; rfl
@[simp] theorem Dev.updUnit_mem (d : Dev) (c s : Nat) (f : UnitRec → UnitRec) : (d.updUnit c s f).mem = d.mem := by unfold Dev.updUnit; rfl
@[simp] theorem Dev.updUnit_time (d : Dev) (c s : Nat) (f : UnitRec → UnitRec) : (d.updUnit c s f).time = d.time := by unfold Dev.updUnit; rfl
@[simp] theorem Dev.updUnit_slack (d : Dev) (c s : Nat) (f : UnitRec → UnitRec) : (d.updUnit c s f).slack = d.slack := by unfold Dev.updUnit; rfl
@[simp] theorem Dev.updUnit_power (d : Dev) (c s : Nat) (f : UnitRec → UnitRec) : (d.updUnit c s f).power = d.power := by unfold Dev.updUnit; rfl
@[simp] theorem Dev.updUnit_thermal (d : Dev) (c s : Nat) (f : UnitRec → UnitRec) : (d.updUnit c s f).thermal = d.thermal := by unfold Dev.updUnit; rfl
@[simp] theorem Dev.updUnit_health (d : Dev) (c s : Nat) (f : UnitRec → UnitRec) : (d.updUnit c s f).health = d.health := by unfold Dev.updUnit; rfl
@[simp] theorem Dev.updUnit_chiop (d : Dev) (c s : Nat) (f : UnitRec → UnitRec) : (d.updUnit c s f).chiop = d.chiop := by unfold Dev.updUnit; rfl
@[simp] theorem Dev.updUnit_mode (d : Dev) (c s : Nat) (f : UnitRec → UnitRec) : (d.updUnit c s f).mode = d.mode := by unfold Dev.updUnit; rfl
@[simp] theorem Dev.updUnit_start (d : Dev) (c s : Nat) (f : UnitRec → UnitRec) : (d.updUnit c s f).start = d.start := by unfold Dev.updUnit; rfl
@[simp] theorem Dev.updUnit_host (d : Dev) (c s : Nat) (f : UnitRec → UnitRec) : (d.updUnit c s f).host = d.host := by unfold Dev.updUnit; rfl
@[simp] theorem Dev.updUnit_cfg (d : Dev) (c s : Nat) (f : UnitRec → UnitRec) : (d.updUnit c s f).cfg = d.cfg := by unfold Dev.updUnit; rfl
@[simp] theorem Dev.updUnit_alm (d : Dev) (c s : Nat) (f : UnitRec → UnitRec) : (d.updUnit c s f).alm = d.alm := by unfold Dev.updUnit; rfl
@[simp] theorem Dev.updUnit_ring (d : Dev) (c s : Nat) (f : UnitRec → UnitRec) : (d.updUnit c s f).ring = d.ring := by unfold Dev.updUnit; rfl
@[simp] theorem Dev.updUnit_dma (d : Dev) (c s : Nat) (f : UnitRec → UnitRec) : (d.updUnit c s f).dma = d.dma := by unfold Dev.updUnit; rfl
@[simp] theorem Dev.updUnit_eng (d : Dev) (c s : Nat) (f : UnitRec → UnitRec) : (d.updUnit c s f).eng = d.eng := by unfold Dev.updUnit; rfl
@[simp] theorem Dev.updUnit_link (d : Dev) (c s : Nat) (f : UnitRec → UnitRec) : (d.updUnit c s f).link = d.link := by unfold Dev.updUnit; rfl
@[simp] theorem Dev.updUnit_eth (d : Dev) (c s : Nat) (f : UnitRec → UnitRec) : (d.updUnit c s f).eth = d.eth := by unfold Dev.updUnit; rfl
@[simp] theorem Dev.updUnit_free (d : Dev) (c s : Nat) (f : UnitRec → UnitRec) : (d.updUnit c s f).free = d.free := by unfold Dev.updUnit; rfl

/-! ### updEth -/

@[simp] theorem Dev.updEth_part (d : Dev) (p : Nat) (f : EthPort → EthPort) : (d.updEth p f).part = d.part := by unfold Dev.updEth; rfl
@[simp] theorem Dev.updEth_stepping (d : Dev) (p : Nat) (f : EthPort → EthPort) : (d.updEth p f).stepping = d.stepping := by unfold Dev.updEth; rfl
@[simp] theorem Dev.updEth_cores (d : Dev) (p : Nat) (f : EthPort → EthPort) : (d.updEth p f).cores = d.cores := by unfold Dev.updEth; rfl
@[simp] theorem Dev.updEth_mem (d : Dev) (p : Nat) (f : EthPort → EthPort) : (d.updEth p f).mem = d.mem := by unfold Dev.updEth; rfl
@[simp] theorem Dev.updEth_units (d : Dev) (p : Nat) (f : EthPort → EthPort) : (d.updEth p f).units = d.units := by unfold Dev.updEth; rfl
@[simp] theorem Dev.updEth_time (d : Dev) (p : Nat) (f : EthPort → EthPort) : (d.updEth p f).time = d.time := by unfold Dev.updEth; rfl
@[simp] theorem Dev.updEth_slack (d : Dev) (p : Nat) (f : EthPort → EthPort) : (d.updEth p f).slack = d.slack := by unfold Dev.updEth; rfl
@[simp] theorem Dev.updEth_power (d : Dev) (p : Nat) (f : EthPort → EthPort) : (d.updEth p f).power = d.power := by unfold Dev.updEth; rfl
@[simp] theorem Dev.updEth_thermal (d : Dev) (p : Nat) (f : EthPort → EthPort) : (d.updEth p f).thermal = d.thermal := by unfold Dev.updEth; rfl
@[simp] theorem Dev.updEth_health (d : Dev) (p : Nat) (f : EthPort → EthPort) : (d.updEth p f).health = d.health := by unfold Dev.updEth; rfl
@[simp] theorem Dev.updEth_chiop (d : Dev) (p : Nat) (f : EthPort → EthPort) : (d.updEth p f).chiop = d.chiop := by unfold Dev.updEth; rfl
@[simp] theorem Dev.updEth_mode (d : Dev) (p : Nat) (f : EthPort → EthPort) : (d.updEth p f).mode = d.mode := by unfold Dev.updEth; rfl
@[simp] theorem Dev.updEth_start (d : Dev) (p : Nat) (f : EthPort → EthPort) : (d.updEth p f).start = d.start := by unfold Dev.updEth; rfl
@[simp] theorem Dev.updEth_host (d : Dev) (p : Nat) (f : EthPort → EthPort) : (d.updEth p f).host = d.host := by unfold Dev.updEth; rfl
@[simp] theorem Dev.updEth_cfg (d : Dev) (p : Nat) (f : EthPort → EthPort) : (d.updEth p f).cfg = d.cfg := by unfold Dev.updEth; rfl
@[simp] theorem Dev.updEth_alm (d : Dev) (p : Nat) (f : EthPort → EthPort) : (d.updEth p f).alm = d.alm := by unfold Dev.updEth; rfl
@[simp] theorem Dev.updEth_ring (d : Dev) (p : Nat) (f : EthPort → EthPort) : (d.updEth p f).ring = d.ring := by unfold Dev.updEth; rfl
@[simp] theorem Dev.updEth_dma (d : Dev) (p : Nat) (f : EthPort → EthPort) : (d.updEth p f).dma = d.dma := by unfold Dev.updEth; rfl
@[simp] theorem Dev.updEth_eng (d : Dev) (p : Nat) (f : EthPort → EthPort) : (d.updEth p f).eng = d.eng := by unfold Dev.updEth; rfl
@[simp] theorem Dev.updEth_link (d : Dev) (p : Nat) (f : EthPort → EthPort) : (d.updEth p f).link = d.link := by unfold Dev.updEth; rfl
@[simp] theorem Dev.updEth_free (d : Dev) (p : Nat) (f : EthPort → EthPort) : (d.updEth p f).free = d.free := by unfold Dev.updEth; rfl

/-! ### updDom -/

@[simp] theorem Dev.updDom_part (d : Dev) (c : Nat) (f : DomainRec → DomainRec) : (d.updDom c f).part = d.part := by unfold Dev.updDom; rfl
@[simp] theorem Dev.updDom_stepping (d : Dev) (c : Nat) (f : DomainRec → DomainRec) : (d.updDom c f).stepping = d.stepping := by unfold Dev.updDom; rfl
@[simp] theorem Dev.updDom_cores (d : Dev) (c : Nat) (f : DomainRec → DomainRec) : (d.updDom c f).cores = d.cores := by unfold Dev.updDom; rfl
@[simp] theorem Dev.updDom_mem (d : Dev) (c : Nat) (f : DomainRec → DomainRec) : (d.updDom c f).mem = d.mem := by unfold Dev.updDom; rfl
@[simp] theorem Dev.updDom_units (d : Dev) (c : Nat) (f : DomainRec → DomainRec) : (d.updDom c f).units = d.units := by unfold Dev.updDom; rfl
@[simp] theorem Dev.updDom_time (d : Dev) (c : Nat) (f : DomainRec → DomainRec) : (d.updDom c f).time = d.time := by unfold Dev.updDom; rfl
@[simp] theorem Dev.updDom_slack (d : Dev) (c : Nat) (f : DomainRec → DomainRec) : (d.updDom c f).slack = d.slack := by unfold Dev.updDom; rfl
@[simp] theorem Dev.updDom_thermal (d : Dev) (c : Nat) (f : DomainRec → DomainRec) : (d.updDom c f).thermal = d.thermal := by unfold Dev.updDom; rfl
@[simp] theorem Dev.updDom_health (d : Dev) (c : Nat) (f : DomainRec → DomainRec) : (d.updDom c f).health = d.health := by unfold Dev.updDom; rfl
@[simp] theorem Dev.updDom_chiop (d : Dev) (c : Nat) (f : DomainRec → DomainRec) : (d.updDom c f).chiop = d.chiop := by unfold Dev.updDom; rfl
@[simp] theorem Dev.updDom_mode (d : Dev) (c : Nat) (f : DomainRec → DomainRec) : (d.updDom c f).mode = d.mode := by unfold Dev.updDom; rfl
@[simp] theorem Dev.updDom_start (d : Dev) (c : Nat) (f : DomainRec → DomainRec) : (d.updDom c f).start = d.start := by unfold Dev.updDom; rfl
@[simp] theorem Dev.updDom_host (d : Dev) (c : Nat) (f : DomainRec → DomainRec) : (d.updDom c f).host = d.host := by unfold Dev.updDom; rfl
@[simp] theorem Dev.updDom_cfg (d : Dev) (c : Nat) (f : DomainRec → DomainRec) : (d.updDom c f).cfg = d.cfg := by unfold Dev.updDom; rfl
@[simp] theorem Dev.updDom_alm (d : Dev) (c : Nat) (f : DomainRec → DomainRec) : (d.updDom c f).alm = d.alm := by unfold Dev.updDom; rfl
@[simp] theorem Dev.updDom_ring (d : Dev) (c : Nat) (f : DomainRec → DomainRec) : (d.updDom c f).ring = d.ring := by unfold Dev.updDom; rfl
@[simp] theorem Dev.updDom_dma (d : Dev) (c : Nat) (f : DomainRec → DomainRec) : (d.updDom c f).dma = d.dma := by unfold Dev.updDom; rfl
@[simp] theorem Dev.updDom_eng (d : Dev) (c : Nat) (f : DomainRec → DomainRec) : (d.updDom c f).eng = d.eng := by unfold Dev.updDom; rfl
@[simp] theorem Dev.updDom_link (d : Dev) (c : Nat) (f : DomainRec → DomainRec) : (d.updDom c f).link = d.link := by unfold Dev.updDom; rfl
@[simp] theorem Dev.updDom_eth (d : Dev) (c : Nat) (f : DomainRec → DomainRec) : (d.updDom c f).eth = d.eth := by unfold Dev.updDom; rfl
@[simp] theorem Dev.updDom_free (d : Dev) (c : Nat) (f : DomainRec → DomainRec) : (d.updDom c f).free = d.free := by unfold Dev.updDom; rfl

/-! ### updNi -/

@[simp] theorem Dev.updNi_part (d : Dev) (k : Nat) (f : Ni → Ni) : (d.updNi k f).part = d.part := by unfold Dev.updNi; rfl
@[simp] theorem Dev.updNi_stepping (d : Dev) (k : Nat) (f : Ni → Ni) : (d.updNi k f).stepping = d.stepping := by unfold Dev.updNi; rfl
@[simp] theorem Dev.updNi_cores (d : Dev) (k : Nat) (f : Ni → Ni) : (d.updNi k f).cores = d.cores := by unfold Dev.updNi; rfl
@[simp] theorem Dev.updNi_mem (d : Dev) (k : Nat) (f : Ni → Ni) : (d.updNi k f).mem = d.mem := by unfold Dev.updNi; rfl
@[simp] theorem Dev.updNi_units (d : Dev) (k : Nat) (f : Ni → Ni) : (d.updNi k f).units = d.units := by unfold Dev.updNi; rfl
@[simp] theorem Dev.updNi_time (d : Dev) (k : Nat) (f : Ni → Ni) : (d.updNi k f).time = d.time := by unfold Dev.updNi; rfl
@[simp] theorem Dev.updNi_slack (d : Dev) (k : Nat) (f : Ni → Ni) : (d.updNi k f).slack = d.slack := by unfold Dev.updNi; rfl
@[simp] theorem Dev.updNi_power (d : Dev) (k : Nat) (f : Ni → Ni) : (d.updNi k f).power = d.power := by unfold Dev.updNi; rfl
@[simp] theorem Dev.updNi_thermal (d : Dev) (k : Nat) (f : Ni → Ni) : (d.updNi k f).thermal = d.thermal := by unfold Dev.updNi; rfl
@[simp] theorem Dev.updNi_health (d : Dev) (k : Nat) (f : Ni → Ni) : (d.updNi k f).health = d.health := by unfold Dev.updNi; rfl
@[simp] theorem Dev.updNi_chiop (d : Dev) (k : Nat) (f : Ni → Ni) : (d.updNi k f).chiop = d.chiop := by unfold Dev.updNi; rfl
@[simp] theorem Dev.updNi_mode (d : Dev) (k : Nat) (f : Ni → Ni) : (d.updNi k f).mode = d.mode := by unfold Dev.updNi; rfl
@[simp] theorem Dev.updNi_start (d : Dev) (k : Nat) (f : Ni → Ni) : (d.updNi k f).start = d.start := by unfold Dev.updNi; rfl
@[simp] theorem Dev.updNi_host (d : Dev) (k : Nat) (f : Ni → Ni) : (d.updNi k f).host = d.host := by unfold Dev.updNi; rfl
@[simp] theorem Dev.updNi_cfg (d : Dev) (k : Nat) (f : Ni → Ni) : (d.updNi k f).cfg = d.cfg := by unfold Dev.updNi; rfl
@[simp] theorem Dev.updNi_alm (d : Dev) (k : Nat) (f : Ni → Ni) : (d.updNi k f).alm = d.alm := by unfold Dev.updNi; rfl
@[simp] theorem Dev.updNi_dma (d : Dev) (k : Nat) (f : Ni → Ni) : (d.updNi k f).dma = d.dma := by unfold Dev.updNi; rfl
@[simp] theorem Dev.updNi_eng (d : Dev) (k : Nat) (f : Ni → Ni) : (d.updNi k f).eng = d.eng := by unfold Dev.updNi; rfl
@[simp] theorem Dev.updNi_link (d : Dev) (k : Nat) (f : Ni → Ni) : (d.updNi k f).link = d.link := by unfold Dev.updNi; rfl
@[simp] theorem Dev.updNi_eth (d : Dev) (k : Nat) (f : Ni → Ni) : (d.updNi k f).eth = d.eth := by unfold Dev.updNi; rfl
@[simp] theorem Dev.updNi_free (d : Dev) (k : Nat) (f : Ni → Ni) : (d.updNi k f).free = d.free := by unfold Dev.updNi; rfl

/-! ### updChan -/

@[simp] theorem Dev.updChan_part (d : Dev) (c : Nat) (f : Channel → Channel) : (d.updChan c f).part = d.part := by unfold Dev.updChan; rfl
@[simp] theorem Dev.updChan_stepping (d : Dev) (c : Nat) (f : Channel → Channel) : (d.updChan c f).stepping = d.stepping := by unfold Dev.updChan; rfl
@[simp] theorem Dev.updChan_cores (d : Dev) (c : Nat) (f : Channel → Channel) : (d.updChan c f).cores = d.cores := by unfold Dev.updChan; rfl
@[simp] theorem Dev.updChan_mem (d : Dev) (c : Nat) (f : Channel → Channel) : (d.updChan c f).mem = d.mem := by unfold Dev.updChan; rfl
@[simp] theorem Dev.updChan_units (d : Dev) (c : Nat) (f : Channel → Channel) : (d.updChan c f).units = d.units := by unfold Dev.updChan; rfl
@[simp] theorem Dev.updChan_time (d : Dev) (c : Nat) (f : Channel → Channel) : (d.updChan c f).time = d.time := by unfold Dev.updChan; rfl
@[simp] theorem Dev.updChan_slack (d : Dev) (c : Nat) (f : Channel → Channel) : (d.updChan c f).slack = d.slack := by unfold Dev.updChan; rfl
@[simp] theorem Dev.updChan_power (d : Dev) (c : Nat) (f : Channel → Channel) : (d.updChan c f).power = d.power := by unfold Dev.updChan; rfl
@[simp] theorem Dev.updChan_thermal (d : Dev) (c : Nat) (f : Channel → Channel) : (d.updChan c f).thermal = d.thermal := by unfold Dev.updChan; rfl
@[simp] theorem Dev.updChan_health (d : Dev) (c : Nat) (f : Channel → Channel) : (d.updChan c f).health = d.health := by unfold Dev.updChan; rfl
@[simp] theorem Dev.updChan_mode (d : Dev) (c : Nat) (f : Channel → Channel) : (d.updChan c f).mode = d.mode := by unfold Dev.updChan; rfl
@[simp] theorem Dev.updChan_start (d : Dev) (c : Nat) (f : Channel → Channel) : (d.updChan c f).start = d.start := by unfold Dev.updChan; rfl
@[simp] theorem Dev.updChan_host (d : Dev) (c : Nat) (f : Channel → Channel) : (d.updChan c f).host = d.host := by unfold Dev.updChan; rfl
@[simp] theorem Dev.updChan_cfg (d : Dev) (c : Nat) (f : Channel → Channel) : (d.updChan c f).cfg = d.cfg := by unfold Dev.updChan; rfl
@[simp] theorem Dev.updChan_alm (d : Dev) (c : Nat) (f : Channel → Channel) : (d.updChan c f).alm = d.alm := by unfold Dev.updChan; rfl
@[simp] theorem Dev.updChan_ring (d : Dev) (c : Nat) (f : Channel → Channel) : (d.updChan c f).ring = d.ring := by unfold Dev.updChan; rfl
@[simp] theorem Dev.updChan_dma (d : Dev) (c : Nat) (f : Channel → Channel) : (d.updChan c f).dma = d.dma := by unfold Dev.updChan; rfl
@[simp] theorem Dev.updChan_eng (d : Dev) (c : Nat) (f : Channel → Channel) : (d.updChan c f).eng = d.eng := by unfold Dev.updChan; rfl
@[simp] theorem Dev.updChan_link (d : Dev) (c : Nat) (f : Channel → Channel) : (d.updChan c f).link = d.link := by unfold Dev.updChan; rfl
@[simp] theorem Dev.updChan_eth (d : Dev) (c : Nat) (f : Channel → Channel) : (d.updChan c f).eth = d.eth := by unfold Dev.updChan; rfl
@[simp] theorem Dev.updChan_free (d : Dev) (c : Nat) (f : Channel → Channel) : (d.updChan c f).free = d.free := by unfold Dev.updChan; rfl

/-! ### raiseVector -/

@[simp] theorem Dev.raiseVector_part (d : Dev) (v : Nat) : (d.raiseVector v).part = d.part := by unfold Dev.raiseVector; rfl
@[simp] theorem Dev.raiseVector_stepping (d : Dev) (v : Nat) : (d.raiseVector v).stepping = d.stepping := by unfold Dev.raiseVector; rfl
@[simp] theorem Dev.raiseVector_cores (d : Dev) (v : Nat) : (d.raiseVector v).cores = d.cores := by unfold Dev.raiseVector; rfl
@[simp] theorem Dev.raiseVector_mem (d : Dev) (v : Nat) : (d.raiseVector v).mem = d.mem := by unfold Dev.raiseVector; rfl
@[simp] theorem Dev.raiseVector_units (d : Dev) (v : Nat) : (d.raiseVector v).units = d.units := by unfold Dev.raiseVector; rfl
@[simp] theorem Dev.raiseVector_time (d : Dev) (v : Nat) : (d.raiseVector v).time = d.time := by unfold Dev.raiseVector; rfl
@[simp] theorem Dev.raiseVector_slack (d : Dev) (v : Nat) : (d.raiseVector v).slack = d.slack := by unfold Dev.raiseVector; rfl
@[simp] theorem Dev.raiseVector_power (d : Dev) (v : Nat) : (d.raiseVector v).power = d.power := by unfold Dev.raiseVector; rfl
@[simp] theorem Dev.raiseVector_thermal (d : Dev) (v : Nat) : (d.raiseVector v).thermal = d.thermal := by unfold Dev.raiseVector; rfl
@[simp] theorem Dev.raiseVector_health (d : Dev) (v : Nat) : (d.raiseVector v).health = d.health := by unfold Dev.raiseVector; rfl
@[simp] theorem Dev.raiseVector_chiop (d : Dev) (v : Nat) : (d.raiseVector v).chiop = d.chiop := by unfold Dev.raiseVector; rfl
@[simp] theorem Dev.raiseVector_mode (d : Dev) (v : Nat) : (d.raiseVector v).mode = d.mode := by unfold Dev.raiseVector; rfl
@[simp] theorem Dev.raiseVector_start (d : Dev) (v : Nat) : (d.raiseVector v).start = d.start := by unfold Dev.raiseVector; rfl
@[simp] theorem Dev.raiseVector_cfg (d : Dev) (v : Nat) : (d.raiseVector v).cfg = d.cfg := by unfold Dev.raiseVector; rfl
@[simp] theorem Dev.raiseVector_alm (d : Dev) (v : Nat) : (d.raiseVector v).alm = d.alm := by unfold Dev.raiseVector; rfl
@[simp] theorem Dev.raiseVector_ring (d : Dev) (v : Nat) : (d.raiseVector v).ring = d.ring := by unfold Dev.raiseVector; rfl
@[simp] theorem Dev.raiseVector_dma (d : Dev) (v : Nat) : (d.raiseVector v).dma = d.dma := by unfold Dev.raiseVector; rfl
@[simp] theorem Dev.raiseVector_eng (d : Dev) (v : Nat) : (d.raiseVector v).eng = d.eng := by unfold Dev.raiseVector; rfl
@[simp] theorem Dev.raiseVector_link (d : Dev) (v : Nat) : (d.raiseVector v).link = d.link := by unfold Dev.raiseVector; rfl
@[simp] theorem Dev.raiseVector_eth (d : Dev) (v : Nat) : (d.raiseVector v).eth = d.eth := by unfold Dev.raiseVector; rfl
@[simp] theorem Dev.raiseVector_free (d : Dev) (v : Nat) : (d.raiseVector v).free = d.free := by unfold Dev.raiseVector; rfl

/-! ### onAlm -/

@[simp] theorem Dev.onAlm_part (d : Dev) (f : AlmState → AlmState) : (d.onAlm f).part = d.part := by unfold Dev.onAlm; rfl
@[simp] theorem Dev.onAlm_stepping (d : Dev) (f : AlmState → AlmState) : (d.onAlm f).stepping = d.stepping := by unfold Dev.onAlm; rfl
@[simp] theorem Dev.onAlm_cores (d : Dev) (f : AlmState → AlmState) : (d.onAlm f).cores = d.cores := by unfold Dev.onAlm; rfl
@[simp] theorem Dev.onAlm_mem (d : Dev) (f : AlmState → AlmState) : (d.onAlm f).mem = d.mem := by unfold Dev.onAlm; rfl
@[simp] theorem Dev.onAlm_units (d : Dev) (f : AlmState → AlmState) : (d.onAlm f).units = d.units := by unfold Dev.onAlm; rfl
@[simp] theorem Dev.onAlm_time (d : Dev) (f : AlmState → AlmState) : (d.onAlm f).time = d.time := by unfold Dev.onAlm; rfl
@[simp] theorem Dev.onAlm_slack (d : Dev) (f : AlmState → AlmState) : (d.onAlm f).slack = d.slack := by unfold Dev.onAlm; rfl
@[simp] theorem Dev.onAlm_power (d : Dev) (f : AlmState → AlmState) : (d.onAlm f).power = d.power := by unfold Dev.onAlm; rfl
@[simp] theorem Dev.onAlm_thermal (d : Dev) (f : AlmState → AlmState) : (d.onAlm f).thermal = d.thermal := by unfold Dev.onAlm; rfl
@[simp] theorem Dev.onAlm_health (d : Dev) (f : AlmState → AlmState) : (d.onAlm f).health = d.health := by unfold Dev.onAlm; rfl
@[simp] theorem Dev.onAlm_chiop (d : Dev) (f : AlmState → AlmState) : (d.onAlm f).chiop = d.chiop := by unfold Dev.onAlm; rfl
@[simp] theorem Dev.onAlm_mode (d : Dev) (f : AlmState → AlmState) : (d.onAlm f).mode = d.mode := by unfold Dev.onAlm; rfl
@[simp] theorem Dev.onAlm_start (d : Dev) (f : AlmState → AlmState) : (d.onAlm f).start = d.start := by unfold Dev.onAlm; rfl
@[simp] theorem Dev.onAlm_host (d : Dev) (f : AlmState → AlmState) : (d.onAlm f).host = d.host := by unfold Dev.onAlm; rfl
@[simp] theorem Dev.onAlm_cfg (d : Dev) (f : AlmState → AlmState) : (d.onAlm f).cfg = d.cfg := by unfold Dev.onAlm; rfl
@[simp] theorem Dev.onAlm_ring (d : Dev) (f : AlmState → AlmState) : (d.onAlm f).ring = d.ring := by unfold Dev.onAlm; rfl
@[simp] theorem Dev.onAlm_dma (d : Dev) (f : AlmState → AlmState) : (d.onAlm f).dma = d.dma := by unfold Dev.onAlm; rfl
@[simp] theorem Dev.onAlm_eng (d : Dev) (f : AlmState → AlmState) : (d.onAlm f).eng = d.eng := by unfold Dev.onAlm; rfl
@[simp] theorem Dev.onAlm_link (d : Dev) (f : AlmState → AlmState) : (d.onAlm f).link = d.link := by unfold Dev.onAlm; rfl
@[simp] theorem Dev.onAlm_eth (d : Dev) (f : AlmState → AlmState) : (d.onAlm f).eth = d.eth := by unfold Dev.onAlm; rfl
@[simp] theorem Dev.onAlm_free (d : Dev) (f : AlmState → AlmState) : (d.onAlm f).free = d.free := by unfold Dev.onAlm; rfl

/-! ### updCore -/

@[simp] theorem Dev.updCore_part (d : Dev) (k : Nat) (f : Core → Core) : (d.updCore k f).part = d.part := by unfold Dev.updCore; rfl
@[simp] theorem Dev.updCore_stepping (d : Dev) (k : Nat) (f : Core → Core) : (d.updCore k f).stepping = d.stepping := by unfold Dev.updCore; rfl
@[simp] theorem Dev.updCore_mem (d : Dev) (k : Nat) (f : Core → Core) : (d.updCore k f).mem = d.mem := by unfold Dev.updCore; rfl
@[simp] theorem Dev.updCore_units (d : Dev) (k : Nat) (f : Core → Core) : (d.updCore k f).units = d.units := by unfold Dev.updCore; rfl
@[simp] theorem Dev.updCore_time (d : Dev) (k : Nat) (f : Core → Core) : (d.updCore k f).time = d.time := by unfold Dev.updCore; rfl
@[simp] theorem Dev.updCore_slack (d : Dev) (k : Nat) (f : Core → Core) : (d.updCore k f).slack = d.slack := by unfold Dev.updCore; rfl
@[simp] theorem Dev.updCore_power (d : Dev) (k : Nat) (f : Core → Core) : (d.updCore k f).power = d.power := by unfold Dev.updCore; rfl
@[simp] theorem Dev.updCore_thermal (d : Dev) (k : Nat) (f : Core → Core) : (d.updCore k f).thermal = d.thermal := by unfold Dev.updCore; rfl
@[simp] theorem Dev.updCore_health (d : Dev) (k : Nat) (f : Core → Core) : (d.updCore k f).health = d.health := by unfold Dev.updCore; rfl
@[simp] theorem Dev.updCore_chiop (d : Dev) (k : Nat) (f : Core → Core) : (d.updCore k f).chiop = d.chiop := by unfold Dev.updCore; rfl
@[simp] theorem Dev.updCore_mode (d : Dev) (k : Nat) (f : Core → Core) : (d.updCore k f).mode = d.mode := by unfold Dev.updCore; rfl
@[simp] theorem Dev.updCore_start (d : Dev) (k : Nat) (f : Core → Core) : (d.updCore k f).start = d.start := by unfold Dev.updCore; rfl
@[simp] theorem Dev.updCore_host (d : Dev) (k : Nat) (f : Core → Core) : (d.updCore k f).host = d.host := by unfold Dev.updCore; rfl
@[simp] theorem Dev.updCore_cfg (d : Dev) (k : Nat) (f : Core → Core) : (d.updCore k f).cfg = d.cfg := by unfold Dev.updCore; rfl
@[simp] theorem Dev.updCore_alm (d : Dev) (k : Nat) (f : Core → Core) : (d.updCore k f).alm = d.alm := by unfold Dev.updCore; rfl
@[simp] theorem Dev.updCore_ring (d : Dev) (k : Nat) (f : Core → Core) : (d.updCore k f).ring = d.ring := by unfold Dev.updCore; rfl
@[simp] theorem Dev.updCore_dma (d : Dev) (k : Nat) (f : Core → Core) : (d.updCore k f).dma = d.dma := by unfold Dev.updCore; rfl
@[simp] theorem Dev.updCore_eng (d : Dev) (k : Nat) (f : Core → Core) : (d.updCore k f).eng = d.eng := by unfold Dev.updCore; rfl
@[simp] theorem Dev.updCore_link (d : Dev) (k : Nat) (f : Core → Core) : (d.updCore k f).link = d.link := by unfold Dev.updCore; rfl
@[simp] theorem Dev.updCore_eth (d : Dev) (k : Nat) (f : Core → Core) : (d.updCore k f).eth = d.eth := by unfold Dev.updCore; rfl
@[simp] theorem Dev.updCore_free (d : Dev) (k : Nat) (f : Core → Core) : (d.updCore k f).free = d.free := by unfold Dev.updCore; rfl

/-! ### updCell -/

@[simp] theorem Dev.updCell_part (d : Dev) (h : Nat) (f : Cell → Cell) : (d.updCell h f).part = d.part := by unfold Dev.updCell; rfl
@[simp] theorem Dev.updCell_stepping (d : Dev) (h : Nat) (f : Cell → Cell) : (d.updCell h f).stepping = d.stepping := by unfold Dev.updCell; rfl
@[simp] theorem Dev.updCell_cores (d : Dev) (h : Nat) (f : Cell → Cell) : (d.updCell h f).cores = d.cores := by unfold Dev.updCell; rfl
@[simp] theorem Dev.updCell_mem (d : Dev) (h : Nat) (f : Cell → Cell) : (d.updCell h f).mem = d.mem := by unfold Dev.updCell; rfl
@[simp] theorem Dev.updCell_units (d : Dev) (h : Nat) (f : Cell → Cell) : (d.updCell h f).units = d.units := by unfold Dev.updCell; rfl
@[simp] theorem Dev.updCell_time (d : Dev) (h : Nat) (f : Cell → Cell) : (d.updCell h f).time = d.time := by unfold Dev.updCell; rfl
@[simp] theorem Dev.updCell_slack (d : Dev) (h : Nat) (f : Cell → Cell) : (d.updCell h f).slack = d.slack := by unfold Dev.updCell; rfl
@[simp] theorem Dev.updCell_power (d : Dev) (h : Nat) (f : Cell → Cell) : (d.updCell h f).power = d.power := by unfold Dev.updCell; rfl
@[simp] theorem Dev.updCell_thermal (d : Dev) (h : Nat) (f : Cell → Cell) : (d.updCell h f).thermal = d.thermal := by unfold Dev.updCell; rfl
@[simp] theorem Dev.updCell_health (d : Dev) (h : Nat) (f : Cell → Cell) : (d.updCell h f).health = d.health := by unfold Dev.updCell; rfl
@[simp] theorem Dev.updCell_chiop (d : Dev) (h : Nat) (f : Cell → Cell) : (d.updCell h f).chiop = d.chiop := by unfold Dev.updCell; rfl
@[simp] theorem Dev.updCell_mode (d : Dev) (h : Nat) (f : Cell → Cell) : (d.updCell h f).mode = d.mode := by unfold Dev.updCell; rfl
@[simp] theorem Dev.updCell_start (d : Dev) (h : Nat) (f : Cell → Cell) : (d.updCell h f).start = d.start := by unfold Dev.updCell; rfl
@[simp] theorem Dev.updCell_host (d : Dev) (h : Nat) (f : Cell → Cell) : (d.updCell h f).host = d.host := by unfold Dev.updCell; rfl
@[simp] theorem Dev.updCell_alm (d : Dev) (h : Nat) (f : Cell → Cell) : (d.updCell h f).alm = d.alm := by unfold Dev.updCell; rfl
@[simp] theorem Dev.updCell_ring (d : Dev) (h : Nat) (f : Cell → Cell) : (d.updCell h f).ring = d.ring := by unfold Dev.updCell; rfl
@[simp] theorem Dev.updCell_dma (d : Dev) (h : Nat) (f : Cell → Cell) : (d.updCell h f).dma = d.dma := by unfold Dev.updCell; rfl
@[simp] theorem Dev.updCell_eng (d : Dev) (h : Nat) (f : Cell → Cell) : (d.updCell h f).eng = d.eng := by unfold Dev.updCell; rfl
@[simp] theorem Dev.updCell_link (d : Dev) (h : Nat) (f : Cell → Cell) : (d.updCell h f).link = d.link := by unfold Dev.updCell; rfl
@[simp] theorem Dev.updCell_eth (d : Dev) (h : Nat) (f : Cell → Cell) : (d.updCell h f).eth = d.eth := by unfold Dev.updCell; rfl
@[simp] theorem Dev.updCell_free (d : Dev) (h : Nat) (f : Cell → Cell) : (d.updCell h f).free = d.free := by unfold Dev.updCell; rfl

/-! ### updPm -/

@[simp] theorem Dev.updPm_part (d : Dev) (k : Nat) (f : PmState → PmState) : (d.updPm k f).part = d.part := by unfold Dev.updPm; rfl
@[simp] theorem Dev.updPm_stepping (d : Dev) (k : Nat) (f : PmState → PmState) : (d.updPm k f).stepping = d.stepping := by unfold Dev.updPm; rfl
@[simp] theorem Dev.updPm_cores (d : Dev) (k : Nat) (f : PmState → PmState) : (d.updPm k f).cores = d.cores := by unfold Dev.updPm; rfl
@[simp] theorem Dev.updPm_mem (d : Dev) (k : Nat) (f : PmState → PmState) : (d.updPm k f).mem = d.mem := by unfold Dev.updPm; rfl
@[simp] theorem Dev.updPm_units (d : Dev) (k : Nat) (f : PmState → PmState) : (d.updPm k f).units = d.units := by unfold Dev.updPm; rfl
@[simp] theorem Dev.updPm_time (d : Dev) (k : Nat) (f : PmState → PmState) : (d.updPm k f).time = d.time := by unfold Dev.updPm; rfl
@[simp] theorem Dev.updPm_slack (d : Dev) (k : Nat) (f : PmState → PmState) : (d.updPm k f).slack = d.slack := by unfold Dev.updPm; rfl
@[simp] theorem Dev.updPm_power (d : Dev) (k : Nat) (f : PmState → PmState) : (d.updPm k f).power = d.power := by unfold Dev.updPm; rfl
@[simp] theorem Dev.updPm_thermal (d : Dev) (k : Nat) (f : PmState → PmState) : (d.updPm k f).thermal = d.thermal := by unfold Dev.updPm; rfl
@[simp] theorem Dev.updPm_health (d : Dev) (k : Nat) (f : PmState → PmState) : (d.updPm k f).health = d.health := by unfold Dev.updPm; rfl
@[simp] theorem Dev.updPm_chiop (d : Dev) (k : Nat) (f : PmState → PmState) : (d.updPm k f).chiop = d.chiop := by unfold Dev.updPm; rfl
@[simp] theorem Dev.updPm_mode (d : Dev) (k : Nat) (f : PmState → PmState) : (d.updPm k f).mode = d.mode := by unfold Dev.updPm; rfl
@[simp] theorem Dev.updPm_start (d : Dev) (k : Nat) (f : PmState → PmState) : (d.updPm k f).start = d.start := by unfold Dev.updPm; rfl
@[simp] theorem Dev.updPm_host (d : Dev) (k : Nat) (f : PmState → PmState) : (d.updPm k f).host = d.host := by unfold Dev.updPm; rfl
@[simp] theorem Dev.updPm_cfg (d : Dev) (k : Nat) (f : PmState → PmState) : (d.updPm k f).cfg = d.cfg := by unfold Dev.updPm; rfl
@[simp] theorem Dev.updPm_alm (d : Dev) (k : Nat) (f : PmState → PmState) : (d.updPm k f).alm = d.alm := by unfold Dev.updPm; rfl
@[simp] theorem Dev.updPm_ring (d : Dev) (k : Nat) (f : PmState → PmState) : (d.updPm k f).ring = d.ring := by unfold Dev.updPm; rfl
@[simp] theorem Dev.updPm_dma (d : Dev) (k : Nat) (f : PmState → PmState) : (d.updPm k f).dma = d.dma := by unfold Dev.updPm; rfl
@[simp] theorem Dev.updPm_eng (d : Dev) (k : Nat) (f : PmState → PmState) : (d.updPm k f).eng = d.eng := by unfold Dev.updPm; rfl
@[simp] theorem Dev.updPm_eth (d : Dev) (k : Nat) (f : PmState → PmState) : (d.updPm k f).eth = d.eth := by unfold Dev.updPm; rfl
@[simp] theorem Dev.updPm_free (d : Dev) (k : Nat) (f : PmState → PmState) : (d.updPm k f).free = d.free := by unfold Dev.updPm; rfl

/-! ### updLane -/

@[simp] theorem Dev.updLane_part (d : Dev) (l : Nat) (f : Lane → Lane) : (d.updLane l f).part = d.part := by unfold Dev.updLane; rfl
@[simp] theorem Dev.updLane_stepping (d : Dev) (l : Nat) (f : Lane → Lane) : (d.updLane l f).stepping = d.stepping := by unfold Dev.updLane; rfl
@[simp] theorem Dev.updLane_cores (d : Dev) (l : Nat) (f : Lane → Lane) : (d.updLane l f).cores = d.cores := by unfold Dev.updLane; rfl
@[simp] theorem Dev.updLane_mem (d : Dev) (l : Nat) (f : Lane → Lane) : (d.updLane l f).mem = d.mem := by unfold Dev.updLane; rfl
@[simp] theorem Dev.updLane_units (d : Dev) (l : Nat) (f : Lane → Lane) : (d.updLane l f).units = d.units := by unfold Dev.updLane; rfl
@[simp] theorem Dev.updLane_time (d : Dev) (l : Nat) (f : Lane → Lane) : (d.updLane l f).time = d.time := by unfold Dev.updLane; rfl
@[simp] theorem Dev.updLane_slack (d : Dev) (l : Nat) (f : Lane → Lane) : (d.updLane l f).slack = d.slack := by unfold Dev.updLane; rfl
@[simp] theorem Dev.updLane_power (d : Dev) (l : Nat) (f : Lane → Lane) : (d.updLane l f).power = d.power := by unfold Dev.updLane; rfl
@[simp] theorem Dev.updLane_thermal (d : Dev) (l : Nat) (f : Lane → Lane) : (d.updLane l f).thermal = d.thermal := by unfold Dev.updLane; rfl
@[simp] theorem Dev.updLane_health (d : Dev) (l : Nat) (f : Lane → Lane) : (d.updLane l f).health = d.health := by unfold Dev.updLane; rfl
@[simp] theorem Dev.updLane_chiop (d : Dev) (l : Nat) (f : Lane → Lane) : (d.updLane l f).chiop = d.chiop := by unfold Dev.updLane; rfl
@[simp] theorem Dev.updLane_mode (d : Dev) (l : Nat) (f : Lane → Lane) : (d.updLane l f).mode = d.mode := by unfold Dev.updLane; rfl
@[simp] theorem Dev.updLane_start (d : Dev) (l : Nat) (f : Lane → Lane) : (d.updLane l f).start = d.start := by unfold Dev.updLane; rfl
@[simp] theorem Dev.updLane_host (d : Dev) (l : Nat) (f : Lane → Lane) : (d.updLane l f).host = d.host := by unfold Dev.updLane; rfl
@[simp] theorem Dev.updLane_cfg (d : Dev) (l : Nat) (f : Lane → Lane) : (d.updLane l f).cfg = d.cfg := by unfold Dev.updLane; rfl
@[simp] theorem Dev.updLane_alm (d : Dev) (l : Nat) (f : Lane → Lane) : (d.updLane l f).alm = d.alm := by unfold Dev.updLane; rfl
@[simp] theorem Dev.updLane_ring (d : Dev) (l : Nat) (f : Lane → Lane) : (d.updLane l f).ring = d.ring := by unfold Dev.updLane; rfl
@[simp] theorem Dev.updLane_dma (d : Dev) (l : Nat) (f : Lane → Lane) : (d.updLane l f).dma = d.dma := by unfold Dev.updLane; rfl
@[simp] theorem Dev.updLane_eng (d : Dev) (l : Nat) (f : Lane → Lane) : (d.updLane l f).eng = d.eng := by unfold Dev.updLane; rfl
@[simp] theorem Dev.updLane_eth (d : Dev) (l : Nat) (f : Lane → Lane) : (d.updLane l f).eth = d.eth := by unfold Dev.updLane; rfl
@[simp] theorem Dev.updLane_free (d : Dev) (l : Nat) (f : Lane → Lane) : (d.updLane l f).free = d.free := by unfold Dev.updLane; rfl

/-! ### updTx -/

@[simp] theorem Dev.updTx_part (d : Dev) (l : Nat) (f : LaneTx → LaneTx) : (d.updTx l f).part = d.part := by unfold Dev.updTx Dev.updLane; rfl
@[simp] theorem Dev.updTx_stepping (d : Dev) (l : Nat) (f : LaneTx → LaneTx) : (d.updTx l f).stepping = d.stepping := by unfold Dev.updTx Dev.updLane; rfl
@[simp] theorem Dev.updTx_cores (d : Dev) (l : Nat) (f : LaneTx → LaneTx) : (d.updTx l f).cores = d.cores := by unfold Dev.updTx Dev.updLane; rfl
@[simp] theorem Dev.updTx_mem (d : Dev) (l : Nat) (f : LaneTx → LaneTx) : (d.updTx l f).mem = d.mem := by unfold Dev.updTx Dev.updLane; rfl
@[simp] theorem Dev.updTx_units (d : Dev) (l : Nat) (f : LaneTx → LaneTx) : (d.updTx l f).units = d.units := by unfold Dev.updTx Dev.updLane; rfl
@[simp] theorem Dev.updTx_time (d : Dev) (l : Nat) (f : LaneTx → LaneTx) : (d.updTx l f).time = d.time := by unfold Dev.updTx Dev.updLane; rfl
@[simp] theorem Dev.updTx_slack (d : Dev) (l : Nat) (f : LaneTx → LaneTx) : (d.updTx l f).slack = d.slack := by unfold Dev.updTx Dev.updLane; rfl
@[simp] theorem Dev.updTx_power (d : Dev) (l : Nat) (f : LaneTx → LaneTx) : (d.updTx l f).power = d.power := by unfold Dev.updTx Dev.updLane; rfl
@[simp] theorem Dev.updTx_thermal (d : Dev) (l : Nat) (f : LaneTx → LaneTx) : (d.updTx l f).thermal = d.thermal := by unfold Dev.updTx Dev.updLane; rfl
@[simp] theorem Dev.updTx_health (d : Dev) (l : Nat) (f : LaneTx → LaneTx) : (d.updTx l f).health = d.health := by unfold Dev.updTx Dev.updLane; rfl
@[simp] theorem Dev.updTx_chiop (d : Dev) (l : Nat) (f : LaneTx → LaneTx) : (d.updTx l f).chiop = d.chiop := by unfold Dev.updTx Dev.updLane; rfl
@[simp] theorem Dev.updTx_mode (d : Dev) (l : Nat) (f : LaneTx → LaneTx) : (d.updTx l f).mode = d.mode := by unfold Dev.updTx Dev.updLane; rfl
@[simp] theorem Dev.updTx_start (d : Dev) (l : Nat) (f : LaneTx → LaneTx) : (d.updTx l f).start = d.start := by unfold Dev.updTx Dev.updLane; rfl
@[simp] theorem Dev.updTx_host (d : Dev) (l : Nat) (f : LaneTx → LaneTx) : (d.updTx l f).host = d.host := by unfold Dev.updTx Dev.updLane; rfl
@[simp] theorem Dev.updTx_cfg (d : Dev) (l : Nat) (f : LaneTx → LaneTx) : (d.updTx l f).cfg = d.cfg := by unfold Dev.updTx Dev.updLane; rfl
@[simp] theorem Dev.updTx_alm (d : Dev) (l : Nat) (f : LaneTx → LaneTx) : (d.updTx l f).alm = d.alm := by unfold Dev.updTx Dev.updLane; rfl
@[simp] theorem Dev.updTx_ring (d : Dev) (l : Nat) (f : LaneTx → LaneTx) : (d.updTx l f).ring = d.ring := by unfold Dev.updTx Dev.updLane; rfl
@[simp] theorem Dev.updTx_dma (d : Dev) (l : Nat) (f : LaneTx → LaneTx) : (d.updTx l f).dma = d.dma := by unfold Dev.updTx Dev.updLane; rfl
@[simp] theorem Dev.updTx_eng (d : Dev) (l : Nat) (f : LaneTx → LaneTx) : (d.updTx l f).eng = d.eng := by unfold Dev.updTx Dev.updLane; rfl
@[simp] theorem Dev.updTx_eth (d : Dev) (l : Nat) (f : LaneTx → LaneTx) : (d.updTx l f).eth = d.eth := by unfold Dev.updTx Dev.updLane; rfl
@[simp] theorem Dev.updTx_free (d : Dev) (l : Nat) (f : LaneTx → LaneTx) : (d.updTx l f).free = d.free := by unfold Dev.updTx Dev.updLane; rfl

/-! ### updRx -/

@[simp] theorem Dev.updRx_part (d : Dev) (l : Nat) (f : LaneRx → LaneRx) : (d.updRx l f).part = d.part := by unfold Dev.updRx Dev.updLane; rfl
@[simp] theorem Dev.updRx_stepping (d : Dev) (l : Nat) (f : LaneRx → LaneRx) : (d.updRx l f).stepping = d.stepping := by unfold Dev.updRx Dev.updLane; rfl
@[simp] theorem Dev.updRx_cores (d : Dev) (l : Nat) (f : LaneRx → LaneRx) : (d.updRx l f).cores = d.cores := by unfold Dev.updRx Dev.updLane; rfl
@[simp] theorem Dev.updRx_mem (d : Dev) (l : Nat) (f : LaneRx → LaneRx) : (d.updRx l f).mem = d.mem := by unfold Dev.updRx Dev.updLane; rfl
@[simp] theorem Dev.updRx_units (d : Dev) (l : Nat) (f : LaneRx → LaneRx) : (d.updRx l f).units = d.units := by unfold Dev.updRx Dev.updLane; rfl
@[simp] theorem Dev.updRx_time (d : Dev) (l : Nat) (f : LaneRx → LaneRx) : (d.updRx l f).time = d.time := by unfold Dev.updRx Dev.updLane; rfl
@[simp] theorem Dev.updRx_slack (d : Dev) (l : Nat) (f : LaneRx → LaneRx) : (d.updRx l f).slack = d.slack := by unfold Dev.updRx Dev.updLane; rfl
@[simp] theorem Dev.updRx_power (d : Dev) (l : Nat) (f : LaneRx → LaneRx) : (d.updRx l f).power = d.power := by unfold Dev.updRx Dev.updLane; rfl
@[simp] theorem Dev.updRx_thermal (d : Dev) (l : Nat) (f : LaneRx → LaneRx) : (d.updRx l f).thermal = d.thermal := by unfold Dev.updRx Dev.updLane; rfl
@[simp] theorem Dev.updRx_health (d : Dev) (l : Nat) (f : LaneRx → LaneRx) : (d.updRx l f).health = d.health := by unfold Dev.updRx Dev.updLane; rfl
@[simp] theorem Dev.updRx_chiop (d : Dev) (l : Nat) (f : LaneRx → LaneRx) : (d.updRx l f).chiop = d.chiop := by unfold Dev.updRx Dev.updLane; rfl
@[simp] theorem Dev.updRx_mode (d : Dev) (l : Nat) (f : LaneRx → LaneRx) : (d.updRx l f).mode = d.mode := by unfold Dev.updRx Dev.updLane; rfl
@[simp] theorem Dev.updRx_start (d : Dev) (l : Nat) (f : LaneRx → LaneRx) : (d.updRx l f).start = d.start := by unfold Dev.updRx Dev.updLane; rfl
@[simp] theorem Dev.updRx_host (d : Dev) (l : Nat) (f : LaneRx → LaneRx) : (d.updRx l f).host = d.host := by unfold Dev.updRx Dev.updLane; rfl
@[simp] theorem Dev.updRx_cfg (d : Dev) (l : Nat) (f : LaneRx → LaneRx) : (d.updRx l f).cfg = d.cfg := by unfold Dev.updRx Dev.updLane; rfl
@[simp] theorem Dev.updRx_alm (d : Dev) (l : Nat) (f : LaneRx → LaneRx) : (d.updRx l f).alm = d.alm := by unfold Dev.updRx Dev.updLane; rfl
@[simp] theorem Dev.updRx_ring (d : Dev) (l : Nat) (f : LaneRx → LaneRx) : (d.updRx l f).ring = d.ring := by unfold Dev.updRx Dev.updLane; rfl
@[simp] theorem Dev.updRx_dma (d : Dev) (l : Nat) (f : LaneRx → LaneRx) : (d.updRx l f).dma = d.dma := by unfold Dev.updRx Dev.updLane; rfl
@[simp] theorem Dev.updRx_eng (d : Dev) (l : Nat) (f : LaneRx → LaneRx) : (d.updRx l f).eng = d.eng := by unfold Dev.updRx Dev.updLane; rfl
@[simp] theorem Dev.updRx_eth (d : Dev) (l : Nat) (f : LaneRx → LaneRx) : (d.updRx l f).eth = d.eth := by unfold Dev.updRx Dev.updLane; rfl
@[simp] theorem Dev.updRx_free (d : Dev) (l : Nat) (f : LaneRx → LaneRx) : (d.updRx l f).free = d.free := by unfold Dev.updRx Dev.updLane; rfl

/-! ### updGroup -/

@[simp] theorem Dev.updGroup_part (d : Dev) (g : Nat) (f : Group → Group) : (d.updGroup g f).part = d.part := by unfold Dev.updGroup; rfl
@[simp] theorem Dev.updGroup_stepping (d : Dev) (g : Nat) (f : Group → Group) : (d.updGroup g f).stepping = d.stepping := by unfold Dev.updGroup; rfl
@[simp] theorem Dev.updGroup_cores (d : Dev) (g : Nat) (f : Group → Group) : (d.updGroup g f).cores = d.cores := by unfold Dev.updGroup; rfl
@[simp] theorem Dev.updGroup_mem (d : Dev) (g : Nat) (f : Group → Group) : (d.updGroup g f).mem = d.mem := by unfold Dev.updGroup; rfl
@[simp] theorem Dev.updGroup_units (d : Dev) (g : Nat) (f : Group → Group) : (d.updGroup g f).units = d.units := by unfold Dev.updGroup; rfl
@[simp] theorem Dev.updGroup_time (d : Dev) (g : Nat) (f : Group → Group) : (d.updGroup g f).time = d.time := by unfold Dev.updGroup; rfl
@[simp] theorem Dev.updGroup_slack (d : Dev) (g : Nat) (f : Group → Group) : (d.updGroup g f).slack = d.slack := by unfold Dev.updGroup; rfl
@[simp] theorem Dev.updGroup_power (d : Dev) (g : Nat) (f : Group → Group) : (d.updGroup g f).power = d.power := by unfold Dev.updGroup; rfl
@[simp] theorem Dev.updGroup_thermal (d : Dev) (g : Nat) (f : Group → Group) : (d.updGroup g f).thermal = d.thermal := by unfold Dev.updGroup; rfl
@[simp] theorem Dev.updGroup_health (d : Dev) (g : Nat) (f : Group → Group) : (d.updGroup g f).health = d.health := by unfold Dev.updGroup; rfl
@[simp] theorem Dev.updGroup_chiop (d : Dev) (g : Nat) (f : Group → Group) : (d.updGroup g f).chiop = d.chiop := by unfold Dev.updGroup; rfl
@[simp] theorem Dev.updGroup_mode (d : Dev) (g : Nat) (f : Group → Group) : (d.updGroup g f).mode = d.mode := by unfold Dev.updGroup; rfl
@[simp] theorem Dev.updGroup_start (d : Dev) (g : Nat) (f : Group → Group) : (d.updGroup g f).start = d.start := by unfold Dev.updGroup; rfl
@[simp] theorem Dev.updGroup_host (d : Dev) (g : Nat) (f : Group → Group) : (d.updGroup g f).host = d.host := by unfold Dev.updGroup; rfl
@[simp] theorem Dev.updGroup_cfg (d : Dev) (g : Nat) (f : Group → Group) : (d.updGroup g f).cfg = d.cfg := by unfold Dev.updGroup; rfl
@[simp] theorem Dev.updGroup_alm (d : Dev) (g : Nat) (f : Group → Group) : (d.updGroup g f).alm = d.alm := by unfold Dev.updGroup; rfl
@[simp] theorem Dev.updGroup_ring (d : Dev) (g : Nat) (f : Group → Group) : (d.updGroup g f).ring = d.ring := by unfold Dev.updGroup; rfl
@[simp] theorem Dev.updGroup_dma (d : Dev) (g : Nat) (f : Group → Group) : (d.updGroup g f).dma = d.dma := by unfold Dev.updGroup; rfl
@[simp] theorem Dev.updGroup_eng (d : Dev) (g : Nat) (f : Group → Group) : (d.updGroup g f).eng = d.eng := by unfold Dev.updGroup; rfl
@[simp] theorem Dev.updGroup_eth (d : Dev) (g : Nat) (f : Group → Group) : (d.updGroup g f).eth = d.eth := by unfold Dev.updGroup; rfl
@[simp] theorem Dev.updGroup_free (d : Dev) (g : Nat) (f : Group → Group) : (d.updGroup g f).free = d.free := by unfold Dev.updGroup; rfl

/-! ### updDma -/

@[simp] theorem Dev.updDma_part (d : Dev) (e n : Nat) (f : DmaChan → DmaChan) : (d.updDma e n f).part = d.part := by unfold Dev.updDma; rfl
@[simp] theorem Dev.updDma_stepping (d : Dev) (e n : Nat) (f : DmaChan → DmaChan) : (d.updDma e n f).stepping = d.stepping := by unfold Dev.updDma; rfl
@[simp] theorem Dev.updDma_cores (d : Dev) (e n : Nat) (f : DmaChan → DmaChan) : (d.updDma e n f).cores = d.cores := by unfold Dev.updDma; rfl
@[simp] theorem Dev.updDma_mem (d : Dev) (e n : Nat) (f : DmaChan → DmaChan) : (d.updDma e n f).mem = d.mem := by unfold Dev.updDma; rfl
@[simp] theorem Dev.updDma_units (d : Dev) (e n : Nat) (f : DmaChan → DmaChan) : (d.updDma e n f).units = d.units := by unfold Dev.updDma; rfl
@[simp] theorem Dev.updDma_time (d : Dev) (e n : Nat) (f : DmaChan → DmaChan) : (d.updDma e n f).time = d.time := by unfold Dev.updDma; rfl
@[simp] theorem Dev.updDma_slack (d : Dev) (e n : Nat) (f : DmaChan → DmaChan) : (d.updDma e n f).slack = d.slack := by unfold Dev.updDma; rfl
@[simp] theorem Dev.updDma_power (d : Dev) (e n : Nat) (f : DmaChan → DmaChan) : (d.updDma e n f).power = d.power := by unfold Dev.updDma; rfl
@[simp] theorem Dev.updDma_thermal (d : Dev) (e n : Nat) (f : DmaChan → DmaChan) : (d.updDma e n f).thermal = d.thermal := by unfold Dev.updDma; rfl
@[simp] theorem Dev.updDma_health (d : Dev) (e n : Nat) (f : DmaChan → DmaChan) : (d.updDma e n f).health = d.health := by unfold Dev.updDma; rfl
@[simp] theorem Dev.updDma_chiop (d : Dev) (e n : Nat) (f : DmaChan → DmaChan) : (d.updDma e n f).chiop = d.chiop := by unfold Dev.updDma; rfl
@[simp] theorem Dev.updDma_mode (d : Dev) (e n : Nat) (f : DmaChan → DmaChan) : (d.updDma e n f).mode = d.mode := by unfold Dev.updDma; rfl
@[simp] theorem Dev.updDma_start (d : Dev) (e n : Nat) (f : DmaChan → DmaChan) : (d.updDma e n f).start = d.start := by unfold Dev.updDma; rfl
@[simp] theorem Dev.updDma_host (d : Dev) (e n : Nat) (f : DmaChan → DmaChan) : (d.updDma e n f).host = d.host := by unfold Dev.updDma; rfl
@[simp] theorem Dev.updDma_cfg (d : Dev) (e n : Nat) (f : DmaChan → DmaChan) : (d.updDma e n f).cfg = d.cfg := by unfold Dev.updDma; rfl
@[simp] theorem Dev.updDma_alm (d : Dev) (e n : Nat) (f : DmaChan → DmaChan) : (d.updDma e n f).alm = d.alm := by unfold Dev.updDma; rfl
@[simp] theorem Dev.updDma_ring (d : Dev) (e n : Nat) (f : DmaChan → DmaChan) : (d.updDma e n f).ring = d.ring := by unfold Dev.updDma; rfl
@[simp] theorem Dev.updDma_eng (d : Dev) (e n : Nat) (f : DmaChan → DmaChan) : (d.updDma e n f).eng = d.eng := by unfold Dev.updDma; rfl
@[simp] theorem Dev.updDma_link (d : Dev) (e n : Nat) (f : DmaChan → DmaChan) : (d.updDma e n f).link = d.link := by unfold Dev.updDma; rfl
@[simp] theorem Dev.updDma_eth (d : Dev) (e n : Nat) (f : DmaChan → DmaChan) : (d.updDma e n f).eth = d.eth := by unfold Dev.updDma; rfl
@[simp] theorem Dev.updDma_free (d : Dev) (e n : Nat) (f : DmaChan → DmaChan) : (d.updDma e n f).free = d.free := by unfold Dev.updDma; rfl

/-! ### updTaps -/

@[simp] theorem Dev.updTaps_part (d : Dev) (u : Nat) (f : List TapSet → List TapSet) : (d.updTaps u f).part = d.part := by unfold Dev.updTaps; rfl
@[simp] theorem Dev.updTaps_stepping (d : Dev) (u : Nat) (f : List TapSet → List TapSet) : (d.updTaps u f).stepping = d.stepping := by unfold Dev.updTaps; rfl
@[simp] theorem Dev.updTaps_cores (d : Dev) (u : Nat) (f : List TapSet → List TapSet) : (d.updTaps u f).cores = d.cores := by unfold Dev.updTaps; rfl
@[simp] theorem Dev.updTaps_mem (d : Dev) (u : Nat) (f : List TapSet → List TapSet) : (d.updTaps u f).mem = d.mem := by unfold Dev.updTaps; rfl
@[simp] theorem Dev.updTaps_units (d : Dev) (u : Nat) (f : List TapSet → List TapSet) : (d.updTaps u f).units = d.units := by unfold Dev.updTaps; rfl
@[simp] theorem Dev.updTaps_time (d : Dev) (u : Nat) (f : List TapSet → List TapSet) : (d.updTaps u f).time = d.time := by unfold Dev.updTaps; rfl
@[simp] theorem Dev.updTaps_slack (d : Dev) (u : Nat) (f : List TapSet → List TapSet) : (d.updTaps u f).slack = d.slack := by unfold Dev.updTaps; rfl
@[simp] theorem Dev.updTaps_power (d : Dev) (u : Nat) (f : List TapSet → List TapSet) : (d.updTaps u f).power = d.power := by unfold Dev.updTaps; rfl
@[simp] theorem Dev.updTaps_thermal (d : Dev) (u : Nat) (f : List TapSet → List TapSet) : (d.updTaps u f).thermal = d.thermal := by unfold Dev.updTaps; rfl
@[simp] theorem Dev.updTaps_health (d : Dev) (u : Nat) (f : List TapSet → List TapSet) : (d.updTaps u f).health = d.health := by unfold Dev.updTaps; rfl
@[simp] theorem Dev.updTaps_chiop (d : Dev) (u : Nat) (f : List TapSet → List TapSet) : (d.updTaps u f).chiop = d.chiop := by unfold Dev.updTaps; rfl
@[simp] theorem Dev.updTaps_mode (d : Dev) (u : Nat) (f : List TapSet → List TapSet) : (d.updTaps u f).mode = d.mode := by unfold Dev.updTaps; rfl
@[simp] theorem Dev.updTaps_start (d : Dev) (u : Nat) (f : List TapSet → List TapSet) : (d.updTaps u f).start = d.start := by unfold Dev.updTaps; rfl
@[simp] theorem Dev.updTaps_host (d : Dev) (u : Nat) (f : List TapSet → List TapSet) : (d.updTaps u f).host = d.host := by unfold Dev.updTaps; rfl
@[simp] theorem Dev.updTaps_cfg (d : Dev) (u : Nat) (f : List TapSet → List TapSet) : (d.updTaps u f).cfg = d.cfg := by unfold Dev.updTaps; rfl
@[simp] theorem Dev.updTaps_alm (d : Dev) (u : Nat) (f : List TapSet → List TapSet) : (d.updTaps u f).alm = d.alm := by unfold Dev.updTaps; rfl
@[simp] theorem Dev.updTaps_ring (d : Dev) (u : Nat) (f : List TapSet → List TapSet) : (d.updTaps u f).ring = d.ring := by unfold Dev.updTaps; rfl
@[simp] theorem Dev.updTaps_dma (d : Dev) (u : Nat) (f : List TapSet → List TapSet) : (d.updTaps u f).dma = d.dma := by unfold Dev.updTaps; rfl
@[simp] theorem Dev.updTaps_link (d : Dev) (u : Nat) (f : List TapSet → List TapSet) : (d.updTaps u f).link = d.link := by unfold Dev.updTaps; rfl
@[simp] theorem Dev.updTaps_eth (d : Dev) (u : Nat) (f : List TapSet → List TapSet) : (d.updTaps u f).eth = d.eth := by unfold Dev.updTaps; rfl
@[simp] theorem Dev.updTaps_free (d : Dev) (u : Nat) (f : List TapSet → List TapSet) : (d.updTaps u f).free = d.free := by unfold Dev.updTaps; rfl

/-! ### updTally -/

@[simp] theorem Dev.updTally_part (d : Dev) (n : Nat) (f : TallyRec → TallyRec) : (d.updTally n f).part = d.part := by unfold Dev.updTally; rfl
@[simp] theorem Dev.updTally_stepping (d : Dev) (n : Nat) (f : TallyRec → TallyRec) : (d.updTally n f).stepping = d.stepping := by unfold Dev.updTally; rfl
@[simp] theorem Dev.updTally_cores (d : Dev) (n : Nat) (f : TallyRec → TallyRec) : (d.updTally n f).cores = d.cores := by unfold Dev.updTally; rfl
@[simp] theorem Dev.updTally_mem (d : Dev) (n : Nat) (f : TallyRec → TallyRec) : (d.updTally n f).mem = d.mem := by unfold Dev.updTally; rfl
@[simp] theorem Dev.updTally_units (d : Dev) (n : Nat) (f : TallyRec → TallyRec) : (d.updTally n f).units = d.units := by unfold Dev.updTally; rfl
@[simp] theorem Dev.updTally_time (d : Dev) (n : Nat) (f : TallyRec → TallyRec) : (d.updTally n f).time = d.time := by unfold Dev.updTally; rfl
@[simp] theorem Dev.updTally_slack (d : Dev) (n : Nat) (f : TallyRec → TallyRec) : (d.updTally n f).slack = d.slack := by unfold Dev.updTally; rfl
@[simp] theorem Dev.updTally_power (d : Dev) (n : Nat) (f : TallyRec → TallyRec) : (d.updTally n f).power = d.power := by unfold Dev.updTally; rfl
@[simp] theorem Dev.updTally_thermal (d : Dev) (n : Nat) (f : TallyRec → TallyRec) : (d.updTally n f).thermal = d.thermal := by unfold Dev.updTally; rfl
@[simp] theorem Dev.updTally_health (d : Dev) (n : Nat) (f : TallyRec → TallyRec) : (d.updTally n f).health = d.health := by unfold Dev.updTally; rfl
@[simp] theorem Dev.updTally_chiop (d : Dev) (n : Nat) (f : TallyRec → TallyRec) : (d.updTally n f).chiop = d.chiop := by unfold Dev.updTally; rfl
@[simp] theorem Dev.updTally_mode (d : Dev) (n : Nat) (f : TallyRec → TallyRec) : (d.updTally n f).mode = d.mode := by unfold Dev.updTally; rfl
@[simp] theorem Dev.updTally_start (d : Dev) (n : Nat) (f : TallyRec → TallyRec) : (d.updTally n f).start = d.start := by unfold Dev.updTally; rfl
@[simp] theorem Dev.updTally_host (d : Dev) (n : Nat) (f : TallyRec → TallyRec) : (d.updTally n f).host = d.host := by unfold Dev.updTally; rfl
@[simp] theorem Dev.updTally_cfg (d : Dev) (n : Nat) (f : TallyRec → TallyRec) : (d.updTally n f).cfg = d.cfg := by unfold Dev.updTally; rfl
@[simp] theorem Dev.updTally_alm (d : Dev) (n : Nat) (f : TallyRec → TallyRec) : (d.updTally n f).alm = d.alm := by unfold Dev.updTally; rfl
@[simp] theorem Dev.updTally_ring (d : Dev) (n : Nat) (f : TallyRec → TallyRec) : (d.updTally n f).ring = d.ring := by unfold Dev.updTally; rfl
@[simp] theorem Dev.updTally_dma (d : Dev) (n : Nat) (f : TallyRec → TallyRec) : (d.updTally n f).dma = d.dma := by unfold Dev.updTally; rfl
@[simp] theorem Dev.updTally_link (d : Dev) (n : Nat) (f : TallyRec → TallyRec) : (d.updTally n f).link = d.link := by unfold Dev.updTally; rfl
@[simp] theorem Dev.updTally_eth (d : Dev) (n : Nat) (f : TallyRec → TallyRec) : (d.updTally n f).eth = d.eth := by unfold Dev.updTally; rfl
@[simp] theorem Dev.updTally_free (d : Dev) (n : Nat) (f : TallyRec → TallyRec) : (d.updTally n f).free = d.free := by unfold Dev.updTally; rfl

/-! ### updPort -/

@[simp] theorem Dev.updPort_part (d : Dev) (p : Nat) (f : PortRing → PortRing) : (d.updPort p f).part = d.part := by unfold Dev.updPort; rfl
@[simp] theorem Dev.updPort_stepping (d : Dev) (p : Nat) (f : PortRing → PortRing) : (d.updPort p f).stepping = d.stepping := by unfold Dev.updPort; rfl
@[simp] theorem Dev.updPort_cores (d : Dev) (p : Nat) (f : PortRing → PortRing) : (d.updPort p f).cores = d.cores := by unfold Dev.updPort; rfl
@[simp] theorem Dev.updPort_mem (d : Dev) (p : Nat) (f : PortRing → PortRing) : (d.updPort p f).mem = d.mem := by unfold Dev.updPort; rfl
@[simp] theorem Dev.updPort_units (d : Dev) (p : Nat) (f : PortRing → PortRing) : (d.updPort p f).units = d.units := by unfold Dev.updPort; rfl
@[simp] theorem Dev.updPort_time (d : Dev) (p : Nat) (f : PortRing → PortRing) : (d.updPort p f).time = d.time := by unfold Dev.updPort; rfl
@[simp] theorem Dev.updPort_slack (d : Dev) (p : Nat) (f : PortRing → PortRing) : (d.updPort p f).slack = d.slack := by unfold Dev.updPort; rfl
@[simp] theorem Dev.updPort_power (d : Dev) (p : Nat) (f : PortRing → PortRing) : (d.updPort p f).power = d.power := by unfold Dev.updPort; rfl
@[simp] theorem Dev.updPort_thermal (d : Dev) (p : Nat) (f : PortRing → PortRing) : (d.updPort p f).thermal = d.thermal := by unfold Dev.updPort; rfl
@[simp] theorem Dev.updPort_health (d : Dev) (p : Nat) (f : PortRing → PortRing) : (d.updPort p f).health = d.health := by unfold Dev.updPort; rfl
@[simp] theorem Dev.updPort_chiop (d : Dev) (p : Nat) (f : PortRing → PortRing) : (d.updPort p f).chiop = d.chiop := by unfold Dev.updPort; rfl
@[simp] theorem Dev.updPort_mode (d : Dev) (p : Nat) (f : PortRing → PortRing) : (d.updPort p f).mode = d.mode := by unfold Dev.updPort; rfl
@[simp] theorem Dev.updPort_start (d : Dev) (p : Nat) (f : PortRing → PortRing) : (d.updPort p f).start = d.start := by unfold Dev.updPort; rfl
@[simp] theorem Dev.updPort_cfg (d : Dev) (p : Nat) (f : PortRing → PortRing) : (d.updPort p f).cfg = d.cfg := by unfold Dev.updPort; rfl
@[simp] theorem Dev.updPort_alm (d : Dev) (p : Nat) (f : PortRing → PortRing) : (d.updPort p f).alm = d.alm := by unfold Dev.updPort; rfl
@[simp] theorem Dev.updPort_ring (d : Dev) (p : Nat) (f : PortRing → PortRing) : (d.updPort p f).ring = d.ring := by unfold Dev.updPort; rfl
@[simp] theorem Dev.updPort_dma (d : Dev) (p : Nat) (f : PortRing → PortRing) : (d.updPort p f).dma = d.dma := by unfold Dev.updPort; rfl
@[simp] theorem Dev.updPort_eng (d : Dev) (p : Nat) (f : PortRing → PortRing) : (d.updPort p f).eng = d.eng := by unfold Dev.updPort; rfl
@[simp] theorem Dev.updPort_link (d : Dev) (p : Nat) (f : PortRing → PortRing) : (d.updPort p f).link = d.link := by unfold Dev.updPort; rfl
@[simp] theorem Dev.updPort_eth (d : Dev) (p : Nat) (f : PortRing → PortRing) : (d.updPort p f).eth = d.eth := by unfold Dev.updPort; rfl
@[simp] theorem Dev.updPort_free (d : Dev) (p : Nat) (f : PortRing → PortRing) : (d.updPort p f).free = d.free := by unfold Dev.updPort; rfl

end Sys2Proof.Machine
end

