-- ==== Sys2Proof/Laws/Psiah.lean ====
section
/-! SUPPORT. What a bundle of a signal core does, once: the laws of issuing, of a lone scalar slot, of a trap. -/

namespace Sys2Proof.Machine
open Sys2Proof

/-- A bundle that meets no check takes effect in all four slots, and changes nothing of the device but the core and the
memory. -/
theorem issue_clean (s : State) (k : Fin 128) (i : Issue) (b : Bundle) (h : s.clean k i b)
    (hrep : ∀ x y z, b.sb.op ≠ some (.rep x y z)) (hrett : b.sb.op ≠ some .rett) :
    s.on (fun d => d.issue k i b)
      = .next (s.withCore k (applyBundle (s.dev.coreEnv k) { core := s.dev.cores[k], mem := s.dev.mem } b i.waits .none).core
          (applyBundle (s.dev.coreEnv k) { core := s.dev.cores[k], mem := s.dev.mem } b i.waits .none).mem) := by
  obtain ⟨⟨h1, h2, h3, hp⟩, h4, h5⟩ := h
  have hu : (applyBundle (s.dev.coreEnv k) { core := s.dev.cores[k], mem := s.dev.mem } b i.waits .none).uncorrectable = none := h5
  have ho : issueOnce (s.dev.coreEnv k) { core := s.dev.cores[k], mem := s.dev.mem } b (decodeBundle i.next) i.waits .none none
      = applyBundle (s.dev.coreEnv k) { core := s.dev.cores[k], mem := s.dev.mem } b i.waits .none := by
    unfold issueOnce
    rw [if_neg (by rw [h2]; decide), h4]
    rfl
  have hr : runBundle (s.dev.coreEnv k) { core := s.dev.cores[k], mem := s.dev.mem } b i
      = applyBundle (s.dev.coreEnv k) { core := s.dev.cores[k], mem := s.dev.mem } b i.waits .none := by
    unfold runBundle
    rw [h3, hp]; dsimp only; rw [ho]
    have hf : eccFault s.dev.cores[k] (applyBundle (s.dev.coreEnv k) { core := s.dev.cores[k], mem := s.dev.mem } b i.waits .none)
        .none = none := by
      unfold eccFault
      rw [if_neg (by decide), hu]; rfl
    rw [hf]
    show (if false = true then _ else _) = _
    rw [if_neg (by decide)]
    cases hb : b.sb.op with
    | none => rfl
    | some op =>
      cases op <;> first | rfl | (exact absurd hb (hrep _ _ _)) | (exact absurd hb hrett)
  show Host.Outcome.next { s with dev := s.dev.issue k i b } = _
  unfold Dev.issue
  rw [if_pos h1, hr, h3]
  unfold Dev.takeRun
  show Host.Outcome.next { s with dev := (match (applyBundle (s.dev.coreEnv k) { core := s.dev.cores[k], mem := s.dev.mem } b i.waits .none).uncorrectable with
    | some x => _ | none => _) } = _
  rw [hu]
  rfl

/-- The slots beside a lone scalar/branch slot. -/
theorem bundleSb_empty (op : SbOp) :
    bundleSb {} op = { sb := ⟨spellSb op, some op⟩, ls := ⟨0, some .nop⟩, va := ⟨0, some .nop⟩, vb := ⟨0, some .nop⟩ } := by
  rfl

/-- A lone scalar/branch slot that fails no check of its own meets none. -/
theorem clean_lone (s : State) (k : Fin 128) (i : Issue) (op : SbOp) (h : s.issues k i) (hw : i.words = {})
    (hs : checkSb (s.dev.coreEnv k) s.dev.cores[k] ⟨spellSb op, some op⟩ (decodeBundle i.next) = []) : s.clean k i (bundleSb i.words op) := by
  refine ⟨h, ?_, ?_⟩
  · rw [hw, bundleSb_empty]
    unfold bundleTraps
    have hb : bundleIllegal { sb := ⟨spellSb op, some op⟩, ls := ⟨0, some .nop⟩, va := ⟨0, some .nop⟩, vb := ⟨0, some .nop⟩ } = false := by
      have h1 : ∀ xs : List RegName, (xs.any fun r => ([] : List RegName).contains r) = false := by
        intro xs; induction xs <;> simp_all
      cases op with
      | amod an mn c =>
        unfold bundleIllegal
        simp only [writesSb, writesLs, writesV, genUpdates, isMulClass]
        clear hs; revert an; decide
      | _ => simp [bundleIllegal, writesLs, writesV, genUpdates, isMulClass]
    rw [hb]
    dsimp only
    rw [hs]
    rfl
  · rw [hw, bundleSb_empty]; rfl

/-- What a lone scalar/branch slot does (R61, R71): its own effect, then PC and BTCOUNT. -/
theorem exec_lone (s : State) (k : Fin 128) (i : Issue) (op : SbOp) (h : s.issues k i) (hw : i.words = {})
    (hs : checkSb (s.dev.coreEnv k) s.dev.cores[k] ⟨spellSb op, some op⟩ (decodeBundle i.next) = [])
    (hrep : ∀ x y z, op ≠ .rep x y z) (hrett : op ≠ .rett)
    (hv : satintRaised s.dev.cores[k].corectl s.dev.cores[k].vstat (applySb (s.dev.coreEnv k) s.dev.cores[k] s.dev.cores[k] (some op)).vstat = false) :
    issueSb k i op s = .next (s.withCore k
      { applySb (s.dev.coreEnv k) s.dev.cores[k] s.dev.cores[k] (some op) with
        pc := nextPc (s.dev.coreEnv k) s.dev.cores[k] (some op)
        btcount := s.dev.cores[k].btcount
          + BitVec.ofNat 32 (bundleCost (s.dev.coreEnv k) s.dev.cores[k] (bundleSb {} op) i.waits)
        loading := [] } s.dev.mem) := by
  have hc := clean_lone s k i op h hw hs
  have hb := issue_clean s k i (bundleSb i.words op) hc
    (by intro x y z hh; exact hrep x y z (by simpa [bundleSb] using hh)) (by intro hh; exact hrett (by simpa [bundleSb] using hh))
  unfold issueSb
  rw [hb, hw, bundleSb_empty]
  unfold applyBundle
  dsimp only [loadError, applyV]
  rw [hv]
  rfl

/-- No name is among none. -/
theorem any_contains_nil {α : Type} [BEq α] (xs : List α) : (xs.any fun r => ([] : List α).contains r) = false := by
  induction xs <;> simp_all

/-- A status word raises no interrupt against itself. -/
theorem satintRaised_same (a b : Word) : satintRaised a b b = false := by
  unfold satintRaised
  have : b &&& ~~~b = 0 := by ext i; simp
  rw [this]; simp

/-- The slots beside a lone load/store slot. -/
theorem bundleLs_empty (op : LsOp) :
    bundleLs {} op = { sb := ⟨0, some .nop⟩, ls := ⟨spellLs op, some op⟩, va := ⟨0, some .nop⟩, vb := ⟨0, some .nop⟩ } := by
  rfl

/-- The slots beside a lone vector slot. -/
theorem bundleV_empty (slot : VSlot) (op : VOp) :
    bundleV {} slot op = { sb := ⟨0, some .nop⟩, ls := ⟨0, some .nop⟩
                           va := if slot = .va then ⟨spellV op, some op⟩ else ⟨0, some .nop⟩
                           vb := if slot = .vb then ⟨spellV op, some op⟩ else ⟨0, some .nop⟩ } := by
  cases slot <;> rfl

/-- A lone load/store slot is no illegal bundle. -/
theorem legal_lone_ls (fn : LsFn) (r : BitVec 5) (an mn : BitVec 3) (mode : BitVec 2) (imm : BitVec 14) :
    bundleIllegal (bundleLs {} (.acc fn r an mn mode imm)) = false := by
  rw [bundleLs_empty]; unfold bundleIllegal
  have h3 : ∀ a : BitVec 3, ((([a] : List (BitVec 3)).contains 4 && ([a] : List (BitVec 3)).contains 5)
      || (([a] : List (BitVec 3)).contains 6 && ([a] : List (BitVec 3)).contains 7)) = false := by decide
  have h4 := h3 an
  simp only [writesSb, writesV, genUpdates, isMulClass, any_contains_nil, List.any_nil]
  by_cases hm : mode = 0
  · simp [hm]
  · simp only [hm, if_false, List.nil_append]
    simpa using h4

/-- A lone vector slot is no illegal bundle. -/
theorem legal_lone_v (slot : VSlot) (op : VOp) : bundleIllegal (bundleV {} slot op) = false := by
  rw [bundleV_empty]; unfold bundleIllegal
  cases slot <;> simp [writesSb, writesLs, writesV, genUpdates, isMulClass]

/-- What a lone load/store slot does (R61, R75): the load, the address update and the store, then PC and BTCOUNT. -/
theorem exec_lone_ls (s : State) (k : Fin 128) (i : Issue) (fn : LsFn) (r : BitVec 5) (an mn : BitVec 3) (mode : BitVec 2)
    (imm : BitVec 14) (h : s.issues k i) (hw : i.words = {})
    (hs : checkLs s.dev.cores[k] ⟨spellLs (.acc fn r an mn mode imm), some (.acc fn r an mn mode imm)⟩ = [])
    (hp : loadError (s.dev.coreEnv k) s.dev.cores[k] s.dev.mem (bundleLs {} (.acc fn r an mn mode imm)) .none = none) :
    issueLs k i fn r an mn mode imm s = .next (s.withCore k
      (let c := s.dev.cores[k]
       let c2 := if lsIsLoad fn then applyLoad (s.dev.coreEnv k) c c s.dev.mem fn r (lsElems c fn an mode imm) else c
       let c3 := writeReg c2 (.a an) (if mode = 0 then c2.a[an.toFin] else lsAn c an mn mode imm)
       c.passed (s.dev.coreEnv k) c3 (bundleLs {} (.acc fn r an mn mode imm)) i)
      (storeWords s.dev.mem (coreBase k) ((lsElems s.dev.cores[k] fn an mode imm).zip (storeData s.dev.cores[k] fn r)))) := by
  have hc : s.clean k i (bundleLs i.words (.acc fn r an mn mode imm)) := by
    rw [hw]
    refine ⟨h, ?_, hp⟩
    unfold bundleTraps
    rw [legal_lone_ls]
    rw [bundleLs_empty]
    dsimp only
    rw [hs]; rfl
  have hb := issue_clean s k i (bundleLs i.words (.acc fn r an mn mode imm)) hc
    (by intro x y z hh; rw [hw, bundleLs_empty] at hh; dsimp only at hh; cases hh)
    (by intro hh; rw [hw, bundleLs_empty] at hh; dsimp only at hh; cases hh)
  unfold issueLs
  rw [hb, hw]
  have key : ∀ (c4 : Core) (p q : Word), c4.vstat = s.dev.cores[k].vstat →
      { c4 with pc := p, btcount := q, loading := loadsOf (bundleLs {} (.acc fn r an mn mode imm))
                ipend := if satintRaised s.dev.cores[k].corectl s.dev.cores[k].vstat c4.vstat then c4.ipend ||| 8 else c4.ipend }
        = { c4 with pc := p, btcount := q, loading := loadsOf (bundleLs {} (.acc fn r an mn mode imm)) } := by
    intro c4 p q hv
    rw [hv, satintRaised_same]; rfl
  have e1 : (applyBundle (s.dev.coreEnv k) { core := s.dev.cores[k], mem := s.dev.mem }
      (bundleLs {} (.acc fn r an mn mode imm)) i.waits .none).core
      = (let c := s.dev.cores[k]
       let c2 := if lsIsLoad fn then applyLoad (s.dev.coreEnv k) c c s.dev.mem fn r (lsElems c fn an mode imm) else c
       let c3 := writeReg c2 (.a an) (if mode = 0 then c2.a[an.toFin] else lsAn c an mn mode imm)
       c.passed (s.dev.coreEnv k) c3 (bundleLs {} (.acc fn r an mn mode imm)) i) := by
    unfold applyBundle
    dsimp only
    rw [hp]
    cases fn <;> exact key _ _ _ rfl
  have e2 : (applyBundle (s.dev.coreEnv k) { core := s.dev.cores[k], mem := s.dev.mem }
      (bundleLs {} (.acc fn r an mn mode imm)) i.waits .none).mem
      = storeWords s.dev.mem (coreBase k) ((lsElems s.dev.cores[k] fn an mode imm).zip (storeData s.dev.cores[k] fn r)) := by
    unfold applyBundle
    dsimp only
    rw [hp]
    rfl
  rw [e1, e2]

/-- What a lone vector slot does (R61): its own effect, then PC, BTCOUNT and SATINT. -/
theorem exec_lone_v (s : State) (k : Fin 128) (i : Issue) (slot : VSlot) (op : VOp) (h : s.issues k i) (hw : i.words = {})
    (hs : checkV (s.dev.coreEnv k) s.dev.cores[k] (if slot = .va then 2 else 3) ⟨spellV op, some op⟩ = []) :
    issueV k i slot op s = .next (s.withCore k
      (let c := s.dev.cores[k]
       let c1 := applyV c c (some op)
       { c.passed (s.dev.coreEnv k) c1 (bundleV {} slot op) i with
                 ipend := if satintRaised c.corectl c.vstat c1.vstat then c1.ipend ||| 8 else c1.ipend }) s.dev.mem) := by
  have hc : s.clean k i (bundleV i.words slot op) := by
    rw [hw]
    refine ⟨h, ?_, by rw [bundleV_empty]; rfl⟩
    unfold bundleTraps
    rw [legal_lone_v, bundleV_empty]
    cases slot
    · show [] ++ [] ++ [] ++ checkV _ _ 2 ⟨spellV op, some op⟩ ++ [] = []
      simpa using hs
    · have hz : vbRefusal (s.dev.coreEnv k) s.dev.cores[k]
          ⟨⟨0, some .nop⟩, ⟨0, some .nop⟩, ⟨0, some .nop⟩, ⟨spellV op, some op⟩⟩ = 0 := by
        unfold vbRefusal
        cases op <;> first | rfl | (unfold checkV at hs; simpa using hs)
      show (if vbRefusal (s.dev.coreEnv k) s.dev.cores[k]
          ⟨⟨0, some .nop⟩, ⟨0, some .nop⟩, ⟨0, some .nop⟩, ⟨spellV op, some op⟩⟩ ≠ 0 then _ else [])
        ++ [] ++ [] ++ [] ++ [] ++ checkV _ _ 3 ⟨spellV op, some op⟩ = []
      rw [hz]
      simpa using hs
  have hb := issue_clean s k i (bundleV i.words slot op) hc
    (by intro x y z hh; rw [hw, bundleV_empty] at hh; dsimp only at hh; cases hh)
    (by intro hh; rw [hw, bundleV_empty] at hh; dsimp only at hh; cases hh)
  unfold issueV
  rw [hb, hw, bundleV_empty]
  cases slot <;> rfl

/-- A bundle that fails a check takes the trap of its lowest code and has no other effect (R92), where the trap is no
refusal of the MXC. -/
theorem issue_trap (s : State) (k : Fin 128) (i : Issue) (b : Bundle) (t : Trap) (h : s.issues k i)
    (ht : lowestTrap (bundleTraps (s.dev.coreEnv k) s.dev.cores[k] b (decodeBundle i.next)) = some t)
    (hm : t.code ≠ 2 ∨ t.slot ≠ 3) :
    s.on (fun d => d.issue k i b)
      = .next (s.withCore k (enterTrap s.dev.cores[k] (trapToMonitor s.dev.cores[k] t.code) t.code t.slot false t.eval
          s.dev.cores[k].pc none) s.dev.mem) := by
  obtain ⟨h1, h2, h3, -⟩ := h
  have hz : takenRefusal (s.dev.coreEnv k) s.dev.cores[k] b t = 0 := by
    unfold takenRefusal
    rw [if_neg (by rintro ⟨a, b⟩; rcases hm with hm | hm <;> contradiction)]
  have hr : runBundle (s.dev.coreEnv k) { core := s.dev.cores[k], mem := s.dev.mem } b i
      = { core := enterTrap s.dev.cores[k] (trapToMonitor s.dev.cores[k] t.code) t.code t.slot false t.eval s.dev.cores[k].pc none
          mem := s.dev.mem, trapped := true } := by
    have ho : issueOnce (s.dev.coreEnv k) { core := s.dev.cores[k], mem := s.dev.mem } b (decodeBundle i.next) i.waits .none none
        = { core := enterTrap s.dev.cores[k] (trapToMonitor s.dev.cores[k] t.code) t.code t.slot false t.eval s.dev.cores[k].pc none
            mem := s.dev.mem, trapped := true } := by
      unfold issueOnce
      rw [if_neg (by rw [h2]; decide), ht]
      dsimp only
      unfold takeTrap
      dsimp only
      rw [hz]
      rfl
    unfold runBundle
    rw [h3]; dsimp only; rw [ho]
    rfl
  show Host.Outcome.next { s with dev := s.dev.issue k i b } = _
  unfold Dev.issue
  rw [if_pos h1, hr, h3]
  rfl

/-- A lone scalar/branch slot that fails one check of its own takes that trap (R92). -/
theorem exec_lone_trap (s : State) (k : Fin 128) (i : Issue) (op : SbOp) (t : Trap) (h : s.issues k i) (hw : i.words = {})
    (hs : checkSb (s.dev.coreEnv k) s.dev.cores[k] ⟨spellSb op, some op⟩ (decodeBundle i.next) = [t])
    (hl : bundleIllegal (bundleSb {} op) = false) (hm : t.slot ≠ 3) :
    issueSb k i op s = .next (s.withCore k (enterTrap s.dev.cores[k] (trapToMonitor s.dev.cores[k] t.code) t.code t.slot false t.eval
          s.dev.cores[k].pc none) s.dev.mem) := by
  unfold issueSb
  refine issue_trap s k i _ t h ?_ (.inr hm)
  rw [hw]
  unfold bundleTraps
  rw [hl, bundleSb_empty]
  dsimp only
  rw [hs]
  rfl

end Sys2Proof.Machine
end

