-- ==== Sys2Proof/Tests/Slice0.lean ====
section
/-! SUPPORT. Tests on fixed values, each by kernel evaluation: ill-formed commands refused, slot words spelled from the formats,
single commands on a small device, and for each statement with hypotheses a state and operands that meet them. -/

namespace Sys2Proof.Tests

set_option Elab.async false

open Sys2Proof.Machine

/-! ### Well-formedness: one ill-formed term for each check -/

theorem test_wf_chiop_length : wf (.getIdentity { plen := 4 } []) = false := by decide
theorem test_wf_chiop_time : wf (.epochGet { sinceTick := 31459 } []) = false ∧ wf (.epochGet { sinceTick := 31458 } []) = true := by decide
theorem test_wf_unit : wf (.wakePost 17 0) = false ∧ wf (.wakePost 0 0) = false ∧ wf (.unitFault 1 128 .watchdog) = false
    ∧ wf (.drained 1 128) = false ∧ wf (.jobCompletion 1 128) = false ∧ wf (.selftestComplete 0 0 {}) = false ∧ wf (.wakePost 1 127) = true := by decide
theorem test_wf_link : wf (.flitCrcError ⟨9, 0, false, 0, false⟩ ⟨false, [], 0⟩) = false ∧ wf (.flitCrcError ⟨7, 24, false, 0, false⟩ ⟨false, [], 0⟩) = false
    ∧ wf (.flitCrcError ⟨8, 31, false, 4, false⟩ ⟨false, [], 0⟩) = false ∧ wf (.flitCrcError ⟨8, 31, false, 3, false⟩ ⟨false, [], 0⟩) = true := by decide
theorem test_wf_place : wf (.segmentRefill (.ready 0 0)) = false ∧ wf (.segmentRefill (.ready 10 0)) = false ∧ wf (.segmentRefill (.ready 9 7)) = true := by decide
theorem test_wf_request : wf (.jobEnq (.control 0) (List.replicate 31 0) none) = false ∧ wf (.query (.control 0) (List.replicate 32 0)) = true := by decide
theorem test_wf_dispatch : wf (.dispatch 0 0) = false ∧ wf (.dispatch 10 0) = false ∧ wf (.dispatch 1 8) = false ∧ wf (.dispatch 9 7) = true := by decide
theorem test_wf_completion : wf (.jobCompletion 0 0) = false ∧ wf (.jobCompletion 10 0) = false := by decide
theorem test_wf_shadow : wf (.shadowWrite 0 0 0 60 (List.replicate 5 0)) = false ∧ wf (.shadowWrite 0 0 0 60 (List.replicate 4 0)) = true := by decide
theorem test_wf_message : wf (.msgPacket 0 1 (List.replicate 31 0) false .none) = false := by decide
theorem test_wf_roadworks : wf (.roadworksStart 0 0 [(256, [])] [] []) = false ∧ wf (.roadworksStart 0 0 [(0, [(256, 0)])] [] []) = false
    ∧ wf (.roadworksStart 0 0 [] [⟨9, 0, false, 0, false⟩] []) = false ∧ wf (.roadworksStart 0 0 [] [] [⟨9, 0, false, 0, false⟩]) = false := by decide
theorem test_wf_container : wf (.containerDue 1024 0 0) = false ∧ wf (.containerDue 1023 0 14) = false ∧ wf (.containerDue 1023 0 13) = true := by decide
theorem test_wf_window : wf (.bar2Access false 0x3FFFFFF 2 [] .none) = false ∧ wf (.bar2Access true 0x3FFFFFF 0 [1, 2] .none) = false
    ∧ wf (.bar2Access true 0x3FFFFFF 0 [1] .none) = true := by decide
theorem test_wf_regulator : wf (.pmbusComplete 0x3F .readVout true 0) = false ∧ wf (.pmbusComplete 0x49 .readVout true 0) = false
    ∧ wf (.pmbusAlert 0x3F 0) = false ∧ wf (.pmbusAlert 0x48 0) = true := by decide
theorem test_wf_slot_event : wf (.slotSymbolEvent 1024 false 0 ⟨0, false⟩) = false := by decide
theorem test_wf_pps : wf (.ppsEdge airWrap) = false ∧ wf (.ppsEdge (airWrap - 1)) = true := by decide
theorem test_wf_domain : wf (.unitStopped 0x0FFF) = false ∧ wf (.powerGood 0x0FFF) = false ∧ wf (.wakeAttemptTimeout 0x0FFF) = false
    ∧ wf (.wakeRetry 0x0FFF) = false ∧ wf (.unitStopped 0x0100) = true := by decide
theorem test_wf_start_report : wf (.startStepComplete { bad := [(17, 0)] }) = false ∧ wf (.startStepComplete { unwoken := [0x0FFF] }) = false
    ∧ wf (.startStepComplete {}) = true := by decide

/-! ### The opcode table gives no row bits -/

theorem test_no_word_spells_a_command : decodeTableWord 32 0 = none ∧ State.reset.withFetchWord 32 0 = State.reset := ⟨rfl, rfl⟩

/-! ### Slot words, spelled bit by bit from Tables 3.4 to 3.7 and 4.1 -/

/-- ADD S1, S2, S3: OP 000001, SD 0001, SA 0010, SB 0011, ten zeros, FN 0000. -/
theorem test_word_add : decodeSb 0b00000100010010001100000000000000 = some (.alu .add 1 2 3) := by decide
/-- SLTU S15, S0, S1: FN 1111. -/
theorem test_word_sltu : decodeSb 0b00000111110000000100000000001111 = some (.alu .sltu 15 0 1) := by decide
/-- Bit 4 of an SR word is not part of FN and must be 0. -/
theorem test_word_sr_reserved : decodeSb 0b00000100010010001100000000010000 = none := by decide
/-- ADDI S1, S2, -1: OP 000010, SD 0001, SA 0010, 18 ones. -/
theorem test_word_addi : decodeSb 0b00001000010010111111111111111111 = some (.imm .addi 1 2 0x3FFFF) := by decide
/-- AMOD A5, M6, CIRC: OP 001000, 101, 110, 1, 19 zeros. -/
theorem test_word_amod : decodeSb 0b00100010111010000000000000000000 = some (.amod 5 6 true) := by decide
/-- MOVTA S3 to L2: target 0x16. -/
theorem test_word_movta : decodeSb 0b00100100110101100000000000000000 = some (.movta 3 0x16) := by decide
/-- BR S7, LEZ, -2: OP 010000, SA 0111, COND 0101. -/
theorem test_word_br : decodeSb 0b01000001110101111111111111111110 = some (.br 7 5 0x3FFFE) := by decide
/-- REP from S4: OP 011000, SRC 1, SA 0100; and 4,096 times, immediate. -/
theorem test_word_rep : decodeSb 0b01100010100000000000000000000000 = some (.rep true 4 0)
    ∧ decodeSb 0b01100000000000000000111111111111 = some (.rep false 0 0xFFF) := by decide
/-- CSRW S2 to 0x070: OP 100001, S 0010, number 000001110000, ten zeros. -/
theorem test_word_csrw : decodeSb 0b10000100100000011100000000000000 = some (.csr .write 2 0x070) := by decide
/-- OP 0x06 is not listed. -/
theorem test_word_sb_unlisted : decodeSb 0b00011000000000000000000000000000 = none := by decide
/-- STV V9 at A2, M3, MODE 1, IMM14 -1: OP 00100, R 01001, 010, 011, 01, 14 ones. -/
theorem test_word_stv : decodeLs 0b00100010010100110111111111111111 = some (.acc .stv 9 2 3 1 0x3FFF) := by decide
/-- OP 0x08 is not listed. -/
theorem test_word_ls_unlisted : decodeLs 0b01000000000000000000000000000000 = none := by decide
/-- VSAR V1, V2 by 5 in VA: OP 000001, D 00001, A 00010, B 0, FN 000111, MOD 00101. -/
theorem test_word_vsar : decodeV .va 0b00000100001000100000000011100101 = some (.valu .sar 1 2 0 5) := by decide
/-- VMAC ACC7, V1, V2 broadcasting lane 3 with MOD 4: OP 000011. -/
theorem test_word_vmac : decodeV .vb 0b00001100111000010001000001100100 = some (.mul .mac 7 1 2 3 4) := by decide
/-- VEXT S4, lane 31 of V2: OP 001001, D 00100, A 00010, FN 1 11111. -/
theorem test_word_vext : decodeV .va 0b00100100100000100000011111100000 = some (.ext 4 2 31) := by decide
/-- MXMUL MX1, MX2, MX3 with op(A) conjugate transposed and size word in S4 is read in VB and in VA is UNDEF. -/
theorem test_word_mxmul : decodeV .vb 0b11010100001000100001100000100100 = some (.mx .mul 1 2 3 1 4)
    ∧ decodeV .va 0b11010100001000100001100000100100 = none := by decide

/-! ### A small device: every unit PRESENT, every domain in Run, mode M4, all cores alike -/

/-- The device without its cores. -/
def labDev : Dev :=
  { units := Vector.replicate 2048 { st := .present }
    power := { dom := Vector.replicate 1664 { st := .run } }
    mode := { mode := 4 }
    start := { powered := true, resetLow := false, perstLow := false, ready := true, step := 11 }
    host := { linkUp := true, busMaster := true } }

/-- The device whose cores all are `c`. -/
def lab (c : Core) : State := { dev := { labDev with cores := Vector.replicate 128 c } }

/-- A core at Task level with S[i] = i, its windows open. -/
def cpu : Core :=
  { level := .task, pc := 0x100, twlim := 0x5A000, tplim := 0x1E000, ien := 0x8000000F
    s := Vector.ofFn (fun i => BitVec.ofNat 32 i.val)
    trapS := { tvb := 0x1000 }, trapM := { tvb := 0x1E000 } }

/-- The same at Supervisor. -/
def sup : Core := { cpu with level := .supervisor }

/-- A value of the next state, where there is one. -/
def ran {α : Type} (o : Host.Outcome State Fault Refusal) (f : State → α) : Option α :=
  match o with
  | .next t => some (f t)
  | _ => none

/-- Core 127 after a command. -/
def ranCore {α : Type} (o : Host.Outcome State Fault Refusal) (f : Core → α) : Option α := ran o (fun t => f t.dev.cores[(127 : Fin 128)])

/-! ### Scalar instructions -/

theorem test_add : ranCore (exec (.add 127 {} 1 2 3) (lab cpu)) (fun c => (c.s[1], c.pc, c.btcount)) = some (5, 0x110, 1) := by decide +kernel
theorem test_sub_wraps : ranCore (exec (.sub 127 {} 1 2 3) (lab cpu)) (fun c => c.s[1]) = some 0xFFFFFFFF := by decide +kernel
theorem test_logic : ranCore (exec (.and 127 {} 1 6 3) (lab cpu)) (fun c => c.s[1]) = some 2
    ∧ ranCore (exec (.or 127 {} 1 6 3) (lab cpu)) (fun c => c.s[1]) = some 7
    ∧ ranCore (exec (.xor 127 {} 1 6 3) (lab cpu)) (fun c => c.s[1]) = some 5 := by decide +kernel

/-- The same core with S2 the most negative and S3 the largest number, S4 33. -/
def edge : Core := { cpu with s := #v[0, 1, 0x80000000, 0x7FFFFFFF, 33, 0xFFFFFFFF, 0, 0, 0, 0, 0, 0, 0, 0, 0, 0] }

theorem test_shifts_use_five_bits : ranCore (exec (.shl 127 {} 6 1 4) (lab edge)) (fun c => c.s[6]) = some 2
    ∧ ranCore (exec (.shr 127 {} 6 2 4) (lab edge)) (fun c => c.s[6]) = some 0x40000000
    ∧ ranCore (exec (.sar 127 {} 6 2 4) (lab edge)) (fun c => c.s[6]) = some 0xC0000000 := by decide +kernel
theorem test_multiply : ranCore (exec (.mul 127 {} 6 2 3) (lab edge)) (fun c => c.s[6]) = some 0x80000000
    ∧ ranCore (exec (.mulh 127 {} 6 2 2) (lab edge)) (fun c => c.s[6]) = some 0x40000000 := by decide +kernel
theorem test_saturate : ranCore (exec (.adds 127 {} 6 3 1) (lab edge)) (fun c => c.s[6]) = some 0x7FFFFFFF
    ∧ ranCore (exec (.adds 127 {} 6 2 5) (lab edge)) (fun c => c.s[6]) = some 0x80000000
    ∧ ranCore (exec (.subs 127 {} 6 2 1) (lab edge)) (fun c => c.s[6]) = some 0x80000000 := by decide +kernel
theorem test_compare : ranCore (exec (.min 127 {} 6 2 1) (lab edge)) (fun c => c.s[6]) = some 0x80000000
    ∧ ranCore (exec (.max 127 {} 6 2 1) (lab edge)) (fun c => c.s[6]) = some 1
    ∧ ranCore (exec (.slt 127 {} 6 2 1) (lab edge)) (fun c => c.s[6]) = some 1
    ∧ ranCore (exec (.sltu 127 {} 6 2 1) (lab edge)) (fun c => c.s[6]) = some 0 := by decide +kernel
theorem test_immediates : ranCore (exec (.addi 127 {} 6 1 0x3FFFF) (lab edge)) (fun c => c.s[6]) = some 0
    ∧ ranCore (exec (.andi 127 {} 6 5 0x20000) (lab edge)) (fun c => c.s[6]) = some 0xFFFE0000
    ∧ ranCore (exec (.ori 127 {} 6 1 0x00002) (lab edge)) (fun c => c.s[6]) = some 3
    ∧ ranCore (exec (.lui 127 {} 6 1 0x3FFFF) (lab edge)) (fun c => c.s[6]) = some 0xFFFFC000 := by decide +kernel
/-- A core whose A registers hold 0x10C, M 8, B 0x100 and L 16. -/
def ring16 : Core :=
  { cpu with
    a := Vector.replicate 8 0x10C
    m := Vector.replicate 8 8
    b := Vector.replicate 4 0x100
    l := Vector.replicate 4 16 }

/-- A circular buffer of 16 bytes at 0x100: from 0x10C one step of 8 wraps to 0x104. -/
theorem test_amod_wraps : ranCore (exec (.amod 127 {} 1 0 true) (lab ring16)) (fun c => (c.a[1], c.a[0])) = some (0x104, 0x10C) := by decide +kernel
theorem test_movta_l : ranCore (exec (.movta 127 {} 5 0x16) (lab edge)) (fun c => c.l[2]) = some 0x7FFFF := by decide +kernel
theorem test_branch : ranCore (exec (.br 127 {} 0 0 0x3FFFF) (lab cpu)) (fun c => (c.pc, c.btcount)) = some (0xF0, 2)
    ∧ ranCore (exec (.br 127 {} 1 0 0x3FFFF) (lab cpu)) (fun c => (c.pc, c.btcount)) = some (0x110, 1) := by decide +kernel
/-- COND 6 is not listed: UNDEF, code 2, slot 0. -/
theorem test_branch_undef : ranCore (exec (.br 127 {} 0 6 0) (lab cpu)) (fun c => (c.trapS.ecause, c.level, c.pc)) = some (2, .supervisor, 0x1020) := by decide +kernel
theorem test_call : ranCore (exec (.call 127 {} 2) (lab cpu)) (fun c => (c.s[15], c.pc)) = some (0x110, 0x120) := by decide +kernel
theorem test_jr : ranCore (exec (.jr 127 {} 15) (lab { cpu with s := cpu.s.set 15 0x2347 })) (fun c => c.pc) = some 0x2340 := by decide +kernel
theorem test_csr_repmax : ranCore (exec (.csrw 127 {} 0 0x006) (lab sup)) (fun c => c.repmax) = some 0x1000
    ∧ ranCore (exec (.csrw 127 {} 3 0x006) (lab sup)) (fun c => c.repmax) = some 3 := by decide +kernel
theorem test_trap_rett : ranCore (exec (.trap 127 {} 0x3FFFE) (lab cpu)) (fun c => (c.trapS.ecause, c.trapS.eval, c.trapS.epc, c.trapS.tstat, c.pc))
    = some (6, 0xFFFFFFFE, 0x100, 4, 0x1060) := by decide +kernel
theorem test_priv : ranCore (exec (.wait 127 {}) (lab cpu)) (fun c => (c.trapS.ecause, c.trapS.eval, c.waiting)) = some (3, 0xAC000000, false)
    ∧ ranCore (exec (.wait 127 {}) (lab sup)) (fun c => c.waiting) = some true := by decide +kernel
theorem test_done : ranCore (exec (.done 127 {} 5) (lab { sup with jobs := [7, 8] })) (fun c => (c.jobs, c.doneOut)) = some ([8], [(7, 5)]) := by decide +kernel
/-- REP 3 of ADDI S1, S1, 2. -/
theorem test_rep : ranCore (exec (.rep 127 { next := { sb := 0b00001000010001000000000000000010 } } false 0 2) (lab cpu))
    (fun c => (c.s[1], c.pc, c.repact)) = some (7, 0x120, false) := by decide +kernel

/-! ### Loads, stores and the vector slots -/

/-- Core 1 of a device whose core-local memory of core 1 holds 4 bytes at 0x10. -/
def labMem (c : Core) : State :=
  let s := lab c
  { s with dev := { s.dev with mem := { cells := [(0x80010, 0x78), (0x80011, 0x56), (0x80012, 0x34), (0x80013, 0x12)] } } }

theorem test_ldw : ran (exec (.ldw 1 {} 5 0 0 0 4) (labMem cpu)) (fun t => t.dev.cores[(1 : Fin 128)].s[5]) = some 0x12345678 := by decide +kernel
theorem test_stw : ran (exec (.stw 1 {} 3 0 0 0 1) (labMem cpu)) (fun t => (t.dev.mem.cells.head?, t.dev.mem.cells.length)) = some (some (0x80004, 3), 5) := by decide +kernel
/-- A misaligned word raises DADDR (code 5) with the address, and loads nothing. -/
theorem test_ldw_daddr : ran (exec (.ldw 1 {} 5 0 0 0 4) (labMem { cpu with a := Vector.replicate 8 2 }))
    (fun t => (t.dev.cores[(1 : Fin 128)].trapS.ecause, t.dev.cores[(1 : Fin 128)].trapS.eval, t.dev.cores[(1 : Fin 128)].s[5])) = some (0x105, 0x12, 5) := by decide +kernel

/-- A core with V1 all (1, 2), V2 all (32767, -32768). -/
def vec : Core := { cpu with v := Vector.ofFn (fun i => Vector.replicate 32 (if i.val = 1 then 0x00020001 else if i.val = 2 then 0x80007FFF else 0)) }

theorem test_vadd_saturates : ranCore (exec (.vadd 127 {} .va 3 1 2 0) (lab vec)) (fun c => (c.v[3][31], c.vstat)) = some (0x80027FFF, 1) := by decide +kernel
theorem test_vconj : ranCore (exec (.vconj 127 {} .vb 3 1 0 0) (lab vec)) (fun c => c.v[3][0]) = some 0xFFFE0001 := by decide +kernel
/-- (1 + 2j)(1 + 2j) = -3 + 4j. -/
theorem test_vmul : ranCore (exec (.vmul 127 {} .va 0 1 1 0 0) (lab vec)) (fun c => (c.acc[0][5].re, c.acc[0][5].im)) = some (0xFFFFFFFFFD, 4) := by decide +kernel
/-- (1 + 2j) times its conjugate, accumulated on 10: 15. -/
theorem test_vmac : ranCore (exec (.vmac 127 {} .va 0 1 1 0 1) (lab { vec with acc := Vector.replicate 8 (Vector.replicate 32 { re := 10 }) }))
    (fun c => (c.acc[0][5].re, c.acc[0][5].im, c.acc[0][5].gov)) = some (15, 0, false) := by decide +kernel
/-- Parts 1 and 2: 13 redundant sign bits in 2; a vector of zeros gives 15. -/
theorem test_vbexp : ranCore (exec (.vbexp 127 {} .va 4 1) (lab vec)) (fun c => c.s[4]) = some 13
    ∧ ranCore (exec (.vbexp 127 {} .va 4 5) (lab vec)) (fun c => c.s[4]) = some 15 := by decide +kernel
theorem test_vins_vext : ranCore (exec (.vins 127 {} .va 1 7 31) (lab vec)) (fun c => (c.v[1][31], c.v[1][30])) = some (7, 0x00020001)
    ∧ ranCore (exec (.vext 127 {} .vb 4 1 31) (lab vec)) (fun c => c.s[4]) = some 0x00020001 := by decide +kernel
/-- Two VMACs in one bundle are illegal: code 1, and nothing is accumulated. -/
theorem test_illegal_bundle : ranCore (exec (.vmac 127 { words := { vb := 0b00001100001000010000100000000000 } } .va 0 1 1 0 0) (lab vec))
    (fun c => (c.trapS.ecause.extractLsb' 0 8, c.acc[0][5].re)) = some (1, 0) := by decide +kernel

/-! ### The matrix coprocessor -/

/-- A core whose MXC is enabled. -/
def mxCore : Core := { sup with mxen := 7, mxc := { started := true } }

theorem test_mx_accept : ranCore (exec (.mxid 127 {} 3 0 0 1 0) (lab mxCore)) (fun c => (c.mxc.queue.length, c.mxc.seq)) = some (1, 1) := by decide +kernel
/-- An operand field with bit 4 set: ENCODING, cause 4, UNDEF in slot 3. -/
theorem test_mx_refuse : ranCore (exec (.mxadd 127 {} 0x10 0 0 0 0) (lab mxCore)) (fun c => (c.mxc.rcause, c.trapM.ecause, c.mxc.queue.length))
    = some (4, 0x302, 0) := by decide +kernel
theorem test_mx_identity : ranCore (exec (.mxcCommit 127 false) (lab { mxCore with mxc := { started := true, queue := [{ fn := .ident, d := 3, a := 0, b := 0, fnf := 1, size := 0, param := 0, data := Vector.replicate 32 0, seq := 0 }] } }))
    (fun c => (c.mxc.queue.length, c.mxc.regs[3].elem[1], c.mxc.regs[3].exp, c.mxc.regs[3].f)) = some (0, 0, 0, false) := by decide +kernel
/-! ### States and operands that meet the hypotheses of the statements: the signal cores and the MXC -/

theorem witness_lone : (lab cpu).issues 127 {} ∧ (lab sup).issues 0 {} ∧ (lab {}).issues 5 {} ∧ (lab cpu).dev.cores[(127 : Fin 128)].level = .task
    ∧ (lab sup).dev.cores[(0 : Fin 128)].level = .supervisor ∧ (lab {}).dev.cores[(5 : Fin 128)].level = .monitor := by
  unfold State.issues
  decide +kernel

/-- AMOD: L[n] 0, L[n] not 0, and n from 4. -/
theorem witness_amod : (lab ring16).issues 127 {} ∧ (1 : BitVec 3) = 0#1 ++ 1#2 ∧ (lab ring16).dev.cores[(127 : Fin 128)].l[1] ≠ 0
    ∧ (lab cpu).dev.cores[(127 : Fin 128)].l[3] = 0 ∧ (7 : BitVec 3) = 1#1 ++ 3#2 := by
  unfold State.issues
  decide +kernel

/-- RETT at Supervisor and at Monitor with PREP clear; TRAP of a Task and the RETT behind it. -/
theorem witness_rett : (lab sup).dev.cores[(0 : Fin 128)].level ≠ .task ∧ (lab sup).dev.cores[(0 : Fin 128)].trapS.tstat.getLsbD 3 = false
    ∧ (lab {}).dev.cores[(0 : Fin 128)].trapM.tstat.getLsbD 3 = false := by decide +kernel
theorem witness_trap_rett : ∃ t u, exec (.trap 127 {} 3) (lab cpu) = .next t ∧ t.issues 127 {} ∧ exec (.rett 127 {}) t = .next u :=
  ⟨_, _, rfl, by unfold State.issues; decide +kernel, rfl⟩

/-- REP with the count register 0, with a count above REPMAX, and with counts 1 and REPMAX; the next bundle is one ADDI. -/
def repCore : Core := { cpu with repmax := 4 }
def repIssue : Issue := { next := { sb := 0x02#6 ++ 1#4 ++ 1#4 ++ 2#18 } }

theorem witness_rep : (lab repCore).issues 127 repIssue ∧ repeatable (decodeBundle repIssue.next) = true
    ∧ (lab repCore).dev.cores[(127 : Fin 128)].s[(0#4).toFin].toNat = 0 ∧ (lab repCore).dev.cores[(127 : Fin 128)].repmax.toNat < (4#12).toNat + 1
    ∧ (3#12).toNat + 1 ≤ (lab repCore).dev.cores[(127 : Fin 128)].repmax.toNat
    ∧ fetchOk { (lab repCore).dev.cores[(127 : Fin 128)] with pc := (lab repCore).dev.cores[(127 : Fin 128)].pc + 16 } = true := by
  unfold State.issues
  decide +kernel
theorem witness_repmax : (lab sup).issues 127 {} ∧ 1 ≤ (lab sup).dev.cores[(127 : Fin 128)].repmax.toNat ∧ (lab sup).dev.cores[(127 : Fin 128)].repmax.toNat ≤ 4096
    ∧ (lab sup).dev.cores[(127 : Fin 128)].s[(0#4).toFin] = 0 ∧ (∃ t, exec (.csrw 127 {} 0 0x006) (lab sup) = .next t) :=
  ⟨by unfold State.issues; decide +kernel, by decide +kernel, by decide +kernel, by decide +kernel, _, rfl⟩

theorem witness_done : (lab { sup with jobs := [7] }).issues 127 {} ∧ (lab { sup with jobs := [7] }).dev.cores[(127 : Fin 128)].jobs = [7]
    ∧ (lab sup).dev.cores[(127 : Fin 128)].jobs.headD 0 = 0 ∧ ((lab { sup with waiting := true }).dev.core 127).waiting = true := by
  unfold State.issues
  decide +kernel
theorem witness_brk : (lab { cpu with corectl := 1 }).issues 127 {} ∧ (lab { cpu with corectl := 1 }).dev.cores[(127 : Fin 128)].corectl.getLsbD 0 = true
    ∧ (lab cpu).dev.cores[(127 : Fin 128)].corectl.getLsbD 0 = false := by
  unfold State.issues
  decide +kernel

/-- Loads and stores at the ends of core-local data memory, in the four modes; A[n] 0x100, and the circular buffer of 128 bytes. -/
def lsCore : Core :=
  { sup with
    a := #v[0x100, 0x100, 0, 0x59F80, 0x59E80, 0x59FFC, 0, 0]
    m := Vector.replicate 8 4
    b := Vector.replicate 4 0x80
    l := Vector.replicate 4 256 }

theorem witness_loads : (lab lsCore).issues 127 {} ∧ lsBadAddr lsCore .ldw 5 0 0 = none ∧ lsBadAddr lsCore .ldv 3 1 0 = none
    ∧ lsBadAddr lsCore .ldvb 5 2 1 = none ∧ lsBadAddr lsCore .ald 4 0 0 = none ∧ lsBadAddr lsCore .ldv 0 3 0 = none
    ∧ lsBadAddr lsCore .stw 5 0 0 = none ∧ lsBadAddr lsCore .stv 3 1 0 = none ∧ lsBadAddr lsCore .asv 4 1 0 = none
    ∧ lsCore.l[(0#2).toFin] ≠ 0 ∧ cpu.l[(3#2).toFin] = 0 := by
  unfold State.issues
  decide +kernel
theorem witness_no_poison : ∀ x ∈ lsElems lsCore .ald 4 0 0, (lab lsCore).dev.mem.poisoned (127 * 0x80000 + x.toNat) 4 = false := fun _ _ => rfl
theorem witness_stores : (lab lsCore).dev.mem.wf = true ∧ ∀ x, x < 0x4000000 → (lab lsCore).dev.mem.inHarq x = false :=
  ⟨by decide +kernel, fun x _ => by simp [lab, labDev, Memory.inHarq]⟩

/-- VADD: sums that fit in every lane, and one that does not; VMULJ with an imaginary part of -32768. -/
theorem witness_vadd : (lab vec).issues 127 {} ∧ (∀ l : Fin 32, -32768 ≤ partRe vec.v[1][l] + partRe vec.v[1][l] ∧ partRe vec.v[1][l] + partRe vec.v[1][l] ≤ 32767)
    ∧ (∃ l : Fin 32, ¬ partRe vec.v[1][l] + partRe vec.v[2][l] ≤ 32767) ∧ partIm vec.v[2][(0 : Fin 32)] = -32768 ∧ partIm vec.v[1][(0 : Fin 32)] ≠ -32768 := by
  unfold State.issues
  decide +kernel
theorem witness_vbexp : (lab vec).issues 127 {} ∧ (lab vec).dev.cores[(127 : Fin 128)].v[(5#5).toFin] = Vector.replicate 32 0 := by
  unfold State.issues
  decide +kernel
/-- A lane with GOV set and one without; explicit shifts -8 and 9; MOD[0] clear and set. -/
theorem witness_acc : (lab { vec with acc := Vector.replicate 8 ((Vector.replicate 32 { re := 7 }).set 3 { gov := true }) }).issues 127 {}
    ∧ ((0b011000#6).extractLsb' 0 5).toInt = -8 ∧ ((9#6).extractLsb' 0 5).toInt = 9 ∧ (0#5).getLsbD 0 = false ∧ (1#5).getLsbD 0 = true := by
  unfold State.issues
  decide +kernel

/-- Sizes 1 and 8. -/
theorem witness_mx : (lab { mxCore with s := Vector.replicate 16 0x881 }).issues 127 {} ∧ (lab mxCore).dev.mxState 127 = .run ∧ mxEnabled mxCore = true
    ∧ mxCore.mxc.queue.length < 4 ∧ mxCore.mxc.queue = [] ∧ ((0x881#32).extractLsb' 0 4).toNat = 1 ∧ ((0x881#32).extractLsb' 4 4).toNat = 8 := by
  unfold State.issues
  decide +kernel

/-- An entry of each function whose commit a statement gives. -/
def mxEntry (fn : Sys2Proof.MxFn) (param : Word) : MxEntry :=
  { fn := fn, d := 3, a := 1, b := 2, fnf := 0, size := 0, param := param, data := Vector.replicate 32 1, seq := 5 }

/-- The five causes of a refusal of MXADD: unavailable, in Stop, not enabled, a field with bit 4, a full queue. -/
theorem witness_mx_refusals :
    (let s := lab mxCore
     let gone : State := { s with dev := { s.dev with units := Vector.replicate 2048 { st := .absent } } }
     let stopped : State := { s with dev := { s.dev with power := { dom := (Vector.replicate 1664 { st := .run }).set 383 { st := .stop } } } }
     gone.dev.mxState 127 = .unavailable ∧ mxEnabled sup = false ∧ (0x10#5).getLsbD 4 = true ∧ s.dev.mxState 127 = .run
     ∧ (List.replicate 4 (mxEntry .ack 0)).length = 4 ∧ stopped.dev.mxState 127 = .stopped) := by decide +kernel
theorem witness_commits : (lab mxCore).dev.mxState 127 = .run ∧ (lab mxCore).dev.health.testQueue = [] ∧ (lab mxCore).dev.cores[(127 : Fin 128)].mxc.late = false
    ∧ (-128 : Int) ≤ (0 : BitVec 8).toInt + ((0x80#32).extractLsb' 0 8).toInt ∧ (127 : Int) < (1 : BitVec 8).toInt + ((0x7F#32).extractLsb' 0 8).toInt
    ∧ (127 : Int) = (0 : BitVec 8).toInt + ((0x7F#32).extractLsb' 0 8).toInt := by decide +kernel
/-- MXADD of zero matrices: the smallest exponent fits. -/
theorem witness_mxadd_fits : ∃ ed : Int, -128 ≤ ed ∧ ed ≤ 127 ∧ (-32768 : Int) ≤ shiftRightInt 0 ed ∧ shiftRightInt 0 ed ≤ 32767 := ⟨-128, by decide, by decide, by decide +kernel, by decide +kernel⟩

/-- Interrupt 0 and interrupt 3 pending and enabled, none lower; Monitor; WDOG due. -/
theorem witness_interrupts :
    (lab { cpu with ipend := 1 }).dev.coreUp 127 = true ∧ cpu.level ≠ .monitor ∧ cpu.ien.getLsbD 31 = true ∧ (1#4).getLsbD 0 = true ∧ cpu.ien.getLsbD 3 = true
    ∧ (∀ q : Fin 4, q < 3 → (8#4).getLsbD q = true → cpu.ien.getLsbD q = false) ∧ (lab {}).dev.cores[(127 : Fin 128)].level = .monitor
    ∧ (lab {}).dev.cores[(127 : Fin 128)].ien.getLsbD 31 = false ∧ (1 : BitVec 16) ≠ 0 ∧ (1 : BitVec 16).toNat * 64 ≤ 64
    ∧ ([⟨127, 9, true, 0⟩] : List Delivery).find? (fun y => y.core == 127 && y.preempt == true) = some ⟨127, 9, true, 0⟩ := by decide +kernel

/-- A bundle with two multiply-class slots meets a check. -/
theorem witness_bundle : (lab vec).issues 127 { words := { vb := 0b00001100001000010000100000000000 } } ∧ (lab vec).dev.mxState 127 ≠ .stopped
    ∧ bundleTraps ((lab vec).dev.coreEnv 127) vec (bundleV { vb := 0b00001100001000010000100000000000 } .va (.mul .mac 0 1 1 0 0)) (decodeBundle {}) ≠ []
    ∧ bundleTraps ((lab vec).dev.coreEnv 127) vec (bundleSb { ls := 0b00001100000000000000000000000000 } (.alu .add 1 2 3)) (decodeBundle {}) ≠ []
    ∧ bundleTraps ((lab vec).dev.coreEnv 127) vec (bundleLs {} (.acc .stv 0 4 0 3 0)) (decodeBundle {}) ≠ [] := by
  unfold State.issues
  decide +kernel

theorem witness_uncorrectable_load : (lab cpu).dev.coreIssues 127 = true ∧ fetchOk (lab cpu).dev.cores[(127 : Fin 128)] = true
    ∧ ({ ecc := .loadUncorrectable, words := { va := 0x01#6 ++ 3#5 ++ 1#5 ++ 2#5 ++ 0#11 } } : Issue).words.va = 0x04611000
    ∧ lsBadAddr cpu .ldw 0 0 0 = none := by decide +kernel
/-! ### Almanac -/

/-- The device with the given state of Almanac at tick 1000. -/
def alm (a : AlmState) : State :=
  { dev := { labDev with alm := { a with pool := Vector.replicate 2048 { joined := true } }, time := { air := 5000000, tick := 1000 } } }

def queue1 (entries : List (List Byte)) : Queue := { id := 0x200, limit := 2, entries := entries }
def entry16 : List Byte := List.replicate 16 7
def job1 (st : JobSt) (gates pool unit : Nat) : Job := { id := 0x100, st := st, cls := 2, gates := gates, pool := pool, unit := unit, link := 0x200 }

theorem witness_almanac : (alm {}).dev.launched = true ∧ (alm {}).dev.cfg.plans = [] ∧ (alm {}).dev.alm.queues.length < 65536 ∧ (alm {}).dev.alm.objects < 8388608
    ∧ (alm { queues := [queue1 []] }).dev.alm.queue? 0x200 = some (queue1 []) ∧ (alm { queues := [queue1 []] }).dev.alm.entries < 16777216
    ∧ (alm { queues := [queue1 []] }).dev.alm.namedDeferred 0x200 = false ∧ (alm { queues := [queue1 [entry16, entry16]] }).dev.alm.queue? 0x200 = some (queue1 [entry16, entry16])
    ∧ (alm { queues := [queue1 []] }).dev.alm.job? 0x200 = none ∧ (alm { queues := [queue1 []] }).dev.alm.proc? 0x200 = none
    ∧ (alm { queues := [queue1 []] }).dev.alm.timer? 0x200 = none ∧ entry16.length = 16 := by decide +kernel

/-- JOB_ENQ of a class C job of the LDPC pool, with no gate and with one: OP 1, DESC 0x8_4000_0000, DEADLINE 2000, CLASS 2, POOL 5, UNIT any, CELL none. -/
def jobReq (gates : Byte) : List Byte :=
  [1, 0] ++ bytesOf 2 9 ++ [0, 0, 0, 0] ++ bytesOf 8 0x840000000 ++ bytesOf 5 2000 ++ [2, 5, 0xFF] ++ [gates, 0] ++ bytesOf 2 0xFFFF ++ [0, 0, 0, 0]

theorem witness_job_enq : (alm {}).dev.checkReq (.control 0) (jobReq 0) = 0 ∧ (alm {}).dev.checkReq (.control 0) (jobReq 1) = 0 := by decide +kernel
theorem witness_event : (alm { jobs := [job1 .waiting 2 5 0] }).dev.alm.jobs = [job1 .waiting 2 5 0] ∧ 2 ≤ (job1 .waiting 2 5 0).gates
    ∧ (job1 .waiting 1 5 0).gates ≤ 1 ∧ (job1 .waiting 0 5 0).pool ≠ 4 ∧ (job1 .ready 0 5 0).st ≠ .waiting := by decide +kernel
theorem test_event : ran (exec (.event (.control 0) ([3, 0, 0, 0] ++ bytesOf 4 0x100)) (alm { jobs := [job1 .waiting 1 5 0] }))
    (fun t => t.dev.alm.jobs.map (fun j => (j.st, j.gates))) = some [(.ready, 0)] := by decide +kernel

/-- A procession whose head 5 is not complete, and one whose head job waits. -/
def proc1 (nextSeq : Word) : Procession := { id := 0x300, window := 4, nextSeq := nextSeq, headSeq := 5, stuckTo := 10, headSince := 990, relq := 0x200 }
def inProc (pseq : Word) (st : JobSt) : Job := { job1 st 0 5 3 with link := 0x300, proc := true, pseq := pseq }

theorem witness_skip_enq : (alm { procs := [proc1 6], jobs := [inProc 5 .waiting] }).dev.alm.procs = [proc1 6] ∧ (proc1 6).closing = false
    ∧ (∀ j ∈ [inProc 5 .waiting], j.proc = true → j.link = 0x300 → j.pseq = (proc1 6).headSeq → j.st ≠ .complete) ∧ (proc1 6).nextSeq ≠ (proc1 6).headSeq := by
  decide +kernel

/-- TIMER_SET of a timer that signals a job: ACTION 1. -/
def timerReq : List Byte :=
  [4, 0, 0, 0, 0, 0, 0, 0] ++ [1, 0, 0, 0] ++ bytesOf 4 0x100 ++ bytesOf 5 2000 ++ bytesOf 3 0 ++ bytesOf 8 0
def timer1 (expiry : BitVec 40) (period : BitVec 24) : Timer := { id := 0x400, action := 3, target := 0x200, expiry := expiry, period := period, entry := 0x1122, armedAt := 900 }

theorem witness_timers : (alm { jobs := [job1 .waiting 1 5 0] }).dev.checkReq (.control 0) timerReq = 0 ∧ (timer1 1000 16).armed = true ∧ (timer1 1000 16).armedAt ≠ 1000
    ∧ ((1000 : BitVec 40) - (timer1 1000 16).expiry).toNat < 2 ^ 39 ∧ 2 ^ 39 ≤ ((1000 : BitVec 40) - (timer1 1001 0).expiry).toNat
    ∧ (queue1 []).entries.length < (queue1 []).limit ∧ (1024 : BitVec 40).toNat % 256 = 0 ∧ (1000 : BitVec 40).toNat % 256 ≠ 0 := by decide +kernel
theorem test_timer_fires_at_its_tick : ran (exec .timerFire (alm { timers := [timer1 1000 16], queues := [queue1 []] })) (fun t => (t.dev.alm.timers.map (·.expiry), t.dev.alm.queues.map (·.entries)))
    = some ([1016], [[bytesOf 8 0x1122 ++ bytesOf 8 0]])
    ∧ ran (exec .timerFire (alm { timers := [timer1 1001 0] })) (fun t => t.dev.alm.timers) = some [timer1 1001 0] := by decide +kernel

theorem witness_dispatch : (alm { jobs := [job1 .ready 0 5 3] }).dev.alm.jobs = [job1 .ready 0 5 3] ∧ (job1 .ready 0 5 3).chip = true
    ∧ (alm {}).dev.inPool 5 3 = true ∧ (alm {}).dev.unitRun 5 3 = true ∧ (alm {}).dev.inPool 1 17 = true ∧ (alm {}).dev.domRun (0x100 + 17) = true
    ∧ (alm {}).dev.alm.unitCfg[(17 : Fin 128)].getLsbD 2 = true ∧ (alm {}).dev.alm.deliveries = [] := by decide +kernel
theorem test_dispatch : ran (exec (.dispatch 5 0) (alm { jobs := [job1 .ready 0 5 3] })) (fun t => t.dev.alm.jobs.map (fun j => (j.st, j.runat, j.dtick)))
    = some [(.dispatched, 3, 1000)] := by decide +kernel
theorem test_dispatch_core : ran (exec (.dispatch 1 1) (alm { jobs := [job1 .ready 0 1 17] })) (fun t => (t.dev.alm.deliveries, t.dev.cores[(17 : Fin 128)].ipend))
    = some ([⟨17, 0x100, false, 1000⟩], 2) := by decide +kernel

def ranOn5 : Job := { job1 .dispatched 0 5 3 with runat := 3, started := true }

theorem witness_completion : ranOn5.st = .dispatched ∧ ranOn5.cls = 2 ∧ ranOn5.proc = false ∧ ranOn5.skipped = false ∧ ranOn5.deferred = [] ∧ ranOn5.link = (queue1 []).id
    ∧ (alm { jobs := [ranOn5], queues := [queue1 []], reports := [⟨5, 3, 0x100, 0x11⟩] }).dev.alm.reports = [⟨5, 3, 0x100, 0x11⟩]
    ∧ (alm {}).dev.alm.procs = [] ∧ (alm {}).dev.alm.job? 0x555 = none := by decide +kernel
theorem test_completion : ran (exec (.jobCompletion 5 3) (alm { jobs := [ranOn5], queues := [queue1 []], reports := [⟨5, 3, 0x100, 0x11⟩] }))
    (fun t => (t.dev.alm.jobs, t.dev.alm.queues.map (·.entries))) = some ([], [[bytesOf 4 0x100 ++ bytesOf 4 0x11 ++ [0, 2] ++ bytesOf 2 0 ++ bytesOf 4 1000]]) := by decide +kernel
/-- A report of DONE for a job that is not held. -/
theorem witness_stale_done :
    (let s := alm {}
     let t : State := { s with dev := { s.dev with cores := s.dev.cores.set 5 { s.dev.cores[(5 : Fin 128)] with doneOut := [(0x555, 1)] } } }
     t.dev.launched = true ∧ t.dev.cores[(5 : Fin 128)].doneOut = [(0x555, 1)] ∧ t.dev.alm.job? 0x555 = none) := by decide +kernel
theorem witness_held_completion : (inProc 6 .dispatched).pseq ≠ (proc1 7).headSeq ∧ (proc1 7).id = (inProc 6 .dispatched).link ∧ (∀ q ∈ [queue1 []], q.closing = false)
    ∧ (inProc 6 .dispatched).cls = 2 ∧ (inProc 6 .dispatched).deferred = [] := by decide +kernel
/-- A head that waits exactly STUCK_TO ticks, and one a tick short of it. -/
theorem witness_stuck_head : (inProc 5 .ready).pseq = (proc1 6).headSeq ∧ (proc1 6).nextSeq = (proc1 6).headSeq + 1 ∧ (proc1 6).stuckTo ≠ 0
    ∧ (proc1 6).stuckTo.toNat ≤ ((1000 : BitVec 40) - (proc1 6).headSince).toNat ∧ ((999 : BitVec 40) - (proc1 6).headSince).toNat < (proc1 6).stuckTo.toNat
    ∧ (queue1 []).id = (proc1 6).relq := by decide +kernel
theorem test_stuck_head : ran (exec (.stuckHeadSkip 0x300) (alm { procs := [proc1 6], jobs := [inProc 5 .ready], queues := [queue1 []] }))
    (fun t => (t.dev.alm.jobs, t.dev.alm.procs.map (fun p => (p.headSeq, p.skips)), t.dev.alm.queues.map (fun q => q.entries.length)))
    = some ([], [(6, 1)], [1]) := by decide +kernel

/-- Core 5's outbox holds one UNIT_CFG of its class mask 1: OP 11 and byte 8; the indices are 1 written and 0 read. -/
def mailCell : List Host.Cell := [(0x5 * 0x80000 + 0x5A000, 11), (0x5 * 0x80000 + 0x5A008, 1), (0x5 * 0x80000 + 0x5B0C0, 1)]
def mailed : State :=
  let s := alm {}
  { s with dev := { s.dev with mem := { cells := mailCell } } }

theorem witness_unit_cfg : mailed.dev.launched = true ∧ mailed.dev.domRun (0x100 + 5) = true ∧ mailed.dev.mailReady 5 = true
    ∧ mailed.dev.mem.field (5 * 0x80000 + 0x5B0C4) 4 % 64 = 0 ∧ rf (mailed.dev.mem.bytes (5 * 0x80000 + 0x5A000) 32) 0 1 = 11
    ∧ mailed.dev.checkReq (.core 5) (mailed.dev.mem.bytes (5 * 0x80000 + 0x5A000) 32) = 0 := by decide +kernel
/-- A ready job waits for LDPC decoder 3, whose domain is in Stop. -/
def asleep : State :=
  let s := alm { jobs := [job1 .ready 0 5 3] }
  { s with dev := { s.dev with power := { dom := Vector.replicate 1664 {} } } }

theorem witness_wake_post : asleep.dev.present 5 3 = true ∧ (asleep.dev.dom (unitDomain 5 3)).st = .stop ∧ (asleep.dev.dom (unitDomain 5 3)).cur = none
    ∧ (asleep.dev.dom (unitDomain 5 3)).hostHeld = false ∧ asleep.dev.domCheck (unitDomain 5 3) true = none ∧ asleep.dev.domTesting (unitDomain 5 3) = false
    ∧ ∃ j ∈ asleep.dev.alm.jobs, asleep.dev.waitsFor 5 3 j = true := by decide +kernel
theorem witness_pto : (alm {}).dev.cfg.pto ≤ ((1000 : BitVec 40) - 500).toNat ∧ (⟨5, 0x100, true, 500⟩ : Delivery).preempt = true := by decide +kernel
theorem witness_unit_fault : (alm { jobs := [ranOn5] }).dev.present 5 3 = true ∧ ranOn5.pool = 5 ∧ ranOn5.runat = 3 ∧ ranOn5.noretry = false := by decide +kernel
/-- A domain that drains with nothing left, and one in Run. -/
def draining : State :=
  let s := alm {}
  { s with dev := { s.dev with power := { dom := Vector.replicate 1664 { st := .stopping, step := .drain, cur := some ⟨false, .control⟩ } } } }

theorem witness_drained : (draining.dev.dom (unitDomain 5 3)).st = .stopping ∧ (draining.dev.dom (unitDomain 5 3)).step = .drain ∧ draining.dev.domDrained (unitDomain 5 3) = true
    ∧ ((alm {}).dev.dom (unitDomain 5 3)).st ≠ .stopping := by decide +kernel
theorem witness_spilled : (alm { queues := [{ queue1 [entry16] with chip := 127 }] }).dev.alm.queues = [{ queue1 [entry16] with chip := 127 }]
    ∧ (queue1 [entry16]).overrun.toNat + (queue1 [entry16]).entries.length < 2 ^ 32 ∧ 0 + 1 ≤ (queue1 [entry16]).entries.length
    ∧ (alm {}).dev.alm.known 0x999 = false := by decide +kernel
theorem witness_tick_edge : (alm {}).dev.time.tickIdx + 1 < edgesPerFrame (alm {}).dev.time.tickCode ∧ (0 : Nat) < airWrap
    ∧ airPast 0 ({} : TimeState).nextEdge = false ∧ State.reset.dev.time.tickIdx + 1 < edgesPerFrame State.reset.dev.time.tickCode := by decide +kernel
/-! ### Engines, the DMA engines and Ringroad -/

/-- The device with every shell open and the default itineraries, its memory and Almanac as given. -/
def net (a : AlmState) (cells : List Host.Cell) : State :=
  let s := alm a
  { s with dev := { s.dev with ring := { ni := Vector.replicate 256 { shell := .open_ }, loaded := true }, mem := { cells := cells } } }

/-- A job that unit 3 of a pool runs, with its descriptor at hand: MODE, and an output at 0x1000_0100 and a status word at 0x1000_0200. -/
def engJob (pool : Nat) (mode : Byte) : Job :=
  { id := 0x100, st := .dispatched, cls := 2, pool := pool, unit := 3, runat := 3, started := true
    copy := [mode] ++ List.replicate 23 0 ++ bytesOf 8 0x10000100 ++ bytesOf 8 0x10000200 ++ List.replicate 24 0 }

theorem witness_engines : (net { jobs := [engJob 3 1] } []).dev.launched = true
    ∧ (∀ m ∈ [1, 2, 3, 5, 6, 7, 8, 9, 10], (net { jobs := [engJob 3 (BitVec.ofNat 8 m)] } []).dev.engineJob 3 3 = some (engJob 3 (BitVec.ofNat 8 m)))
    ∧ (∀ p ∈ [4, 5, 6, 7, 8, 9], (net { jobs := [engJob p 1] } []).dev.engineJob p 3 = some (engJob p 1))
    ∧ (net {} []).dev.engineJob 3 3 = none
    ∧ pf ((net { jobs := [engJob 3 10] } []).dev.descOf 3 3 (engJob 3 10) 48) 0 1 = 10
    ∧ pf ((net { jobs := [engJob 4 3] } []).dev.descOf 4 3 (engJob 4 3) 48) 0 1 = 3
    ∧ pf ((net { jobs := [engJob 4 1] } []).dev.descOf 4 3 (engJob 4 1) 64) 0 1 = 1
    ∧ pf ((net { jobs := [engJob 7 5] } []).dev.descOf 7 3 (engJob 7 5) 48) 0 1 = 5
    ∧ pf ((net { jobs := [engJob 8 4] } []).dev.descOf 8 3 (engJob 8 4) 48) 0 1 = 4
    ∧ pf ((net { jobs := [engJob 9 4] } []).dev.descOf 9 3 (engJob 9 4) 32) 0 1 = 4
    ∧ (net { jobs := [{ engJob 9 4 with gateJob := true }] } []).dev.engineJob 9 3 = some { engJob 9 4 with gateJob := true } := by decide +kernel
/-- MODE 4 and 11 of the transform pool, 0 and 6 of the polar pool, 5 of the trellis pool are not listed. -/
theorem witness_bad_modes :
    pf ((net { jobs := [engJob 3 4] } []).dev.descOf 3 3 (engJob 3 4) 48) 0 1 ∉ [1, 2, 3, 5, 6, 7, 8, 9, 10]
    ∧ pf ((net { jobs := [engJob 3 11] } []).dev.descOf 3 3 (engJob 3 11) 48) 0 1 ∉ [1, 2, 3, 5, 6, 7, 8, 9, 10]
    ∧ pf ((net { jobs := [engJob 7 0] } []).dev.descOf 7 3 (engJob 7 0) 48) 0 1 ∉ [1, 2, 3, 4, 5]
    ∧ pf ((net { jobs := [engJob 7 6] } []).dev.descOf 7 3 (engJob 7 6) 48) 0 1 ∉ [1, 2, 3, 4, 5]
    ∧ pf ((net { jobs := [engJob 8 5] } []).dev.descOf 8 3 (engJob 8 5) 48) 0 1 ∉ [1, 2, 3, 4] := by decide +kernel
theorem test_bad_mode : ran (exec (.viterbi 3 true) (net { jobs := [engJob 8 5] } [])) (fun t => (t.dev.alm.reports, t.dev.mem.cells)) = some ([⟨8, 3, 0x100, 0x10⟩], [(0x10000200, 0x10), (0x10000208, 0xE8), (0x10000209, 0x03)]) := by
  decide +kernel
theorem witness_polar : (net { jobs := [engJob 7 1] } []).dev.mem.wf = true ∧ ∀ x, (net { jobs := [engJob 7 1] } []).dev.mem.inHarq x = false :=
  ⟨by decide +kernel, fun x => by simp [net, alm, labDev, Memory.inHarq]⟩
/-- An equaliser engine runs a class C EST job while a class A job waits there. -/
def classA : Job := { engJob 4 1 with id := 0x101, cls := 0, started := false }

theorem witness_preempt : (net { jobs := [engJob 4 1, classA] } []).dev.engineJob 4 3 = some (engJob 4 1) ∧ (engJob 4 1).cls ≠ 0
    ∧ pf ((net { jobs := [engJob 4 1, classA] } []).dev.descOf 4 3 (engJob 4 1) 48) 0 1 ≠ 3 ∧ classA.id ≠ (engJob 4 1).id ∧ classA.started = false
    ∧ classA.st = .dispatched ∧ classA.cls = 0 ∧ { classA with cls := 1 }.cls ≠ 0 := by decide +kernel
/-- An open tally older than the limit by one tick, and exactly as old. -/
theorem witness_tally :
    (let s := alm {}
     let with_ := fun (t : BitVec 40) => ({ s with dev := { s.dev with cfg := { s.dev.cfg with tallyAge := 100 }, eng := { tally := Vector.replicate 1024 { st := .opened, tick := t } } } } : State)
     ((with_ 899).dev.tallyRec 1023).st = .opened ∧ 100 < ((1000 : BitVec 40) - 899).toNat ∧ ((1000 : BitVec 40) - 900).toNat ≤ (with_ 900).dev.cfg.tallyAge) := by decide +kernel

/-- A device in which control core 0 (NI 245) owns channel 4 of DMA engine 1. -/
def dma (c : DmaChan) : State :=
  let s := net {} []
  { s with dev := { s.dev with dma := { chan := (Vector.replicate 2560 ({} : DmaChan)).set (dmaIdx 1 4) { c with assigned := true, owner := 245 } } } }

/-- A COPY of 16 bytes from 0x1000_0000 to 0x1000_1000: OP 1, LENGTH, SRC, DST. -/
def copy16 : List Byte := [1, 0, 0, 0] ++ bytesOf 4 16 ++ bytesOf 8 0x10000000 ++ bytesOf 8 0x10001000 ++ List.replicate 40 0
def blockRun (buf : List Byte) (written : Nat) : DmaRun := { desc := copy16, readPos := if buf.isEmpty then 0 else 64, buf := buf, written := written }

theorem witness_dma_writes : (dma {}).dev.up = true ∧ (dma {}).dev.dmaOwned 245 1 4 = true ∧ (dma {}).dev.dmaOwned 246 1 4 = false
    ∧ (dma {}).dev.reach 245 245 (0x30000000 + 1 * 0x10000 + 4 * 128 + 8) 8 = 0 ∧ (dma {}).dev.reach 245 245 (0x30000000 + 1 * 0x10000 + 4 * 128 + 0) 4 = 0
    ∧ (dma {}).dev.reach 245 245 (0x30000000 + 1 * 0x10000 + 4 * 128 + 0x3C) 4 = 0 ∧ (dma {}).dev.reach 245 245 (0x30000000 + 1 * 0x10000 + 4 * 128 + 0x7F) 1 = 0
    ∧ ((dma { mode := true }).dev.dmaChan 1 4).mode = true ∧ 64 ≤ ((dma { queue := List.replicate 64 0 }).dev.dmaChan 1 4).queue.length
    ∧ ((dma { halt := true }).dev.dmaChan 1 4).idle = false ∧ ((dma {}).dev.dmaChan 1 4).idle = true ∧ (0x10000040#64).toNat % 64 = 0
    ∧ (dma {}).dev.reach (216 + 1) 245 (0x10000040#64).toNat 64 = 0 ∧ (dma {}).dev.mem.poisoned 0x10000040 64 = false
    ∧ ((dma { run := some (blockRun [] 0) }).dev.dmaChan 1 4).run = some (blockRun [] 0) ∧ (blockRun [] 0).done = none
    ∧ (8#32).getLsbD 3 = true ∧ (0#32).getLsbD 3 = false := by decide +kernel
theorem test_abort : ran (exec (.abort 1 4 245 0x10) (dma { run := some (blockRun [] 0) })) (fun t => (t.dev.dmaChan 1 4).run.map (·.done)) = some (some (some (0x25, 0))) := by decide +kernel
theorem witness_dma_beats : (dma { run := some (blockRun (List.replicate 16 5) 0) }).dev.dmaTurn 1 4 = true ∧ (dma { run := some (blockRun [] 0), region := 1 }).dev.dmaTurn 1 4 = true ∧ (dma {}).dev.dmaTurn 1 4 = false
    ∧ (blockRun [] 0).readFail = none ∧ (blockRun [] 0).check = false ∧ (blockRun [] 0).saved = none ∧ (blockRun [] 0).crcSel = 0 ∧ (blockRun [] 0).store = false
    ∧ (dma {}).dev.reach (216 + 1) 245 ((blockRun [] 0).readBase + 0) (min ((blockRun [] 0).readSize - 0) (512 - (blockRun [] 0).readBase % 512)) = 0
    ∧ (let r := blockRun (List.replicate 16 5) 0
       let q := min (r.total - r.written) (512 - (r.dst + r.written) % 512)
       q = 16 ∧ q ≤ r.buf.length ∧ (dma {}).dev.reach (216 + 1) 245 (r.dst + r.written) q = 0 ∧ (dma {}).dev.mem.partialPoison (r.dst + r.written) q = false) := by decide +kernel
theorem test_dma_write : ran (exec (.dmaBeatResponse 1 4 .none .none false) (dma { run := some (blockRun (List.replicate 16 5) 0) })) (fun t => (t.dev.mem.cells.length, t.dev.mem.cells.head?, (t.dev.dmaChan 1 4).run.map (·.done)))
    = some (16, some (0x10001000, 5), some (some (0, 0))) := by decide +kernel
theorem witness_dma_complete :
    (let r := { blockRun [] 16 with done := some (0, 0) }
     r.flag 0 = false ∧ r.flag 1 = false ∧ r.flag 2 = false ∧ r.flag 3 = false ∧ r.overlaps = false
     ∧ ((dma { run := some r }).dev.dmaChan 1 4).run = some r ∧ ((dma { run := some { r with done := some (0x22, 7) } }).dev.dmaChan 1 4).flushing = false
     ∧ ((dma {}).dev.dmaChan 1 4).run = none) := by decide +kernel

/-- RD of 64 bytes of cluster memory by control core 0. -/
theorem witness_requests : (net {} []).dev.mode.mode ≠ 9 ∧ ((net {} []).dev.niRec 245).held = [] ∧ (net {} []).dev.ring.works = none
    ∧ (regionOf 0x10000000).map (·.kind) = some .cluster ∧ (regionOf 0).map (·.kind) = some .coreData
    ∧ (∀ r ∈ (regionOf 0x10000000).toList, entryValid ((net {} []).dev.entry 245 (regionNi r 0x10000000)) = true ∧ (net {} []).dev.pathCut 245 (regionNi r 0x10000000) = false
        ∧ (net {} []).dev.shellSays (regionNi r 0x10000000) = 0)
    ∧ badRequest 1 0x10000000 512 = false ∧ badRequest 1 0x10000040 512 = true ∧ badRequest 2 0x10000001 511 = false ∧ ((net {} []).dev.niRec 245).canSend 1 512 = true
    ∧ ((net {} []).dev.niRec 245).canSend 2 511 = true ∧ ((net {} []).dev.niRec 245).canSend 3 32 = true ∧ oneRegion 0x10000000 512 = true ∧ (net {} []).dev.mem.poisoned 0x10000000 512 = false
    ∧ (net {} []).dev.mem.partialPoison 0x10000001 511 = false ∧ entryValid ((net {} []).dev.entry 245 7) = true ∧ (net {} []).dev.shellSays 7 = 0
    ∧ ((alm {}).dev.niRec 245).shell = .closed := by decide +kernel
theorem test_rd : ran (exec (.rd 245 0x10000000 64 false .none .none) (net {} [(0x10000003, 9)])) (fun t => t.dev.ring.answers.map (fun a => a.data.take 4)) = some [[0, 0, 0, 9]]
    ∧ ran (exec (.rd 245 0x10000000 64 false .none .none) (net {} [])) (fun t => t.dev.ring.answers.map (fun a => (a.target, a.dst, a.kind, a.status))) = some [(192, 245, 0x81, 0)] := by decide +kernel

/-- A read of NI 192 by NI 245 under way, and its answer. -/
def open1 (answers : List Answer) : State :=
  let s := net {} []
  { s with dev := { s.dev with ring := { s.dev.ring with answers := answers, ni := Vector.replicate 256 { shell := .open_, trans := [⟨0, 1, 192, 64, 0x10000000, 0⟩] } } } }
def answer1 : Answer := ⟨192, 245, 0x81, 0, 0, List.replicate 64 3, 0x10000000⟩

theorem witness_responses : (open1 [answer1]).dev.ring.answers = [answer1] ∧ answer1.target < 256 ∧ ((open1 [answer1]).dev.niRec 192).shell = .open_
    ∧ ((open1 [answer1]).dev.niRec 245).held = [] ∧ (open1 [answer1]).dev.pathCut 192 245 = false ∧ (∃ x ∈ ((open1 [answer1]).dev.niRec 245).trans, x.tag = 0)
    ∧ (∀ x ∈ ((net {} []).dev.niRec 245).trans, x.tag.toNat ≠ 0) ∧ airPast (open1 []).dev.time.air ((0 + usToTc 64) % airWrap) = true := by decide +kernel
theorem test_response : ran (exec (.rdRsp 245 0 .none) (open1 [answer1])) (fun t => ((t.dev.niRec 245).trans.length, (t.dev.niRec 245).last.map (fun x => x.2.1))) = some (0, some 0)
    ∧ ran (exec (.rdRsp 245 0 .poison) (open1 [answer1])) (fun t => (t.dev.niRec 245).last) = some (some (0, 5, [])) := by decide +kernel
theorem witness_closing : (({ (net {} []) with dev := { (net {} []).dev with ring := { ni := Vector.replicate 256 { shell := .closing } } } } : State).dev.niRec 3).shell = .closing
    ∧ ((net {} []).dev.niRec 3).shell ≠ .closing := by decide +kernel
theorem witness_maintenance : ((net {} []).dev.niRec (245 + 7)).shell = .open_ ∧ (net {} []).dev.pathCut 252 (216 + 7) = false ∧ ((net {} []).dev.niRec 252).canSend 4 8 = true
    ∧ ((net {} []).dev.niRec 252).canSend 5 8 = true ∧ ((net {} []).dev.dmaChan 7 318).idle = true := by decide +kernel

/-- Roadworks of one NI: one mark short of drained, drained, and committed with its last mark to come. -/
def works (counted : Nat) (drained committed : Bool) : Roadworks :=
  { ring := 8, junction := 2, nis := [245], expected := 2, counted := counted, drained := drained, committed := committed, expected1 := 1, counted1 := 0, removes := [], adds := [] }
def worksOn (w : Roadworks) (failedAt : Option Nat) : State :=
  let s := net {} []
  { s with dev := { s.dev with ring := { s.dev.ring with works := some w, failedAt := failedAt } } }

theorem witness_roadworks : (worksOn (works 1 false false) none).dev.ring.works = some (works 1 false false) ∧ (works 1 false false).counted < (works 1 false false).expected
    ∧ (works 2 true true).counted1 + 1 = (works 2 true true).expected1 ∧ (works 2 true true).removes = [] ∧ 0 < (works 2 true false).expected1
    ∧ ((worksOn (works 2 true false) none).dev.niRec 245).held = [] ∧ airPast (worksOn (works 2 true true) (some 0)).dev.time.air ((0 + usToTc 10) % airWrap) = true
    ∧ (worksOn (works 2 true true) (some 0)).dev.ring.links.filter (fun r => r.failed && !r.removed) = [] := by decide +kernel
theorem test_roadworks_drain : ran (exec (.mark false) (worksOn (works 1 false false) none)) (fun t => t.dev.ring.works.map (·.drained)) = some (some true) := by decide +kernel

def link0 : Sys2Proof.LinkId := ⟨8, 2, false, 0, false⟩
def linked (r : LinkRec) : State :=
  let s := net {} []
  { s with dev := { s.dev with ring := { s.dev.ring with links := [r] } } }

theorem witness_links : linkExists (net {} []).dev.part link0 = true ∧ (net {} []).dev.ring.links.find? (fun r => r.link == link0) = none
    ∧ (linked { link := link0, run := 2, replays := 2, failed := false }).dev.ring.links.find? (fun r => r.link == link0) = some { link := link0, run := 2, replays := 2, failed := false }
    ∧ storeUnit 0 = some (1, 0) ∧ storeUnit 0x800000000000 = none ∧ (net {} []).dev.domRun (unitDomain 1 0) = true := by decide +kernel
set_option maxRecDepth 20000 in
theorem test_link_fails : ran (exec (.flitCrcError link0 ⟨true, [], 0⟩) (linked { link := link0, run := 2, replays := 2, failed := false })) (fun t => t.dev.ring.links.map (fun r => (r.run, r.failed)))
    = some [(3, true)] := by decide +kernel

/-- The worked example of 10_ringroad.md (GEN 0), and the flits of its packet on a cluster ring and on the global ring. -/
theorem test_worked_itinerary : (net {} []).dev.entry 147 205 = 0x000000450105000A#64
    ∧ (let p : Packet := { route := 0x000000450105010A, kind := 2, len := 512, src := 147, dst := 205, tag := 0x2C, addr := 0, data := List.replicate 512 0 }
       p.vc = 2 ∧ p.flitCount 1 = 9 ∧ p.flitCount 8 = 5 ∧ (p.header.drop 8).take 6 = [2, 0, 0, 2, 0x93, 0xCD]) := by decide +kernel
theorem test_slow_write_is_carried : ran (exec (.wr 245 0x10000000 [9] false .slow .none) (net {} [])) (fun t =>
    (t.dev.mem.cells, t.dev.ring.net.worms.length, t.idle.dev.ring.net.worms.map (fun w => w.passed.take 2))) = some ([], 1, [[1, 0]]) := by decide +kernel

/-- Two control channels of engine 0 with a block each, the second of the higher priority: it is served first (R292). -/
theorem test_dma_priority : (let s := net {} []
    let c : DmaChan := { assigned := true, owner := 245, run := some (blockRun [] 0), prio := 1 }
    let d := ({ s.dev with dma := { chan := ((Vector.replicate 2560 ({} : DmaChan)).set (dmaIdx 0 64) c).set (dmaIdx 0 70) { c with prio := 5 } } } : Dev)
    (d.dmaServed 0, (d.dmaTake 0 70).dmaServed 0, ((d.dmaTake 0 70).dmaTurns 0).passed)) = (some 70, some 70, [(64, 1)]) := by decide +kernel
/-! ### Lanes, ports, time and PCIe -/

/-- A LANE_SET record: MODE, the group 0 and a channel, then the thresholds SDSET 5, SDCLR 3, SFSET 20 and SFCLR 8. -/
def laneRec (mode ch : Byte) : List Byte :=
  [mode, 0, 0, ch] ++ bytesOf 4 0 ++ bytesOf 2 5 ++ bytesOf 2 3 ++ bytesOf 2 20 ++ bytesOf 2 8 ++ List.replicate 32 0

/-- A port record: enabled, all three roles, an MTU of 1,500, PTP profile 1, two peers, the management EtherType 0x88B5. -/
def portRec : List Byte :=
  [1, 0, 0, 7] ++ List.replicate 6 0 ++ bytesOf 2 1500 ++ [1, 1, 2, 0] ++ bytesOf 2 0x88B5 ++ List.replicate 6 0 ++ List.replicate 6 2 ++ List.replicate 6 3 ++ List.replicate 28 0

/-- Lane 0 is an Ecner lane, channel 1 of group 0, lane 4 an ETHERNET lane, all ports are up; a second of air time has passed and more. -/
def lined (rx : LaneRx) (tx : LaneTx) : State :=
  let s := net {} []
  { s with dev := { s.dev with
      time := { s.dev.time with air := 20000000000, edgeAt := 20000000000, tickIdx := 5 }
      link := { s.dev.link with lane := Vector.replicate 32 { rx := rx, tx := tx } }
      eth := Vector.replicate 4 { link := true, ptp := 3 }
      cfg := { s.dev.cfg with
        lanes := (((Vector.replicate 32 []).set 0 (laneRec 1 1)).set 1 (laneRec 1 0)).set 4 (laneRec 2 0xFF)
        groups := (Vector.replicate 16 []).set 0 ([1, 0, 1, 0] ++ bytesOf 2 1 ++ List.replicate 10 0)
        ports := Vector.replicate 4 portRec } } }

theorem witness_lanes : (lined {} {}).dev.laneUp 0 = true ∧ (lined {} {}).dev.laneMode 0 = 1 ∧ (lined {} {}).dev.laneUp 4 = true ∧ (lined {} {}).dev.laneMode 4 = 2
    ∧ (lined {} {}).dev.laneUp 7 = false ∧ (lined {} {}).dev.portUp 3 = true ∧ ((lined {} {}).dev.lane 0).rx.windows = []
    ∧ ((lined { windows := [(20, 0), (3, 1)] } {}).dev.lane 0).rx.windows = [(20, 0), (3, 1)] ∧ (lined {} {}).dev.laneField 0 12 2 = 20
    ∧ 12 ≤ ((lined { drSince := 12 } {}).dev.lane 0).rx.drSince ∧ ((lined { drSince := 11 } {}).dev.lane 0).rx.drSince < 12
    ∧ (lined {} {}).dev.laneGroup 0 = some (0, 1) ∧ airPast (lined {} {}).dev.time.air ((19999000000 + (lined {} {}).dev.holdoff 0) % airWrap) = true
    ∧ ((lined {} {}).dev.group 0).wtr = none := by decide +kernel
theorem witness_restore_wait :
    (let s := lined {} {}
     let t : State := { s with dev := { s.dev with link := { s.dev.link with group := Vector.replicate 16 { wtr := some (1, 20000000000) } } } }
     (t.dev.group 15).wtr = some (1, 20000000000) ∧ airPast t.dev.time.air 20000000000 = true) := by decide +kernel
/-- SF is set at exactly SFSET errors. -/
theorem test_sf_threshold : ran (exec (.defectWindowEnd 0) (lined { windows := [(20, 0)] } {})) (fun t => ((t.dev.lane 0).rx.sf, (t.dev.lane 0).rx.windows)) = some (true, []) := by decide +kernel

/-- The beginning of a frame at offset 8: a Waymark with some bit errors and MS. -/
def rxFrame (ms : Byte) (errors : Nat) : Sys2Proof.RxFrame :=
  { off := 8, line := [0x59, 0xE6, 0xC3, 0x0B, 0x7A ^^^ BitVec.ofNat 8 (2 ^ errors - 1), ms], at_ := 20000000000 }

theorem witness_frames : airPast (lined {} {}).dev.time.air (rxFrame 6 0).at_ = true ∧ ({ align := .hunt } : LaneRx).los = false
    ∧ (let r : LaneRx := { align := .presync, cands := [⟨8, 63, 2⟩] }
       r.cands = [⟨(rxFrame 0 0).off, 63, 2⟩] ∧ rawMs (rxFrame 0 0) = (63 + 1) % 64)
    ∧ (let r : LaneRx := { align := .sync, cands := [⟨8, 5, 3⟩], bad := 3 }
       r.bad = 3 ∧ 3 < waymarkErrors (rxFrame 6 4))
    ∧ ((lined {} { on := true }).dev.lane 0).tx.on = true ∧ airPast (lined {} { on := true }).dev.time.air (((lined {} { on := true }).dev.lane 0).tx.tsAt 0) = true
    ∧ (lined {} {}).dev.laneTest 0 = false := by decide +kernel
/-- The first coefficients of the generator polynomial (IEEE 802.3, Table 91-1). -/
theorem test_code_generator : codeGenerator.take 4 = [523, 834, 128, 158] := by decide +kernel
/-- Wire bits 10 01 11 00 as PAM4 levels (R319). -/
theorem test_pam4 : pam4Levels [0x9C] = [3, 1, 2, 0] := by decide +kernel
theorem test_alignment : ran (exec (.ecnerFrameReceive 0 (rxFrame 6 0)) (lined { align := .hunt } {})) (fun t => ((t.dev.lane 0).rx.align, (t.dev.lane 0).rx.cands)) = some (.presync, [⟨8, 6, 0⟩]) := by
  decide +kernel

/-- A serving NR cell of numerology 0 and one downlink stream of it on lane 0. -/
def cell7 : Cell := { cr := { cell := 7 }, inService := true }
def served : State :=
  let s := lined {} { on := true }
  { s with dev := { s.dev with cfg := { s.dev.cfg with cells := [cell7], streams := [{ down := true, sid := 3, lane := 0, cell := 7, stream := 0, kind := 1, xofs := 0, sub := 0 }] } } }

theorem witness_containers : served.dev.cell? 7 = some cell7 ∧ (0 : Int) ≤ airDiff 19994198016 cell7.since ∧ served.dev.cell? 8 = none
    ∧ (served.dev.time.slotSpan 0 (served.dev.time.slotSpan 0 19999000000).1).1 = (served.dev.time.slotSpan 0 19999000000).1
    ∧ 0 < slotSymbols 0 ∧ served.dev.time.symDown cell7.cr (served.dev.time.slotSpan 0 19999000000).1 0 = true
    ∧ airPast served.dev.time.air (dueOf cell7.cr (served.dev.time.symStart 0 (served.dev.time.slotSpan 0 19999000000).1 0)) = true
    ∧ airDiff served.dev.time.air (served.dev.time.symStart 0 (served.dev.time.slotSpan 0 19999000000).1 0) < (usToTc 20000 : Nat)
    ∧ ((served.dev.carried 0).1 || (served.dev.carried 0).2) = true := by decide +kernel

def msg (type : Nat) (payload : List Byte) : Sys2Proof.EcpriMsg := { type := type, payload := payload, at_ := 20000000000, full := false }

theorem witness_ecpri : (lined { align := .sync } {}).dev.ethLaneUp 4 = true ∧ (lined {} {}).dev.ethLaneUp 4 = false ∧ airPast (lined {} {}).dev.time.air (msg 0 []).at_ = true
    ∧ (msg 0 [1, 2, 3]).payload.length < 4 ∧ bitAt (msbNat (((msg 2 [0, 3, 5, 0x80]).payload.drop 2).take 2)) 7 = true ∧ bitAt (msbNat (((msg 2 [0, 3, 5, 0]).payload.drop 2).take 2)) 7 = false
    ∧ 4 ≤ (msg 0 [0, 3, 5, 0x80, 1, 1, 1, 1, 1, 1, 1]).payload.length ∧ (msg 0 [0, 3, 5, 0x80, 1, 1, 1, 1, 1, 1, 1]).payload.length < 12
    ∧ pf (msg 5 [9, 1]).payload 1 1 = 1 ∧ pf (msg 5 [9, 0]).payload 1 1 = 0 ∧ airPast (lined {} {}).dev.time.air ((0 + usToTc 100) % airWrap) = true
    ∧ ((lined { align := .sync } {}).dev.lane 4).tx.msgs = [] ∧ ((lined {} {}).dev.ethPort 3).los = false := by decide +kernel
/-- The uplink stream 3 of the cell on the ETHERNET lane 4, and a container of it for the symbol under way: frame 1,017,
slot 2, symbol 7. -/
def uplink : State :=
  let s := lined { align := .sync } {}
  { s with dev := { s.dev with cfg := { s.dev.cfg with
      cells := [cell7]
      streams := [{ down := false, sid := 3, lane := 4, cell := 7, stream := 0, kind := 3, xofs := 0, sub := 0 }] } } }
def uplinkTag : Nat := 1 * 2 ^ 14 + 2 * 2 ^ 7 + 7 * 2 ^ 3
def uplinkMsg : Sys2Proof.EcpriMsg := msg 0 ([0, 3, 5, 0x80] ++ msbOf 8 (3 * 2 ^ 60 + 3 * 2 ^ 44 + uplinkTag * 2 ^ 28 + 8) ++ List.replicate 8 1)

theorem witness_ecpri_delivered :
    let m := uplinkMsg
    let c := rxContOf ((m.payload.drop 4).take 8) (m.payload.drop 12) false false
    let e : StreamRec := { down := false, sid := 3, lane := 4, cell := 7, stream := 0, kind := 3, xofs := 0, sub := 0 }
    uplink.dev.ethLaneUp 4 = true ∧ airPast uplink.dev.time.air m.at_ = true ∧ 12 ≤ m.payload.length ∧ bitAt (msbNat ((m.payload.drop 2).take 2)) 7 = true
    ∧ m.full = false ∧ c.fits = true ∧ c.kind = 3 ∧ uplink.dev.rxEntry c.sid c.tag m.at_ = some (e, some (19999948800, 19998965760, 7)) ∧ uplink.dev.selectedLane e = 4
    ∧ uplink.dev.sfClass 4 = false ∧ uplink.dev.cell? 7 = some cell7 ∧ (0 : Int) ≤ airDiff 19998965760 cell7.since ∧ (0 : Int) ≤ airDiff m.at_ 19999948800
    ∧ airAhead 19999948800 m.at_ ≤ airAhead 19999948800 (uplink.dev.time.symStart cell7.cr.type 19998965760 (7 + 1)) + usToTc (uplink.dev.laneField 4 18 2)
    ∧ uplink.dev.link.delivered.any (fun y => y.1 == c.sid && y.2.1 == c.tag && y.2.2.1 == c.ofs && decide (airAhead y.2.2.2 m.at_ < usToTc 2000)) = false := by decide +kernel
theorem test_ecpri_delivered : ran (exec (.ecpriIqData 4 uplinkMsg) uplink) (fun t => t.dev.link.delivered) = some [(3, uplinkTag, 0, 20000000000)] := by decide +kernel
theorem witness_link_down : ((net {} []).dev.ethPort 3).link = false ∧ (net {} []).dev.portUp 3 = false := by decide +kernel

/-- A frame for the host: broadcast, from peer 1, of an EtherType and a length. -/
def frame (etype : List Byte) (n : Nat) : Sys2Proof.EthFrame :=
  { bytes := List.replicate 6 0xFF ++ List.replicate 6 3 ++ etype ++ [1, 1, 0, 0] ++ List.replicate n 1, fcsOk := true, at_ := 20000000000 }

theorem witness_port_frames : ((lined {} {}).dev.ethPort 3).link = true ∧ (frame [8, 0] 41).bytes.length + 4 < 64 ∧ (frame [8, 0] 42).bytes.length + 4 = 64
    ∧ (lined {} {}).dev.portField 3 10 2 + 22 < (frame [8, 0] 1501).bytes.length + 4 ∧ (frame [8, 0] 1500).bytes.length + 4 ≤ (lined {} {}).dev.portField 3 10 2 + 22
    ∧ (ethParts (frame [0x88, 0x08] 42).bytes).etype = 0x8808 ∧ (ethParts (frame [0x88, 0xB5] 42).bytes).etype = (lined {} {}).dev.portField 3 16 2
    ∧ (lined {} {}).dev.portRole 3 2 = true ∧ (lined {} {}).dev.portRole 3 0 = true ∧ (ethParts (frame [8, 0] 42).bytes).dst = List.replicate 6 0xFF
    ∧ (lined {} {}).dev.peerOf 3 (ethParts (frame [0x88, 0xB5] 42).bytes) = some 1 ∧ pf (ethParts (frame [0x88, 0xB5] 42).bytes).body 0 1 = 1
    ∧ pf (ethParts (frame [0x88, 0xB5] 42).bytes).body 2 2 ≤ 256 ∧ (ethParts (frame [8, 0] 42).bytes).etype ≠ 0xAEFE := by decide +kernel

/-- The host's receive ring of port 3 at 0x1000: its first descriptor names 64 bytes and is the device's. -/
def hostRing : State :=
  let s := lined {} {}
  { s with dev := { s.dev with
      host := { s.dev.host with port := Vector.replicate 4 { rxBase := 0x1000, rxen := true, rxTail := 5, txNotify := true, rxNotify := true } }
      mem := { cells := [(hostAddr 0x1008, 64), (hostAddr 0x100A, 1)] } } }

theorem witness_rings : (hostRing.dev.portRing 3).rxen = true ∧ (hostRing.dev.portRing 3).rxStop = false ∧ (hostRing.dev.portRing 3).rxHead ≠ (hostRing.dev.portRing 3).rxTail
    ∧ hostRing.dev.ni244 = true ∧ bitAt (pf (hostRing.dev.mem.ifBytes (descAddr 0x1000 0) 32) 10 1) 0 = true ∧ (frame [8, 0] 42).bytes.length ≤ pf (hostRing.dev.mem.ifBytes (descAddr 0x1000 0) 32) 8 2
    ∧ (hostRing.dev.portRing 3).txTold = none ∧ (hostRing.dev.portRing 3).txNotify = true ∧ (hostRing.dev.portRing 3).rxTold = none
    ∧ airPast hostRing.dev.time.air ((19999968000 + usToTc 16) % airWrap) = true ∧ ((lined {} {}).dev.portRing 3).txNotify = false
    ∧ ((lined {} {}).dev.portRing 3).rxen = false := by decide +kernel
theorem test_short_frame : ran (exec (.ethFrameReceive 3 (frame [8, 0] 41)) (lined {} {})) (fun t => (t.dev.ethPort 3).fcsErr) = some 1 := by decide +kernel

/-- Time with PPS selected and a state of its own. -/
def timed (f : TimeState → TimeState) : State :=
  let s := lined {} {}
  { s with dev := { s.dev with time := f { s.dev.time with sel := 3 } } }

theorem witness_time : airPast (timed id).dev.time.air 20000000000 = true ∧ (timed id).dev.time.sel.getLsbD 0 = true ∧ (timed id).dev.time.sel.getLsbD 1 = true
    ∧ (lined {} {}).dev.time.sel.getLsbD 0 = false ∧ (timed id).dev.time.ppsNum = none ∧ (timed id).dev.time.ppsNext = none ∧ (timed id).dev.time.tq ≠ .locked
    ∧ (timed (fun t => { t with ppsNext := some 10 })).dev.time.ppsNext = some 10 ∧ beyond1us (airDiff (20000000000 % airWrap) (gpsAir 10)) = true
    ∧ 15 * secondTc ≤ airAhead 17050880000 (timed id).dev.time.air * 10 ∧ 16 ≤ (timed (fun t => { t with disagree := 16 })).dev.time.disagree
    ∧ (timed (fun t => { t with disagree := 15 })).dev.time.disagree < 16 := by decide +kernel
theorem test_pps_first_edge : ran (exec (.ppsEdge 20000000000) (timed (fun t => { t with ppsNext := some 10 }))) (fun t => (t.dev.time.ppsNum, t.dev.time.ppsNext, t.dev.time.ppsDelivering))
    = some (some 10, none, true) := by decide +kernel
theorem witness_ptp : (timed id).dev.ptpUp 3 = true ∧ (net {} []).dev.ptpUp 3 = false ∧ ((timed id).dev.ethPort 3).ptp = 3 ∧ (timed id).dev.portField 3 13 1 = 1
    ∧ (let s := timed id
       let t : State := { s with dev := { s.dev with eth := Vector.replicate 4 { link := true, ptp := 2 } } }
       t.dev.ptpBest = some 0 ∧ (t.dev.ethPort 3).ptp = 2) := by decide +kernel
theorem witness_gsm_second : airPast (timed (fun t => { t with gsmSlots := 17631 })).dev.time.air (((17632 : Int) * 14745600 / 13) % (airWrap : Nat)).toNat = true
    ∧ airPast (timed id).dev.time.air (((100000 : Int) * 14745600 / 13) % (airWrap : Nat)).toNat = false
    ∧ (timed id).dev.time.nextEdgeIn < airAhead (timed id).dev.time.air (((100000 : Int) * 14745600 / 13) % (airWrap : Nat)).toNat
    ∧ airPast (timed id).dev.time.air (((10 : Int) * (secondTc : Nat)) % (airWrap : Nat)).toNat = true
    ∧ airPast (timed id).dev.time.air (((11 : Int) * (secondTc : Nat)) % (airWrap : Nat)).toNat = false
    ∧ (timed id).dev.time.nextEdgeIn < airAhead (timed id).dev.time.air (((11 : Int) * (secondTc : Nat)) % (airWrap : Nat)).toNat := by decide +kernel

/-- The device whose next boundary is now, in a mode. -/
def bounded (m : Nat) (f : Dev → Dev) : State :=
  let s := lined {} {}
  { s with dev := f { s.dev with mode := { mode := m }, chiop := { s.dev.chiop with nextAt := 20000000000 } } }
def intoService : ModeReq := { chan := 0, seq := 9, target := 6, readAt := 19960678400, await := [0x100], allRunAt := none }

theorem witness_boundaries : (bounded 1 id).dev.up = true ∧ airPast (bounded 1 id).dev.time.air (bounded 1 id).dev.chiop.nextAt = true ∧ (bounded 9 id).dev.mode.mode = 9
    ∧ (bounded 2 id).dev.mode.startDone = false ∧ (bounded 2 (fun d => { d with mode := { d.mode with startDone := true } })).dev.mode.startDone = true
    ∧ (bounded 3 id).dev.mode.req = none ∧ airPast (bounded 4 id).dev.time.air ((intoService.readAt + 20 * 1966080) % airWrap) = true
    ∧ (bounded 4 id).dev.time.air / 1966080 ≠ (bounded 4 id).dev.slack.recA.window.toNat ∧ (bounded 4 id).dev.almRuns = true ∧ (bounded 4 id).dev.slack.signals = 0
    ∧ (bounded 4 id).dev.slack.boost = false ∧ (bounded 4 id).dev.thermal.limit = false ∧ (bounded 4 id).dev.slack.vLost = false
    ∧ ((bounded 4 (fun d => d.updChan 0 (fun c => { c with held := [⟨9, 0x0807, 3, 0, [], none⟩], store := [⟨9, 5, none⟩] }))).dev.chan intoService.chan).store = [⟨9, 5, none⟩] := by
  decide +kernel
theorem witness_slots :
    (let d := served.dev
     let at_ := (d.time.slotSpan 0 20000000000).1
     d.almRuns = true ∧ (d.time.slotSpan 0 at_).1 = at_ ∧ airPast d.time.air (d.time.symStart 0 at_ 0) = true ∧ airPast d.time.air (d.time.slotSpan 0 at_).2 = false
     ∧ d.time.carries cell7.cr at_ false = true ∧ d.planCell 8 = none) := by decide +kernel

/-- The host port as it is after a start, with a change. -/
def hosted (f : HostState → HostState) : State :=
  let s := lined {} {}
  { s with dev := { s.dev with host := f s.dev.host } }

theorem witness_pcie : (hosted id).dev.start.step ≠ 6 ∧ (hosted id).dev.host.linkUp = true ∧ (hosted (fun h => { h with linkUp := false })).dev.host.linkUp = false
    ∧ (hosted id).dev.chiop.backlog = [] ∧ (hosted id).dev.chiop.lostNow = 0 ∧ (hosted id).dev.up = true ∧ (hosted id).dev.start.perstLow = false
    ∧ ((hosted id).dev.dom 0x800).st = .run ∧ ((hosted id).dev.dom 0x800).padLatch = false ∧ (hosted id).dev.start.ready = true
    ∧ airPast (hosted id).dev.time.air ((19980339200 + 19660800) % airWrap) = true ∧ airPast (hosted id).dev.time.air ((19998033920 + 1 * 1966080) % airWrap) = true
    ∧ (lab cpu).dev.ni244 = false ∧ (hosted id).dev.barUp = true ∧ (hosted id).dev.windowValid = false
    ∧ (hosted (fun h => { h with winbase := 0x844000000, winEnable := true })).dev.windowValid = true
    ∧ (0x3FFFFFF#26).toNat + 1 ≤ windowSize ∧ (hosted id).dev.reach 244 244 (0x844000000 + 0x3FFFFFF) 1 = 0 ∧ (hosted id).dev.mem.poisoned (0x844000000 + 0x3FFFFFF) 1 = false
    ∧ (hosted (fun h => { h with linkUp := false })).dev.barUp = false := by decide +kernel
theorem test_heartbeat : ran (exec .heartbeat (hosted id)) (fun t => (t.dev.host.hbcount, t.dev.chiop.evSeq)) = some (1, 1) := by decide +kernel
theorem witness_rings_ok : (hosted (fun h => { h with cmdBase := 0x100000, rplBase := 0x200000, evtBase := 0x400000 })).dev.host.ringsOk = true
    ∧ (hosted (fun h => { h with cmdBase := 0x100001, rplBase := 0x200000, evtBase := 0x400000 })).dev.host.ringsOk = false
    ∧ (4095 : Nat) < 4096 ∧ (0xFFF : Word).toNat < (hosted id).dev.host.evtSize.toNat ∧ (hosted id).dev.host.evtSize.toNat ≤ (0x1000 : Word).toNat
    ∧ ({ rxBase := 0x1000, txBase := 0x8000 } : PortRing).ok true = true ∧ ({ txBase := 0x8001 } : PortRing).ok true = false
    ∧ ({ rxBase := 0x1000, txBase := 0x8000 } : PortRing).ok false = true ∧ ({ rxBase := 0x1001 } : PortRing).ok false = false ∧ (3 : BitVec 20).toNat % 4 ≠ 0 := by decide +kernel
theorem test_ring_enable : ran (exec .ringEnable (hosted (fun h => { h with cmdBase := 0x100000, rplBase := 0x200000, evtBase := 0x400000, cmdHead := 7 }))) (fun t => (t.dev.host.enable, t.dev.host.cmdHead)) = some (true, 0)
    ∧ ran (exec .ringEnable (hosted id)) (fun t => (t.dev.host.enable, t.dev.host.alertEdge)) = some (false, 0x800) := by decide +kernel
theorem test_jtag_locked :
    (let s := hosted id
     let t : State := { s with dev := { s.dev with start := { s.dev.start with fuses := { s.dev.start.fuses with debugLock := true } } } }
     ran (exec (.jtagInstruction .other) t) (fun u => u.dev.start.jtag) = some .bypass ∧ ran (exec (.jtagInstruction .extest) t) (fun u => u.dev.start.jtag) = some .extest) := by decide +kernel
/-! ### CHIOP, starts, power and health -/

/-- A header with its check, of a sequence not yet accepted. -/
def hdr (op plen : Nat) (flags : Byte) : Sys2Proof.ChiopHdr :=
  let h : Sys2Proof.ChiopHdr := { seq := 10, flags := flags, plen := BitVec.ofNat 16 plen }
  { h with hcrc := BitVec.ofNat 16 (crc16 (headerBytes op h)) }

/-- An NR cell's record: cell 9 or 7, 100 MHz, 64 layers' price row. -/
def cellPar (cell s : Nat) : List Byte :=
  bytesOf 2 cell ++ [1, 0] ++ bytesOf 2 1000 ++ [BitVec.ofNat 8 s, 1, 1, 0] ++ bytesOf 2 150 ++ bytesOf 2 0 ++ bytesOf 2 0 ++ [0xFF] ++ List.replicate 79 0

/-- The device in a mode with a command in its ring and cell 7 committed, and a change of its interpreter. -/
def asked (m : Nat) (f : Dev → Dev) : State :=
  let s := lined {} {}
  { s with dev := f { s.dev with
      cfg := { s.dev.cfg with cells := [{ cr := parseCell (cellPar 7 4) }], lanes := s.dev.cfg.lanes.set 4 [] }
      mode := { mode := m }
      host := { s.dev.host with enable := true, cmdTail := 5, rplBase := 0x100000 }
      start := { s.dev.start with images := [⟨5, 0, 0, [], [], []⟩], fwSvn := 7, keyStore := true }
      chiop := { s.dev.chiop with chan := s.dev.chiop.chan.set 0 { opened := true, h := some 9 } } } }

theorem witness_takes : (asked 4 id).dev.takes 0x0201 96 (hdr 0x0201 96 0) ∧ hGuard (hdr 0x0201 96 0) = false := by
  refine ⟨⟨?_, ?_, ?_, ?_, ?_, ?_, ?_, ?_⟩, ?_⟩ <;> decide +kernel
theorem witness_takes_guarded : (asked 4 (fun d => { d with chiop := { d.chiop with configEpoch := 5 } })).dev.takes 0x0A03 10 (hdr 0x0A03 10 4)
    ∧ hGuard (hdr 0x0A03 10 4) = true ∧ 2 ^ 31 ≤ ((hdr 0x0A03 10 4).epoch - 5).toNat := by
  refine ⟨⟨?_, ?_, ?_, ?_, ?_, ?_, ?_, ?_⟩, ?_, ?_⟩ <;> decide +kernel

def laneSetPar : List Byte :=
  [7, 0, 0, 0] ++ [1, 0, 0xFF, 0, 0, 0, 0, 0] ++ bytesOf 2 5 ++ bytesOf 2 3 ++ bytesOf 2 20 ++ bytesOf 2 8 ++ bytesOf 2 1000 ++ bytesOf 2 100 ++ List.replicate 108 0

/-- Each staged command's check with parameters that pass and with ones that do not. -/
def stagedChecks : List ((Dev → List Byte → Option ChErr) × List Byte × List Byte) :=
  [(withGates checkCellAdd 0x0201, cellPar 9 4, cellPar 9 40), (checkCellRemove, bytesOf 2 7, bytesOf 2 8), (withGates checkCellModify 0x0203, cellPar 7 4, cellPar 9 4),
    (checkStreamSet, [0, 0, 0, 0] ++ bytesOf 4 1 ++ bytesOf 2 9 ++ [0, 7] ++ bytesOf 2 7 ++ [0, 1, 0] ++ List.replicate 7 0, [2, 0, 0, 0] ++ bytesOf 4 1),
    (checkRampSet, [1, 0, 0, 0, 1] ++ List.replicate 67 0, [0, 0, 0, 0, 1] ++ List.replicate 67 0),
    (checkHarqSet, bytesOf 8 0x840000000 ++ bytesOf 8 0, bytesOf 8 1 ++ bytesOf 8 0),
    (checkHarqClear, bytesOf 8 0 ++ bytesOf 8 4096, bytesOf 8 1 ++ bytesOf 8 4096),
    (checkImageBind, bytesOf 2 5 ++ [0, 0] ++ [3] ++ List.replicate 15 0, bytesOf 2 6 ++ List.replicate 18 0),
    (checkLaneSet, laneSetPar, [32] ++ List.replicate 131 0), (checkGroupSet, [0, 0, 1, 0] ++ bytesOf 2 5 ++ bytesOf 2 1 ++ List.replicate 8 0, [16] ++ List.replicate 15 0),
    (checkDetourCmd, [0, 0xF, 1], [1, 0xF, 1]), (checkPortSet, [3, 0, 0, 0] ++ portRec, [4] ++ List.replicate 67 0),
    (checkSlackSet, bytesOf 2 1024 ++ bytesOf 2 200 ++ bytesOf 2 1024 ++ bytesOf 2 800 ++ bytesOf 2 600, List.replicate 10 0),
    (checkTimeSourceSet, [7, 15, 0, 0] ++ bytesOf 4 2715647, [8] ++ List.replicate 7 0), (checkTickSet, [3], [7]),
    (checkThermalSet, bytesOf 2 1600 ++ [5, 50] ++ bytesOf 2 0 ++ [24, 0], List.replicate 8 0),
    (checkUnitRemove, [1, 100], [12, 0]), (checkPmTimeSet, [0, 0] ++ bytesOf 2 840, [0, 0] ++ bytesOf 2 841), (checkPmThresholdSet, [0, 1, 9, 0, 0, 0, 0, 0], [0, 2, 0, 0, 0, 0, 0, 0]),
    (fun (d : Dev) (p : List Byte) => checkPmSubject d (pf p 0 1), [0x8F], [0x90]),
    (checkLeakySet, [1, 0] ++ bytesOf 2 1 ++ bytesOf 2 1 ++ bytesOf 2 1 ++ bytesOf 2 2, List.replicate 10 0)]

def stagedState : State := asked 4 (fun d => { d with mem := { d.mem with harqSize := 0x10000000 } })
theorem witness_staged_fail : stagedChecks.all (fun x => ((x.1 stagedState.dev x.2.2).isSome)) = true := by decide +kernel
theorem witness_staged_pass : (stagedChecks.drop 1).all (fun x => (x.1 stagedState.dev x.2.1).isNone) = true := by decide +kernel
theorem staged_present (c u : Nat) : stagedState.dev.present c u = true := by
  simp [Dev.present, Dev.unit, stagedState, asked, lined, net, alm, labDev]
theorem staged_limits : stagedState.dev.limits = [2048, 4096, 16, 4, 64, 384] := by
  have h : ∀ c, stagedState.dev.presentCount c = classSlots c := fun c => by
    have e : stagedState.dev.present c = fun _ => true := funext (staged_present c)
    simp [Dev.presentCount, e]
  have hp : stagedState.dev.part = .zg9812 := by decide +kernel
  unfold Dev.limits Dev.cuAvail
  simp only [h, hp]
  decide +kernel
theorem cell_add_passes (d : Dev) (p : List Byte) (h1 : cellFieldBad (parseCell p) = none) (h2 : d.plannedCells.any (fun x => x.cell == (parseCell p).cell) = false)
    (h3 : gateGroupTaken d (parseCell p) = false) (h4 : brokenRow (quantities d.plannedCells) (quantities (d.plannedCells ++ [parseCell p])) d.limits = none)
    (h5 : gatesFull (applyCellChange d.plannedCells ⟨0, 0x0201, p⟩) d.plannedStreams = false) : withGates checkCellAdd 0x0201 d p = none := by
  simp [withGates, checkCellAdd, admission, h1, h2, h3, h4, rangeUnless]
  exact h5
theorem witness_cell_add : withGates checkCellAdd 0x0201 stagedState.dev (cellPar 9 4) = none :=
  cell_add_passes _ _ (by decide +kernel) (by decide +kernel) (by decide +kernel) (by rw [staged_limits]; decide +kernel) (by decide +kernel)

/-! Immediate and held commands. -/

/-- A device as `asked` with lane 0 aligned, the pads of a domain latched, a fuse counter and an open challenge. -/
def served2 (m : Nat) : State := asked m (fun d => { d with
  link := { d.link with lane := d.link.lane.set 0 { rx := { align := .sync } } }
  start := { d.start with fuses := { d.start.fuses with rbc0 := 5 }, challenge := some [1] } })

theorem witness_immediate :
    (let d := (served2 4).dev
     let x := d.taken (hdr 0x0405 4 0)
     (let p : List Byte := [0, 0, 2, 0, 7, 8]
      pf p 0 1 ≤ 31 ∧ 1 ≤ pf p 2 2 ∧ 4 + pf p 2 2 ≤ p.length ∧ x.present 13 (pf p 0 1) = true ∧ (x.lane (pf p 0 1)).rx.align = .sync)
     ∧ domSwitched 0x500 = true ∧ domPads 0x500 = true ∧ x.domRun 0x500 = true
     ∧ x.start.images.any (fun i => i.handle == 5) = true ∧ x.imageBound 5 = false
     ∧ (let p : List Byte := [0, 5, 0]
        pf p 1 2 ≤ (if pf p 0 1 = 0 then x.start.fuses.rbc0 else x.start.fuses.rbc1))
     ∧ d.chiop.owner = none ∧ d.chiop.commit = none ∧ d.mode.req = none ∧ d.anyInService = false ∧ d.time.stepPending = none
     ∧ (selectorOf [1, 0, 0, 0, 1, 0, 0, 0]).bad = none ∧ x.selectorAbsent (selectorOf [1, 0, 0, 0, 1, 0, 0, 0]) = none) := by decide +kernel
/-- What the other rows need in their own modes. -/
theorem witness_modes : modesAll.contains 4 = true ∧ modesCfg.contains 4 = true ∧ modesCfgQ.contains 4 = true
    ∧ (served2 11).dev.takes 0x0A10 0 (hdr 0x0A10 0 0) ∧ (served2 3).dev.takes 0x0304 0 (hdr 0x0304 0 0) ∧ (served2 3).dev.heldOp 0x0304 = false
    ∧ (served2 4).dev.takes 0x0903 100 (hdr 0x0903 100 0) ∧ ((served2 4).dev.start.fuses.slot 1).valid = false ∧ (served2 4).dev.fuseBusy = false := by
  refine ⟨?_, ?_, ?_, ⟨?_, ?_, ?_, ?_, ?_, ?_, ?_, ?_⟩, ⟨?_, ?_, ?_, ?_, ?_, ?_, ?_, ?_⟩, ?_, ⟨?_, ?_, ?_, ?_, ?_, ?_, ?_, ?_⟩, ?_, ?_⟩ <;> decide +kernel
/-- A plan of one record, an FFT job at symbol 0, and the slot it is for. -/
def planState : State := asked 6 (fun d => { d with mem := { cells := [(0x10000000, 4), (0x10000009, 1), (0x1000000B, 0x10)] } })
def planPar : List Byte := bytesOf 2 7 ++ [0, 0] ++ bytesOf 4 260359 ++ bytesOf 8 0x10000000 ++ bytesOf 2 1 ++ [0, 0] ++ bytesOf 4 (crc32c (planState.dev.mem.ifBytes 0x10000000 16))
theorem witness_slot_submit :
    (let d := planState.dev
     let x := d.taken (hdr 0x0208 24 0)
     let start := (x.time.planStart 1 260359 (nowOf x (hdr 0x0208 24 0))).getD 0
     slotMode d = true ∧ x.planCell 7 = some (parseCell (cellPar 7 4), none) ∧ pf planPar 2 1 ≤ 1 ∧ pf planPar 16 2 = 1
     ∧ (x.time.planStart 1 (pf planPar 4 4) (nowOf x (hdr 0x0208 24 0))).isSome = true ∧ (parseCell (cellPar 7 4)).type = 1
     ∧ (usToTc 250 : Nat) ≤ airDiff start (nowOf x (hdr 0x0208 24 0)) ∧ airDiff start (nowOf x (hdr 0x0208 24 0)) ≤ (usToTc 20000 : Nat)
     ∧ d.cfg.plans.isEmpty = true ∧ x.fetchResult (pf planPar 8 8) 16 = 0 ∧ x.recsError [d.mem.ifBytes (pf planPar 8 8) 16] = none) := by decide +kernel
theorem witness_held :
    (let d := (served2 4).dev
     let one := d.updChan 0 (fun c => { c with held := [⟨8, 0x0904, 3, 0, [0, 5, 0], none⟩, ⟨9, 0x0301, 3, 0, [0, 5, 0], none⟩] })
     ((one.chan 0).held.find? (fun x => x.seq == 8)).map (fun x => x.op) = some 0x0904 ∧ ((one.chan 0).held.find? (fun x => x.seq == 9)).map (fun x => x.op) = some 0x0301
     ∧ (one.chan 0).held.find? (fun x => x.seq == 10) = none ∧ one.up = true ∧ (one.loadError [0, 5, 0]).isSome = true
     ∧ ((d.taken (hdr 0x0803 4 0)).commitAhead (nowOf d (hdr 0x0803 4 0)) 3).isOk = true
     ∧ domHostRange 0x101 true 0 = true ∧ d.domCheck 0x101 true = none ∧ ((d.updDom 0x101 (fun x => { x with st := .stop })).dom 0x101).st = .stop ∧ (d.dom 0x101).cur = none
     ∧ d.domTesting 0x101 = false ∧ d.mode.todo = [] ∧ d.health.testQueue = [] ∧ d.present 1 5 = true
     ∧ retained { store := [⟨9, 5, some { status := 3 }⟩] } 9 = some ⟨9, 5, some { status := 3 }⟩ ∧ retained { h := some 9 } 9 = none
     ∧ d.start.challenge ≠ none ∧ airPast 120000000000 ((0 + 60 * secondTc) % airWrap) = true ∧ airPast 20000000000 ((0 + 60 * secondTc) % airWrap) = false) := by decide +kernel

/-- SHA-384 of "abc", its first bytes (FIPS 180-4). -/
theorem test_sha384 : (sha384 [0x61, 0x62, 0x63]).take 4 = [0xCB, 0x00, 0x75, 0x3F] := by decide +kernel
/-- The public key of RFC 8032, 7.1, test 1: its first bytes. -/
theorem test_ed25519_public : (edPublic (bytesOf 32 0x9d61b19deffd5a60ba844af492ec2cc44449c5697b326919703bac031cae7f60).reverse).take 4
    = [0xD7, 0x5A, 0x98, 0x01] := by decide +kernel

/-! Starts, power, temperature and health. -/

/-- The device with a change of its start state, and of its power domain 0x101. -/
def starting (f : StartState → StartState) (m : Nat) (f2 : DomainRec → DomainRec) : State :=
  let s := lined {} {}
  { s with dev := ({ s.dev with start := f s.dev.start, mode := { mode := m } } : Dev).updDom 0x101 f2 }
def st (n : Nat) : State := starting (fun x => { x with step := n }) 1 id

theorem witness_starts : (st 1).dev.starting = true ∧ (lined {} {}).dev.starting = false ∧ (st 1).dev.start.kind ≠ .warm ∧ (st 2).dev.start.step = 2 ∧ (st 8).dev.start.cfail < 2
    ∧ (starting (fun x => { x with powered := false }) 0 id).dev.start.powered = false ∧ (st 11).dev.start.resetLow = false ∧ (st 11).dev.start.railHold = false
    ∧ (starting (fun x => { x with resetLow := true }) 0 id).dev.start.resetLow = true ∧ (starting (fun x => { x with railHold := true }) 0 id).dev.start.railHold = true
    ∧ (st 11).dev.up = true ∧ (st 11).dev.fuseBusy = false ∧ (st 11).dev.barUp = true
    ∧ (starting (fun x => { x with step := 6, hostWait := true, sources := [2, 0, 1] }) 1 id).dev.starting = true
    ∧ (0x101 : Word).toNat % 2 = 1 ∧ (st 11).dev.restartDue = false
    ∧ ({ (st 11).dev with mode := { mode := 9 }, thermal := { coolFor := 960000 } } : Dev).restartDue = true := by decide +kernel
theorem test_step_one : ran (exec (.startStepComplete {}) (st 1)) (fun t => (t.dev.start.step, t.dev.mode.mode)) = some (2, 1) := by decide +kernel
theorem test_boot_go : ran (exec (.bootGo 1) (let s := starting (fun x => { x with step := 6, hostWait := true, sources := [2] }) 1 id
    { s with dev := { s.dev with host := { s.dev.host with bootLen := 5504 } } })) (fun t => t.dev.start.hostWait) = some false := by decide +kernel

theorem witness_power :
    (let d := ((lined {} {}).dev.updDom 0x501 (fun x => { x with st := .stopping, step := .closing, cur := some ⟨false, .control⟩ }))
     (d.dom 0x501).st = .stopping ∧ (d.dom 0x501).step = .closing ∧ (d.dom 0x501).cur = some ⟨false, .control⟩ ∧ (d.dom 0x501).pend = none ∧ domSwitched 0x501 = true
     ∧ domPooled 0x501 = false ∧ (domNis 0x501).all (fun k => decide ((d.niRec k).shell ≠ .closing)) = true ∧ domSwitched 0x900 = false)
    ∧ (let d := (starting id 4 (fun x => { x with st := .waking, step := .ramp, attempts := 2, cur := some ⟨true, .control⟩ })).dev
       (d.dom 0x101).step = .ramp ∧ (d.dom 0x101).attempts = 2 ∧ (d.dom 0x101).pend = none ∧ d.domTesting 0x101 = false ∧ d.mode.req = none ∧ d.health.testQueue = [])
    ∧ (let d := (starting id 4 (fun x => { x with step := .retryWait })).dev
       (d.dom 0x101).step = .retryWait ∧ d.power.ramping.length < 16 ∧ d.power.waiting = [])
    ∧ ({ ramping := List.range 16, waiting := [0x101] } : PowerState).ramping.length = 16 := by decide +kernel
theorem test_power_good : ran (exec (.powerGood 0x101) (starting id 4 (fun x => { x with st := .waking, step := .ramp, cur := some ⟨true, .control⟩ })))
    (fun t => (t.dev.dom 0x101).st) = some .run := by decide +kernel
theorem witness_thermal :
    (let d := (st 11).dev
     d.thermal.channel < 24 ∧ d.thermal.faulty.getLsbD 0 = false ∧ (2401 : Half).toInt = 2401 ∧ (0xFD7F : Half).toInt < -640
     ∧ ({ channel := 24 } : ThermalState).channel < 49 ∧ (1919 : Half).toInt < 1920 ∧ ({ limit := true, belowSteps := 20000 } : ThermalState).belowSteps = 20000
     ∧ d.time.air / secondTc ≠ d.health.leakSecond ∧ (d.unit 1 5).testing = false ∧ neverRetired 1 5 = false ∧ d.health.replaceOut = false
     ∧ d.slack.phase = .idle ∧ ({ phase := .write } : SlackState).pmFails < 2 ∧ bandOf 8500 = bandOf 8500
     ∧ airPast 120000000000 ((0 + 60 * secondTc) % airWrap) = true) := by decide +kernel
theorem test_diode_range : ran (exec (.housekeepingConversion 2401 true) (st 11)) (fun t => (t.dev.thermal.faulty, t.dev.thermal.channel)) = some (1, 1)
    ∧ ran (exec (.housekeepingConversion 2400 true) (st 11)) (fun t => t.dev.thermal.faulty) = some 0 := by decide +kernel
theorem test_bucket_leak : ran (exec .bucketLeak (st 11)) (fun t => t.dev.health.leakSecond) = some 10 := by decide +kernel

/-! ### The queue -/

theorem witness_queue : ({ (st 11) with pending := [.heartbeat, .tickEdge] } : State).pending = .heartbeat :: [.tickEdge] := rfl
theorem test_step_takes_the_front : ran (step { (st 11) with pending := [.bucketLeak, .heartbeat] }) (fun t => (t.pending.length, t.dev.health.leakSecond)) = some (1, 10) := by
  decide +kernel
theorem test_idle : step (st 11) = .next (st 11) := rfl
theorem witness_words : decodeV .vb (spellV (.mx .getExp 1 2 3 0 0)) = some (.mx .getExp 1 2 3 0 0) ∧ (1 : BitVec 6).getLsbD 0 = true := by decide +kernel

end Sys2Proof.Tests
end

section
/-! SUPPORT. What alerts and events leave as they are; PPS and the disagreement of sources (02_timing_and_deadlines.md, R43, R44;
20_thermal_and_health.md, R503). -/

namespace Sys2Proof.Machine
open Sys2Proof

/-! ### What an alert, an event and a health event can change -/

/-- Vector 2 is a matter of the host registers alone. -/
theorem Dev.alertSince_eq (d before : Dev) : ∃ h, d.alertSince before = { d with host := h } := by
  unfold Dev.alertSince
  split
  · exact ⟨_, rfl⟩
  · exact ⟨_, rfl⟩

/-- An alert changes nothing but the host registers (R534). -/
theorem Dev.raiseAlert_eq (d : Dev) (bit : Nat) : ∃ h, d.raiseAlert bit = { d with host := h } := by
  obtain ⟨h, hh⟩ := Dev.alertSince_eq { d with host := { d.host with alertEdge := d.host.alertEdge ||| (1 <<< bit) } } d
  exact ⟨h, hh⟩

/-- Leaving LOCKED is told to the host and noted for the PM second; nothing else changes (R354). -/
theorem Dev.timeAlert_eq (d before : Dev) :
    ∃ h u, d.timeAlert before = { d with host := h, time := { d.time with unlocked := u } } := by
  unfold Dev.timeAlert
  split
  · obtain ⟨h, hh⟩ := Dev.raiseAlert_eq { d with time := { d.time with unlocked := true } } 13
    exact ⟨h, true, hh⟩
  · exact ⟨_, _, rfl⟩

/-- What telling of something may change: the event ring in memory, the host registers, Chiop's counts, the health manager
and the flash's log (R410, R412, R503 to R505, R534). -/
def Dev.Told (a b : Dev) : Prop :=
  ∃ m h c x st, b = { a with mem := m, host := h, chiop := c, health := x, start := st }

theorem Dev.Told.trans {a b c : Dev} (h1 : a.Told b) (h2 : b.Told c) : a.Told c := by
  obtain ⟨_, _, _, _, _, rfl⟩ := h1
  obtain ⟨_, _, _, _, _, rfl⟩ := h2
  exact ⟨_, _, _, _, _, rfl⟩

theorem Dev.Told.time {a b : Dev} (h : a.Told b) : b.time = a.time := by obtain ⟨_, _, _, _, _, rfl⟩ := h; rfl
theorem Dev.Told.cfg {a b : Dev} (h : a.Told b) : b.cfg = a.cfg := by obtain ⟨_, _, _, _, _, rfl⟩ := h; rfl
theorem Dev.Told.link {a b : Dev} (h : a.Told b) : b.link = a.link := by obtain ⟨_, _, _, _, _, rfl⟩ := h; rfl

theorem Dev.raiseAlert_told (d : Dev) (bit : Nat) : d.Told (d.raiseAlert bit) := by
  obtain ⟨h, hh⟩ := d.raiseAlert_eq bit
  exact ⟨_, h, _, _, _, hh⟩

theorem Dev.writeEvent_told (d : Dev) (e : EventRec) : d.Told (d.writeEvent e) := ⟨_, _, _, _, _, rfl⟩

theorem Dev.logAdd_told (d : Dev) (type : Nat) (mirror : Bool) (p : List Byte) : d.Told (d.logAdd type mirror p) :=
  ⟨_, _, _, _, _, rfl⟩

theorem Dev.post_told (d : Dev) (kind : Nat) (payload : List Byte) : d.Told (d.post kind payload) := by
  unfold Dev.post
  extract_lets e counts numbered copied rest
  have hcopies : d.Told copied := ⟨_, _, _, _, _, rfl⟩
  split
  · exact hcopies
  · split
    · exact hcopies.trans (copied.writeEvent_told e)
    · split
      · exact hcopies.trans ⟨_, _, _, _, _, rfl⟩
      · exact (hcopies.trans ⟨_, _, _, _, _, rfl⟩).trans (Dev.raiseAlert_told _ 10)

theorem Dev.healthEvent_told (d : Dev) (i : HealthInfo) : d.Told (d.healthEvent i) := by
  unfold Dev.healthEvent
  extract_lets p logged health posted health'
  have hposted : d.Told (d.post 0xF003 p) := d.post_told 0xF003 p
  split
  · have hlogged : d.Told logged := hposted.trans (Dev.logAdd_told _ _ _ _)
    split
    · exact hlogged.trans (logged.raiseAlert_told 12)
    · exact hlogged
  · split
    · exact ⟨_, _, _, _, _, rfl⟩
    · exact hposted.trans ⟨_, _, _, _, _, rfl⟩

/-! ### Announced moments -/

/-- A moment that is past is at once. -/
theorem Dev.due_past (d : Dev) (t : Nat) (h : airPast d.time.air t = true) : d.due t = some d := by
  rw [Dev.due, if_pos h]

/-- A moment beyond the next tick edge is none. -/
theorem Dev.due_beyond (d : Dev) (t : Nat) (h : airPast d.time.air t = false) (hb : d.time.nextEdgeIn < airAhead d.time.air t) :
    d.due t = none := by
  rw [Dev.due, if_neg (by simp [h]), if_neg (by omega)]

/-! ### PPS -/

/-- What an accepted edge sets; air time goes on as before (R43, R522). -/
structure TimeState.PpsAccepted (t t' : TimeState) (at_ num : Nat) : Prop where
  last : t'.ppsLast = some at_
  number : t'.ppsNum = some num
  next : t'.ppsNext = none
  delivering : t'.ppsDelivering = true
  phase : t'.ppsPhase = airDiff at_ (gpsAir num)
  air : t'.air = t.air

theorem TimeState.ppsAccept_accepted (t : TimeState) (at_ num : Nat) : t.PpsAccepted (t.ppsAccept at_ num) at_ num := by
  unfold TimeState.ppsAccept
  extract_lets e good t1 t2
  split
  · exact ⟨rfl, rfl, rfl, rfl, rfl, rfl⟩
  · exact ⟨rfl, rfl, rfl, rfl, rfl, rfl⟩

/-- With PPS not selected an edge only uses up its number. -/
theorem Dev.ppsEdge_unselected (d : Dev) (at_ : Nat) (h : d.time.sel.getLsbD 0 = false) :
    d.ppsEdge at_ = { d with time := { d.time with ppsNext := none } } := by
  rw [Dev.ppsEdge]
  exact if_pos (by rw [h]; rfl)

/-- An edge whose second is not known does nothing. -/
theorem Dev.ppsEdge_unnumbered (d : Dev) (at_ : Nat) (hnum : d.time.ppsNum = none) (hnext : d.time.ppsNext = none) :
    d.ppsEdge at_ = d := by
  by_cases hsel : d.time.sel.getLsbD 0 = true
  · simp [Dev.ppsEdge, hsel, hnum, hnext, -BitVec.getLsbD_eq_getElem]
  · rw [d.ppsEdge_unselected at_ (Bool.eq_false_iff.mpr hsel), ← hnext]

/-- The first edge of an announced second is accepted where time is not LOCKED. -/
theorem Dev.ppsEdge_first (d : Dev) (at_ n : Nat) (hsel : d.time.sel.getLsbD 0 = true) (hnext : d.time.ppsNext = some n)
    (hnum : d.time.ppsNum = none) (hlast : d.time.ppsLast = none) (htq : d.time.tq ≠ .locked) :
    d.ppsEdge at_ = ({ d with time := d.time.ppsAccept at_ n } : Dev).timeAlert d := by
  simp [Dev.ppsEdge, hsel, hnext, hnum, hlast, htq, -BitVec.getLsbD_eq_getElem]

/-- In LOCKED an edge more than 1 µs off is rejected. -/
theorem Dev.ppsEdge_rejected (d : Dev) (at_ n : Nat) (hsel : d.time.sel.getLsbD 0 = true) (hnext : d.time.ppsNext = some n)
    (hnum : d.time.ppsNum = none) (htq : d.time.tq = .locked) (hoff : beyond1us (airDiff at_ (gpsAir n)) = true) :
    d.ppsEdge at_ = { d with time := { d.time with ppsNext := none } } := by
  simp [Dev.ppsEdge, hsel, hnext, hnum, htq, hoff, -BitVec.getLsbD_eq_getElem]

theorem exec_ppsEdge_past (s : State) (at_ : Nat) (h : airPast s.dev.time.air at_ = true) :
    exec (.ppsEdge at_) s = .next { s with dev := s.dev.ppsEdge (at_ % airWrap) } := by
  change execPpsEdge at_ s = _
  simp only [execPpsEdge, State.on_eq, s.dev.due_past at_ h]

/-- The clauses of PPS_EDGE. -/
theorem ppsEdge_clauses (s : State) (at_ : Nat) (hpast : airPast s.dev.time.air at_ = true) :
    (s.dev.time.sel.getLsbD 0 = false → exec (.ppsEdge at_) s = .next { s with dev := { s.dev with time := { s.dev.time with ppsNext := none } } })
    ∧ (s.dev.time.ppsNum = none → s.dev.time.ppsNext = none → exec (.ppsEdge at_) s = .next s)
    ∧ (∀ n, s.dev.time.sel.getLsbD 0 = true → s.dev.time.ppsNext = some n → s.dev.time.ppsNum = none → s.dev.time.ppsLast = none →
        s.dev.time.tq ≠ .locked → ∃ t, exec (.ppsEdge at_) s = .next t
          ∧ t.dev.time.ppsLast = some (at_ % airWrap) ∧ t.dev.time.ppsNum = some n ∧ t.dev.time.ppsNext = none
          ∧ t.dev.time.ppsDelivering = true ∧ t.dev.time.ppsPhase = airDiff (at_ % airWrap) (gpsAir n)
          ∧ t.dev.time.air = s.dev.time.air ∧ t.dev.mem = s.dev.mem)
    ∧ (∀ n, s.dev.time.sel.getLsbD 0 = true → s.dev.time.ppsNext = some n → s.dev.time.ppsNum = none → s.dev.time.tq = .locked →
        beyond1us (airDiff (at_ % airWrap) (gpsAir n)) = true →
        exec (.ppsEdge at_) s = .next { s with dev := { s.dev with time := { s.dev.time with ppsNext := none } } }) := by
  rw [exec_ppsEdge_past s at_ hpast]
  refine ⟨fun hsel => ?_, fun hnum hnext => ?_, fun n hsel hnext hnum hlast htq => ⟨_, rfl, ?_⟩, fun n hsel hnext hnum htq hoff => ?_⟩
  · rw [Dev.ppsEdge_unselected _ _ hsel]
  · rw [Dev.ppsEdge_unnumbered _ _ hnum hnext]
  · rw [Dev.ppsEdge_first _ _ n hsel hnext hnum hlast htq]
    obtain ⟨h, u, halert⟩ := Dev.timeAlert_eq { s.dev with time := s.dev.time.ppsAccept (at_ % airWrap) n } s.dev
    rw [halert]
    have haccepted := s.dev.time.ppsAccept_accepted (at_ % airWrap) n
    exact ⟨haccepted.last, haccepted.number, haccepted.next, haccepted.delivering, haccepted.phase, haccepted.air, rfl⟩
  · rw [Dev.ppsEdge_rejected _ _ n hsel hnext hnum htq hoff]

/-- With no edge accepted yet there is none to lose. -/
theorem Dev.ppsLoss_never (d : Dev) (h : d.time.ppsLast = none) : d.ppsLoss = d := by
  simp [Dev.ppsLoss, h]

/-- With PPS not delivering there is nothing to lose. -/
theorem Dev.ppsLoss_lost (d : Dev) (h : d.time.ppsDelivering = false) : d.ppsLoss = d := by
  unfold Dev.ppsLoss
  split
  · rfl
  · simp [h]

/-- The loss of a source sets SRC and time quality, nothing else. -/
theorem TimeState.lose_eq (t : TimeState) (otherLocked : Bool) : ∃ src q, t.lose otherLocked = { t with src := src, tq := q } := by
  unfold TimeState.lose TimeState.setSrc
  dsimp only
  split
  · exact ⟨_, _, rfl⟩
  · exact ⟨_, _, rfl⟩

/-- Without another source that is LOCKED, LOCKED goes to HOLDOVER. -/
theorem TimeState.lose_alone (t : TimeState) (h : t.tq = .locked) : (t.lose false).tq = .holdover := by
  simp [TimeState.lose, TimeState.setSrc, h]

/-- Time without PPS: it delivers nothing, and what it counted is void. -/
def TimeState.ppsSilent (t : TimeState) : TimeState := { t with ppsDelivering := false, ppsGood := 0, disagree := 0 }

/-- Time once the delivery of PPS has ended. -/
def TimeState.ppsEnded (t : TimeState) : TimeState :=
  if t.used = 1 then
    t.ppsSilent.lose (t.sel.getLsbD 1 && t.ppsSilent.ptpLocked)
  else t.ppsSilent.setSrc

theorem TimeState.ppsEnded_delivery (t : TimeState) : t.ppsEnded.ppsDelivering = false ∧ t.ppsEnded.ppsGood = 0 := by
  unfold TimeState.ppsEnded
  split
  · obtain ⟨src, q, h⟩ := t.ppsSilent.lose_eq (t.sel.getLsbD 1 && t.ppsSilent.ptpLocked)
    rw [h]
    exact ⟨rfl, rfl⟩
  · exact ⟨rfl, rfl⟩

theorem TimeState.ppsEnded_holdover (t : TimeState) (hused : t.used = 1) (htq : t.tq = .locked) (hsel : t.sel.getLsbD 1 = false) :
    t.ppsEnded.tq = .holdover := by
  rw [TimeState.ppsEnded, if_pos hused, hsel, Bool.false_and]
  exact TimeState.lose_alone _ htq

/-- 1.5 s after the last edge the delivery ends. -/
theorem Dev.ppsLoss_late (d : Dev) (a : Nat) (hlast : d.time.ppsLast = some a) (hdel : d.time.ppsDelivering = true)
    (hlate : 15 * secondTc ≤ airAhead a d.time.air * 10) :
    d.ppsLoss = ({ d with time := d.time.ppsEnded } : Dev).timeAlert d := by
  have hnot : ¬((!d.time.ppsDelivering) = true ∨ airAhead a d.time.air * 10 < 15 * secondTc) := by simpa [hdel] using hlate
  unfold Dev.ppsLoss
  rw [hlast]
  exact if_neg hnot

/-- 1.5 s after the last edge its delivery ends; LOCKED by PPS alone becomes HOLDOVER. -/
theorem Dev.ppsLoss_ends (d : Dev) (a : Nat) (hlast : d.time.ppsLast = some a) (hdel : d.time.ppsDelivering = true)
    (hlate : 15 * secondTc ≤ airAhead a d.time.air * 10) :
    d.ppsLoss.time.ppsDelivering = false ∧ d.ppsLoss.time.ppsGood = 0
      ∧ (d.time.used = 1 → d.time.tq = .locked → d.time.sel.getLsbD 1 = false → d.ppsLoss.time.tq = .holdover) := by
  obtain ⟨h, u, halert⟩ := Dev.timeAlert_eq { d with time := d.time.ppsEnded } d
  rw [d.ppsLoss_late a hlast hdel hlate, halert]
  obtain ⟨hends, hcount⟩ := d.time.ppsEnded_delivery
  exact ⟨hends, hcount, d.time.ppsEnded_holdover⟩

/-- Below 16 edges sources do not yet disagree. -/
theorem Dev.disagreement_few (d : Dev) (h : d.time.disagree < 16) : d.disagreement = d := by
  rw [Dev.disagreement, if_neg (by omega)]

/-- The clauses of PPS_LOSS and SOURCE_DISAGREEMENT. -/
theorem ppsLoss_disagreement_clauses (s : State) :
    (s.dev.time.ppsLast = none → exec .ppsLoss s = .next s) ∧ (s.dev.time.ppsDelivering = false → exec .ppsLoss s = .next s)
    ∧ (∀ a, s.dev.time.ppsLast = some a → s.dev.time.ppsDelivering = true → 15 * secondTc ≤ airAhead a s.dev.time.air * 10 →
        ∃ t, exec .ppsLoss s = .next t ∧ t.dev.time.ppsDelivering = false ∧ t.dev.time.ppsGood = 0
          ∧ (s.dev.time.used = 1 → s.dev.time.tq = .locked → s.dev.time.sel.getLsbD 1 = false → t.dev.time.tq = .holdover))
    ∧ (s.dev.time.disagree < 16 → exec .sourceDisagreement s = .next s)
    ∧ (16 ≤ s.dev.time.disagree → ∃ t, exec .sourceDisagreement s = .next t
        ∧ t.dev.time = { s.dev.time with disagree := 0 } ∧ t.dev.cfg = s.dev.cfg) := by
  have hloss : exec .ppsLoss s = .next { s with dev := s.dev.ppsLoss } := rfl
  have hdis : exec .sourceDisagreement s = .next { s with dev := s.dev.disagreement } := rfl
  rw [hloss, hdis]
  refine ⟨fun h => ?_, fun h => ?_, fun a hlast hdel hlate => ⟨_, rfl, s.dev.ppsLoss_ends a hlast hdel hlate⟩, fun h => ?_,
    fun h => ⟨_, rfl, ?_⟩⟩
  · rw [s.dev.ppsLoss_never h]
  · rw [s.dev.ppsLoss_lost h]
  · rw [s.dev.disagreement_few h]
  · rw [Dev.disagreement, if_pos h]
    have hev := Dev.healthEvent_told { s.dev with time := { s.dev.time with disagree := 0 } } { hkind := 0x0040 }
    exact ⟨hev.time, hev.cfg⟩

end Sys2Proof.Machine
end

section
/-! SUPPORT. PTP messages received and sent (02_timing_and_deadlines.md, R42, R43; 15_ethernet_and_host_port.md, R375). -/

namespace Sys2Proof.Machine
open Sys2Proof

/-! ### Ethernet ports -/

/-- A change of a port reads back as that change. -/
theorem Dev.ethPort_updEth (d : Dev) (p : Fin 4) (f : EthPort → EthPort) :
    (d.updEth p.val f).ethPort p.val = f (d.ethPort p.val) := by
  simp [Dev.updEth, Dev.ethPort, List.getD_eq_getElem?_getD, p.isLt]

theorem Dev.timeAlert_ethPort (d before : Dev) (p : Nat) : (d.timeAlert before).ethPort p = d.ethPort p := by
  obtain ⟨h, u, halert⟩ := d.timeAlert_eq before
  rw [halert]
  rfl

theorem Dev.timeAlert_air (d before : Dev) : (d.timeAlert before).time.air = d.time.air := by
  obtain ⟨h, u, halert⟩ := d.timeAlert_eq before
  rw [halert]

/-! ### PTP: messages received -/

/-- A port that PTP does not serve takes no message (R375). -/
theorem Dev.ptpMessage_down (d : Dev) (p : Nat) (m : PtpMsg) (h : d.ptpUp p = false) : d.ptpMessage p m = d := by
  simp [Dev.ptpMessage, h]

/-- A port that PTP does not serve sends nothing. -/
theorem Dev.ptpSend_down (d : Dev) (p : Nat) (m : PtpSend) (h : d.ptpUp p = false) : d.ptpSend p m = d := by
  simp [Dev.ptpSend, h]

/-- An announce sets the port's state and leaves air time alone. -/
theorem Dev.ptpMessage_announce (d : Dev) (p : Fin 4) (st : Fin 4) (f : Byte) (b : List Byte) (h : d.ptpUp p.val = true) :
    ((d.ptpMessage p.val (.announce st f b)).ethPort p.val).ptp = st.val
      ∧ (d.ptpMessage p.val (.announce st f b)).time.air = d.time.air := by
  have hport := d.ethPort_updEth p (fun e => { e with ptp := st.val, parent := some (f, padTo 30 (b.take 30)) })
  simp only [Dev.ptpMessage, h, Bool.not_true, Bool.false_eq_true, if_false]
  split
  · exact ⟨congrArg EthPort.ptp hport, rfl⟩
  · exact ⟨congrArg EthPort.ptp hport, rfl⟩

/-- A phase error that PTP measured: PTP delivers it (R43, R44). -/
theorem TimeState.ptpOffset_delivers (t : TimeState) (e : Int) : (t.ptpOffset e).ptpDelivering = true ∧ (t.ptpOffset e).ptpPhase = e := by
  unfold TimeState.ptpOffset
  extract_lets good t1 t2
  split
  · exact ⟨rfl, rfl⟩
  · exact ⟨rfl, rfl⟩

/-- A timed Sync of the port in use gives the phase error against the path's delay (R42). -/
theorem Dev.ptpTimed_offset (d : Dev) (p arrived : Nat) (origin : PtpTime) (corr m : Int) (hdelay : (d.ethPort p).pathDelay = some m)
    (hsel : d.time.sel.getLsbD 1 = true) (hbest : d.ptpBest = some p) :
    (d.ptpTimed p arrived origin corr).time.ptpDelivering = true
      ∧ (d.ptpTimed p arrived origin corr).time.ptpPhase = tcOf (cycDiff (65536 * ((arrived : Nat) - ptpNs origin) - corr) - m)
      ∧ (d.ptpTimed p arrived origin corr).cfg = d.cfg := by
  unfold Dev.ptpTimed
  extract_lets ms d1
  rw [hdelay]
  dsimp only
  rw [if_pos ⟨hsel, hbest⟩]
  obtain ⟨h, u, halert⟩ := Dev.timeAlert_eq { d1 with time := d1.time.ptpOffset (tcOf (ms - m)) } d
  rw [halert]
  obtain ⟨hdelivers, hphase⟩ := d1.time.ptpOffset_delivers (tcOf (ms - m))
  exact ⟨hdelivers, hphase, rfl⟩

/-- Where the path's delay is not known a timed Sync only says how long it took from the master (R42). -/
theorem Dev.ptpTimed_noDelay (d : Dev) (p : Fin 4) (arrived : Nat) (origin : PtpTime) (corr : Int)
    (hdelay : (d.ethPort p.val).pathDelay = none) :
    ((d.ptpTimed p.val arrived origin corr).ethPort p.val).masterToSlave
        = some (cycDiff (65536 * ((arrived : Nat) - ptpNs origin) - corr))
      ∧ (d.ptpTimed p.val arrived origin corr).time = d.time := by
  unfold Dev.ptpTimed
  rw [hdelay]
  exact ⟨congrArg EthPort.masterToSlave (d.ethPort_updEth p _), rfl⟩

/-- A one-step Sync at a slave port is timed at once. -/
theorem Dev.ptpMessage_sync (d : Dev) (p at_ : Nat) (seq : Half) (origin : PtpTime) (corr : Int) (h : d.ptpUp p = true)
    (hslave : (d.ethPort p).ptp = 2) : d.ptpMessage p (.sync at_ false seq origin corr) = d.ptpTimed p (airNs at_) origin corr := by
  simp [Dev.ptpMessage, h, hslave]

/-- A two-step Sync at a slave port waits for its Follow_Up. -/
theorem Dev.ptpMessage_syncTwoStep (d : Dev) (p at_ : Nat) (seq : Half) (origin : PtpTime) (corr : Int) (h : d.ptpUp p = true)
    (hslave : (d.ethPort p).ptp = 2) :
    d.ptpMessage p (.sync at_ true seq origin corr) = d.updEth p (fun e => { e with sync2 := some (seq, airNs at_, corr) }) := by
  simp [Dev.ptpMessage, h, hslave]

/-- The Follow_Up of the Sync that waits times it, with the corrections of both. -/
theorem Dev.ptpMessage_followUp (d : Dev) (p at_ : Nat) (seq : Half) (origin : PtpTime) (c corr : Int) (h : d.ptpUp p = true)
    (hwaits : (d.ethPort p).sync2 = some (seq, at_, c)) :
    d.ptpMessage p (.followUp seq origin corr) = d.ptpTimed p at_ origin (c + corr) := by
  simp [Dev.ptpMessage, h, hwaits]

/-- A message of another kind changes nothing. -/
theorem Dev.ptpMessage_other (d : Dev) (p : Nat) : d.ptpMessage p .other = d := by
  unfold Dev.ptpMessage
  exact ite_self d

/-- A master of a T-BC answers a Delay_Req. -/
theorem Dev.ptpMessage_delayReq (d : Dev) (p at_ : Nat) (seq : Half) (src : List Byte) (corr : Int) (h : d.ptpUp p = true)
    (hmaster : (d.ethPort p).ptp = 3) (hclock : d.portField p 13 1 = 1) :
    d.ptpMessage p (.delayReq at_ seq src corr)
      = d.ptpQueue p 2 (d.ptpPdu p 9 0 seq corr 0xFC (ecpriStamp (d.time.taiNs at_) ++ padTo 10 (src.take 10))) := by
  simp [Dev.ptpMessage, h, hmaster, hclock]

/-- The Delay_Resp to the device's own Delay_Req gives the path's delay. -/
theorem Dev.ptpMessage_delayResp (d : Dev) (p : Nat) (seq : Half) (left : Nat) (ms : Int) (x : PtpTime) (corr : Int)
    (h : d.ptpUp p = true) (hout : (d.ethPort p).reqOut = some (seq, left)) (hms : (d.ethPort p).masterToSlave = some ms) :
    d.ptpMessage p (.delayResp seq x (d.ptpIdentity p) corr) = d.updEth p (fun e =>
        { e with reqOut := none, pathDelay := some ((ms + cycDiff (65536 * (ptpNs x - ((left : Int) - 19000000000)) - corr)) / 2) }) := by
  simp [Dev.ptpMessage, h, hout, hms]

/-! ### PTP: messages sent -/

/-- What is queued stands behind what the port's queue held (R373). -/
theorem Dev.ptpQueue_port (d : Dev) (p : Fin 4) (kind : Nat) (pdu : List Byte) : (d.ptpQueue p.val kind pdu).ethPort p.val
    = { d.ethPort p.val with queue := (d.ethPort p.val).queue
          ++ [⟨kind, padFrame (d.portFrame p.val (ptpDest p.val) 0x88F7 pdu)⟩] } :=
  d.ethPort_updEth p _

/-- A message of the device's own is queued, and its sequence number is used up. -/
theorem Dev.ptpQueue_counted (d : Dev) (p : Fin 4) (kind : Nat) (pdu : List Byte) (f : EthPort → EthPort) :
    ((d.ptpQueue p.val kind pdu).updEth p.val f).ethPort p.val
      = f { d.ethPort p.val with queue := (d.ethPort p.val).queue
              ++ [⟨kind, padFrame (d.portFrame p.val (ptpDest p.val) 0x88F7 pdu)⟩] } := by
  rw [Dev.ethPort_updEth, Dev.ptpQueue_port]

/-- The master of a T-BC sends Sync. -/
theorem Dev.ptpSend_sync (d : Dev) (p : Nat) (h : d.ptpUp p = true) (hmaster : (d.ethPort p).ptp = 3) (hclock : d.portField p 13 1 = 1) :
    d.ptpSend p .sync = (d.ptpQueue p 1 (d.ptpPdu p 0 0 (d.ethPort p).syncSeq 0 0xFC (List.replicate 10 0))).updEth p
      (fun e => { e with syncSeq := e.syncSeq + 1 }) := by
  simp [Dev.ptpSend, h, hmaster, hclock]

/-- The master of a T-BC sends Announce. -/
theorem Dev.ptpSend_announce (d : Dev) (p : Nat) (h : d.ptpUp p = true) (hmaster : (d.ethPort p).ptp = 3)
    (hclock : d.portField p 13 1 = 1) :
    d.ptpSend p .announce = (d.ptpQueue p 2 (d.ptpPdu p 11 (d.announceBody p).1 (d.ethPort p).announceSeq 0 0xFD (d.announceBody p).2)).updEth p
      (fun e => { e with announceSeq := e.announceSeq + 1 }) := by
  simp [Dev.ptpSend, h, hmaster, hclock]

/-- A slave sends Delay_Req. -/
theorem Dev.ptpSend_delayReq (d : Dev) (p : Nat) (h : d.ptpUp p = true) (hslave : (d.ethPort p).ptp = 2) :
    d.ptpSend p .delayReq = (d.ptpQueue p 1 (d.ptpPdu p 1 0 (d.ethPort p).reqSeq 0 0x7F (List.replicate 10 0))).updEth p
      (fun e => { e with reqSeq := e.reqSeq + 1 }) := by
  simp [Dev.ptpSend, h, hslave]

/-- Once PTP is lost at a port, the port has the state given; air time goes on as before (R43, R375). -/
theorem Dev.ptpLost_port (d : Dev) (p : Fin 4) (st : Nat) :
    ((d.ptpLost p.val st).ethPort p.val).ptp = st ∧ (d.ptpLost p.val st).time.air = d.time.air := by
  unfold Dev.ptpLost
  extract_lets was best d1 before t
  have hport : (d1.ethPort p.val).ptp = st := congrArg EthPort.ptp (d.ethPort_updEth p _)
  split
  · exact ⟨hport, rfl⟩
  · rw [Dev.timeAlert_ethPort, Dev.timeAlert_air]
    refine ⟨hport, ?_⟩
    change (if was = 2 then t.lose _ else t.setSrc).air = d.time.air
    split
    · obtain ⟨src, q, hlose⟩ := t.lose_eq (t.sel.getLsbD 0 && t.ppsDelivering && decide (16 ≤ t.ppsGood))
      rw [hlose]
      rfl
    · rfl

/-- PTP at a port that it does not serve. -/
theorem ptp_down_clauses (s : State) (p : Fin 4) (h : s.dev.ptpUp p.val = false) :
    (∀ m, exec (.ptpMessage p m) s = .next s) ∧ (∀ m, exec (.ptpTransmit p m) s = .next s) ∧ exec (.announceTimeout p) s = .next s := by
  refine ⟨fun m => ?_, fun m => ?_, ?_⟩
  · change execPtpMessage p m s = _
    rw [execPtpMessage, State.on_eq, s.dev.ptpMessage_down _ _ h]
  · change execPtpTransmit p m s = _
    rw [execPtpTransmit, State.on_eq, s.dev.ptpSend_down _ _ h]
  · change execAnnounceTimeout p s = _
    simp [execAnnounceTimeout, h]

theorem exec_ptpMessage (s : State) (p : Fin 4) (m : PtpMsg) :
    exec (.ptpMessage p m) s = .next { s with dev := s.dev.ptpMessage p.val m } := rfl

theorem exec_ptpTransmit (s : State) (p : Fin 4) (m : PtpSend) :
    exec (.ptpTransmit p m) s = .next { s with dev := s.dev.ptpSend p.val m } := rfl

theorem exec_announceTimeout_up (s : State) (p : Fin 4) (h : s.dev.ptpUp p.val = true) :
    exec (.announceTimeout p) s = .next { s with dev := s.dev.ptpLost p.val 1 } := by
  change execAnnounceTimeout p s = _
  rw [execAnnounceTimeout, State.on_eq, if_pos h]

end Sys2Proof.Machine
end

section
/-! SUPPORT. The PM second (14_link_performance.md, R352 to R368), and the sources of time together. -/

namespace Sys2Proof.Machine
open Sys2Proof

/-! ### The PM second -/

/-- What the end of a PM second leaves: configuration, air time and the number of the second. -/
structure Dev.SecondKept (a b : Dev) : Prop where
  cfg : b.cfg = a.cfg
  air : b.time.air = a.time.air
  second : b.link.second = a.link.second

/-- What counting and turning bins leaves besides: the thresholds in force and the groups' counts of switches. -/
structure Dev.PmKept (a b : Dev) : Prop extends Dev.SecondKept a b where
  thresholds : b.link.thresholds = a.link.thresholds
  switches : ∀ g, (b.group g).switches = (a.group g).switches

theorem Dev.SecondKept.refl (d : Dev) : d.SecondKept d := ⟨rfl, rfl, rfl⟩

theorem Dev.SecondKept.trans {a b c : Dev} (h1 : a.SecondKept b) (h2 : b.SecondKept c) : a.SecondKept c :=
  ⟨h2.cfg.trans h1.cfg, h2.air.trans h1.air, h2.second.trans h1.second⟩

theorem Dev.PmKept.refl (d : Dev) : d.PmKept d := ⟨.refl d, rfl, fun _ => rfl⟩

theorem Dev.PmKept.trans {a b c : Dev} (h1 : a.PmKept b) (h2 : b.PmKept c) : a.PmKept c :=
  ⟨h1.toSecondKept.trans h2.toSecondKept, h2.thresholds.trans h1.thresholds, fun g => (h2.switches g).trans (h1.switches g)⟩

/-- A fold keeps what each of its steps keeps. -/
theorem Dev.PmKept.foldl {α : Type} (f : Dev → α → Dev) (h : ∀ (d : Dev) (x : α), d.PmKept (f d x)) (l : List α) (d : Dev) :
    d.PmKept (l.foldl f d) :=
  List.foldlRecOn l f (.refl d) (fun b hb x _ => hb.trans (h b x))

theorem Dev.group_congr {a b : Dev} (h : b.link.group = a.link.group) (g : Nat) : b.group g = a.group g := by
  rw [Dev.group, h, Dev.group]

/-- Where the groups stay as they are, so do their counts. -/
theorem Dev.PmKept.of_group {a b : Dev} (h : a.SecondKept b) (hthr : b.link.thresholds = a.link.thresholds)
    (hgroup : b.link.group = a.link.group) : a.PmKept b :=
  ⟨h, hthr, fun g => congrArg Group.switches (Dev.group_congr hgroup g)⟩

theorem Dev.Told.pmKept {a b : Dev} (h : a.Told b) : a.PmKept b :=
  .of_group ⟨h.cfg, congrArg TimeState.air h.time, congrArg LinkState.second h.link⟩ (congrArg LinkState.thresholds h.link)
    (congrArg LinkState.group h.link)

theorem Dev.post_pmKept (d : Dev) (kind : Nat) (p : List Byte) : d.PmKept (d.post kind p) := (d.post_told kind p).pmKept

theorem Dev.updPm_pmKept (d : Dev) (k : Nat) (f : PmState → PmState) : d.PmKept (d.updPm k f) := by
  unfold Dev.updPm
  exact .of_group ⟨rfl, rfl, rfl⟩ rfl rfl

theorem Dev.updRx_pmKept (d : Dev) (l : Nat) (f : LaneRx → LaneRx) : d.PmKept (d.updRx l f) := by
  unfold Dev.updRx Dev.updLane
  exact .of_group ⟨rfl, rfl, rfl⟩ rfl rfl

/-- A group after a change of one. -/
theorem Dev.group_updGroup (d : Dev) (k g : Nat) (f : Group → Group) (hg : g < 16) :
    (d.updGroup k f).group g = if g = k then f (d.group g) else d.group g := by
  simp [Dev.updGroup, Dev.group, List.getD_eq_getElem?_getD, hg]

/-- There is no group beyond the 16. -/
theorem Dev.group_beyond (d : Dev) (g : Nat) (hg : ¬g < 16) : d.group g = {} := by
  simp [Dev.group, List.getD_eq_getElem?_getD, hg]

theorem Dev.updGroup_secondKept (d : Dev) (k : Nat) (f : Group → Group) : d.SecondKept (d.updGroup k f) := ⟨rfl, rfl, rfl⟩

theorem Dev.updGroup_pmKept (d : Dev) (k : Nat) (f : Group → Group) (hf : ∀ x, (f x).switches = x.switches) :
    d.PmKept (d.updGroup k f) := by
  refine ⟨d.updGroup_secondKept k f, rfl, fun g => ?_⟩
  by_cases hg : g < 16
  · rw [d.group_updGroup k g f hg]
    split
    · exact hf _
    · rfl
  · rw [Dev.group_beyond _ g hg, Dev.group_beyond _ g hg]

/-! ### What a second was, and its bins -/

theorem Dev.pmFinal_pmKept (d : Dev) (k : Nat) (s : PmSecond) (avail : Bool) : d.PmKept (d.pmFinal k s avail) := by
  unfold Dev.pmFinal
  split
  · exact .refl d
  · exact (d.updPm_pmKept k _).trans (.foldl _ (fun d x => d.post_pmKept _ x) _ _)

theorem Dev.pmMonitored_pmKept (d : Dev) (k : Nat) (s : PmSecond) : d.PmKept (d.pmMonitored k s) := by
  have hflush (l : List PmSecond) (f : PmState → PmState) (avail : Bool) :
      d.PmKept (l.foldl (fun d x => d.pmFinal k x avail) (d.updPm k f)) :=
    (d.updPm_pmKept k f).trans (.foldl _ (fun d x => d.pmFinal_pmKept k x avail) l _)
  unfold Dev.pmMonitored
  extract_lets p flush
  split
  · split
    · exact hflush _ _ _
    · exact d.updPm_pmKept k _
  · exact hflush _ _ _

theorem Dev.pmSecond_pmKept (d : Dev) (k : Nat) (s : PmSecond) (monitored : Bool) : d.PmKept (d.pmSecond k s monitored) := by
  unfold Dev.pmSecond
  extract_lets p sus mark marked
  have hmarked : d.PmKept marked := d.updPm_pmKept k _
  split
  · exact .refl d
  · split
    · exact hmarked.trans (marked.pmMonitored_pmKept k _)
    · exact hmarked

theorem Dev.laneSecond_pmKept (d : Dev) (l : Nat) : d.PmKept (d.laneSecond l) := by
  unfold Dev.laneSecond
  split
  · exact .refl d
  · exact d.pmSecond_pmKept _ _ _

theorem Dev.groupSecond_pmKept (d : Dev) (g : Nat) : d.PmKept (d.groupSecond g) := by
  unfold Dev.groupSecond
  split
  · exact .refl d
  · exact d.pmSecond_pmKept _ _ _

theorem Dev.laneEntries_pmKept (d : Dev) (l : Nat) : d.PmKept (d.laneEntries l) :=
  (Dev.PmKept.foldl _ (fun d _ => d.post_pmKept 0xF004 _) _ d).trans (Dev.updRx_pmKept _ l _)

theorem Dev.pmClear_pmKept (d : Dev) (k : Nat) : d.PmKept (d.pmClear k) := by
  unfold Dev.pmClear
  split
  · exact d.updPm_pmKept k _
  · exact .refl d

theorem Dev.binsTurn_pmKept (d : Dev) : d.PmKept d.binsTurn := by
  unfold Dev.binsTurn
  extract_lets t q y start turn d1
  have hturned : d.PmKept d1 := .foldl _ (fun d k => by
    split
    · exact d.updPm_pmKept k _
    · exact .refl d) _ d
  clear_value d1
  exact hturned.trans (.of_group ⟨rfl, rfl, rfl⟩ rfl rfl)

theorem Dev.binsPlace_pmKept (d : Dev) : d.PmKept d.binsPlace := .of_group ⟨rfl, rfl, rfl⟩ rfl rfl

theorem Dev.binsReopen_pmKept (d : Dev) (mark : Bool) : d.PmKept (d.binsReopen mark) := by
  unfold Dev.binsReopen
  refine (Dev.PmKept.foldl _ (fun d k => ?_) _ d).trans (Dev.binsPlace_pmKept _)
  split
  · exact d.updPm_pmKept k _
  · exact .refl d

theorem Dev.pmTime_pmKept (d : Dev) : d.PmKept d.pmTime := by
  unfold Dev.pmTime
  split
  · exact .refl d
  · next leap tz _ =>
    have hset : d.PmKept { d with time := { d.time with leap := leap, tzofs := tz }, link := { d.link with timeDue := none } } :=
      .of_group ⟨rfl, rfl, rfl⟩ rfl rfl
    exact hset.trans (Dev.binsReopen_pmKept _ true)

/-! ### The next second -/

theorem Group.note_switches (x : Group) (c err : Nat) (losLof other : Bool) : (x.note c err losLof other).switches = x.switches := by
  unfold Group.note
  split
  · rfl
  · rfl

theorem Dev.groupNote_pmKept (d : Dev) (g : Nat) : d.PmKept (d.groupNote g) := by
  unfold Dev.groupNote
  split
  · exact .refl d
  · exact (Dev.PmKept.foldl _ (fun d _ => d.updGroup_pmKept g _ (fun x => x.note_switches _ _ _ _)) _ d).trans
      (Dev.updGroup_pmKept _ g _ (fun _ => rfl))

theorem Dev.laneNote_pmKept (d : Dev) (l : Nat) : d.PmKept (d.laneNote l) := by
  unfold Dev.laneNote
  extract_lets sf d1
  have hnoted : d.PmKept d1 := d.updRx_pmKept l _
  split
  · exact hnoted.trans (d1.groupNote_pmKept _)
  · exact hnoted

/-- A change of every group in turn that zeroes the count of switches leaves it zero. -/
theorem Dev.switches_foldl_updGroup (f : Group → Group) (hf : ∀ x, (f x).switches = 0) (g : Nat) (hg : g < 16) (l : List Nat) :
    ∀ d : Dev, (g ∈ l ∨ (d.group g).switches = 0) → ((l.foldl (fun d k => d.updGroup k f) d).group g).switches = 0 := by
  induction l with
  | nil =>
    intro d h
    simpa using h
  | cons k rest ih =>
    intro d h
    refine ih _ ?_
    rw [d.group_updGroup k g f hg]
    by_cases hk : g = k
    · rw [if_pos hk]
      exact .inr (hf _)
    · rw [if_neg hk]
      simpa [hk] using h

/-- The next second starts with no switch counted in any group. -/
theorem Dev.secondAnew_spec (d : Dev) : d.SecondKept d.secondAnew ∧ ∀ g < 16, (d.secondAnew.group g).switches = 0 := by
  unfold Dev.secondAnew
  extract_lets d1 d2 before d3
  have hlanes : d.PmKept d1 := .foldl _ (fun d l => d.updRx_pmKept l _) _ d
  have hgroups : d1.SecondKept d2 := List.foldlRecOn (motive := d1.SecondKept) _ _ (.refl d1)
    (fun b hb g _ => hb.trans (b.updGroup_secondKept g _))
  have hzero : ∀ g < 16, (d2.group g).switches = 0 := fun g hg =>
    Dev.switches_foldl_updGroup _ (fun _ => rfl) g hg _ d1 (.inl (List.mem_range.mpr hg))
  clear_value d1 d2
  have htime : d2.PmKept d3 := .of_group ⟨rfl, rfl, rfl⟩ rfl rfl
  clear_value d3
  have hnotes : d3.PmKept _ := .foldl (fun d l => d.laneNote l) (fun d l => d.laneNote_pmKept l) (List.range 32) d3
  have hkept := htime.trans hnotes
  refine ⟨(hlanes.toSecondKept.trans hgroups).trans hkept.toSecondKept, fun g hg => ?_⟩
  rw [hkept.switches g, hzero g hg]

/-- A PM second ends: its number, air time and the configuration stay, the committed thresholds are in force, and every
group starts its counts anew. -/
theorem Dev.secondTurn_spec (d : Dev) : d.SecondKept d.secondTurn ∧ d.secondTurn.link.thresholds = d.cfg.thresholds
    ∧ ∀ g < 16, (d.secondTurn.group g).switches = 0 := by
  unfold Dev.secondTurn
  extract_lets d1 d2 d3 before d4
  have hlanes : d.PmKept d1 := .foldl _ (fun d l => (d.laneSecond_pmKept l).trans (Dev.laneEntries_pmKept _ l)) _ d
  have hgroups : d1.PmKept d2 := .foldl _ (fun d g => d.groupSecond_pmKept g) _ d1
  obtain ⟨hanew, hzero⟩ := d2.secondAnew_spec
  have hbins : d2.secondAnew.PmKept d3 := (Dev.binsTurn_pmKept _).trans (Dev.pmTime_pmKept _)
  have hkept : d.SecondKept d3 := ((hlanes.trans hgroups).toSecondKept.trans hanew).trans hbins.toSecondKept
  have hzeroed : ∀ g < 16, (d3.group g).switches = 0 := fun g hg => (hbins.switches g).trans (hzero g hg)
  clear_value d3
  have hforce : d3.SecondKept d4 := ⟨rfl, rfl, rfl⟩
  have hclear : d4.PmKept _ := .foldl (fun d k => d.pmClear k) (fun d k => d.pmClear_pmKept k) (List.range 48) d4
  refine ⟨(hkept.trans hforce).trans hclear.toSecondKept, ?_, fun g hg => ?_⟩
  · exact hclear.thresholds.trans (congrArg CommitState.thresholds hkept.cfg)
  · rw [hclear.switches g]
    exact hzeroed g hg

/-! ### Rows at an announced moment -/

/-- GSM_TIMESLOT_EVENT acts at the next boundary, where it can be now. -/
theorem exec_gsmTimeslotEvent_due (s : State) (r : Option Dev)
    (h : s.dev.due (((s.dev.time.gsmSlots + 1) * 14745600 / 13) % (airWrap : Nat)).toNat = r) :
    exec .gsmTimeslotEvent s = .next { s with dev := r.elim s.dev (fun d =>
      { d with time := { d.time with gsmSlots := s.dev.time.gsmSlots + 1 } }) } := by
  subst h
  change execGsmTimeslotEvent s = _
  unfold execGsmTimeslotEvent
  rw [State.on_eq]
  extract_lets next
  generalize s.dev.due _ = r
  cases r <;> rfl

/-- PM_SECOND acts at the end of the second that runs, where it can be now. -/
theorem exec_pmSecond_due (s : State) (r : Option Dev)
    (h : s.dev.due (((s.dev.link.second + 1) * (secondTc : Nat)) % (airWrap : Nat)).toNat = r) :
    exec .pmSecond s = .next { s with dev := r.elim s.dev (fun d =>
      ({ d with link := { d.link with second := s.dev.link.second + 1 } } : Dev).secondTurn) } := by
  subst h
  change execPmSecond s = _
  unfold execPmSecond
  rw [State.on_eq]
  extract_lets next
  generalize s.dev.due _ = r
  cases r with
  | none => rfl
  | some d => simp only [Option.elim_some, next]

/-- PM_SECOND ends a second whose end is past. -/
theorem exec_pmSecond_past (s : State)
    (h : airPast s.dev.time.air (((s.dev.link.second + 1) * (secondTc : Nat)) % (airWrap : Nat)).toNat = true) :
    exec .pmSecond s = .next { s with dev :=
      ({ s.dev with link := { s.dev.link with second := s.dev.link.second + 1 } } : Dev).secondTurn } := by
  rw [exec_pmSecond_due s _ (s.dev.due_past _ h), Option.elim_some]

/-! ### The statement -/

/-- Settles O47: one clause family after another, PM_SECOND by what the end of a second keeps and starts anew. -/
theorem timeSources : Obligations.TimeSources := by
  unfold Obligations.TimeSources
  refine ⟨fun s at_ => ppsEdge_clauses s at_, fun s => ppsLoss_disagreement_clauses s,
    fun s p => ⟨fun hdown => ptp_down_clauses s p hdown, fun hup => ?_⟩,
    fun s => ⟨fun hpast => exec_gsmTimeslotEvent_due s _ (s.dev.due_past _ hpast),
      fun hnot hbeyond => exec_gsmTimeslotEvent_due s _ (s.dev.due_beyond _ hnot hbeyond)⟩, 
    fun s => ⟨fun hpast => ?_, fun hnot hbeyond => exec_pmSecond_due s _ (s.dev.due_beyond _ hnot hbeyond)⟩⟩
  · refine ⟨fun st f b => ⟨_, exec_ptpMessage s p _, s.dev.ptpMessage_announce p st f b hup⟩, ?_, ?_, ?_, ?_, ?_, ?_, ?_, ?_,
      ⟨_, exec_announceTimeout_up s p hup, s.dev.ptpLost_port p 1⟩⟩
    · intro at_ seq origin corr m hslave hdelay hsel hbest
      refine ⟨_, exec_ptpMessage s p _, ?_⟩
      rw [s.dev.ptpMessage_sync _ _ _ _ _ hup hslave]
      exact s.dev.ptpTimed_offset p.val (airNs at_) origin corr m hdelay hsel hbest
    · intro at_ seq origin corr hslave
      refine ⟨_, exec_ptpMessage s p _, ?_⟩
      rw [s.dev.ptpMessage_syncTwoStep _ _ _ _ _ hup hslave]
      exact ⟨congrArg EthPort.sync2 (s.dev.ethPort_updEth p _), rfl⟩
    · intro at_ seq origin c corr hwaits hdelay
      refine ⟨_, exec_ptpMessage s p _, ?_⟩
      rw [s.dev.ptpMessage_followUp _ _ _ _ _ _ hup hwaits]
      exact s.dev.ptpTimed_noDelay p at_ origin (c + corr) hdelay
    · intro at_ seq src corr hmaster hclock
      refine ⟨_, exec_ptpMessage s p _, ?_⟩
      rw [s.dev.ptpMessage_delayReq _ _ _ _ _ hup hmaster hclock]
      exact congrArg EthPort.queue (s.dev.ptpQueue_port p _ _)
    · intro seq left ms x corr hout hms
      refine ⟨_, exec_ptpMessage s p _, ?_⟩
      rw [s.dev.ptpMessage_delayResp _ _ _ _ _ _ hup hout hms]
      have hport := s.dev.ethPort_updEth p (fun e =>
        { e with reqOut := none, pathDelay := some ((ms + cycDiff (65536 * (ptpNs x - ((left : Int) - 19000000000)) - corr)) / 2) })
      exact ⟨congrArg EthPort.reqOut hport, congrArg EthPort.pathDelay hport⟩
    · rw [exec_ptpMessage, s.dev.ptpMessage_other]
    · intro hmaster hclock
      refine ⟨⟨_, exec_ptpTransmit s p _, ?_⟩, ⟨_, exec_ptpTransmit s p _, ?_⟩⟩
      · rw [s.dev.ptpSend_sync _ hup hmaster hclock]
        have hport := s.dev.ptpQueue_counted p 1 (s.dev.ptpPdu p.val 0 0 (s.dev.ethPort p.val).syncSeq 0 0xFC (List.replicate 10 0))
          (fun e => { e with syncSeq := e.syncSeq + 1 })
        exact ⟨congrArg EthPort.syncSeq hport, congrArg EthPort.queue hport⟩
      · rw [s.dev.ptpSend_announce _ hup hmaster hclock]
        have hport := s.dev.ptpQueue_counted p 2 (s.dev.ptpPdu p.val 11 (s.dev.announceBody p.val).1 (s.dev.ethPort p.val).announceSeq
          0 0xFD (s.dev.announceBody p.val).2) (fun e => { e with announceSeq := e.announceSeq + 1 })
        exact ⟨congrArg EthPort.announceSeq hport, congrArg EthPort.queue hport⟩
    · intro hslave
      refine ⟨_, exec_ptpTransmit s p _, ?_⟩
      rw [s.dev.ptpSend_delayReq _ hup hslave]
      have hport := s.dev.ptpQueue_counted p 1 (s.dev.ptpPdu p.val 1 0 (s.dev.ethPort p.val).reqSeq 0 0x7F (List.replicate 10 0))
        (fun e => { e with reqSeq := e.reqSeq + 1 })
      exact ⟨congrArg EthPort.reqSeq hport, congrArg EthPort.queue hport⟩
  · obtain ⟨hkept, hthr, hzero⟩ := Dev.secondTurn_spec { s.dev with link := { s.dev.link with second := s.dev.link.second + 1 } }
    refine ⟨_, exec_pmSecond_past s hpast, ?_⟩
    generalize Dev.secondTurn _ = t at hkept hthr hzero ⊢
    exact ⟨hkept.second, hthr, hzero, hkept.cfg, hkept.air⟩

end Sys2Proof.Machine
end

section
/-! SUPPORT. A control core that tests SLOW (20_thermal_and_health.md, R495, R496, R498). -/

namespace Sys2Proof.Machine
open Sys2Proof

/-- A running device, as after reset but for its power, in which control core 0 is under test. -/
@[irreducible] def aonUnderTest : State :=
  { dev := ({ start := { powered := true, resetLow := false } } : Dev).updUnit 15 0 (fun u => { u with testing := true }) }

/-- What the test of control core 0 reports: SLOW (R498). -/
def slowReport : TestReport := { result := .slow }

/-- The device meets what the statement asks of a self-test that completes. -/
theorem aonUnderTest_completes : aonUnderTest.dev.up = true ∧ (aonUnderTest.dev.unit 15 0).testing = true
    ∧ aonUnderTest.dev.health.testQueue = [] ∧ aonUnderTest.dev.mode.todo = [] ∧ aonUnderTest.dev.heldTest 15 0 = none
    ∧ (aonUnderTest.dev.dom (unitDomain 15 0)).pend = none ∧ aonUnderTest.dev.testOutcome 15 0 slowReport = .slow := by
  decide +kernel

/-- A control core that tests SLOW goes idle (R496); nothing marks it for retirement. -/
theorem aonUnderTest_neverMarked :
    ((aonUnderTest.dev.testComplete 15 0 slowReport).unit 15 0).markRetire = false := by
  decide +kernel

/-- SELFTEST_COMPLETE in a device with power and no reset takes the test's result. -/
theorem exec_selftestComplete_up (s : State) (c u : BitVec 8) (r : TestReport) (h : s.dev.up = true) :
    exec (.selftestComplete c u r) s = .next { s with dev := s.dev.testComplete c.toNat u.toNat r } := by
  change s.onAlive (fun d => d.testComplete c.toNat u.toNat r) = _
  rw [State.onAlive_eq, Dev.alive, if_pos h]

/-- Refutes O56: its clause for SLOW marks every unit for retirement, but control cores 0 and 1 are never retired (R496). -/
theorem not_powerThermalAndHealth : ¬ Obligations.PowerThermalAndHealth := by
  unfold Obligations.PowerThermalAndHealth
  rintro ⟨-, -, -, -, -, hHealth⟩
  obtain ⟨hup, htesting, hqueue, htodo, hheld, hpend, hslow⟩ := aonUnderTest_completes
  obtain ⟨-, -, -, hTests, -⟩ := hHealth aonUnderTest hup
  obtain ⟨t, ht, -, -, -, -, hmarked, -⟩ := (hTests 15 0 slowReport).2 htesting hqueue htodo hheld hpend
  rw [exec_selftestComplete_up _ _ _ _ hup] at ht
  obtain rfl := Host.Outcome.next.inj ht
  exact Bool.false_ne_true (aonUnderTest_neverMarked.symm.trans (hmarked hslow))

end Sys2Proof.Machine
end

section
/-! SUPPORT. Slot words: the OP of a spelled word, and what decoding a spelled word answers (03_signal_cores.md, R69, R71 to R73,
Tables 3.4 to 3.7; 04_matrix_coprocessor.md, R104, Table 4.1). -/

namespace Sys2Proof.Machine
open Sys2Proof

/-! ### Fields of a concatenation -/

/-- A field above the lower part of a concatenation lies in the upper part. -/
theorem extractLsb'_append_above {w v : Nat} (lo n : Nat) (h : v ≤ lo) (x : BitVec w) (y : BitVec v) :
    (x ++ y).extractLsb' lo n = x.extractLsb' (lo - v) n := BitVec.extractLsb'_append_eq_of_le h

/-- A field inside the lower part of a concatenation lies in that part. -/
theorem extractLsb'_append_below {w v : Nat} (lo n : Nat) (h : lo + n ≤ v) (x : BitVec w) (y : BitVec v) :
    (x ++ y).extractLsb' lo n = y.extractLsb' lo n := BitVec.extractLsb'_append_eq_of_add_le h

/-- A bit above the lower part of a concatenation lies in the upper part. -/
theorem getLsbD_append_above {w v : Nat} (i : Nat) (h : v ≤ i) (x : BitVec w) (y : BitVec v) :
    (x ++ y).getLsbD i = x.getLsbD (i - v) := by
  rw [BitVec.getLsbD_append, if_neg (by omega)]

/-- A bit inside the lower part of a concatenation lies in that part. -/
theorem getLsbD_append_below {w v : Nat} (i : Nat) (h : i < v) (x : BitVec w) (y : BitVec v) :
    (x ++ y).getLsbD i = y.getLsbD i := by
  rw [BitVec.getLsbD_append, if_pos h]

/-! ### The OP of a spelled word -/

/-- OP of a scalar/branch operation (Table 3.5). -/
def sbOp : SbOp → BitVec 6
  | .nop => 0x00
  | .alu _ _ _ _ => 0x01
  | .imm .addi _ _ _ => 0x02 | .imm .andi _ _ _ => 0x03 | .imm .ori _ _ _ => 0x04 | .imm .lui _ _ _ => 0x05
  | .amod _ _ _ => 0x08 | .movta _ _ => 0x09 | .movfa _ _ => 0x0A
  | .br _ _ _ => 0x10 | .jmp _ => 0x11 | .call _ => 0x12 | .jr _ => 0x13 | .bmxb _ _ => 0x14 | .rep _ _ _ => 0x18
  | .csr .read _ _ => 0x20 | .csr .write _ _ => 0x21 | .csr .set _ _ => 0x22 | .csr .clear _ _ => 0x23
  | .trap _ => 0x28 | .rett => 0x29 | .brk => 0x2A | .wait => 0x2B | .done _ => 0x2C

/-- The word of an immediate operation (SI format). -/
theorem spellSb_imm (fn : ImmFn) (sd sa : BitVec 4) (imm : BitVec 18) :
    spellSb (.imm fn sd sa imm) = sbOp (.imm fn sd sa imm) ++ sd ++ sa ++ imm := by cases fn <;> rfl

/-- The word of a control-register operation (CS format). -/
theorem spellSb_csr (fn : CsrFn) (ss : BitVec 4) (num : BitVec 12) :
    spellSb (.csr fn ss num) = sbOp (.csr fn ss num) ++ ss ++ num ++ 0#10 := by cases fn <;> rfl

/-- The spelled word has that OP in bits 31 to 26 (Table 3.4). -/
theorem fld_spellSb_op (op : SbOp) : fld (spellSb op) 26 6 = sbOp op := by
  cases op with
  | nop => rfl
  | imm fn _ _ _ =>
    rw [spellSb_imm]
    simp (disch := omega) only [fld, extractLsb'_append_above]
    exact BitVec.extractLsb'_eq_self
  | csr fn _ _ =>
    rw [spellSb_csr]
    simp (disch := omega) only [fld, extractLsb'_append_above]
    exact BitVec.extractLsb'_eq_self
  | _ => simp (disch := omega) only [spellSb, fld, extractLsb'_append_above]; rfl

/-- The OP of a decoded scalar/branch word is that of its operation. -/
theorem sbOp_of_decodeSb (w : Word) (op : SbOp) (h : decodeSb w = some op) : sbOp op = fld w 26 6 := by
  apply BitVec.eq_of_toNat_eq
  unfold decodeSb at h
  split at h <;> simp only [Option.ite_none_right_eq_some, Option.some.injEq, reduceCtorEq] at h
  all_goals rename_i hop; rw [hop]
  all_goals obtain ⟨-, rfl⟩ := h; rfl

/-- FN of the SR format reads back. -/
theorem aluOf_aluCode (fn : AluFn) : aluOf (aluCode fn) = fn := by cases fn <;> rfl

/-- A spelled scalar/branch word decodes as its operation. -/
theorem decodeSb_spellSb (op : SbOp) : decodeSb (spellSb op) = some op := by
  unfold decodeSb
  rw [fld_spellSb_op]
  cases op with
  | nop | rett | brk | wait => rfl
  | imm fn sd sa imm =>
    rw [spellSb_imm]
    cases fn <;> simp (disch := omega) only [sbOp, BitVec.ofNat_eq_ofNat, BitVec.toNat_ofNat, Nat.reducePow, Nat.reduceMod,
      Nat.reduceSub, fld, extractLsb'_append_above, extractLsb'_append_below, BitVec.extractLsb'_eq_self]
  | csr fn ss num =>
    rw [spellSb_csr]
    cases fn <;> simp (disch := omega) only [sbOp, BitVec.ofNat_eq_ofNat, BitVec.toNat_ofNat, Nat.reducePow, Nat.reduceMod,
      Nat.reduceSub, fld, extractLsb'_append_above, extractLsb'_append_below, BitVec.extractLsb'_eq_self, if_true]
  | _ =>
    simp (disch := omega) only [sbOp, spellSb, BitVec.ofNat_eq_ofNat, BitVec.toNat_ofNat, Nat.reducePow, Nat.reduceMod,
      Nat.reduceSub, fld, extractLsb'_append_above, extractLsb'_append_below, getLsbD_append_above, getLsbD_append_below,
      BitVec.extractLsb'_eq_self, BitVec.extractLsb'_zero, BitVec.getLsbD_ofBool, aluOf_aluCode, decide_true, Bool.true_and, and_self,
      if_true]

/-- The spelled load/store word has the number of its operation in bits 31 to 27 (R72). -/
theorem fld_spellLs_op (fn : LsFn) (r : BitVec 5) (an mn : BitVec 3) (mode : BitVec 2) (imm : BitVec 14) :
    fld (spellLs (.acc fn r an mn mode imm)) 27 5 = lsCode fn := by
  simp (disch := omega) only [spellLs, fld, extractLsb'_append_above]
  exact BitVec.extractLsb'_eq_self

/-- A spelled load/store word decodes as its operation. -/
theorem decodeLs_spellLs (op : LsOp) : decodeLs (spellLs op) = some op := by
  cases op with
  | nop => rfl
  | acc fn r an mn mode imm =>
    unfold decodeLs
    rw [fld_spellLs_op]
    cases fn <;> simp (disch := omega) only [lsCode, spellLs, BitVec.ofNat_eq_ofNat, BitVec.toNat_ofNat, Nat.reducePow, Nat.reduceMod,
      Nat.reduceSub, fld, extractLsb'_append_above, extractLsb'_append_below, BitVec.extractLsb'_eq_self]

/-- The OP of a decoded load/store word is that of its operation. -/
theorem fld_of_decodeLs (w : Word) (op : LsOp) (h : decodeLs w = some op) : fld (spellLs op) 27 5 = fld w 27 5 := by
  apply BitVec.eq_of_toNat_eq
  unfold decodeLs at h
  split at h <;> simp only [Option.some.injEq, reduceCtorEq] at h
  all_goals
    rename_i hop
    subst h
    rw [hop]
  case h_1 => rfl
  all_goals rw [fld_spellLs_op]; rfl

/-! ### Vector slots -/

/-- OP of a vector slot word (R73). -/
@[simp] theorem fld_vWord_op (op : BitVec 6) (d a b : BitVec 5) (fn : BitVec 6) (mod : BitVec 5) :
    fld (vWord op d a b fn mod) 26 6 = op := by
  simp (disch := omega) only [vWord, fld, extractLsb'_append_above]
  exact BitVec.extractLsb'_eq_self

/-- D of a vector slot word. -/
@[simp] theorem fld_vWord_d (op : BitVec 6) (d a b : BitVec 5) (fn : BitVec 6) (mod : BitVec 5) :
    fld (vWord op d a b fn mod) 21 5 = d := by
  simp (disch := omega) only [vWord, fld, extractLsb'_append_above, extractLsb'_append_below]
  exact BitVec.extractLsb'_eq_self

/-- A of a vector slot word. -/
@[simp] theorem fld_vWord_a (op : BitVec 6) (d a b : BitVec 5) (fn : BitVec 6) (mod : BitVec 5) :
    fld (vWord op d a b fn mod) 16 5 = a := by
  simp (disch := omega) only [vWord, fld, extractLsb'_append_above, extractLsb'_append_below]
  exact BitVec.extractLsb'_eq_self

/-- B of a vector slot word. -/
@[simp] theorem fld_vWord_b (op : BitVec 6) (d a b : BitVec 5) (fn : BitVec 6) (mod : BitVec 5) :
    fld (vWord op d a b fn mod) 11 5 = b := by
  simp (disch := omega) only [vWord, fld, extractLsb'_append_above, extractLsb'_append_below]
  exact BitVec.extractLsb'_eq_self

/-- A field of FN's six bits lies there in a vector slot word. -/
@[simp] theorem fld_vWord_fn (op : BitVec 6) (d a b : BitVec 5) (fn : BitVec 6) (mod : BitVec 5) :
    fld (vWord op d a b fn mod) 5 6 = fn := by
  simp (disch := omega) only [vWord, fld, extractLsb'_append_above, extractLsb'_append_below]
  exact BitVec.extractLsb'_eq_self

/-- The lane in FN's low five bits. -/
@[simp] theorem fld_vWord_lane (op : BitVec 6) (d a b : BitVec 5) (top : BitVec 1) (lane mod : BitVec 5) :
    fld (vWord op d a b (top ++ lane) mod) 5 5 = lane := by
  simp (disch := omega) only [vWord, fld, extractLsb'_append_above, extractLsb'_append_below]
  exact BitVec.extractLsb'_eq_self

/-- MOD of a vector slot word. -/
@[simp] theorem fld_vWord_mod (op : BitVec 6) (d a b : BitVec 5) (fn : BitVec 6) (mod : BitVec 5) :
    fld (vWord op d a b fn mod) 0 5 = mod := by
  simp (disch := omega) only [vWord, fld, extractLsb'_append_below]
  exact BitVec.extractLsb'_eq_self

/-- Bit 10 of a vector slot word is FN[5]. -/
@[simp] theorem getLsbD_vWord_ten (op : BitVec 6) (d a b : BitVec 5) (top : BitVec 1) (lane mod : BitVec 5) :
    (vWord op d a b (top ++ lane) mod).getLsbD 10 = top.getLsbD 0 := by
  simp (disch := omega) only [vWord, getLsbD_append_above, getLsbD_append_below]

/-- Bit 5 of a vector slot word is FN[0]. -/
@[simp] theorem getLsbD_vWord_five (op : BitVec 6) (d a b : BitVec 5) (fn : BitVec 6) (mod : BitVec 5) :
    (vWord op d a b fn mod).getLsbD 5 = fn.getLsbD 0 := by
  simp (disch := omega) only [vWord, getLsbD_append_above, getLsbD_append_below]

/-- The MXC instruction of an OP is the one that the OP spells, where FN[0] tells the forms of MXGETE apart. -/
theorem mxOf_mxCode (fn : MxFn) (fn0 : Bool) (he : fn = .getExp → fn0 = false) (hs : fn = .getSeq → fn0 = true) :
    mxOf (mxCode fn).toNat fn0 = fn := by
  cases fn with
  | getExp => rw [he rfl]; rfl
  | getSeq => rw [hs rfl]; rfl
  | _ => rfl

/-- Every MXC instruction has an OP from 0x30 up. -/
theorem mxCode_ge (fn : MxFn) : 0x30 ≤ (mxCode fn).toNat := by cases fn <;> decide

/-- A word with an OP from 0x30 up is no listed encoding in VA. -/
theorem decodeV_va_mx (w : Word) (h : 0x30 ≤ (fld w 26 6).toNat) : decodeV .va w = none := by
  unfold decodeV
  dsimp only
  split
  case h_11 => exact if_neg (by simp)
  all_goals rename_i hop; rw [hop] at h; omega

/-- A word with an OP from 0x30 up is an MXC instruction in VB. -/
theorem decodeV_vb_mx (w : Word) (h : 0x30 ≤ (fld w 26 6).toNat) :
    decodeV .vb w
      = some (.mx (mxOf (fld w 26 6).toNat (w.getLsbD 5)) (fld w 21 5) (fld w 16 5) (fld w 11 5) (fld w 5 6) (fld w 0 5)) := by
  unfold decodeV
  dsimp only
  split
  case h_11 => exact if_pos ⟨h, rfl⟩
  all_goals rename_i hop; rw [hop] at h; omega

/-- A spelled vector word of no MXC instruction decodes as its operation. -/
theorem decodeV_spellV (slot : VSlot) (op : VOp) (h : ∀ fn d a b fnf mod, op ≠ .mx fn d a b fnf mod) :
    decodeV slot (spellV op) = some op := by
  cases op with
  | mx fn d a b fnf mod => exact absurd rfl (h fn d a b fnf mod)
  | valu fn d a b mod => cases fn <;> simp [decodeV, spellV]
  | mul fn d a b fnf mod => cases fn <;> simp [decodeV, spellV]
  | perm fn d a b mod => cases fn <;> simp [decodeV, spellV]
  | nop => rfl
  | ins d a lane | ext d a lane =>
    simp only [decodeV, spellV, fld_vWord_op, fld_vWord_d, fld_vWord_a, fld_vWord_lane, getLsbD_vWord_ten]
    rfl
  | _ => simp [decodeV, spellV]

/-- Settles O60: the OP of a spelled word selects the row of the table, and every other field stands in its own bits. -/
theorem slotWordsReadBackAsTheirOperations : Obligations.SlotWordsReadBackAsTheirOperations := by
  unfold Obligations.SlotWordsReadBackAsTheirOperations
  refine ⟨decodeSb_spellSb, decodeLs_spellLs, decodeV_spellV, fun fn d a b fnf mod => ⟨?_, fun he hs => ?_⟩,
    fun w op h => (fld_spellSb_op op).trans (sbOp_of_decodeSb w op h), fld_of_decodeLs⟩
  · refine decodeV_va_mx _ ?_
    rw [spellV, fld_vWord_op]
    exact mxCode_ge fn
  · rw [decodeV_vb_mx _ (by rw [spellV, fld_vWord_op]; exact mxCode_ge fn)]
    simp only [spellV, fld_vWord_op, fld_vWord_d, fld_vWord_a, fld_vWord_b, fld_vWord_fn, fld_vWord_mod, getLsbD_vWord_five,
      mxOf_mxCode fn _ he hs]

end Sys2Proof.Machine
end

section
/-! SUPPORT. A lone scalar/branch slot of a signal core: what its bundle leaves, the trap it enters, the registers it names
(03_signal_cores.md, R61, R71, R91, R92). -/

namespace Sys2Proof.Machine
open Sys2Proof

/-! ### A core that issues -/

/-- A core by its number is the core of that index. -/
theorem Dev.core_val (d : Dev) (k : Fin 128) : d.core k.val = d.cores[k] := by
  unfold Dev.core
  congr 1
  exact Fin.ext (Nat.mod_eq_of_lt k.isLt)

/-- A core that issues does not wait. -/
theorem State.issues.not_waiting {s : State} {k : Fin 128} {i : Issue} (h : s.issues k i) : s.dev.cores[k].waiting = false := by
  have hissues := h.1
  rw [Dev.coreIssues, Dev.core_val] at hissues
  simpa using (Bool.and_eq_true_iff.mp hissues).2

/-- A lone scalar/branch slot is no illegal bundle. -/
theorem legal_lone_sb (op : SbOp) : bundleIllegal (bundleSb {} op) = false := by
  rw [bundleSb_empty]
  unfold bundleIllegal
  simp only [writesLs, writesV, genUpdates, isMulClass, any_contains_nil, List.append_nil, Bool.false_or, Bool.or_false,
    Bool.and_false]
  cases op with
  | amod an mn circ =>
    dsimp only
    revert an
    decide
  | _ => rfl

/-- The core that a step replaced. -/
@[simp] theorem State.withCore_core (s : State) (k : Fin 128) (c : Core) (m : Memory) : (s.withCore k c m).dev.cores[k] = c :=
  Vector.getElem_set_self _

/-! ### Its own effect -/

/-- Every scalar/branch operation but the branches goes on at the next bundle. -/
def sbGoesOn : SbOp → Bool
  | .br _ _ _ | .jmp _ | .call _ | .jr _ | .bmxb _ _ => false
  | _ => true

theorem nextPc_of_goesOn (env : CoreEnv) (o : Core) (op : SbOp) (h : sbGoesOn op = true) : nextPc env o (some op) = o.pc + 16 := by
  cases op with
  | br | jmp | call | jr | bmxb => exact absurd h Bool.false_ne_true
  | _ => rfl

/-- A lone slot that meets no check and goes on leaves the core with its effect, at the next bundle. -/
theorem issueSb_after (s : State) (k : Fin 128) (i : Issue) (op : SbOp) (c' : Core) (h : s.issues k i) (hw : i.words = {})
    (hs : checkSb (s.dev.coreEnv k) s.dev.cores[k] ⟨spellSb op, some op⟩ (decodeBundle i.next) = [])
    (hrep : ∀ x y z, op ≠ .rep x y z) (hrett : op ≠ .rett) (hpc : sbGoesOn op = true)
    (happly : applySb (s.dev.coreEnv k) s.dev.cores[k] s.dev.cores[k] (some op) = c')
    (hv : satintRaised s.dev.cores[k].corectl s.dev.cores[k].vstat c'.vstat = false) :
    issueSb k i op s = .next (s.after k i (bundleSb {} op) c') := by
  subst happly
  rw [exec_lone s k i op h hw hs hrep hrett hv, nextPc_of_goesOn _ _ op hpc]
  rfl

/-! ### The trap it enters -/

/-- Core `c` in the trap that a check of its scalar/branch slot raises: at Task in Supervisor, else in Monitor (R91, R92). -/
def Core.trapped (c : Core) (code eval : Word) : Core :=
  if c.level = .task then
    { c with trapS := { tvb := c.trapS.tvb, epc := c.pc, ecause := code, eval := eval, tstat := if c.ien.getLsbD 31 then 4 else 0 }
             ien := c.ien &&& 0x7FFFFFFF, level := .supervisor, pc := c.trapS.tvb + code * 16, repact := false, repcnt := 0
             loading := [], btcount := c.btcount + 12 }
  else
    { c with trapM := { tvb := c.trapM.tvb, epc := c.pc, ecause := code, eval := eval
                        tstat := (if c.level = .supervisor then 1 else 2) + (if c.ien.getLsbD 31 then 4 else 0) }
             ien := c.ien &&& 0x7FFFFFFF, level := .monitor, pc := c.trapM.tvb + code * 16, repact := false, repcnt := 0
             loading := [], btcount := c.btcount + 12 }

/-- No trap or interrupt touches REPMAX. -/
theorem enterTrap_repmax (c : Core) (toMonitor : Bool) (code slot : Nat) (int : Bool) (eval epc : Word) (prep : Option Nat) :
    (enterTrap c toMonitor code slot int eval epc prep).repmax = c.repmax := by cases toMonitor <;> rfl

/-- Entering a trap of slot 0 from a core that does not wait. -/
theorem enterTrap_trapped (c : Core) (code : Nat) (eval : Word) (hwait : c.waiting = false) :
    enterTrap c (c.level != .task) code 0 false eval c.pc none = c.trapped (BitVec.ofNat 32 code) eval := by
  have hpc : BitVec.ofNat 32 (16 * code) = BitVec.ofNat 32 code * 16 := by
    rw [Nat.mul_comm, BitVec.ofNat_mul]
    rfl
  unfold enterTrap Core.trapped
  cases hl : c.level <;> cases hg : c.ien.getLsbD 31 <;>
    simp [Core.trapRegs, Core.setTrapRegs, tstatOf, levelCode, hl, hg, hpc, hwait, -BitVec.getLsbD_eq_getElem]

/-- The codes whose target follows the level alone: all but ECC, WDOG and UNDEF (R91). -/
theorem trapToMonitor_of_level (c : Core) (code : Nat) (h9 : code ≠ 0x09) (h14 : code ≠ 0x14) (h2 : code ≠ 0x02) :
    trapToMonitor c code = (c.level != .task) := by
  simp [trapToMonitor, h9, h14, h2]

/-- A lone slot that fails one check of its own, other than UNDEF, is trapped. -/
theorem issueSb_trapped (s : State) (k : Fin 128) (i : Issue) (op : SbOp) (code : Nat) (eval : Word) (h : s.issues k i)
    (hw : i.words = {})
    (hs : checkSb (s.dev.coreEnv k) s.dev.cores[k] ⟨spellSb op, some op⟩ (decodeBundle i.next) = [⟨code, 0, eval⟩])
    (h9 : code ≠ 0x09) (h14 : code ≠ 0x14) (h2 : code ≠ 0x02) :
    issueSb k i op s = .next (s.withCore k (s.dev.cores[k].trapped (BitVec.ofNat 32 code) eval) s.dev.mem) := by
  rw [exec_lone_trap s k i op _ h hw hs (legal_lone_sb op) (by simp), trapToMonitor_of_level _ _ h9 h14 h2,
    enterTrap_trapped _ _ _ h.not_waiting]

end Sys2Proof.Machine
end

section
/-! SUPPORT. Control registers: what reading and writing them does at each level, and REPMAX (03_signal_cores.md, R86, R89, R90,
Tables 3.9, 3.12). -/

namespace Sys2Proof.Machine
open Sys2Proof

/-! ### Instructions as their slots -/

theorem exec_csrr (k : Fin 128) (i : Issue) (ss : BitVec 4) (num : BitVec 12) (s : State) :
    exec (.csrr k i ss num) s = issueSb k i (.csr .read ss num) s := rfl
theorem exec_csrw (k : Fin 128) (i : Issue) (ss : BitVec 4) (num : BitVec 12) (s : State) :
    exec (.csrw k i ss num) s = issueSb k i (.csr .write ss num) s := rfl

/-! ### Writing a control register -/

/-- VSTAT is written by its own number alone (Table 3.9). -/
theorem writeCsr_vstat (c : Core) (num : BitVec 12) (x : Word) (h : num ≠ 0x002) : (writeCsr c num x).vstat = c.vstat := by
  unfold writeCsr
  dsimp only
  split
  case h_2 hop => exact absurd (BitVec.eq_of_toNat_eq hop) h
  case h_4 | h_5 => split <;> rfl
  case h_12 => split <;> [rfl; split <;> rfl]
  all_goals rfl

/-- No write of a control register raises SATINT: bits of VSTAT can only be cleared. -/
theorem satintRaised_writeCsr (c : Core) (num : BitVec 12) (x : Word) :
    satintRaised c.corectl c.vstat (writeCsr c num x).vstat = false := by
  by_cases h : num = 0x002
  · have hcleared : c.vstat &&& ~~~(x &&& 3) &&& ~~~c.vstat = 0#32 := by
      ext j hj
      simp only [BitVec.getElem_and, BitVec.getElem_not, BitVec.getElem_zero]
      cases c.vstat[j] <;> simp
    rw [h]
    change satintRaised c.corectl c.vstat (c.vstat &&& ~~~(x &&& 3)) = false
    rw [satintRaised, hcleared, BitVec.zero_and]
    simp
  · rw [writeCsr_vstat c num x h]
    exact satintRaised_same _ _

/-- REPMAX is written by its own number alone, and never at Task; it then holds 1 to 4,096 (R86). -/
theorem writeCsr_repmax (c : Core) (num : BitVec 12) (x : Word) (h1 : 1 ≤ c.repmax.toNat) (h2 : c.repmax.toNat ≤ 4096) :
    1 ≤ (writeCsr c num x).repmax.toNat ∧ (writeCsr c num x).repmax.toNat ≤ 4096 := by
  unfold writeCsr
  dsimp only
  split
  case h_4 =>
    split
    · exact ⟨h1, h2⟩
    · dsimp only
      split
      · decide
      · rw [BitVec.toNat_ofNat]
        omega
  case h_5 => split <;> exact ⟨h1, h2⟩
  case h_12 => split <;> [skip; split] <;> exact ⟨h1, h2⟩
  all_goals exact ⟨h1, h2⟩

/-! ### Control-register instructions alone in a bundle -/

/-- A control-register instruction whose level may access its listed register meets no check. -/
theorem checkSb_csr (env : CoreEnv) (c : Core) (w : Word) (next : Bundle) (fn : CsrFn) (ss : BitVec 4) (num : BitVec 12) (old : Word)
    (hbar : csrBarred c.level num = false) (hread : readCsr env c num = some old) :
    checkSb env c ⟨w, some (.csr fn ss num)⟩ next = [] := by
  simp [checkSb, hbar, hread]

/-- One that the level may not access fails with PRIV (R90). -/
theorem checkSb_csr_barred (env : CoreEnv) (c : Core) (w : Word) (next : Bundle) (fn : CsrFn) (ss : BitVec 4) (num : BitVec 12)
    (hbar : csrBarred c.level num = true) : checkSb env c ⟨w, some (.csr fn ss num)⟩ next = [⟨0x03, 0, w⟩] := by
  simp [checkSb, hbar]

/-- One of an unlisted register fails with UNDEF (R90). -/
theorem checkSb_csr_unlisted (env : CoreEnv) (c : Core) (w : Word) (next : Bundle) (fn : CsrFn) (ss : BitVec 4) (num : BitVec 12)
    (hbar : csrBarred c.level num = false) (hread : readCsr env c num = none) :
    checkSb env c ⟨w, some (.csr fn ss num)⟩ next = [⟨0x02, 0, w⟩] := by
  simp [checkSb, hbar, hread]

/-- The effect of an instruction that writes a control register. -/
theorem applySb_csrOp (env : CoreEnv) (o c : Core) (fn : CsrFn) (ss : BitVec 4) (num : BitVec 12) (old : Word) (hfn : fn ≠ .read)
    (hread : readCsr env o num = some old) :
    applySb env o c (some (.csr fn ss num)) = writeCsr c num (csrOpValue fn num old o.s[ss.toFin]) := by
  have hold : (readCsr env o num).getD 0 = old := by rw [hread]; rfl
  rw [← hold]
  cases fn with
  | read => exact absurd rfl hfn
  | write | set | clear => rfl

/-- A listed control register other than VSTAT, which holds `old` and which a write of a word changes as `f` says. -/
structure CsrRow (env : CoreEnv) (c : Core) (num : BitVec 12) (old : Word) (f : Word → Core) : Prop where
  read : readCsr env c num = some old
  notVstat : num ≠ 0x002
  write : ∀ w, writeCsr c num w = f w

section
variable (s : State) (k : Fin 128) (i : Issue) (ss : BitVec 4) (num : BitVec 12) (h : s.issues k i) (hw : i.words = {})
include h hw

/-- CSRR of a register that the level may read. -/
theorem csrr_lone (w : Word) (hbar : csrBarred s.dev.cores[k].level num = false)
    (hread : readCsr (s.dev.coreEnv k) s.dev.cores[k] num = some w) :
    issueSb k i (.csr .read ss num) s
      = .next (s.after k i (bundleSb {} (.csr .read ss num)) { s.dev.cores[k] with s := s.dev.cores[k].s.set ss.toFin w }) := by
  have hvalue : (readCsr (s.dev.coreEnv k) s.dev.cores[k] num).getD 0 = w := by rw [hread]; rfl
  rw [← hvalue]
  exact issueSb_after s k i (.csr .read ss num) _ h hw (checkSb_csr _ _ _ _ _ _ _ _ hbar hread) (by simp) (by simp) rfl rfl
    (satintRaised_same _ _)

/-- CSRW, CSRS and CSRC of a register that the level may access. -/
theorem csrOp_lone (fn : CsrFn) (old : Word) (hfn : fn ≠ .read) (hbar : csrBarred s.dev.cores[k].level num = false)
    (hread : readCsr (s.dev.coreEnv k) s.dev.cores[k] num = some old) :
    issueSb k i (.csr fn ss num) s = .next (s.after k i (bundleSb {} (.csr fn ss num))
      (writeCsr s.dev.cores[k] num (csrOpValue fn num old s.dev.cores[k].s[ss.toFin]))) :=
  issueSb_after s k i (.csr fn ss num) _ h hw (checkSb_csr _ _ _ _ _ _ _ _ hbar hread) (by simp) (by simp) rfl
    (applySb_csrOp _ _ _ _ _ _ _ hfn hread) (satintRaised_writeCsr _ _ _)

/-- What CSRW, CSRS and CSRC do to a row of Table 3.9. -/
theorem csrOps_lone (old : Word) (f : Word → Core) (hbar : csrBarred s.dev.cores[k].level num = false)
    (hrow : CsrRow (s.dev.coreEnv k) s.dev.cores[k] num old f) :
    exec (.csrw k i ss num) s = .next (s.after k i (bundleSb {} (.csr .write ss num)) (f s.dev.cores[k].s[ss.toFin]))
    ∧ exec (.csrs k i ss num) s = .next (s.after k i (bundleSb {} (.csr .set ss num)) (f (old ||| s.dev.cores[k].s[ss.toFin])))
    ∧ exec (.csrc k i ss num) s = .next (s.after k i (bundleSb {} (.csr .clear ss num)) (f (old &&& ~~~s.dev.cores[k].s[ss.toFin]))) := by
  obtain ⟨hread, hnum, hf⟩ := hrow
  have hop := fun fn hfn => csrOp_lone s k i ss num h hw fn old hfn hbar hread
  have hset : csrOpValue .set num old s.dev.cores[k].s[ss.toFin] = old ||| s.dev.cores[k].s[ss.toFin] := if_neg hnum
  have hclear : csrOpValue .clear num old s.dev.cores[k].s[ss.toFin] = old &&& ~~~s.dev.cores[k].s[ss.toFin] := if_neg hnum
  rw [← hf, ← hf, ← hf, ← hset, ← hclear]
  exact ⟨hop .write (by simp), hop .set (by simp), hop .clear (by simp)⟩

/-- An access of a control register barred to the level is trapped with PRIV (R90). -/
theorem csr_barred (fn : CsrFn) (hbar : csrBarred s.dev.cores[k].level num = true) :
    issueSb k i (.csr fn ss num) s
      = .next (s.withCore k (s.dev.cores[k].trapped 3 (spellSb (.csr fn ss num))) s.dev.mem) :=
  issueSb_trapped s k i _ 3 _ h hw (checkSb_csr_barred _ _ _ _ _ _ _ hbar) (by decide) (by decide) (by decide)

/-- CSRW, CSRS and CSRC of any number keep REPMAX from 1 to 4,096, also where they trap (R86). -/
theorem csrOp_repmax (fn : CsrFn) (hfn : fn ≠ .read) (t : State) (h1 : 1 ≤ s.dev.cores[k].repmax.toNat)
    (h2 : s.dev.cores[k].repmax.toNat ≤ 4096) (ht : issueSb k i (.csr fn ss num) s = .next t) :
    1 ≤ t.dev.cores[k].repmax.toNat ∧ t.dev.cores[k].repmax.toNat ≤ 4096 := by
  cases hbar : csrBarred s.dev.cores[k].level num with
  | true =>
    rw [exec_lone_trap s k i _ _ h hw (checkSb_csr_barred _ _ _ _ _ _ _ hbar) (legal_lone_sb _) (by simp)] at ht
    obtain rfl := Host.Outcome.next.inj ht
    rw [State.withCore_core, enterTrap_repmax]
    exact ⟨h1, h2⟩
  | false =>
    cases hread : readCsr (s.dev.coreEnv k) s.dev.cores[k] num with
    | none =>
      rw [exec_lone_trap s k i _ _ h hw (checkSb_csr_unlisted _ _ _ _ _ _ _ hbar hread) (legal_lone_sb _) (by simp)] at ht
      obtain rfl := Host.Outcome.next.inj ht
      rw [State.withCore_core, enterTrap_repmax]
      exact ⟨h1, h2⟩
    | some old =>
      rw [csrOp_lone s k i ss num h hw fn old hfn hbar hread] at ht
      obtain rfl := Host.Outcome.next.inj ht
      rw [State.after, State.withCore_core]
      exact writeCsr_repmax _ _ _ h1 h2
end

/-- Who may access a register at a level, from what Table 3.9 bars at Task and at Supervisor. -/
theorem csrBarred_eq_false (l : Level) (num : BitVec 12) (task sup : Bool) (htask : (task && csrBarred .task num) = false)
    (hsup : (sup && csrBarred .supervisor num) = false) (ht : l = .task → task = true) (hs : l = .supervisor → sup = true) :
    csrBarred l num = false := by
  cases l with
  | task => rwa [ht rfl] at htask
  | supervisor => rwa [hs rfl] at hsup
  | monitor => rfl

/-- Settles O4: each row of Table 3.9 by the law of CSRR. -/
theorem controlRegisterReads : Obligations.ControlRegisterReads := by
  unfold Obligations.ControlRegisterReads
  intro s k i ss h hw c env row hrow ht hs
  rw [exec_csrr]
  simp only [List.mem_cons, List.not_mem_nil, or_false] at hrow
  rcases hrow with rfl | rfl | rfl | rfl | rfl | rfl | rfl | rfl | rfl | rfl | rfl | rfl | rfl | rfl | rfl | rfl | rfl | rfl | rfl
    | rfl | rfl | rfl | rfl | rfl | rfl | rfl | rfl | rfl | rfl
  all_goals exact csrr_lone s k i ss _ h hw _ (csrBarred_eq_false _ _ _ _ rfl rfl ht hs) rfl

end Sys2Proof.Machine
end

section
/-! SUPPORT. Writes of the control registers and the traps of the scalar/branch slot (03_signal_cores.md, R86, R89 to R92, R94,
Tables 3.9, 3.12, 3.14). -/

namespace Sys2Proof.Machine
open Sys2Proof

/-! ### Writes of single registers -/

/-- REPMAX above Task (R86). -/
theorem writeCsr_006 (c : Core) (w : Word) (h : c.level ≠ .task) :
    writeCsr c 0x006 w = { c with
      repmax := if w.extractLsb' 0 13 = 0 then 0x1000 else if (0x1000#13).ult (w.extractLsb' 0 13) then 0x1000 else w.extractLsb' 0 13 } := by
  change (if c.level = .task then c else { c with
    repmax := if (w.extractLsb' 0 13).toNat = 0 ∨ 4096 < (w.extractLsb' 0 13).toNat then 0x1000
      else BitVec.ofNat 13 (w.extractLsb' 0 13).toNat }) = _
  rw [if_neg h]
  generalize w.extractLsb' 0 13 = v
  have hzero : v.toNat = 0 ↔ v = 0 := ⟨fun hv => BitVec.eq_of_toNat_eq hv, fun hv => by rw [hv]; rfl⟩
  have hlarge : (0x1000#13).ult v = true ↔ 4096 < v.toNat := by simp [BitVec.ult]
  simp only [hzero, hlarge, BitVec.ofNat_toNat, BitVec.setWidth_eq]
  by_cases h0 : v = 0#13 <;> simp [h0]

/-- REPMAX at Task is read-only. -/
theorem writeCsr_006_task (c : Core) (w : Word) (h : c.level = .task) : writeCsr c 0x006 w = c := if_pos h

/-- MXEN at Monitor. -/
theorem writeCsr_010_monitor (c : Core) (w : Word) (h : c.level = .monitor) : writeCsr c 0x010 w = { c with mxen := w.setWidth 3 } := by
  change (match c.level with | .task => c | .supervisor => _ | .monitor => _) = _
  rw [h]

/-- MXEN at Supervisor, who cannot change Monitor's bit. -/
theorem writeCsr_010_supervisor (c : Core) (w : Word) (h : c.level = .supervisor) :
    writeCsr c 0x010 w = { c with mxen := (c.mxen &&& 4) ||| (w.setWidth 3 &&& 3) } := by
  change (match c.level with | .task => c | .supervisor => _ | .monitor => _) = _
  rw [h]

/-- MXEN at Task is read-only. -/
theorem writeCsr_010_task (c : Core) (w : Word) (h : c.level = .task) : writeCsr c 0x010 w = c := by
  change (match c.level with | .task => c | .supervisor => _ | .monitor => _) = _
  rw [h]

/-- A level that neither of two bars is Monitor. -/
theorem level_monitor (l : Level) (ht : l = .task → false = true) (hs : l = .supervisor → false = true) : l = .monitor := by
  cases l with
  | task => exact absurd (ht rfl) Bool.false_ne_true
  | supervisor => exact absurd (hs rfl) Bool.false_ne_true
  | monitor => rfl

/-- Settles O5: each row of Table 3.9 by the law of CSRW, CSRS and CSRC, with what its write changes. -/
theorem controlRegisterWrites : Obligations.ControlRegisterWrites := by
  unfold Obligations.ControlRegisterWrites
  intro s k i ss h hw c x go
  have hopen : ∀ num, csrBarred .task num = false → csrBarred .supervisor num = false → csrBarred c.level num = false :=
    fun num htask hsup => csrBarred_eq_false _ _ true true htask hsup (fun _ => rfl) (fun _ => rfl)
  refine ⟨fun row hrow ht hs => ?_, ?_, fun hsup => ?_, fun num hnum => ?_, fun htask => ⟨?_, ?_⟩⟩
  · have hlaw : csrBarred c.level row.1 = false ∧ CsrRow (s.dev.coreEnv k) c row.1 row.2.2.2.1 row.2.2.2.2 := by
      simp only [List.mem_cons, List.not_mem_nil, or_false] at hrow
      rcases hrow with rfl | rfl | rfl | rfl | rfl | rfl | rfl | rfl | rfl | rfl | rfl | rfl | rfl | rfl | rfl | rfl | rfl | rfl
        | rfl | rfl
      all_goals refine ⟨csrBarred_eq_false _ _ _ _ rfl rfl ht hs, rfl, by dsimp only; decide, ?_⟩
      case inr.inr.inl => exact fun w => writeCsr_006 _ _ (fun he => Bool.false_ne_true (ht he))
      case inr.inr.inr.inl => exact fun w => writeCsr_010_monitor _ _ (level_monitor _ ht hs)
      all_goals exact fun _ => rfl
    exact csrOps_lone s k i ss row.1 h hw row.2.2.2.1 row.2.2.2.2 hlaw.1 hlaw.2
  · exact csrOp_lone s k i ss 0x002 h hw .write _ (by simp) (hopen _ rfl rfl) rfl
  · rw [exec_csrw, csrOp_lone s k i ss 0x010 h hw .write _ (by simp) (hopen _ rfl rfl) rfl, writeCsr_010_supervisor _ _ hsup]
    rfl
  · have hlaw : csrBarred c.level num = false ∧ ∃ old, CsrRow (s.dev.coreEnv k) c num old (fun _ => c) := by
      simp only [List.mem_cons, List.not_mem_nil, or_false] at hnum
      rcases hnum with rfl | rfl | rfl | rfl | rfl | rfl | rfl
      all_goals exact ⟨hopen _ rfl rfl, _, rfl, by decide, fun _ => rfl⟩
    obtain ⟨hbar, old, hrow⟩ := hlaw
    exact csrOps_lone s k i ss num h hw old _ hbar hrow
  · rw [exec_csrw, csrOp_lone s k i ss 0x006 h hw .write _ (by simp) (hopen _ rfl rfl) rfl, writeCsr_006_task _ _ htask]
  · rw [exec_csrw, csrOp_lone s k i ss 0x010 h hw .write _ (by simp) (hopen _ rfl rfl) rfl, writeCsr_010_task _ _ htask]

/-! ### Traps of the scalar/branch slot -/

theorem exec_trap (k : Fin 128) (i : Issue) (service : BitVec 18) (s : State) :
    exec (.trap k i service) s = issueSb k i (.trap service) s := rfl
theorem exec_done (k : Fin 128) (i : Issue) (sa : BitVec 4) (s : State) : exec (.done k i sa) s = issueSb k i (.done sa) s := rfl

/-- A trap at Supervisor goes to Monitor, and TSTAT saves level 1. -/
theorem Core.trapped_supervisor (c : Core) (code eval : Word) (h : c.level = .supervisor) :
    c.trapped code eval = { c with
      trapM := { tvb := c.trapM.tvb, epc := c.pc, ecause := code, eval := eval, tstat := if c.ien.getLsbD 31 then 5 else 1 }
      ien := c.ien &&& 0x7FFFFFFF, level := .monitor, pc := c.trapM.tvb + code * 16, repact := false, repcnt := 0, loading := []
      btcount := c.btcount + 12 } := by
  unfold Core.trapped
  rw [h]
  cases c.ien.getLsbD 31 <;> rfl

/-- The word of DONE. -/
theorem spellSb_done (sa : BitVec 4) : spellSb (.done sa) = 0xB0000000 ||| sa.setWidth 32 <<< 18 := by
  have hall : ∀ n : Fin 16, spellSb (.done ⟨n⟩) = 0xB0000000 ||| (⟨n⟩ : BitVec 4).setWidth 32 <<< 18 := by decide
  exact hall sa.toFin

/-- The control registers of Table 3.9 that are barred to Task, and to Supervisor. -/
theorem csrBarred_listed :
    (∀ num ∈ ([0x001, 0x020, 0x021, 0x022, 0x023, 0x024, 0x030, 0x031, 0x032, 0x033, 0x034, 0x040, 0x041, 0x050, 0x051, 0x052,
        0x053, 0x070] : List (BitVec 12)), csrBarred .task num = true)
    ∧ ∀ num ∈ ([0x030, 0x031, 0x032, 0x033, 0x034] : List (BitVec 12)), csrBarred .supervisor num = true :=
  ⟨List.all_eq_true.mp rfl, List.all_eq_true.mp rfl⟩

/-- Settles O6: PRIV by the law of a failing check, at Task to Supervisor and at Supervisor to Monitor. -/
theorem privilegedInstructionsTrapAtTaskLevel : Obligations.PrivilegedInstructionsTrapAtTaskLevel := by
  unfold Obligations.PrivilegedInstructionsTrapAtTaskLevel
  intro s k i h hw c toS toM
  refine ⟨fun htask => ?_, fun hsup ss num hnum => ?_⟩
  · have htoS : ∀ w, toS w = s.withCore k (c.trapped 3 w) s.dev.mem := fun w => by
      rw [Core.trapped, if_pos htask]
      rfl
    have hpriv : ∀ op, checkSb (s.dev.coreEnv k) c ⟨spellSb op, some op⟩ (decodeBundle i.next) = [⟨0x03, 0, spellSb op⟩] →
        issueSb k i op s = .next (toS (spellSb op)) := fun op hs => by
      rw [htoS]
      exact issueSb_trapped s k i op 3 _ h hw hs (by decide) (by decide) (by decide)
    refine ⟨hpriv .rett (if_pos htask), hpriv .wait (if_pos htask), fun sa => ?_, fun ss num hnum => ?_⟩
    · rw [exec_done, hpriv (.done sa) (if_pos htask), spellSb_done]
    · have hbar : csrBarred c.level num = true := by rw [htask]; exact csrBarred_listed.1 num hnum
      have hcsr := fun fn => hpriv (.csr fn ss num) (checkSb_csr_barred _ _ _ _ _ _ _ hbar)
      exact ⟨hcsr .read, hcsr .write, hcsr .set, hcsr .clear⟩
  · have hbar : csrBarred c.level num = true := by rw [hsup]; exact csrBarred_listed.2 num hnum
    have hcsr : ∀ fn, issueSb k i (.csr fn ss num) s = .next (toM (spellSb (.csr fn ss num))) := fun fn => by
      rw [csr_barred s k i ss num h hw fn hbar, Core.trapped_supervisor _ _ _ hsup]
      rfl
    exact ⟨hcsr .read, hcsr .write⟩

/-- Settles O7: SYSCALL and BREAK by the law of a failing check, and BRK that only passes. -/
theorem systemCallAndBreakpoint : Obligations.SystemCallAndBreakpoint := by
  unfold Obligations.SystemCallAndBreakpoint
  intro s k i h hw c entry
  refine ⟨fun service => ?_, fun hset => ?_, fun hclear => ?_⟩
  · exact issueSb_trapped s k i (.trap service) 6 _ h hw rfl (by decide) (by decide) (by decide)
  · exact issueSb_trapped s k i .brk 7 _ h hw (if_pos hset) (by decide) (by decide) (by decide)
  · have hs : checkSb (s.dev.coreEnv k) c ⟨spellSb .brk, some .brk⟩ (decodeBundle i.next) = [] := if_neg (by rw [hclear]; decide)
    exact issueSb_after s k i .brk _ h hw hs (by simp) (by simp) rfl rfl (satintRaised_same _ _)

/-- Settles O9: REPLIM by the law of a failing check, and REPMAX by what every write of a control register keeps. -/
theorem repeatLimits : Obligations.RepeatLimits := by
  unfold Obligations.RepeatLimits
  refine ⟨fun s k i fromReg sa count h hw => ?_, fun k => ?_, fun s t k i ss num h hw hrange ht => ?_, fun s k i ss h hw hlevel hzero => ?_⟩
  · intro c n hn hrep w hword
    subst hword
    have hs : checkSb (s.dev.coreEnv k) c ⟨spellSb (.rep fromReg sa count), some (.rep fromReg sa count)⟩ (decodeBundle i.next)
        = [⟨0x04, 0, spellSb (.rep fromReg sa count)⟩] := by
      change (if n = 0 ∨ c.repmax.toNat < n then _ else _) ++ (if repeatable (decodeBundle i.next) then _ else _) = _
      rw [if_pos hn, if_pos hrep]
      rfl
    exact issueSb_trapped s k i _ 4 _ h hw hs (by decide) (by decide) (by decide)
  · change (Vector.replicate 128 ({} : Core))[k].repmax = 0x1000
    rw [Fin.getElem_fin, Vector.getElem_replicate]
  · obtain ⟨h1, h2⟩ := hrange
    rcases ht with ht | ht | ht
    · exact csrOp_repmax s k i ss num h hw .write (by simp) t h1 h2 ht
    · exact csrOp_repmax s k i ss num h hw .set (by simp) t h1 h2 ht
    · exact csrOp_repmax s k i ss num h hw .clear (by simp) t h1 h2 ht
  · have hbar : csrBarred s.dev.cores[k].level 0x006 = false :=
      csrBarred_eq_false _ _ true true rfl rfl (fun _ => rfl) (fun _ => rfl)
    refine ⟨_, csrOp_lone s k i ss 0x006 h hw .write _ (by simp) hbar rfl, ?_⟩
    rw [State.after, State.withCore_core, writeCsr_006 _ _ hlevel]
    change (if (s.dev.cores[k].s[ss.toFin]).extractLsb' 0 13 = 0 then _ else _ : BitVec 13).toNat = 4096
    rw [hzero]
    rfl

end Sys2Proof.Machine
end

section
/-! SUPPORT. RETT and REP: a bundle that meets no check, the return from a trap, the iterations of a repeat (03_signal_cores.md,
R84 to R87, R92). -/

namespace Sys2Proof.Machine
open Sys2Proof

/-! ### One issue of a bundle that meets no check -/

/-- A bundle that may be fetched and meets no check takes effect in all four slots. -/
theorem issueOnce_clean (env : CoreEnv) (r : CoreRun) (b next : Bundle) (waits : BitVec 3) (ecc : BundleEcc) (prep : Option Nat)
    (hf : fetchOk r.core = true) (ht : bundleTraps env r.core b next = []) :
    issueOnce env r b next waits ecc prep = applyBundle env r b waits ecc := by
  unfold issueOnce
  rw [if_neg (by rw [hf]; decide), ht]
  rfl

/-- A lone scalar/branch slot that fails no check of its own meets none. -/
theorem bundleTraps_lone_sb (env : CoreEnv) (c : Core) (op : SbOp) (next : Bundle)
    (hs : checkSb env c ⟨spellSb op, some op⟩ next = []) : bundleTraps env c (bundleSb {} op) next = [] := by
  unfold bundleTraps
  rw [legal_lone_sb, bundleSb_empty]
  dsimp only
  rw [hs]
  rfl

/-- Core `o` after the effect `c` of a lone scalar/branch slot: PC and BTCOUNT with it, and nothing still loading. -/
def Core.stepped (env : CoreEnv) (o c : Core) (op : SbOp) (waits : BitVec 3) : Core :=
  { c with pc := nextPc env o (some op), btcount := o.btcount + BitVec.ofNat 32 (bundleCost env o (bundleSb {} op) waits), loading := [] }

/-- What a lone scalar/branch slot does, where nothing is reported and its effect leaves VSTAT alone. -/
theorem applyBundle_lone_sb (env : CoreEnv) (o c : Core) (m : Memory) (op : SbOp) (waits : BitVec 3)
    (happly : applySb env o o (some op) = c) (hv : c.vstat = o.vstat) :
    applyBundle env { core := o, mem := m } (bundleSb {} op) waits .none = { core := o.stepped env c op waits, mem := m } := by
  have hsat : satintRaised o.corectl o.vstat c.vstat = false := by rw [hv]; exact satintRaised_same _ _
  subst happly
  rw [bundleSb_empty]
  unfold applyBundle
  dsimp only [loadError, applyV]
  rw [hsat]
  rfl

/-- What a device with a running core issues, where the bundle reports nothing outward. -/
theorem issueSb_run (s : State) (k : Fin 128) (i : Issue) (op : SbOp) (c : Core) (h : s.issues k i) (hw : i.words = {})
    (hr : runBundle (s.dev.coreEnv k) { core := s.dev.cores[k], mem := s.dev.mem } (bundleSb {} op) i = { core := c, mem := s.dev.mem }) :
    issueSb k i op s = .next (s.withCore k c s.dev.mem) := by
  have hup := h.1
  unfold issueSb
  rw [hw]
  change Host.Outcome.next { s with dev := s.dev.issue k i (bundleSb {} op) } = _
  unfold Dev.issue
  rw [if_pos hup, hr]
  rfl

/-! ### RETT -/

/-- RETT alone at Supervisor or Monitor, with no repeat to resume, returns from the trap (R92). -/
theorem rett_lone (s : State) (k : Fin 128) (i : Issue) (h : s.issues k i) (hw : i.words = {}) (hlevel : s.dev.cores[k].level ≠ .task)
    (hprep : resumeCount s.dev.cores[k] = 0) :
    exec (.rett k i) s = .next (s.withCore k
      (leaveTrap (s.dev.cores[k].stepped (s.dev.coreEnv k) s.dev.cores[k] .rett i.waits)) s.dev.mem) := by
  have hfetch := h.2.1
  have hecc := h.2.2.1
  have hparity := h.2.2.2
  have hs : checkSb (s.dev.coreEnv k) s.dev.cores[k] ⟨spellSb .rett, some .rett⟩ (decodeBundle i.next) = [] := if_neg hlevel
  refine issueSb_run s k i .rett _ h hw ?_
  unfold runBundle
  rw [hecc, hparity]
  dsimp only
  rw [issueOnce_clean _ _ _ _ _ _ _ hfetch (bundleTraps_lone_sb _ _ _ _ hs), applyBundle_lone_sb _ _ _ _ _ _ rfl rfl, hprep]
  rfl

/-- GIE after a return: clear, or set again where TSTAT saved it set. -/
theorem gie_restored (ien : Word) (b : Bool) :
    (if b then ien ||| 0x80000000 else ien &&& 0x7FFFFFFF) = (ien &&& 0x7FFFFFFF) ||| (if b then 0x80000000 else 0) := by
  cases b with
  | false => simp
  | true =>
    ext j hj
    simp only [if_true, BitVec.getElem_or, BitVec.getElem_and]
    interval_cases j <;> simp

/-- The word of IEN with GIE cleared and put back. -/
theorem gie_put_back (ien : Word) : (ien &&& 0x7FFFFFFF) ||| (if ien.getLsbD 31 then 0x80000000 else 0) = ien := by
  ext j hj
  cases hg : ien.getLsbD 31 with
  | false =>
    have hmsb : ien[31] = false := hg
    simp only [BitVec.getElem_or, BitVec.getElem_and]
    interval_cases j <;> simp [hmsb]
  | true =>
    have hmsb : ien[31] = true := hg
    simp only [if_true, BitVec.getElem_or, BitVec.getElem_and]
    interval_cases j <;> simp [hmsb]

/-- A return from a trap, from the trap registers of its level (R92). -/
theorem leaveTrap_of_regs (c : Core) (t : TrapRegs) (ht : c.trapRegs (c.level == .monitor) = t) :
    leaveTrap c = { c with level := levelOf (t.tstat.extractLsb' 0 2)
                           ien := (c.ien &&& 0x7FFFFFFF) ||| (if t.tstat.getLsbD 2 then 0x80000000 else 0), pc := t.epc } := by
  subst ht
  rw [← gie_restored]
  rfl

/-- A Task in its trap. -/
theorem Core.trapped_task (c : Core) (code eval : Word) (h : c.level = .task) :
    c.trapped code eval = { c with
      trapS := { tvb := c.trapS.tvb, epc := c.pc, ecause := code, eval := eval, tstat := if c.ien.getLsbD 31 then 4 else 0 }
      ien := c.ien &&& 0x7FFFFFFF, level := .supervisor, pc := c.trapS.tvb + code * 16, repact := false, repcnt := 0
      loading := [], btcount := c.btcount + 12 } := if_pos h

/-- A TSTAT that saves Task and GIE alone. -/
theorem tstat_of_task (gie : Bool) :
    levelOf ((if gie then 4 else 0 : Word).extractLsb' 0 2) = .task ∧ (if gie then 4 else 0 : Word).getLsbD 2 = gie
      ∧ (if gie then 4 else 0 : Word).getLsbD 3 = false := by
  cases gie <;> exact ⟨rfl, rfl, rfl⟩

/-- The trap of a Task that repeats nothing leaves nothing to resume. -/
theorem resumeCount_trapped (c : Core) (code eval : Word) (h : c.level = .task) : resumeCount (c.trapped code eval) = 0 := by
  rw [Core.trapped_task c code eval h]
  change (if (if c.ien.getLsbD 31 then 4 else 0 : Word).getLsbD 3 then _ else 0) = 0
  rw [(tstat_of_task _).2.2]
  rfl

/-- TRAP and then RETT: what a return from the trap of a Task gives back. -/
theorem leaveTrap_trapped (env : CoreEnv) (c : Core) (code eval : Word) (waits : BitVec 3) (h : c.level = .task) :
    leaveTrap ((c.trapped code eval).stepped env (c.trapped code eval) .rett waits)
      = { c with trapS := (c.trapped code eval).trapS, repact := false, repcnt := 0
                 btcount := ((c.trapped code eval).stepped env (c.trapped code eval) .rett waits).btcount, loading := [] } := by
  obtain ⟨hlevel, hpie, -⟩ := tstat_of_task (c.ien.getLsbD 31)
  have hien : c.ien &&& 0x7FFFFFFF &&& 0x7FFFFFFF ||| (if c.ien.getLsbD 31 then 0x80000000 else 0) = c.ien := by
    rw [BitVec.and_assoc, BitVec.and_self, gie_put_back]
  rw [Core.trapped_task c code eval h,
    leaveTrap_of_regs _ { tvb := c.trapS.tvb, epc := c.pc, ecause := code, eval := eval, tstat := if c.ien.getLsbD 31 then 4 else 0 } rfl]
  simp only [hlevel, hpie, Core.stepped, hien, ← h]

/-- Settles O8: RETT by the law of a lone RETT, and TRAP then RETT by what TRAP saved. -/
theorem returnFromATrapUndoesItsEntry : Obligations.ReturnFromATrapUndoesItsEntry := by
  unfold Obligations.ReturnFromATrapUndoesItsEntry
  refine ⟨fun s k i h hw => ?_, fun s t u k i j n h hw hwj htask ht hissues hu => ?_⟩
  · intro c hlevel t hregs hprep
    have ht : t = c.trapRegs (c.level == .monitor) := by
      rw [hregs, Core.trapRegs]
      cases c.level <;> rfl
    have hcount : resumeCount c = 0 := by
      unfold resumeCount
      rw [← ht]
      exact if_neg (by rw [hprep]; decide)
    rw [rett_lone s k i h hw hlevel hcount]
    congr 2
    exact leaveTrap_of_regs _ t ht.symm
  · have htrap := issueSb_trapped s k i (.trap n) 6 _ h hw rfl (by decide) (by decide) (by decide)
    rw [exec_trap, htrap] at ht
    obtain rfl := Host.Outcome.next.inj ht
    have hcore := State.withCore_core s k (s.dev.cores[k].trapped 6#32 (n.signExtend 32)) s.dev.mem
    have hsup : (s.dev.cores[k].trapped 6#32 (n.signExtend 32)).level = .supervisor := by rw [Core.trapped, if_pos htask]
    rw [rett_lone _ k j hissues hwj (by rw [hcore, hsup]; decide) (by rw [hcore]; exact resumeCount_trapped _ _ _ htask)] at hu
    obtain rfl := Host.Outcome.next.inj hu
    refine ⟨rfl, ?_⟩
    rw [State.withCore_core, hcore]
    exact leaveTrap_trapped _ _ _ _ _ htask

/-! ### REP -/

/-- The scalar registers after `n` times ADDI (R84). -/
def addiTimes (sd sa : BitVec 4) (x : Word) (n : Nat) (s : Vector Word 16) : Vector Word 16 :=
  (fun s => s.set sd.toFin (s[sa.toFin] + x))^[n] s

/-- ADDI n times in a row adds up where it reads what it writes, and else gives the same sum again. -/
theorem addiTimes_eq (sd sa : BitVec 4) (x : Word) (n : Nat) (s : Vector Word 16) :
    addiTimes sd sa x (n + 1) s
      = s.set sd.toFin (if sd = sa then s[sa.toFin] + BitVec.ofNat 32 (n + 1) * x else s[sa.toFin] + x) := by
  induction n with
  | zero => simp [addiTimes]
  | succ n ih =>
    rw [addiTimes, Function.iterate_succ_apply', ← addiTimes, ih]
    by_cases h : sd = sa
    · subst h
      have hsum : s[sd.toFin] + BitVec.ofNat 32 (n + 1) * x + x = s[sd.toFin] + BitVec.ofNat 32 (n + 1 + 1) * x := by
        rw [BitVec.add_assoc, BitVec.ofNat_add (n + 1) 1, BitVec.add_mul, BitVec.one_mul]
      simp only [if_true, Fin.getElem_fin, Vector.getElem_set_self, Vector.set_set]
      rw [← Fin.getElem_fin, hsum]
    · have hne : sd.toFin.val ≠ sa.toFin.val := fun he => h (BitVec.eq_of_toNat_eq he)
      simp only [if_neg h, Fin.getElem_fin, Vector.getElem_set_ne _ _ hne, Vector.set_set]

/-- A core that stands at a repeated ADDI, after `n` iterations of it. -/
def Core.repeated (c : Core) (sd sa : BitVec 4) (x : Word) (n : Nat) : Core :=
  { c with s := addiTimes sd sa x n c.s, pc := c.pc + 16, repact := false, repcnt := 0, loading := []
           btcount := c.btcount + BitVec.ofNat 32 n }

/-- A core in a repeat with `n` iterations to go, after one iteration of ADDI at a cost. -/
def Core.iterated (c : Core) (sd sa : BitVec 4) (x : Word) (n cost : Nat) : Core :=
  { c with s := c.s.set sd.toFin (c.s[sa.toFin] + x), repact := true, repcnt := BitVec.ofNat 13 n, loading := []
           btcount := c.btcount + BitVec.ofNat 32 cost }

/-- One iteration at one bundle time and then `n` more are `n + 1`. -/
theorem Core.iterated_repeated (c : Core) (sd sa : BitVec 4) (x : Word) (n : Nat) :
    (c.iterated sd sa x n 1).repeated sd sa x n = c.repeated sd sa x (n + 1) := by
  have hcount : c.btcount + BitVec.ofNat 32 1 + BitVec.ofNat 32 n = c.btcount + BitVec.ofNat 32 (n + 1) := by
    rw [BitVec.add_assoc, ← BitVec.ofNat_add, Nat.add_comm]
  unfold Core.repeated Core.iterated
  rw [← hcount]
  rfl

/-- The bundle of one ADDI costs one bundle time where nothing is still loading. -/
theorem bundleCost_addi (env : CoreEnv) (o : Core) (sd sa : BitVec 4) (imm : BitVec 18) (waits : BitVec 3) (h : o.loading = []) :
    bundleCost env o (bundleSb {} (.imm .addi sd sa imm)) waits = 1 := by
  rw [bundleSb_empty]
  unfold bundleCost
  simp [h, branchCost, linesOf, boolNat, repeatable]

/-- The iterations of a repeated ADDI (R84, R87). -/
theorem runRepeat_addi (env : CoreEnv) (sd sa : BitVec 4) (imm : BitVec 18) (m : Memory) (n : Nat) :
    ∀ (waits : List (BitVec 3)) (c : Core), fetchOk c = true → c.loading = [] →
      runRepeat env (bundleSb {} (.imm .addi sd sa imm)) n waits { core := c, mem := m }
        = { core := c.repeated sd sa (imm.signExtend 32) n, mem := m } := by
  induction n with
  | zero =>
    intro waits c _ h
    rw [Core.repeated, ← h]
    simp [runRepeat, addiTimes]
  | succ n ih =>
    intro waits c hf hl
    have hcost := bundleCost_addi env { c with repact := true, repcnt := BitVec.ofNat 13 n } sd sa imm (waits.headD 0) hl
    unfold runRepeat
    dsimp only
    rw [issueOnce_clean _ _ _ _ _ _ _ hf (bundleTraps_lone_sb _ _ _ _ rfl), applyBundle_lone_sb _ _ _ _ _ _ rfl rfl, Core.stepped,
      hcost]
    change runRepeat env (bundleSb {} (.imm .addi sd sa imm)) n waits.tail
      { core := c.iterated sd sa (imm.signExtend 32) n 1, mem := m } = _
    rw [ih waits.tail (c.iterated sd sa (imm.signExtend 32) n 1) hf rfl, Core.iterated_repeated]

/-- REP alone of one ADDI: its own step, then the iterations (R84). -/
theorem rep_addi (s : State) (k : Fin 128) (i : Issue) (fromReg : Bool) (ra sd sa : BitVec 4) (count : BitVec 12) (imm : BitVec 18)
    (n : Nat) (h : s.issues k i) (hw : i.words = {}) (hnext : decodeBundle i.next = bundleSb {} (.imm .addi sd sa imm))
    (hn : repCount s.dev.cores[k] fromReg (ra, 0) (0, count) = n) (h1 : 1 ≤ n) (hmax : n ≤ s.dev.cores[k].repmax.toNat)
    (hf : fetchOk { s.dev.cores[k] with pc := s.dev.cores[k].pc + 16 } = true) :
    exec (.rep k i fromReg ra count) s = .next (s.withCore k
      ((s.dev.cores[k].stepped (s.dev.coreEnv k) s.dev.cores[k] (.rep fromReg ra count) i.waits).repeated sd sa (imm.signExtend 32) n)
      s.dev.mem) := by
  have hfetch := h.2.1
  have hecc := h.2.2.1
  have hparity := h.2.2.2
  have hs : checkSb (s.dev.coreEnv k) s.dev.cores[k] ⟨spellSb (.rep fromReg ra count), some (.rep fromReg ra count)⟩
      (bundleSb {} (.imm .addi sd sa imm)) = [] := by
    unfold checkSb
    dsimp only
    rw [hn, if_neg (by omega)]
    rfl
  refine issueSb_run s k i (.rep fromReg ra count) _ h hw ?_
  unfold runBundle
  rw [hecc, hparity, hnext]
  dsimp only
  rw [issueOnce_clean _ _ _ _ _ _ _ hfetch (bundleTraps_lone_sb _ _ _ _ hs), applyBundle_lone_sb _ _ _ _ _ _ rfl rfl]
  change (if repCount s.dev.cores[k] fromReg (ra, 0) (0, count) = 0 then _ else
    runRepeat (s.dev.coreEnv k) (bundleSb {} (.imm .addi sd sa imm)) (repCount s.dev.cores[k] fromReg (ra, 0) (0, count)) i.repWaits
      { core := s.dev.cores[k].stepped (s.dev.coreEnv k) s.dev.cores[k] (.rep fromReg ra count) i.waits, mem := s.dev.mem }) = _
  rw [hn, if_neg (by omega), runRepeat_addi (s.dev.coreEnv k) sd sa imm s.dev.mem n i.repWaits
    (s.dev.cores[k].stepped (s.dev.coreEnv k) s.dev.cores[k] (.rep fromReg ra count) i.waits) hf rfl]

/-- The cost of a bundle of REP alone: one bundle time, and a wait for a count still being loaded. -/
theorem bundleCost_rep (env : CoreEnv) (o : Core) (fromReg : Bool) (ra : BitVec 4) (count : BitVec 12) (waits : BitVec 3) :
    bundleCost env o (bundleSb {} (.rep fromReg ra count)) waits
      = 1 + (if fromReg && o.loading.contains (.s ra) then 1 else 0) := by
  rw [bundleSb_empty]
  unfold bundleCost
  cases fromReg with
  | false => simp [readsOf, branchCost, linesOf, boolNat, repeatable]
  | true =>
    simp [readsOf, branchCost, linesOf, boolNat, repeatable]
    split <;> decide

/-- Settles O10: REP by its own step and the iterations of the ADDI. -/
theorem repeatRunsTheNextBundle : Obligations.RepeatRunsTheNextBundle := by
  unfold Obligations.RepeatRunsTheNextBundle
  intro s k i fromReg ra sd sa count imm h hw hnext c n h1 hmax hle hf
  have hdecode : decodeBundle i.next = bundleSb {} (.imm .addi sd sa imm) := by
    rw [hnext]
    have hop := decodeSb_spellSb (.imm .addi sd sa imm)
    change (⟨⟨spellSb (.imm .addi sd sa imm), decodeSb (spellSb (.imm .addi sd sa imm))⟩, _, _, _⟩ : Bundle) = _
    rw [hop]
    rfl
  obtain ⟨m, hm⟩ : ∃ m, n = m + 1 := ⟨n - 1, by omega⟩
  rw [rep_addi s k i fromReg ra sd sa count imm n h hw hdecode rfl h1 hmax hf]
  unfold Core.repeated Core.stepped
  rw [bundleCost_rep, hm]
  have hs : addiTimes sd sa (imm.signExtend 32) (m + 1) c.s = _ := addiTimes_eq sd sa (imm.signExtend 32) m c.s
  have hpc : c.pc + 16 + 16 = c.pc + 32 := BitVec.add_assoc _ _ _
  dsimp only
  rw [hs, BitVec.add_assoc, ← BitVec.ofNat_add, nextPc_of_goesOn _ _ _ rfl, hpc, Nat.add_right_comm]

end Sys2Proof.Machine
end

section
/-! SUPPORT. The circular address forms where A - B leaves the signed 32-bit range: the model takes the sum in 32 bits
(03_signal_cores.md, R75), the statements take it without a bound. -/

namespace Sys2Proof.Machine
open Sys2Proof

/-- A core with A[n] = 2^31 - 1 in a buffer of three bytes at B[n] = -1. A[n] - B[n] is 2^31, which 32 bits read as -2^31;
(-2^31) mod 3 is 1 where 2^31 mod 3 is 2. -/
def farCore : Core :=
  { a := Vector.replicate 8 0x7FFFFFFF, b := Vector.replicate 4 0xFFFFFFFF, l := Vector.replicate 4 3 }

/-- A device that runs, in mode M4, whose cores all are `farCore`. -/
def farState : State :=
  { dev :=
    { cores := Vector.replicate 128 farCore
      units := Vector.replicate 2048 { st := .present }
      power := { dom := Vector.replicate 1664 { st := .run } }
      mode := { mode := 4 }
      start := { powered := true, resetLow := false, perstLow := false, ready := true, step := 11 } } }

theorem farState_issues : farState.issues 0 {} := by
  unfold State.issues
  decide +kernel

/-- AMOD in its circular form on A0 to A3, alone in the bundle: An is updated as an access in MODE 3 updates it. -/
theorem amod_circular_lone (s : State) (k : Fin 128) (i : Issue) (n m : BitVec 3) (h : s.issues k i) (hw : i.words = {})
    (hn : n.toNat < 4) :
    exec (.amod k i n m true) s = .next (s.after k i (bundleSb {} (.amod n m true))
      { s.dev.cores[k] with a := s.dev.cores[k].a.set n.toFin (lsAn s.dev.cores[k] n m 3 0) }) := by
  have hs : checkSb (s.dev.coreEnv k) s.dev.cores[k] ⟨spellSb (.amod n m true), some (.amod n m true)⟩ (decodeBundle i.next) = [] := by
    change (if true && decide (4 ≤ n.toNat) then _ else []) = []
    rw [decide_eq_false (by omega)]
    rfl
  exact issueSb_after s k i (.amod n m true) _ h hw hs (by simp) (by simp) rfl rfl (satintRaised_same _ _)

/-- Refutes O2: AMOD of A0 by M0 = 0 in the buffer of `farCore` gives B0 + 1, and the statement B0 + 2. -/
theorem not_loneImmediatesRegisterMovesAndAmod : ¬ Obligations.LoneImmediatesRegisterMovesAndAmod := by
  unfold Obligations.LoneImmediatesRegisterMovesAndAmod
  rintro ⟨-, hamod⟩
  obtain ⟨-, -, hcirc, -⟩ := hamod farState 0 {} 0 0 farState_issues rfl
  have hl : farState.dev.cores[(0 : Fin 128)].l[(0#2).toFin] ≠ 0 := by decide +kernel
  have hstated := hcirc 0 rfl hl
  have hsame := Host.Outcome.next.inj ((amod_circular_lone farState 0 {} 0 0 farState_issues rfl (by decide)).symm.trans hstated)
  have ha0 := congrArg (fun t => t.dev.cores[(0 : Fin 128)].a[0]) hsame
  exact absurd ha0 (by decide +kernel)

/-- Refutes O12: in MODE 3 element 0 of `farCore` lies at B0 + 1, and the statement puts it at B0 + 2. -/
theorem not_loadsAndEffectiveAddresses : ¬ Obligations.LoadsAndEffectiveAddresses := by
  unfold Obligations.LoadsAndEffectiveAddresses
  rintro ⟨-, -, hea⟩
  obtain ⟨-, -, -, -, -, -, -, hcirc⟩ := hea farCore 0 0 0 0 0 (by decide)
  exact absurd (hcirc rfl (by decide)).1 (by decide)

end Sys2Proof.Machine
end

section
/-! SUPPORT. The vector slots: what a lone vector instruction does, the parts of a complex word, the block exponent
(03_signal_cores.md, R64, R73, R82, R83). -/

namespace Sys2Proof.Machine
open Sys2Proof

/-! ### A lone vector slot -/

/-- A lone vector slot that meets no check leaves the core with its effect, at the next bundle, and SATINT where its effect on VSTAT
raises it. -/
theorem issueV_after (s : State) (k : Fin 128) (i : Issue) (slot : VSlot) (op : VOp) (c' : Core) (h : s.issues k i) (hw : i.words = {})
    (hs : checkV (s.dev.coreEnv k) s.dev.cores[k] (if slot = .va then 2 else 3) ⟨spellV op, some op⟩ = [])
    (happly : applyV s.dev.cores[k] s.dev.cores[k] (some op) = c') :
    issueV k i slot op s = .next (s.after k i (bundleV {} slot op) { c' with
      ipend := if satintRaised s.dev.cores[k].corectl s.dev.cores[k].vstat c'.vstat then c'.ipend ||| 8 else c'.ipend }) := by
  subst happly
  exact exec_lone_v s k i slot op h hw hs

/-- The same of an effect that leaves VSTAT. -/
theorem issueV_after_of_vstat (s : State) (k : Fin 128) (i : Issue) (slot : VSlot) (op : VOp) (c' : Core) (h : s.issues k i)
    (hw : i.words = {}) (hs : checkV (s.dev.coreEnv k) s.dev.cores[k] (if slot = .va then 2 else 3) ⟨spellV op, some op⟩ = [])
    (happly : applyV s.dev.cores[k] s.dev.cores[k] (some op) = c') (hv : c'.vstat = s.dev.cores[k].vstat) :
    issueV k i slot op s = .next (s.after k i (bundleV {} slot op) c') := by
  rw [issueV_after s k i slot op c' h hw hs happly]
  have hraise : satintRaised s.dev.cores[k].corectl s.dev.cores[k].vstat c'.vstat = false := by rw [hv]; exact satintRaised_same _ _
  rw [hraise]
  rfl

/-- Core `k` after a lone bundle that left it as `c`. -/
@[simp] theorem State.after_core (s : State) (k : Fin 128) (i : Issue) (b : Bundle) (c : Core) :
    (s.after k i b c).dev.cores[k] = s.dev.cores[k].passed (s.dev.coreEnv k) c b i := State.withCore_core _ _ _ _

/-! ### Register fields wider than their registers -/

/-- A 5-bit field of a scalar register names that register. -/
theorem sField_number (r : BitVec 4) : (0#1 ++ r).extractLsb' 0 4 = r := BitVec.extractLsb'_append_eq_right

theorem sField_legal (r : BitVec 4) : (0#1 ++ r).getLsbD 4 = false := getLsbD_append_above 4 (by decide) _ _

/-- A 5-bit field of an accumulator names that accumulator. -/
theorem accField_number (q : BitVec 3) : (0#2 ++ q).extractLsb' 0 3 = q := BitVec.extractLsb'_append_eq_right

theorem accField_legal (q : BitVec 3) : (0#2 ++ q).toNat < 8 := by revert q; decide

/-! ### The parts of a complex word -/

theorem partRe_mem (w : Word) : -32768 ≤ partRe w ∧ partRe w ≤ 32767 := by
  have hlo := BitVec.le_toInt (w.extractLsb' 0 16)
  have hhi := BitVec.toInt_lt (x := w.extractLsb' 0 16)
  unfold partRe
  omega

theorem partIm_mem (w : Word) : -32768 ≤ partIm w ∧ partIm w ≤ 32767 := by
  have hlo := BitVec.le_toInt (w.extractLsb' 16 16)
  have hhi := BitVec.toInt_lt (x := w.extractLsb' 16 16)
  unfold partIm
  omega

/-! ### The block exponent (R82) -/

/-- The first number below `b` that meets `p`, or `b`: it is at least `n` where none below `n` meets it. -/
theorem le_find?_range_iff (p : Nat → Bool) (b n : Nat) (hn : n ≤ b) :
    n ≤ ((List.range b).find? p).getD b ↔ ∀ j < n, p j = false := by
  cases hf : (List.range b).find? p with
  | none =>
    rw [List.find?_range_eq_none] at hf
    refine ⟨fun _ j hj => ?_, fun _ => hn⟩
    simpa using hf j (by omega)
  | some r =>
    rw [List.find?_range_eq_some] at hf
    obtain ⟨hr, -, hbelow⟩ := hf
    rw [Option.getD_some]
    refine ⟨fun hle j hj => by simpa using hbelow j (by omega), fun hall => ?_⟩
    by_contra hlt
    rw [hall r (by omega)] at hr
    exact Bool.false_ne_true hr

/-- A part has at least `n` redundant sign bits where it fits 16 - n bits. -/
theorem le_redundantSign_iff (n : Nat) (p : Int) (hn : n ≤ 15) (hp : -32768 ≤ p ∧ p ≤ 32767) :
    n ≤ redundantSign p ↔ -(2 ^ (15 - n) : Int) ≤ p ∧ p < (2 ^ (15 - n) : Int) := by
  unfold redundantSign
  rw [le_find?_range_iff _ _ _ hn]
  simp only [Bool.not_eq_false', Bool.and_eq_true, decide_eq_true_eq]
  constructor
  · intro hall
    cases n with
    | zero => norm_num; omega
    | succ m => simpa [Nat.add_comm] using hall m (Nat.lt_succ_self m)
  · intro hfits j hj
    have hpow : (2 ^ (15 - n) : Int) ≤ 2 ^ (14 - j) := pow_le_pow_right₀ (by norm_num) (by omega)
    omega

/-- A minimum over a list is at least `n` where every member is. -/
theorem le_foldl_min_iff (f : Word → Nat) (n : Nat) (l : List Word) (m : Nat) :
    n ≤ l.foldl (fun m w => Nat.min m (f w)) m ↔ n ≤ m ∧ ∀ w ∈ l, n ≤ f w := by
  induction l generalizing m with
  | nil => simp
  | cons w l ih =>
    rw [List.foldl_cons, ih, List.forall_mem_cons, ← and_assoc]
    exact and_congr_left' le_min_iff

/-- What the block exponent is at least, by the parts. -/
theorem le_blockExp (n : Nat) (v : VReg) :
    n ≤ blockExp v ↔ n ≤ 15 ∧ ∀ l : Fin 32, n ≤ redundantSign (partRe v[l]) ∧ n ≤ redundantSign (partIm v[l]) := by
  unfold blockExp
  rw [le_foldl_min_iff (fun w => Nat.min (redundantSign (partRe w)) (redundantSign (partIm w)))]
  refine and_congr_right' ⟨fun hall l => le_min_iff.mp (hall _ (by simp)), fun hall w hw => ?_⟩
  obtain ⟨l, hl, rfl⟩ := Vector.mem_iff_getElem.mp (Vector.mem_toList_iff.mp hw)
  exact le_min_iff.mpr (hall ⟨l, hl⟩)

theorem blockExp_le (v : VReg) : blockExp v ≤ 15 := ((le_blockExp _ v).mp le_rfl).1

/-- The block exponent is at least `n` where every part fits 16 - n bits. -/
theorem le_blockExp_iff (n : Nat) (v : VReg) (hn : n ≤ 15) :
    n ≤ blockExp v ↔ ∀ (l : Fin 32) (im : Bool), -(2 ^ (15 - n) : Int) ≤ (if im then partIm v[l] else partRe v[l])
      ∧ (if im then partIm v[l] else partRe v[l]) < (2 ^ (15 - n) : Int) := by
  rw [le_blockExp, and_iff_right hn]
  refine forall_congr' fun l => ?_
  rw [Bool.forall_bool, le_redundantSign_iff n _ hn (partRe_mem _), le_redundantSign_iff n _ hn (partIm_mem _)]
  rfl

/-- Settles O15, by what it says that a number is at most the block exponent. -/
theorem blockExponent : Obligations.BlockExponent := by
  unfold Obligations.BlockExponent
  intro s k i slot r a h hw c part red
  refine ⟨blockExp c.v[a.toFin], ?_, blockExp_le _, (le_blockExp_iff _ _ (blockExp_le _)).mp le_rfl, fun hlt => ?_, fun hz => ?_⟩
  · refine issueV_after_of_vstat s k i slot (.bexp (0#1 ++ r) a) _ h hw ?_ ?_ rfl
    · change (if (0#1 ++ r).getLsbD 4 then _ else []) = []
      rw [sField_legal]
      rfl
    · change c.setS ((0#1 ++ r).extractLsb' 0 4) _ = _
      rw [sField_number]
      rfl
  · by_contra hall
    push Not at hall
    exact absurd ((le_blockExp_iff _ _ hlt).mpr hall) (Nat.not_succ_le_self _)
  · refine le_antisymm (blockExp_le _) ((le_blockExp_iff _ _ le_rfl).mpr fun l im => ?_)
    have hl : c.v[a.toFin][l] = 0 := by rw [hz]; simp
    rw [hl]
    cases im <;> decide

end Sys2Proof.Machine
end

section
/-! SUPPORT. The multiply class and the accumulators (03_signal_cores.md, R73, R79). -/

namespace Sys2Proof.Machine
open Sys2Proof

/-! ### Components of 40 bits -/

/-- A number in the range of a component is its component. -/
theorem toInt_ofInt_component (x : Int) (h : -(2 ^ 39) ≤ x ∧ x ≤ 2 ^ 39 - 1) : (BitVec.ofInt 40 x).toInt = x := by
  rw [BitVec.toInt_ofInt]
  exact Int.bmod_eq_of_le (by omega) (by omega)

theorem sat40_mem (x : Int) : -(2 ^ 39) ≤ sat40 x ∧ sat40 x ≤ 2 ^ 39 - 1 := by
  unfold sat40 clampInt
  split_ifs <;> omega

/-- A component is limited where it is out of range. -/
theorem sat40_eq_iff (x : Int) : sat40 x = x ↔ -(2 ^ 39) ≤ x ∧ x ≤ 2 ^ 39 - 1 := by
  unfold sat40 clampInt
  split_ifs <;> omega

theorem abs_mul_parts (x y : Int) (hx : |x| ≤ 2 ^ 15) (hy : |y| ≤ 2 ^ 15) : |x * y| ≤ 2 ^ 30 := by
  calc |x * y| = |x| * |y| := abs_mul x y
    _ ≤ 2 ^ 15 * 2 ^ 15 := mul_le_mul hx hy (abs_nonneg y) (by norm_num)
    _ = 2 ^ 30 := by norm_num

theorem abs_partRe (w : Word) : |partRe w| ≤ 2 ^ 15 := by
  have h := partRe_mem w
  rw [abs_le]
  omega

/-- An imaginary part, conjugated or not. -/
theorem abs_partIm (b : Bool) (w : Word) : |if b then -partIm w else partIm w| ≤ 2 ^ 15 := by
  have h := partIm_mem w
  rw [abs_le]
  cases b <;> simp <;> omega

/-- The exact product of two lanes fits a component. -/
theorem mulLane_mem (mod : BitVec 5) (x y : Word) :
    (-(2 ^ 39) ≤ (mulLane mod x y).1 ∧ (mulLane mod x y).1 ≤ 2 ^ 39 - 1)
      ∧ (-(2 ^ 39) ≤ (mulLane mod x y).2 ∧ (mulLane mod x y).2 ≤ 2 ^ 39 - 1) := by
  have hrr := abs_le.mp (abs_mul_parts _ _ (abs_partRe x) (abs_partRe y))
  have hii := abs_le.mp (abs_mul_parts _ _ (abs_partIm (mod.getLsbD 1) x) (abs_partIm (mod.getLsbD 0) y))
  have hri := abs_le.mp (abs_mul_parts _ _ (abs_partRe x) (abs_partIm (mod.getLsbD 0) y))
  have hir := abs_le.mp (abs_mul_parts _ _ (abs_partIm (mod.getLsbD 1) x) (abs_partRe y))
  unfold mulLane
  dsimp only
  omega

/-! ### One lane (R79) -/

/-- VMUL: the product, and GOV clear. -/
theorem macLane_mul (old : AccLane) (mod : BitVec 5) (x y : Word) :
    (macLane .mul old (mulLane mod x y)).re.toInt = (mulLane mod x y).1
      ∧ (macLane .mul old (mulLane mod x y)).im.toInt = (mulLane mod x y).2 ∧ (macLane .mul old (mulLane mod x y)).gov = false :=
  ⟨toInt_ofInt_component _ (mulLane_mem mod x y).1, toInt_ofInt_component _ (mulLane_mem mod x y).2, rfl⟩

/-- The sign with which VMAC and VMSU take the product. -/
def macSign (fn : MulFn) : Int := if fn = .msu then -1 else 1

/-- VMAC and VMSU leave a lane with GOV set. -/
theorem macLane_gov (fn : MulFn) (old : AccLane) (p : Int × Int) (hfn : fn ≠ .mul) (hg : old.gov = true) : macLane fn old p = old := by
  cases fn with
  | mul => exact absurd rfl hfn
  | mac | msu => exact if_pos hg

/-- VMAC and VMSU on a lane with GOV clear: the sum or difference, limited, and GOV where it was. -/
theorem macLane_clear (fn : MulFn) (old : AccLane) (p : Int × Int) (hfn : fn ≠ .mul) (hg : old.gov = false) :
    macLane fn old p = { re := BitVec.ofInt 40 (sat40 (old.re.toInt + macSign fn * p.1))
                         im := BitVec.ofInt 40 (sat40 (old.im.toInt + macSign fn * p.2))
                         gov := sat40 (old.re.toInt + macSign fn * p.1) != old.re.toInt + macSign fn * p.1
                           || sat40 (old.im.toInt + macSign fn * p.2) != old.im.toInt + macSign fn * p.2 } := by
  cases fn with
  | mul => exact absurd rfl hfn
  | mac => simp [macLane, macSign, hg]
  | msu => simp [macLane, macSign, hg, Int.sub_eq_add_neg]

/-! ### The instructions -/

/-- `c` with accumulator `q` written. -/
def Core.withAcc (c : Core) (q : BitVec 3) (x : Acc) : Core := { c with acc := c.acc.set q.toFin x }

@[simp] theorem Core.withAcc_acc (c : Core) (q : BitVec 3) (x : Acc) : (c.withAcc q x).acc[q.toFin] = x := Vector.getElem_set_self _

theorem Core.setAcc_field (c : Core) (q : BitVec 3) (x : Acc) : c.setAcc (0#2 ++ q) x = c.withAcc q x :=
  congrArg (fun n => c.withAcc n x) (accField_number q)

theorem Core.getAcc_field (c : Core) (q : BitVec 3) : c.getAcc (0#2 ++ q) = c.acc[q.toFin] :=
  congrArg (fun n : BitVec 3 => c.acc[n.toFin]) (accField_number q)

/-- An instruction alone in its bundle that writes an accumulator and no other register. -/
theorem acc_lone (s : State) (k : Fin 128) (i : Issue) (slot : VSlot) (op : VOp) (q : BitVec 3) (x : Acc) (h : s.issues k i)
    (hw : i.words = {}) (hs : checkV (s.dev.coreEnv k) s.dev.cores[k] (if slot = .va then 2 else 3) ⟨spellV op, some op⟩ = [])
    (happly : applyV s.dev.cores[k] s.dev.cores[k] (some op) = s.dev.cores[k].setAcc (0#2 ++ q) x) :
    ∃ t, issueV k i slot op s = .next t
      ∧ t = s.after k i (bundleV {} slot op) { s.dev.cores[k] with acc := s.dev.cores[k].acc.set q.toFin t.dev.cores[k].acc[q.toFin] }
      ∧ t.dev.cores[k].acc[q.toFin] = x := by
  have hacc : (s.after k i (bundleV {} slot op) (s.dev.cores[k].withAcc q x)).dev.cores[k].acc[q.toFin] = x := by
    rw [State.after_core]
    exact Core.withAcc_acc _ q x
  refine ⟨_, issueV_after_of_vstat s k i slot op _ h hw hs (happly.trans (Core.setAcc_field _ q x)) rfl, ?_, hacc⟩
  rw [hacc]
  rfl

/-- A multiply-class instruction alone in its bundle (R79). -/
theorem mul_lone (s : State) (k : Fin 128) (i : Issue) (slot : VSlot) (mf : MulFn) (q : BitVec 3) (a b : BitVec 5) (fn : BitVec 6)
    (mod : BitVec 5) (h : s.issues k i) (hw : i.words = {}) :
    ∃ t, issueV k i slot (.mul mf (0#2 ++ q) a b fn mod) s = .next t
      ∧ t = s.after k i (bundleV {} slot (.mul mf (0#2 ++ q) a b fn mod))
          { s.dev.cores[k] with acc := s.dev.cores[k].acc.set q.toFin t.dev.cores[k].acc[q.toFin] }
      ∧ t.dev.cores[k].acc[q.toFin]
        = macAcc mf fn mod s.dev.cores[k].acc[q.toFin] s.dev.cores[k].v[a.toFin] s.dev.cores[k].v[b.toFin] := by
  refine acc_lone s k i slot (.mul mf (0#2 ++ q) a b fn mod) q _ h hw ?_ ?_
  · have hlegal := accField_legal q
    change (if decide (8 ≤ (0#2 ++ q).toNat) then _ else []) = []
    rw [decide_eq_false (by omega)]
    rfl
  · change Core.setAcc _ (0#2 ++ q) (macAcc mf fn mod (Core.getAcc _ (0#2 ++ q)) _ _) = _
    rw [Core.getAcc_field]

theorem macAcc_lane (mf : MulFn) (fn : BitVec 6) (mod : BitVec 5) (old : Acc) (x y : VReg) (l : Fin 32) :
    (macAcc mf fn mod old x y)[l] = macLane mf old[l] (mulLane mod x[l] (mulB fn mod y l)) := Vector.getElem_ofFn _

/-- Settles O16, lane by lane. -/
theorem multiplyAccumulate : Obligations.MultiplyAccumulate := by
  unfold Obligations.MultiplyAccumulate
  intro s k i slot q a b fn mod h hw c x y xi yi pr pi old top fits lim d same
  have hlim : ∀ v, lim v = sat40 v := fun v => rfl
  have hfits : ∀ v, fits v ↔ sat40 v = v := fun v => (sat40_eq_iff v).symm
  refine ⟨?_, ?_⟩
  · obtain ⟨t, ht, hframe, hacc⟩ := mul_lone s k i slot .mul q a b fn mod h hw
    refine ⟨t, ht, hframe, fun l => ?_⟩
    rw [hacc, macAcc_lane]
    exact macLane_mul _ _ _ _
  · have hsum : ∀ mf : MulFn, mf ≠ .mul → ∃ t, issueV k i slot (.mul mf d a b fn mod) s = .next t ∧ same mf t
        ∧ ∀ l : Fin 32, ((old l).gov = true → t.dev.cores[k].acc[q.toFin][l] = old l)
          ∧ ((old l).gov = false → t.dev.cores[k].acc[q.toFin][l].re.toInt = lim ((old l).re.toInt + macSign mf * pr l)
            ∧ t.dev.cores[k].acc[q.toFin][l].im.toInt = lim ((old l).im.toInt + macSign mf * pi l)
            ∧ (t.dev.cores[k].acc[q.toFin][l].gov = false
              ↔ fits ((old l).re.toInt + macSign mf * pr l) ∧ fits ((old l).im.toInt + macSign mf * pi l))) := by
      intro mf hmf
      obtain ⟨t, ht, hframe, hacc⟩ := mul_lone s k i slot mf q a b fn mod h hw
      refine ⟨t, ht, hframe, fun l => ?_⟩
      rw [hacc, macAcc_lane]
      refine ⟨macLane_gov mf _ _ hmf, fun hclear => ?_⟩
      rw [macLane_clear mf _ _ hmf hclear, hlim, hlim, hfits, hfits]
      refine ⟨toInt_ofInt_component _ (sat40_mem _), toInt_ofInt_component _ (sat40_mem _), ?_⟩
      simp only [Bool.or_eq_false_iff, bne_eq_false_iff_eq]
      rfl
    simp only [List.forall_mem_cons, List.not_mem_nil, false_imp_iff, implies_true, and_true]
    exact ⟨hsum .mac (by decide), hsum .msu (by decide)⟩

end Sys2Proof.Machine
end

section
/-! SUPPORT. The lane operations and the permutations (03_signal_cores.md, R73, R83, Table 3.7). -/

namespace Sys2Proof.Machine
open Sys2Proof

/-! ### Results lane by lane -/

/-- Some lane of a result was limited. -/
theorem anySat_ofFn (f : Fin 32 → Word × Bool) : anySat (Vector.ofFn f) = true ↔ ∃ l, (f l).2 = true := by
  simp only [anySat, Vector.toList_ofFn, List.any_eq_true, List.mem_ofFn, exists_exists_eq_and]

/-- No lane of a result was limited. -/
theorem anySat_ofFn_eq_false (f : Fin 32 → Word × Bool) : anySat (Vector.ofFn f) = false ↔ ∀ l, (f l).2 = false := by
  rw [← Bool.not_eq_true, anySat_ofFn]
  simp

theorem laneWords_ofFn (f : Fin 32 → Word × Bool) : laneWords (Vector.ofFn f) = Vector.ofFn (fun l => (f l).1) := Vector.map_ofFn

/-- A part is limited where it is out of range (R83). -/
theorem sat16_eq_iff (p : Int) : sat16 p = p ↔ -32768 ≤ p ∧ p ≤ 32767 := by
  unfold sat16 clampInt
  split_ifs <;> omega

/-- A complex word counts as limited where a part of it is. -/
theorem satCplx_limited (re im : Int) :
    (satCplx re im).2 = false ↔ (-32768 ≤ re ∧ re ≤ 32767) ∧ (-32768 ≤ im ∧ im ≤ 32767) := by
  unfold satCplx
  rw [Bool.or_eq_false_iff, bne_eq_false_iff_eq, bne_eq_false_iff_eq, sat16_eq_iff, sat16_eq_iff]

/-- SATINT of a bundle that sets SAT: raised where SATINT_EN is set and SAT was clear. -/
theorem satintRaised_sat (corectl v : Word) :
    satintRaised corectl v (v ||| vstatSat) = true ↔ corectl.getLsbD 1 = true ∧ v.getLsbD 0 = false := by
  have hnew : ((v ||| vstatSat) &&& ~~~v) &&& 3 = if v.getLsbD 0 then 0 else 1 := by
    ext j hj
    cases hv : v.getLsbD 0 with
    | false =>
      have hv0 : v[0] = false := hv
      simp only [vstatSat, BitVec.getElem_or, BitVec.getElem_and, BitVec.getElem_not]
      interval_cases j <;> simp [hv0]
    | true =>
      have hv0 : v[0] = true := hv
      simp only [vstatSat, BitVec.getElem_or, BitVec.getElem_and, BitVec.getElem_not]
      interval_cases j <;> simp [hv0]
  unfold satintRaised
  rw [hnew, Bool.and_eq_true]
  refine and_congr_right' ?_
  cases v.getLsbD 0 <;> decide

/-! ### The VALU class -/

section
variable (s : State) (k : Fin 128) (i : Issue) (slot : VSlot) (d a b mod : BitVec 5) (h : s.issues k i) (hw : i.words = {})
include h hw

/-- A VALU instruction alone in its bundle: its lanes, SAT where one was limited, and SATINT. -/
theorem valu_lone (fn : ValuFn) (r : Vector (Word × Bool) 32)
    (hr : valuLanes fn mod s.dev.cores[k].v[a.toFin] s.dev.cores[k].v[b.toFin] = r) :
    issueV k i slot (.valu fn d a b mod) s = .next (s.after k i (bundleV {} slot (.valu fn d a b mod)) { s.dev.cores[k] with
      v := s.dev.cores[k].v.set d.toFin (laneWords r)
      vstat := if anySat r then s.dev.cores[k].vstat ||| vstatSat else s.dev.cores[k].vstat
      ipend := if satintRaised s.dev.cores[k].corectl s.dev.cores[k].vstat
          (if anySat r then s.dev.cores[k].vstat ||| vstatSat else s.dev.cores[k].vstat)
        then s.dev.cores[k].ipend ||| 8 else s.dev.cores[k].ipend }) := by
  have happly : applyV s.dev.cores[k] s.dev.cores[k] (some (.valu fn d a b mod)) = { s.dev.cores[k] with
      v := s.dev.cores[k].v.set d.toFin (laneWords r)
      vstat := if anySat r then s.dev.cores[k].vstat ||| vstatSat else s.dev.cores[k].vstat } := by
    subst hr
    rfl
  exact issueV_after s k i slot (.valu fn d a b mod) _ h hw rfl happly

/-- Where no lane is limited, no flag changes. -/
theorem valu_lone_plain (fn : ValuFn) (f : Fin 32 → Word)
    (hf : ∀ l : Fin 32, valuLane fn mod s.dev.cores[k].v[a.toFin][l] s.dev.cores[k].v[b.toFin][l] = (f l, false)) :
    issueV k i slot (.valu fn d a b mod) s = .next (s.after k i (bundleV {} slot (.valu fn d a b mod)) { s.dev.cores[k] with
      v := s.dev.cores[k].v.set d.toFin (Vector.ofFn f) }) := by
  have hraise := satintRaised_same s.dev.cores[k].corectl s.dev.cores[k].vstat
  rw [valu_lone s k i slot d a b mod h hw fn (Vector.ofFn fun l => (f l, false)) (congrArg Vector.ofFn (funext hf)), laneWords_ofFn,
    (anySat_ofFn_eq_false _).mpr fun _ => rfl]
  simp only [Bool.false_eq_true, if_false, hraise]

/-- A saturating VALU instruction none of whose parts is limited (R83). -/
theorem valu_lone_fits (fn : ValuFn) (re im : Fin 32 → Int)
    (hf : ∀ l : Fin 32, valuLane fn mod s.dev.cores[k].v[a.toFin][l] s.dev.cores[k].v[b.toFin][l] = satCplx (re l) (im l))
    (hfits : ∀ l, (-32768 ≤ re l ∧ re l ≤ 32767) ∧ (-32768 ≤ im l ∧ im l ≤ 32767)) :
    issueV k i slot (.valu fn d a b mod) s = .next (s.after k i (bundleV {} slot (.valu fn d a b mod)) { s.dev.cores[k] with
      v := s.dev.cores[k].v.set d.toFin (Vector.ofFn fun l => mkCplx (sat16 (re l)) (sat16 (im l))) }) :=
  valu_lone_plain s k i slot d a b mod h hw fn _ fun l =>
    (hf l).trans (Prod.ext_iff.mpr ⟨rfl, (satCplx_limited _ _).mpr (hfits l)⟩)

/-- A saturating VALU instruction of which a part is limited: SAT is set, and SATINT raised where it is enabled and SAT was clear
(R83). -/
theorem valu_lone_limited (fn : ValuFn) (re im : Fin 32 → Int)
    (hf : ∀ l : Fin 32, valuLane fn mod s.dev.cores[k].v[a.toFin][l] s.dev.cores[k].v[b.toFin][l] = satCplx (re l) (im l))
    (hlimited : ∃ l, ¬ ((-32768 ≤ re l ∧ re l ≤ 32767) ∧ (-32768 ≤ im l ∧ im l ≤ 32767))) :
    issueV k i slot (.valu fn d a b mod) s = .next (s.after k i (bundleV {} slot (.valu fn d a b mod)) { s.dev.cores[k] with
      v := s.dev.cores[k].v.set d.toFin (Vector.ofFn fun l => mkCplx (sat16 (re l)) (sat16 (im l)))
      vstat := s.dev.cores[k].vstat ||| 1
      ipend := if s.dev.cores[k].corectl.getLsbD 1 = true ∧ s.dev.cores[k].vstat.getLsbD 0 = false
        then s.dev.cores[k].ipend ||| 8 else s.dev.cores[k].ipend }) := by
  obtain ⟨l, hl⟩ := hlimited
  rw [valu_lone s k i slot d a b mod h hw fn (Vector.ofFn fun l => satCplx (re l) (im l)) (congrArg Vector.ofFn (funext hf)),
    laneWords_ofFn, (anySat_ofFn _).mpr ⟨l, by rwa [← Bool.not_eq_false, satCplx_limited]⟩]
  simp only [if_true, satintRaised_sat]
  rfl

end

/-- An arithmetic shift by a number of places is a floor division. -/
theorem shiftRightInt_nat (x : Int) (n : Nat) : shiftRightInt x n = x / 2 ^ n := by
  unfold shiftRightInt
  rw [if_pos (Int.natCast_nonneg n), Int.toNat_natCast]

/-- Lane `l` of VSAR (R73). -/
theorem valuLane_sar (mod : BitVec 5) (x y : Word) :
    valuLane .sar mod x y = (mkCplx (partRe x / 2 ^ (mod.toNat % 16)) (partIm x / 2 ^ (mod.toNat % 16)), false) := by
  have hn : (mod.extractLsb' 0 4).toNat = mod.toNat % 16 := by simp
  change (mkCplx (shiftRightInt (partRe x) (mod.extractLsb' 0 4).toNat) (shiftRightInt (partIm x) (mod.extractLsb' 0 4).toNat), false) = _
  rw [hn, shiftRightInt_nat, shiftRightInt_nat]

/-- The imaginary part of a concatenation. -/
theorem partIm_append (im re : BitVec 16) : partIm (im ++ re) = im.toInt :=
  congrArg BitVec.toInt BitVec.extractLsb'_append_eq_left

/-- Lane `l` of VMULJ where the imaginary part can be negated (R73). -/
theorem valuLane_mulj (mod : BitVec 5) (x y : Word) (h : partIm x ≠ -32768) :
    valuLane .mulj mod x y = (mkCplx (-partIm x) (partRe x), false) := if_neg h

/-- Lane `l` of VMULJ where it cannot (log entry 22): the imaginary part is still the real one. -/
theorem valuLane_mulj_corner (mod : BitVec 5) (x y : Word) (h : partIm x = -32768) :
    partIm (valuLane .mulj mod x y).1 = partRe x := by
  have hlane : valuLane .mulj mod x y = (x.extractLsb' 0 16 ++ Config.vmuljCorner, Config.vmuljCornerSat) := if_pos h
  rw [hlane]
  exact partIm_append _ _

/-- VMULJ alone in its bundle, with what it leaves free (log entry 22). -/
theorem mulj_lone (s : State) (k : Fin 128) (i : Issue) (slot : VSlot) (d a b mod : BitVec 5) (h : s.issues k i) (hw : i.words = {}) :
    ∃ t, issueV k i slot (.valu .mulj d a b mod) s = .next t
      ∧ t = s.after k i (bundleV {} slot (.valu .mulj d a b mod)) { s.dev.cores[k] with
          v := s.dev.cores[k].v.set d.toFin t.dev.cores[k].v[d.toFin], vstat := t.dev.cores[k].vstat, ipend := t.dev.cores[k].ipend }
      ∧ ((∀ l : Fin 32, partIm s.dev.cores[k].v[a.toFin][l] ≠ -32768) →
          t.dev.cores[k].vstat = s.dev.cores[k].vstat ∧ t.dev.cores[k].ipend = s.dev.cores[k].ipend)
      ∧ ∀ l : Fin 32,
          (partIm s.dev.cores[k].v[a.toFin][l] ≠ -32768 → t.dev.cores[k].v[d.toFin][l]
            = mkCplx (-partIm s.dev.cores[k].v[a.toFin][l]) (partRe s.dev.cores[k].v[a.toFin][l]))
          ∧ (partIm s.dev.cores[k].v[a.toFin][l] = -32768 →
            partIm t.dev.cores[k].v[d.toFin][l] = partRe s.dev.cores[k].v[a.toFin][l]) := by
  have hset : ∀ v : VReg, (s.dev.cores[k].v.set d.toFin v)[d.toFin] = v := fun v => Vector.getElem_set_self _
  refine ⟨_, valu_lone s k i slot d a b mod h hw .mulj _ rfl, ?_, fun hall => ?_, fun l => ?_⟩
  · rw [State.after_core]
    unfold Core.passed
    rw [hset]
  · have hsat : anySat (valuLanes .mulj mod s.dev.cores[k].v[a.toFin] s.dev.cores[k].v[b.toFin]) = false :=
      (anySat_ofFn_eq_false _).mpr fun l => congrArg Prod.snd (valuLane_mulj mod _ _ (hall l))
    rw [State.after_core, Core.passed, hsat]
    refine ⟨rfl, if_neg ?_⟩
    rw [if_neg Bool.false_ne_true, satintRaised_same]
    exact Bool.false_ne_true
  · have hlane : (laneWords (valuLanes .mulj mod s.dev.cores[k].v[a.toFin] s.dev.cores[k].v[b.toFin]))[l]
        = (valuLane .mulj mod s.dev.cores[k].v[a.toFin][l] s.dev.cores[k].v[b.toFin][l]).1 := by
      rw [valuLanes, laneWords_ofFn]
      exact Vector.getElem_ofFn _
    rw [State.after_core, Core.passed, hset, hlane]
    exact ⟨fun hne => congrArg Prod.fst (valuLane_mulj mod _ _ hne), valuLane_mulj_corner mod _ _⟩

/-! ### The permutations -/

theorem Core.getS5_field (c : Core) (r : BitVec 4) : c.getS5 (0#1 ++ r) = c.s[r.toFin] :=
  congrArg (fun n : BitVec 4 => c.s[n.toFin]) (sField_number r)

/-- VREV turns the lanes around. -/
theorem permLanes_rev (mod : BitVec 5) (n : Word) (x : VReg) : permLanes .rev mod n x = Vector.ofFn (fun l => x[l.rev]) := by
  refine congrArg Vector.ofFn (funext fun l => ?_)
  have hl : 31 - l.val < x.toList.length := by simp; omega
  rw [List.getD_eq_getElem _ _ hl, Vector.getElem_toList]
  have hrev : 31 - l.val = l.rev.val := by rw [Fin.val_rev]; omega
  simp only [hrev]
  rfl

/-- VROT with a scalar register meets no check of its own. -/
theorem checkV_rot (env : CoreEnv) (c : Core) (slot : Nat) (d a mod : BitVec 5) (r : BitVec 4) :
    checkV env c slot ⟨spellV (.perm .rot d a (0#1 ++ r) mod), some (.perm .rot d a (0#1 ++ r) mod)⟩ = [] := by
  change (if true && (0#1 ++ r).getLsbD 4 then _ else []) = []
  rw [sField_legal]
  rfl

/-- Settles O14: the VALU class by its lanes, the permutations by what each writes. -/
theorem vectorLaneOperationsAndPermutations : Obligations.VectorLaneOperationsAndPermutations := by
  unfold Obligations.VectorLaneOperationsAndPermutations
  refine ⟨?_, ?_⟩
  · intro s k i slot d a b mod h hw c x y fits lim go
    have hplain := valu_lone_plain s k i slot d a b mod h hw
    have hlim : lim = sat16 := rfl
    have hsaturating : ∀ (fn : ValuFn) (re im : Fin 32 → Int), (∀ l, valuLane fn mod (x l) (y l) = satCplx (re l) (im l)) →
        ((∀ l, fits (re l) ∧ fits (im l)) → issueV k i slot (.valu fn d a b mod) s = .next (go (.valu fn d a b mod)
          { c with v := c.v.set d.toFin (Vector.ofFn (fun l => mkCplx (sat16 (re l)) (sat16 (im l)))) }))
        ∧ ((∃ l, ¬ (fits (re l) ∧ fits (im l))) → issueV k i slot (.valu fn d a b mod) s = .next (go (.valu fn d a b mod)
          { c with v := c.v.set d.toFin (Vector.ofFn (fun l => mkCplx (sat16 (re l)) (sat16 (im l)))), vstat := c.vstat ||| 1
                   ipend := if c.corectl.getLsbD 1 = true ∧ c.vstat.getLsbD 0 = false then c.ipend ||| 8 else c.ipend })) :=
      fun fn re im hlane => ⟨valu_lone_fits s k i slot d a b mod h hw fn re im hlane,
        valu_lone_limited s k i slot d a b mod h hw fn re im hlane⟩
    refine ⟨?_, ?_, ?_⟩
    · rw [hlim]
      simp only [List.forall_mem_cons, List.not_mem_nil, false_imp_iff, implies_true, and_true]
      exact ⟨hsaturating .add _ _ fun _ => rfl, hsaturating .sub _ _ fun _ => rfl, hsaturating .neg _ _ fun _ => rfl,
        hsaturating .conj _ _ fun _ => rfl⟩
    · simp only [List.forall_mem_cons, List.not_mem_nil, false_imp_iff, implies_true, and_true]
      refine ⟨hplain .and _ fun _ => rfl, hplain .or _ fun _ => rfl,
        hplain .xor _ fun _ => rfl, hplain .sar _ fun l => ?_⟩
      exact valuLane_sar mod (x l) (y l)
    · exact mulj_lone s k i slot d a b mod h hw
  · intro s k i slot d a b mod r h hw c x go
    have hwrites : ∀ (op : VOp) (c' : Core), checkV (s.dev.coreEnv k) c (if slot = .va then 2 else 3) ⟨spellV op, some op⟩ = [] →
        applyV c c (some op) = c' → c'.vstat = c.vstat → issueV k i slot op s = .next (go op c') :=
      fun op c' => issueV_after_of_vstat s k i slot op c' h hw
    refine ⟨?_, ?_, ?_, ?_, fun lane => ⟨?_, ?_⟩⟩
    · refine hwrites (.perm .rev d a b mod) _ rfl ?_ rfl
      change c.setV d (permLanes .rev mod _ x) = _
      rw [permLanes_rev]
      rfl
    · exact hwrites (.perm .bcast d a b mod) _ rfl rfl rfl
    · exact hwrites (.perm .bfly d a b mod) _ rfl rfl rfl
    · have hlanes : ∀ v : VReg, (s.after k i (bundleV {} slot (.perm .rot d a (0#1 ++ r) mod))
          { c with v := c.v.set d.toFin v }).dev.cores[k].v[d.toFin] = v := by
        intro v
        rw [State.after_core]
        exact Vector.getElem_set_self _
      refine ⟨_, hwrites (.perm .rot d a (0#1 ++ r) mod) { c with v := c.v.set d.toFin (permLanes .rot mod c.s[r.toFin] x) }
        (checkV_rot _ _ _ _ _ _ _) ?_ rfl, ?_, ?_⟩
      · change c.setV d (permLanes .rot mod (c.getS5 (0#1 ++ r)) x) = _
        rw [Core.getS5_field]
        rfl
      · intro l
        rw [hlanes]
        exact Vector.getElem_ofFn _
      · rw [hlanes]
    · refine hwrites (.ins d (0#1 ++ r) lane) _ ?_ ?_ rfl
      · change (if (0#1 ++ r).getLsbD 4 then _ else []) = []
        rw [sField_legal]
        rfl
      · change c.setV d (c.v[d.toFin].set lane.toFin (c.getS5 (0#1 ++ r))) = _
        rw [Core.getS5_field]
        rfl
    · refine hwrites (.ext (0#1 ++ r) a lane) _ ?_ ?_ rfl
      · change (if (0#1 ++ r).getLsbD 4 then _ else []) = []
        rw [sField_legal]
        rfl
      · change c.setS ((0#1 ++ r).extractLsb' 0 4) _ = _
        rw [sField_number]
        rfl

end Sys2Proof.Machine
end

section
/-! SUPPORT. The moves between the accumulators and the vector registers (03_signal_cores.md, R79 to R81, Table 3.13). -/

namespace Sys2Proof.Machine
open Sys2Proof

/-! ### The GOV flags of an accumulator -/

/-- What the fold of `govBits` has gathered from a list of lanes. -/
theorem getLsbD_foldl_gov (x : Acc) (l : Fin 32) (ks : List Nat) (w : Word) :
    (ks.foldl (fun w k => if ((x.toList[k]?).getD {}).gov then w ||| (1 <<< k) else w) w).getLsbD l.val
      = (w.getLsbD l.val || (ks.contains l.val && x[l].gov)) := by
  induction ks generalizing w with
  | nil => simp
  | cons k ks ih =>
    have hbit : (((1 <<< k : Nat) : Word)).getLsbD l.val = decide (k = l.val) := by
      change (BitVec.ofNat 32 (1 <<< k)).getLsbD l.val = _
      rw [BitVec.getLsbD_ofNat, Nat.one_shiftLeft, Nat.testBit_two_pow, decide_eq_true l.isLt, Bool.true_and]
    have hstep : (if ((x.toList[k]?).getD {}).gov then w ||| (1 <<< k) else w).getLsbD l.val
        = (w.getLsbD l.val || (decide (k = l.val) && x[l].gov)) := by
      by_cases hk : k = l.val
      · subst hk
        have hget : ((x.toList[l.val]?).getD {}) = x[l] := by simp
        rw [hget, decide_eq_true rfl, Bool.true_and, apply_ite (BitVec.getLsbD · l.val), BitVec.getLsbD_or, hbit, decide_eq_true rfl]
        cases x[l].gov <;> simp
      · rw [apply_ite (BitVec.getLsbD · l.val), BitVec.getLsbD_or, hbit, decide_eq_false hk]
        simp
    have hcontains : (k :: ks).contains l.val = (decide (k = l.val) || ks.contains l.val) := by
      rw [List.contains_cons]
      exact congrArg (· || _) (decide_eq_decide.mpr eq_comm)
    rw [List.foldl_cons, ih, hstep, hcontains, Bool.or_assoc, ← Bool.and_or_distrib_right]

/-- Bit `l` of the GOV flags. -/
theorem getLsbD_govBits (x : Acc) (l : Fin 32) : (govBits x).getLsbD l.val = x[l].gov := by
  unfold govBits
  rw [getLsbD_foldl_gov]
  simp

/-- Some GOV flag is set. -/
theorem govBits_ne_zero (x : Acc) : govBits x ≠ 0 ↔ ∃ l : Fin 32, x[l].gov = true := by
  constructor
  · intro hne
    by_contra hall
    push Not at hall
    refine hne (BitVec.eq_of_getLsbD_eq fun j hj => ?_)
    rw [getLsbD_govBits x ⟨j, hj⟩, Bool.eq_false_iff.mpr (hall ⟨j, hj⟩)]
    simp
  · rintro ⟨l, hl⟩ hz
    rw [← getLsbD_govBits, hz] at hl
    simp at hl

/-! ### VSTAT after a move (Table 3.13) -/

/-- The bits below LASTSHIFT do not depend on it. -/
theorem getLsbD_vstatAfterMova_some (old g : Word) (sat : Bool) (n j : Nat) (hj : j < 8) :
    (vstatAfterMova old g sat (some n)).getLsbD j = (vstatAfterMova old g sat none).getLsbD j := by
  change ((vstatAfterMova old g sat none &&& ~~~(0xF00 : Word)) ||| (BitVec.ofNat 32 n <<< 8)).getLsbD j = _
  have hkept : (~~~(0xF00 : Word)).getLsbD j = true := by interval_cases j <;> rfl
  rw [BitVec.getLsbD_or, BitVec.getLsbD_and, hkept, BitVec.getLsbD_shiftLeft, decide_eq_true hj]
  simp

theorem getLsbD_vstatAfterMova (old g : Word) (sat : Bool) (auto : Option Nat) :
    (vstatAfterMova old g sat auto).getLsbD 0 = (old.getLsbD 0 || sat)
      ∧ (vstatAfterMova old g sat auto).getLsbD 1 = (old.getLsbD 1 || decide (g ≠ 0))
      ∧ (vstatAfterMova old g sat auto).getLsbD 2 = decide (g ≠ 0) := by
  have hnone : (vstatAfterMova old g sat none).getLsbD 0 = (old.getLsbD 0 || sat)
      ∧ (vstatAfterMova old g sat none).getLsbD 1 = (old.getLsbD 1 || decide (g ≠ 0))
      ∧ (vstatAfterMova old g sat none).getLsbD 2 = decide (g ≠ 0) := by
    unfold vstatAfterMova
    dsimp only
    split_ifs with hg hs hs <;> simp_all [vstatSat, vstatGov, vstatLastGov]
  cases auto with
  | none => exact hnone
  | some n =>
    have hlow := getLsbD_vstatAfterMova_some old g sat n
    rwa [hlow 0 (by decide), hlow 1 (by decide), hlow 2 (by decide)]

/-- LASTSHIFT after a move with its own shift. -/
theorem lastShift_vstatAfterMova_none (old g : Word) (sat : Bool) :
    (vstatAfterMova old g sat none).extractLsb' 8 4 = old.extractLsb' 8 4 := by
  unfold vstatAfterMova
  dsimp only
  ext j hj
  simp only [BitVec.getElem_extractLsb']
  split_ifs <;> interval_cases j <;> simp [vstatSat, vstatGov, vstatLastGov]

/-- LASTSHIFT after an AUTO move. -/
theorem lastShift_vstatAfterMova_some (old g : Word) (sat : Bool) (n : Nat) :
    (vstatAfterMova old g sat (some n)).extractLsb' 8 4 = BitVec.ofNat 4 n := by
  change ((vstatAfterMova old g sat none &&& ~~~(0xF00 : Word)) ||| (BitVec.ofNat 32 n <<< 8)).extractLsb' 8 4 = _
  ext j hj
  have hcleared : (~~~(0xF00 : Word)).getLsbD (8 + j) = false := by interval_cases j <;> rfl
  rw [BitVec.getElem_extractLsb', BitVec.getLsbD_or, BitVec.getLsbD_and, hcleared, BitVec.getLsbD_shiftLeft,
    ← BitVec.getLsbD_eq_getElem, BitVec.getLsbD_ofNat, BitVec.getLsbD_ofNat, Nat.add_sub_cancel_left, decide_eq_true (by omega : 8 + j < 32), decide_eq_false (by omega : ¬ 8 + j < 8),
    decide_eq_true (by omega : j < 32),
    decide_eq_true hj]
  simp

/-! ### The lanes of a move (R80) -/

theorem movaPart_fst (g : Bool) (sh v : Int) :
    (movaPart g sh v).1 = if g then (if 0 ≤ v then 32767 else -32768) else sat16 (shiftRightInt v (15 + sh)) := by
  cases g <;> rfl

theorem movaPart_limited (g : Bool) (sh v : Int) : (movaPart g sh v).2 = false
    ↔ (g = false → -32768 ≤ shiftRightInt v (15 + sh) ∧ shiftRightInt v (15 + sh) ≤ 32767) := by
  cases g with
  | true => simp [movaPart]
  | false => simp [movaPart, sat16_eq_iff]

/-- A move limits no lane with GOV clear. -/
theorem anySat_movaLanes (x : Acc) (sh : Int) : anySat (movaLanes sh x) = false ↔ ∀ l : Fin 32, x[l].gov = false →
    (-32768 ≤ shiftRightInt x[l].re.toInt (15 + sh) ∧ shiftRightInt x[l].re.toInt (15 + sh) ≤ 32767)
      ∧ (-32768 ≤ shiftRightInt x[l].im.toInt (15 + sh) ∧ shiftRightInt x[l].im.toInt (15 + sh) ≤ 32767) := by
  unfold movaLanes
  rw [anySat_ofFn_eq_false]
  refine forall_congr' fun l => ?_
  unfold movaLane
  rw [Bool.or_eq_false_iff, movaPart_limited, movaPart_limited]
  exact forall_and.symm

/-- With the largest AUTO shift no component is limited. -/
theorem anySat_movaLanes_nine (x : Acc) : anySat (movaLanes 9 x) = false := by
  refine (anySat_movaLanes x 9).mpr fun l _ => ?_
  have hshift : ∀ w : BitVec 40, -32768 ≤ shiftRightInt w.toInt (15 + 9) ∧ shiftRightInt w.toInt (15 + 9) ≤ 32767 := by
    intro w
    have hlo := BitVec.le_toInt w
    have hhi := BitVec.toInt_lt (x := w)
    have hdiv := shiftRightInt_nat w.toInt 24
    change shiftRightInt w.toInt (15 + 9) = _ at hdiv
    rw [hdiv]
    omega
  exact ⟨hshift _, hshift _⟩

/-- The AUTO shift is the smallest that limits no component (R81). -/
theorem autoShift_spec (x : Acc) : autoShift x ≤ 9 ∧ anySat (movaLanes (autoShift x) x) = false
    ∧ ∀ m : Nat, m < autoShift x → anySat (movaLanes m x) = true := by
  unfold autoShift
  cases hf : (List.range 9).find? (fun (s : Nat) => !anySat (movaLanes (s : Int) x)) with
  | none =>
    rw [List.find?_range_eq_none] at hf
    exact ⟨le_rfl, anySat_movaLanes_nine x, fun m hm => by simpa using hf m hm⟩
  | some n =>
    rw [List.find?_range_eq_some] at hf
    obtain ⟨hn, hmem, hbelow⟩ := hf
    rw [List.mem_range] at hmem
    exact ⟨by simpa using hmem.le, by simpa using hn, fun m hm => by simpa using hbelow m hm⟩

/-! ### The instructions -/

/-- VMOVA meets no check with a legal accumulator, and AUTO to a legal register or its own shift from -8 to 9. -/
theorem checkV_mova (env : CoreEnv) (c : Core) (slot : Nat) (d b : BitVec 5) (q : BitVec 3) (fn : BitVec 6) (mod : BitVec 5)
    (hauto : mod.getLsbD 0 = true → b.getLsbD 4 = false)
    (hown : mod.getLsbD 0 = false → -8 ≤ (fn.extractLsb' 0 5).toInt ∧ (fn.extractLsb' 0 5).toInt ≤ 9) :
    checkV env c slot ⟨spellV (.mova d (0#2 ++ q) b fn mod), some (.mova d (0#2 ++ q) b fn mod)⟩ = [] := by
  have hq := accField_legal q
  change (if decide (8 ≤ (0#2 ++ q).toNat) || (if mod.getLsbD 0 then b.getLsbD 4
    else !(decide (-8 ≤ (fn.extractLsb' 0 5).toInt) && decide ((fn.extractLsb' 0 5).toInt ≤ 9))) then _ else []) = []
  refine if_neg ?_
  cases hmod : mod.getLsbD 0 with
  | true => rw [if_pos rfl, hauto hmod, decide_eq_false (by omega), Bool.or_self]; exact Bool.false_ne_true
  | false =>
    obtain ⟨hlo, hhi⟩ := hown hmod
    rw [if_neg Bool.false_ne_true, decide_eq_true hlo, decide_eq_true hhi, decide_eq_false (by omega)]
    exact Bool.false_ne_true

theorem checkV_movv (env : CoreEnv) (c : Core) (slot : Nat) (q : BitVec 3) (a : BitVec 5) :
    checkV env c slot ⟨spellV (.movv (0#2 ++ q) a), some (.movv (0#2 ++ q) a)⟩ = [] := by
  have hq := accField_legal q
  change (if decide (8 ≤ (0#2 ++ q).toNat) then _ else []) = []
  rw [decide_eq_false (by omega)]
  rfl

/-- The accumulator that VMOVV writes (R79). -/
def movvAcc (x : VReg) : Acc :=
  Vector.ofFn fun l => { re := BitVec.ofInt 40 (partRe x[l] * 32768), im := BitVec.ofInt 40 (partIm x[l] * 32768), gov := false }

/-- Lane `l` of VMOVV holds the parts exactly. -/
theorem movvAcc_lane (x : VReg) (l : Fin 32) : (movvAcc x)[l].re.toInt = partRe x[l] * 32768
    ∧ (movvAcc x)[l].im.toInt = partIm x[l] * 32768 ∧ (movvAcc x)[l].gov = false := by
  have hlane : (movvAcc x)[l] = { re := BitVec.ofInt 40 (partRe x[l] * 32768), im := BitVec.ofInt 40 (partIm x[l] * 32768)
                                  gov := false } := Vector.getElem_ofFn _
  have hre := partRe_mem x[l]
  have him := partIm_mem x[l]
  rw [hlane]
  exact ⟨toInt_ofInt_component _ (by omega), toInt_ofInt_component _ (by omega), rfl⟩

theorem bexpaccAdd_toNat (old : BitVec 8) (n : Nat) : (bexpaccAdd old n).toNat = min 255 (old.toNat + n) := by
  unfold bexpaccAdd
  rw [BitVec.toNat_ofNat]
  exact Nat.mod_eq_of_lt (Nat.lt_of_le_of_lt (Nat.min_le_left _ _) (by decide))

/-- What a move leaves in the core. -/
def Core.moved (c : Core) (d : BitVec 5) (x : Acc) (sh : Int) (auto : Option Nat) (s : Vector Word 16) (bexpacc : BitVec 8) : Core :=
  { c with v := c.v.set d.toFin (laneWords (movaLanes sh x)), s := s, bexpacc := bexpacc, govmask := govBits x
           vstat := vstatAfterMova c.vstat (govBits x) (anySat (movaLanes sh x)) auto }

/-- VMOVA with its own shift (R80). -/
theorem applyV_mova_own (c : Core) (d b : BitVec 5) (q : BitVec 3) (fn : BitVec 6) (mod : BitVec 5) (h : mod.getLsbD 0 = false) :
    applyV c c (some (.mova d (0#2 ++ q) b fn mod))
      = c.moved d c.acc[q.toFin] (fn.extractLsb' 0 5).toInt none c.s c.bexpacc := by
  rw [← Core.getAcc_field]
  exact if_neg (by rw [h]; exact Bool.false_ne_true)

/-- VMOVA with its AUTO shift (R81). -/
theorem applyV_mova_auto (c : Core) (d : BitVec 5) (q : BitVec 3) (r : BitVec 4) (fn : BitVec 6) (mod : BitVec 5)
    (h : mod.getLsbD 0 = true) :
    applyV c c (some (.mova d (0#2 ++ q) (0#1 ++ r) fn mod))
      = c.moved d c.acc[q.toFin] (autoShift c.acc[q.toFin] : Nat) (some (autoShift c.acc[q.toFin]))
          (c.s.set r.toFin (BitVec.ofNat 32 (autoShift c.acc[q.toFin]))) (bexpaccAdd c.bexpacc (autoShift c.acc[q.toFin])) := by
  rw [← Core.getAcc_field]
  refine (if_pos h).trans ?_
  rw [sField_number]
  rfl

/-- VMOVA alone in its bundle, by what it leaves in the core: the frame, the GOV flags, the lanes. -/
theorem moved_lone (s : State) (k : Fin 128) (i : Issue) (slot : VSlot) (d b : BitVec 5) (q : BitVec 3) (fn : BitVec 6) (mod : BitVec 5)
    (sh : Int) (auto : Option Nat) (regs : Vector Word 16) (bexpacc : BitVec 8) (h : s.issues k i) (hw : i.words = {})
    (hs : checkV (s.dev.coreEnv k) s.dev.cores[k] (if slot = .va then 2 else 3)
      ⟨spellV (.mova d (0#2 ++ q) b fn mod), some (.mova d (0#2 ++ q) b fn mod)⟩ = [])
    (happly : applyV s.dev.cores[k] s.dev.cores[k] (some (.mova d (0#2 ++ q) b fn mod))
      = s.dev.cores[k].moved d s.dev.cores[k].acc[q.toFin] sh auto regs bexpacc) :
    ∃ t, issueV k i slot (.mova d (0#2 ++ q) b fn mod) s = .next t
      ∧ t = s.after k i (bundleV {} slot (.mova d (0#2 ++ q) b fn mod)) { s.dev.cores[k] with
          v := t.dev.cores[k].v, s := t.dev.cores[k].s, vstat := t.dev.cores[k].vstat,
          govmask := t.dev.cores[k].govmask, bexpacc := t.dev.cores[k].bexpacc, ipend := t.dev.cores[k].ipend }
      ∧ t.dev.cores[k].v = s.dev.cores[k].v.set d.toFin (laneWords (movaLanes sh s.dev.cores[k].acc[q.toFin]))
      ∧ t.dev.cores[k].s = regs ∧ t.dev.cores[k].bexpacc = bexpacc ∧ t.dev.cores[k].govmask = govBits s.dev.cores[k].acc[q.toFin]
      ∧ t.dev.cores[k].vstat = vstatAfterMova s.dev.cores[k].vstat (govBits s.dev.cores[k].acc[q.toFin])
          (anySat (movaLanes sh s.dev.cores[k].acc[q.toFin])) auto := by
  refine ⟨_, issueV_after s k i slot _ _ h hw hs happly, ?_⟩
  rw [State.after_core]
  exact ⟨rfl, rfl, rfl, rfl, rfl, rfl⟩

/-- Settles O17: both forms of VMOVA by what a move leaves in the core, VMOVV lane by lane. -/
theorem accumulatorMoves : Obligations.AccumulatorMoves := by
  unfold Obligations.AccumulatorMoves
  intro s k i slot d b q r fn mod h hw c acc quot fits lim out lanes clean flags frame sh
  have hlanes : ∀ e : Int, laneWords (movaLanes e c.acc[q.toFin]) = lanes e := by
    intro e
    rw [movaLanes, laneWords_ofFn]
    refine congrArg Vector.ofFn (funext fun l => ?_)
    change mkCplx (movaPart _ _ _).1 (movaPart _ _ _).1 = _
    rw [movaPart_fst, movaPart_fst]
    rfl
  have hclean : ∀ e : Int, anySat (movaLanes e c.acc[q.toFin]) = false ↔ clean e := fun e => anySat_movaLanes _ e
  have hflags : ∀ (t : State) (sat : Bool) (auto : Option Nat), t.dev.cores[k].govmask = govBits c.acc[q.toFin] →
      t.dev.cores[k].vstat = vstatAfterMova c.vstat (govBits c.acc[q.toFin]) sat auto → flags t := by
    intro t sat auto hgov hvstat
    obtain ⟨-, hsticky, hlast⟩ := getLsbD_vstatAfterMova c.vstat (govBits c.acc[q.toFin]) sat auto
    refine ⟨fun l => ?_, ?_, ?_⟩
    · rw [hgov]
      exact getLsbD_govBits _ l
    · rw [hvstat, hlast, decide_eq_true_iff, govBits_ne_zero]
    · rw [hvstat, hsticky, Bool.or_eq_true, decide_eq_true_iff, govBits_ne_zero]
  refine ⟨fun hmod hlo hhi => ?_, fun hmod => ?_, fun a => ?_⟩
  · obtain ⟨t, ht, hframe, hv, hregs, hbexp, hgov, hvstat⟩ := moved_lone s k i slot d b q fn mod _ _ _ _ h hw
      (checkV_mova _ _ _ _ _ _ _ _ (fun ha => absurd ha (by rw [hmod]; exact Bool.false_ne_true)) fun _ => ⟨hlo, hhi⟩)
      (applyV_mova_own _ d b q fn mod hmod)
    refine ⟨t, ht, hframe, hflags t _ _ hgov hvstat, ?_, hregs, hbexp, ?_, ?_⟩
    · rw [hv, hlanes]
    · rw [hvstat, (getLsbD_vstatAfterMova _ _ _ _).1, Bool.or_eq_true, ← hclean, Bool.not_eq_false]
    · rw [hvstat, lastShift_vstatAfterMova_none]
  · obtain ⟨t, ht, hframe, hv, hregs, hbexp, hgov, hvstat⟩ := moved_lone s k i slot d (0#1 ++ r) q fn mod _ _ _ _ h hw
      (checkV_mova _ _ _ _ _ _ _ _ (fun _ => sField_legal r) fun ho => absurd hmod (by rw [ho]; exact Bool.false_ne_true))
      (applyV_mova_auto _ d q r fn mod hmod)
    have hspec := autoShift_spec c.acc[q.toFin]
    generalize autoShift c.acc[q.toFin] = n at hspec hv hregs hbexp hvstat
    obtain ⟨hle, hnone, hbelow⟩ := hspec
    refine ⟨t, n, ht, hframe, hflags t _ _ hgov hvstat, hle, (hclean _).mp hnone, fun m hm hcl => ?_, ?_, hregs,
      ?_, ?_, ?_⟩
    · rw [← hclean, hbelow m hm] at hcl
      exact Bool.false_ne_true hcl.symm
    · rw [hv, hlanes]
    · rw [hvstat, lastShift_vstatAfterMova_some]
    · rw [hvstat, (getLsbD_vstatAfterMova _ _ _ _).1, hnone, Bool.or_false]
    · rw [hbexp]
      exact bexpaccAdd_toNat _ _
  · obtain ⟨t, ht, hframe, hacc⟩ := acc_lone s k i slot (.movv (0#2 ++ q) a) q (movvAcc c.v[a.toFin]) h hw (checkV_movv _ _ _ _ _) rfl
    refine ⟨t, ht, hframe, fun l => ?_⟩
    rw [hacc]
    exact movvAcc_lane _ l

end Sys2Proof.Machine
end

section
/-! SUPPORT. Stores into core-local memory: the bytes of a field, the write of one word, the words of a store
(03_signal_cores.md, R72, R75, R76, R95; 12_memory.md, R306, R312). -/

namespace Sys2Proof.Machine
open Sys2Proof

/-! ### Fields as bytes -/

@[simp] theorem length_bytesOf (n x : Nat) : (bytesOf n x).length = n := by
  induction n generalizing x with
  | zero => rfl
  | succ n ih => exact congrArg (· + 1) (ih _)

/-- A field read back from its bytes. -/
theorem natOf_bytesOf (n x : Nat) : natOf (bytesOf n x) = x % 256 ^ n := by
  induction n generalizing x with
  | zero => simp [bytesOf, natOf, Nat.mod_one]
  | succ n ih =>
    have hmod : x % 256 ^ (n + 1) = x % 256 + 256 * (x / 256 % 256 ^ n) := by rw [Nat.pow_succ', Nat.mod_mul]
    rw [bytesOf, natOf, ih, hmod, BitVec.toNat_ofNat]

/-- Bytes read back from their field. -/
theorem bytesOf_natOf (bs : List Byte) : bytesOf bs.length (natOf bs) = bs := by
  induction bs with
  | nil => rfl
  | cons b bs ih =>
    have hb := b.isLt
    have hlow : BitVec.ofNat 8 (b.toNat + 256 * natOf bs) = b := by
      refine BitVec.eq_of_toNat_eq ?_
      rw [BitVec.toNat_ofNat]
      omega
    have hhigh : (b.toNat + 256 * natOf bs) / 256 = natOf bs := by omega
    rw [natOf, List.length_cons, bytesOf, hlow, hhigh, ih]

theorem natOf_lt (bs : List Byte) : natOf bs < 256 ^ bs.length := by
  induction bs with
  | nil => exact Nat.one_pos
  | cons b bs ih =>
    have hb := b.isLt
    rw [natOf, List.length_cons, Nat.pow_succ']
    omega

/-- What lies from `a` up, byte by byte. -/
theorem Memory.bytes_eq (m : Memory) (a n : Nat) : m.bytes a n = (List.range n).map (fun j => m.byte (a + j)) := by
  induction n generalizing a with
  | zero => rfl
  | succ n ih =>
    rw [Memory.bytes, ih, List.range_succ_eq_map, List.map_cons, List.map_map]
    refine congrArg₂ _ rfl (List.map_congr_left fun j _ => ?_)
    rw [Function.comp_apply, Nat.succ_eq_add_one, Nat.add_assoc, Nat.add_comm 1]

/-- What lies from `a` up, from its bytes. -/
theorem Memory.bytes_of_byte (m : Memory) (a : Nat) (bs : List Byte) (h : ∀ j (hj : j < bs.length), m.byte (a + j) = bs[j]) :
    m.bytes a bs.length = bs := by
  rw [Memory.bytes_eq]
  refine List.ext_getElem (by simp) fun j hj hj' => ?_
  rw [List.getElem_map, List.getElem_range]
  exact h j hj'

/-! ### The write of one word into core-local memory -/

/-- Memory in its canonical form whose HARQ area lies outside core-local memory. -/
def Memory.localPlain (m : Memory) : Prop := m.wf = true ∧ ∀ x, x < 0x4000000 → m.inHarq x = false

/-- The address of a word in core-local memory. -/
def localWord (a : Nat) : Prop := a % 4 = 0 ∧ a + 4 ≤ 0x4000000

/-- A byte of a word written as a whole is written even where the word is poisoned (R306). -/
theorem Memory.ifWriteByte_local (m : Memory) (a j : Nat) (b : Byte) (hm : m.localPlain) (ha : localWord a) (hj : j < 4) :
    (m.ifWriteByte a 4 (a + j) b).localPlain
      ∧ ∀ x, (m.ifWriteByte a 4 (a + j) b).byte x = if x = a + j then b else m.byte x := by
  obtain ⟨hwf, hharq⟩ := hm
  obtain ⟨halign, hend⟩ := ha
  have hword : codeWordOf (a + j) = a ∧ codeWidth a = 4 := by
    unfold codeWordOf codeWidth
    rw [if_pos (by omega), if_pos (by omega)]
    omega
  have hfirst : m.firstUse (a + j) = m := by simp [Memory.firstUse, hharq (a + j) (by omega)]
  have hwrite : ∃ p, m.ifWriteByte a 4 (a + j) b = { m with cells := cellsWrite m.cells (a + j) b, poison := p } := by
    unfold Memory.ifWriteByte
    rw [hword.1, hfirst]
    dsimp only
    rw [hword.2]
    split_ifs with hp hcover
    · exact ⟨_, rfl⟩
    · exact ⟨_, rfl⟩
    · omega
    · exact ⟨_, rfl⟩
  refine ⟨⟨Memory.ifWriteByte_wf m _ _ _ _ hwf, ?_⟩, fun x => ?_⟩
  · obtain ⟨p, hp⟩ := hwrite
    rw [hp]
    exact hharq
  · obtain ⟨p, hp⟩ := hwrite
    rw [hp]
    exact cellsRead_write b m.cells 0 (a + j) x (Nat.zero_le _) hwf

/-- The rest of a word, written from its byte `j` up. -/
theorem Memory.ifWriteFrom_local (a : Nat) (ha : localWord a) (bs : List Byte) :
    ∀ (m : Memory) (j : Nat), m.localPlain → j + bs.length = 4 → (m.ifWriteFrom a 4 (a + j) bs).localPlain
      ∧ (∀ x, (x < a + j ∨ a + 4 ≤ x) → (m.ifWriteFrom a 4 (a + j) bs).byte x = m.byte x)
      ∧ ∀ i (hi : i < bs.length), (m.ifWriteFrom a 4 (a + j) bs).byte (a + j + i) = bs[i] := by
  induction bs with
  | nil => exact fun m j hm _ => ⟨hm, fun x _ => rfl, fun i hi => absurd hi (Nat.not_lt_zero i)⟩
  | cons b bs ih =>
    intro m j hm hlen
    rw [List.length_cons] at hlen
    obtain ⟨hm', hbyte⟩ := Memory.ifWriteByte_local m a j b hm ha (by omega)
    obtain ⟨hplain, hkept, hwritten⟩ := ih (m.ifWriteByte a 4 (a + j) b) (j + 1) hm' (by omega)
    change (Memory.ifWriteFrom (m.ifWriteByte a 4 (a + j) b) a 4 (a + (j + 1)) bs).localPlain ∧ _ ∧ _
    refine ⟨hplain, fun x hx => ?_, fun i hi => ?_⟩
    · exact (hkept x (by omega)).trans ((hbyte x).trans (if_neg (by omega)))
    · cases i with
      | zero => exact (hkept (a + j + 0) (by omega)).trans ((hbyte _).trans (if_pos rfl))
      | succ i =>
        have hlast := hwritten i (by simpa using hi)
        have haddr : a + (j + 1) + i = a + j + (i + 1) := by omega
        rw [haddr] at hlast
        exact hlast

/-- A word written: its bytes, and every other byte as before. -/
theorem Memory.ifWrite_local (m : Memory) (a : Nat) (bs : List Byte) (hm : m.localPlain) (ha : localWord a) (hlen : bs.length = 4) :
    (m.ifWrite a bs).localPlain ∧ (∀ x, (x < a ∨ a + 4 ≤ x) → (m.ifWrite a bs).byte x = m.byte x)
      ∧ (m.ifWrite a bs).bytes a 4 = bs := by
  unfold Memory.ifWrite
  rw [hlen]
  obtain ⟨hplain, hkept, hwritten⟩ := Memory.ifWriteFrom_local a ha bs m 0 hm (by omega)
  refine ⟨hplain, hkept, ?_⟩
  have hall := Memory.bytes_of_byte (m.ifWriteFrom a 4 a bs) a bs hwritten
  rwa [hlen] at hall

/-! ### The words of a store -/

theorem storeWords_cons (m : Memory) (base : Nat) (e : Word × Word) (xs : List (Word × Word)) :
    storeWords m base (e :: xs) = storeWords (m.ifWrite (base + e.1.toNat) (bytesOf 4 e.2.toNat)) base xs := by
  unfold storeWords
  exact List.foldl_cons ..

/-- A store leaves every byte outside its words as it was. -/
theorem storeWords_local (base : Nat) (xs : List (Word × Word)) :
    ∀ m : Memory, m.localPlain → (∀ e ∈ xs, localWord (base + e.1.toNat)) →
      (storeWords m base xs).localPlain ∧ ∀ x, (∀ e ∈ xs, x < base + e.1.toNat ∨ base + e.1.toNat + 4 ≤ x) →
        (storeWords m base xs).byte x = m.byte x := by
  induction xs with
  | nil => exact fun m hm _ => ⟨hm, fun x _ => rfl⟩
  | cons e xs ih =>
    intro m hm hxs
    rw [List.forall_mem_cons] at hxs
    obtain ⟨hplain, hkept, -⟩ := Memory.ifWrite_local m _ (bytesOf 4 e.2.toNat) hm hxs.1 (length_bytesOf 4 _)
    obtain ⟨hrest, hbyte⟩ := ih _ hplain hxs.2
    rw [storeWords_cons]
    refine ⟨hrest, fun x hx => ?_⟩
    rw [List.forall_mem_cons] at hx
    exact (hbyte x hx.2).trans (hkept x hx.1)

/-- A store to words at different addresses leaves each with its data. -/
theorem storeWords_bytes (base : Nat) (xs : List (Word × Word)) :
    ∀ m : Memory, m.localPlain → (∀ e ∈ xs, localWord (base + e.1.toNat)) → xs.Pairwise (fun e f => e.1 ≠ f.1) →
      ∀ e ∈ xs, (storeWords m base xs).bytes (base + e.1.toNat) 4 = bytesOf 4 e.2.toNat := by
  induction xs with
  | nil => exact fun m _ _ _ e he => absurd he List.not_mem_nil
  | cons e xs ih =>
    intro m hm hxs hdiff
    rw [List.forall_mem_cons] at hxs
    rw [List.pairwise_cons] at hdiff
    obtain ⟨hplain, -, hwritten⟩ := Memory.ifWrite_local m _ (bytesOf 4 e.2.toNat) hm hxs.1 (length_bytesOf 4 _)
    rw [storeWords_cons]
    refine List.forall_mem_cons.mpr ⟨?_, fun f hf => ih _ hplain hxs.2 hdiff.2 f hf⟩
    obtain ⟨-, hbyte⟩ := storeWords_local base xs _ hplain hxs.2
    refine Eq.trans ?_ hwritten
    rw [Memory.bytes_eq, Memory.bytes_eq]
    refine List.map_congr_left fun j hj => hbyte _ fun f hf => ?_
    have hne : e.1.toNat ≠ f.1.toNat := fun heq => hdiff.1 f hf (BitVec.eq_of_toNat_eq heq)
    have he4 := hxs.1.1
    have hf4 := (hxs.2 f hf).1
    have hj4 := List.mem_range.mp hj
    omega

/-! ### The element addresses of an access that meets its checks (R75 to R77) -/

theorem addrLow_lt (x : Word) (h : addrLow x = true) : x.toNat < 0x80000 := by
  have hx := x.isLt
  have hhigh := congrArg BitVec.toNat (eq_of_beq h)
  rw [BitVec.extractLsb'_toNat, Nat.shiftRight_eq_div_pow] at hhigh
  change x.toNat / 524288 % 8192 = 0 at hhigh
  omega

theorem elemOk_word (c : Core) (x : Word) (h : elemOk c x = true) : x.toNat % 4 = 0 ∧ x.toNat + 4 ≤ 0x60000 := by
  unfold elemOk at h
  rw [Bool.and_eq_true] at h
  obtain ⟨halign, hwindow⟩ := h
  have hlow := congrArg BitVec.toNat (eq_of_beq halign)
  rw [BitVec.extractLsb'_toNat, Nat.shiftRight_zero] at hlow
  refine ⟨hlow, ?_⟩
  cases hc : c.level <;> rw [hc] at hwindow <;> simp at hwindow <;> omega

/-- What an access meets that fails no check of its address. -/
theorem lsBadAddr_none (c : Core) (fn : LsFn) (an : BitVec 3) (mode : BitVec 2) (imm : BitVec 14) (h : lsBadAddr c fn an mode imm = none) :
    addrLow c.a[an.toFin] = true ∧ addrLow (lsEa c an mode imm) = true
      ∧ (lsWraps c an mode = true → c.l[(an.extractLsb' 0 2).toFin].toNat % (if lsSize fn = 128 then 128 else 4) = 0)
      ∧ ∀ l < lsSize fn / 4, elemOk c (lsElem c an mode imm l) = true := by
  unfold lsBadAddr at h
  dsimp only at h
  generalize (if lsSize fn = 128 then 128 else 4) = q at h ⊢
  split_ifs at h with ha hwrap hea halign
  refine ⟨by simpa using ha, by simpa using hea, fun hw => ?_, fun l hl => ?_⟩
  · rw [hw, Bool.true_and, Bool.not_eq_true', Bool.not_eq_false, Bool.and_eq_true, beq_iff_eq, beq_iff_eq] at hwrap
    exact hwrap.2
  · rw [List.find?_eq_none] at h
    simpa using h _ (List.mem_map.mpr ⟨l, List.mem_range.mpr hl, rfl⟩)

/-- Elements of an access that does not wrap lie 4 bytes apart. -/
theorem lsElem_straight (c : Core) (an : BitVec 3) (mode : BitVec 2) (imm : BitVec 14) (l : Nat) (hw : lsWraps c an mode = false)
    (hea : addrLow (lsEa c an mode imm) = true) (hl : l < 96) :
    (lsElem c an mode imm l).toNat = (lsEa c an mode imm).toNat + 4 * l := by
  have hlow := addrLow_lt _ hea
  unfold lsElem
  rw [if_neg (by rw [hw]; exact Bool.false_ne_true), BitVec.toNat_add, BitVec.toNat_ofNat]
  omega

/-- A sum of 32-bit integers that stays in their range. -/
theorem toInt_add_ofInt (x : Word) (k : Int) (hx : -(2 ^ 30) ≤ x.toInt ∧ x.toInt < 2 ^ 30) (hk : 0 ≤ k ∧ k < 2 ^ 30) :
    (x + BitVec.ofInt 32 k).toInt = x.toInt + k := by
  rw [BitVec.toInt_add, BitVec.toInt_ofInt, Int.bmod_eq_of_le (n := k) (by omega) (by omega), Int.bmod_eq_of_le (by omega) (by omega)]

/-- The distance of an address from the start of its circular buffer, where both are low. -/
theorem toInt_sub_of_low (a b : Word) (o : Nat) (ho : o < 0x80000) (ha : a.toNat < 0x80000)
    (hx : (b + BitVec.ofNat 32 o).toNat < 0x80000) : -(2 ^ 30) ≤ (a - b).toInt ∧ (a - b).toInt < 2 ^ 30 := by
  have hb := b.isLt
  rw [BitVec.toNat_add, BitVec.toNat_ofNat] at hx
  rw [BitVec.toInt_eq_toNat_cond, BitVec.toNat_sub]
  omega

/-- The circular offset of an element, as a natural number below the length. -/
def circNat (D : Int) (l n : Nat) : Nat := ((D + (4 * l : Nat)) % (n : Int)).toNat

theorem circNat_lt (D : Int) (l n : Nat) (hn : 0 < n) : circNat D l n < n := by
  have hpos := Int.emod_nonneg (D + (4 * l : Nat)) (by omega : (n : Int) ≠ 0)
  have hlt := Int.emod_lt_of_pos (D + (4 * l : Nat)) (by omega : (0 : Int) < n)
  unfold circNat
  omega

/-- Different elements that fit the buffer have different offsets. -/
theorem circNat_inj (D : Int) (n i j : Nat) (hn : 128 ≤ n) (hi : i < 32) (hj : j < 32) (h : circNat D i n = circNat D j n) : i = j := by
  have hpos : ∀ l : Nat, 0 ≤ (D + (4 * l : Nat)) % (n : Int) := fun l => Int.emod_nonneg _ (by omega)
  have hmod : (D + (4 * i : Nat)) % (n : Int) = (D + (4 * j : Nat)) % (n : Int) := by
    have h1 := Int.toNat_of_nonneg (hpos i)
    have h2 := Int.toNat_of_nonneg (hpos j)
    unfold circNat at h
    rw [← h1, ← h2, h]
  have hdvd := Int.emod_eq_emod_iff_emod_sub_eq_zero.mp hmod
  have hzero := Int.eq_zero_of_abs_lt_dvd (Int.dvd_of_emod_eq_zero hdvd) (by rw [abs_lt]; omega)
  omega

/-- The circular offset where 32 bits hold the sum. -/
theorem circOff_eq (a b : Word) (l n : Nat) (hn : 0 < n ∧ n < 0x80000) (hl : l < 96)
    (hD : -(2 ^ 30) ≤ (a - b).toInt ∧ (a - b).toInt < 2 ^ 30) :
    circOff a b (4 * l : Nat) n = BitVec.ofNat 32 (circNat (a - b).toInt l n) := by
  have hpos := Int.emod_nonneg ((a - b).toInt + (4 * l : Nat)) (by omega : (n : Int) ≠ 0)
  unfold circOff
  rw [toInt_add_ofInt _ _ hD (by omega), ← Int.toNat_of_nonneg hpos]
  exact BitVec.ofInt_natCast _ _

/-- A circular offset lies in its buffer. -/
theorem circOff_lt (a b : Word) (k : Int) (n : Nat) (hn : 0 < n) : ∃ o < n, circOff a b k n = BitVec.ofNat 32 o := by
  have hpos := Int.emod_nonneg (a - b + BitVec.ofInt 32 k).toInt (by omega : (n : Int) ≠ 0)
  have hlt := Int.emod_lt_of_pos (a - b + BitVec.ofInt 32 k).toInt (by omega : (0 : Int) < n)
  refine ⟨((a - b + BitVec.ofInt 32 k).toInt % (n : Int)).toNat, by omega, ?_⟩
  unfold circOff
  rw [← Int.toNat_of_nonneg hpos]
  exact BitVec.ofInt_natCast _ _

/-- Elements in one circular buffer lie at different addresses, where the first is low and the buffer holds all of them. -/
theorem circOff_inj (a b : Word) (n i j : Nat) (hn : 128 ≤ n ∧ n < 0x80000) (ha : a.toNat < 0x80000)
    (hx : (b + circOff a b (4 * 0 : Nat) n).toNat < 0x80000) (hi : i < 32) (hj : j < 32)
    (h : b + circOff a b (4 * i : Nat) n = b + circOff a b (4 * j : Nat) n) : i = j := by
  obtain ⟨o, ho, hoff⟩ := circOff_lt a b (4 * 0 : Nat) n (by omega)
  rw [hoff] at hx
  have hD := toInt_sub_of_low a b o (by omega) ha hx
  rw [circOff_eq a b i n (by omega) (by omega) hD, circOff_eq a b j n (by omega) (by omega) hD, BitVec.add_right_inj] at h
  have hnat := congrArg BitVec.toNat h
  have hlt := fun k => circNat_lt (a - b).toInt k n (by omega)
  rw [BitVec.toNat_ofNat, BitVec.toNat_ofNat, Nat.mod_eq_of_lt (by have := hlt i; omega), Nat.mod_eq_of_lt (by have := hlt j; omega)]
    at hnat
  exact circNat_inj _ n i j hn.1 hi hj hnat

/-- The elements of a vector access that meets its checks lie at different addresses. -/
theorem lsElem_inj (c : Core) (fn : LsFn) (an : BitVec 3) (mode : BitVec 2) (imm : BitVec 14) (hbad : lsBadAddr c fn an mode imm = none)
    (hwrap : lsWraps c an mode = true → lsSize fn = 128 ∨ lsSize fn = 4) (i j : Nat) (hi : i < lsSize fn / 4) (hj : j < lsSize fn / 4)
    (h : lsElem c an mode imm i = lsElem c an mode imm j) : i = j := by
  obtain ⟨ha, hea, hlen, hok⟩ := lsBadAddr_none c fn an mode imm hbad
  have hsize : lsSize fn / 4 ≤ 96 := by cases fn <;> decide
  cases hw : lsWraps c an mode with
  | false =>
    have heq := congrArg BitVec.toNat h
    rw [lsElem_straight c an mode imm i hw hea (by omega), lsElem_straight c an mode imm j hw hea (by omega)] at heq
    omega
  | true =>
    obtain h128 | h4 := hwrap hw
    case inr => omega
    have hmul := hlen hw
    rw [if_pos h128] at hmul
    rw [h128] at hi hj hok
    have hl : (c.l[(an.extractLsb' 0 2).toFin]).toNat ≠ 0 := by
      intro hz
      unfold lsWraps at hw
      rw [Bool.and_eq_true, bne_iff_ne] at hw
      exact hw.2 (BitVec.eq_of_toNat_eq hz)
    have hl19 := (c.l[(an.extractLsb' 0 2).toFin]).isLt
    have helem : ∀ k, lsElem c an mode imm k = c.b[(an.extractLsb' 0 2).toFin]
        + circOff c.a[an.toFin] c.b[(an.extractLsb' 0 2).toFin] (4 * k : Nat) (c.l[(an.extractLsb' 0 2).toFin]).toNat :=
      fun k => if_pos hw
    have hfirst := (elemOk_word c _ (hok 0 (by decide))).2
    rw [helem] at hfirst
    rw [helem, helem] at h
    exact circOff_inj _ _ _ i j (by omega) (addrLow_lt _ ha) (by omega) hi hj h

/-! ### The instructions -/

/-- What a lone store leaves in memory. -/
def stored (s : State) (k : Fin 128) (fn : LsFn) (r : BitVec 5) (an : BitVec 3) (mode : BitVec 2) (imm : BitVec 14) : Memory :=
  storeWords s.dev.mem (coreBase k) ((lsElems s.dev.cores[k] fn an mode imm).zip (storeData s.dev.cores[k] fn r))

/-- A store alone in its bundle: its words in memory, and An updated (R72, R75). -/
theorem store_lone (s : State) (k : Fin 128) (i : Issue) (fn : LsFn) (r : BitVec 5) (an mn : BitVec 3) (mode : BitVec 2)
    (imm : BitVec 14) (h : s.issues k i) (hw : i.words = {}) (hfn : lsIsLoad fn = false)
    (hs : checkLs s.dev.cores[k] ⟨spellLs (.acc fn r an mn mode imm), some (.acc fn r an mn mode imm)⟩ = []) :
    issueLs k i fn r an mn mode imm s = .next (s.withCore k (s.dev.cores[k].passed (s.dev.coreEnv k)
      { s.dev.cores[k] with a := s.dev.cores[k].a.set an.toFin (lsAn s.dev.cores[k] an mn mode imm) }
      (bundleLs {} (.acc fn r an mn mode imm)) i) (stored s k fn r an mode imm)) := by
  have hupdate : (if mode = 0 then s.dev.cores[k].a[an.toFin] else lsAn s.dev.cores[k] an mn mode imm)
      = lsAn s.dev.cores[k] an mn mode imm := by
    by_cases hmode : mode = 0
    · rw [if_pos hmode]
      exact (if_pos hmode).symm
    · exact if_neg hmode
  have hnoError : loadError (s.dev.coreEnv k) s.dev.cores[k] s.dev.mem (bundleLs {} (.acc fn r an mn mode imm)) .none = none :=
    if_pos (by rw [hfn]; rfl)
  rw [exec_lone_ls s k i fn r an mn mode imm h hw hs hnoError, hfn]
  dsimp only
  rw [if_neg Bool.false_ne_true, hupdate]
  rfl

/-- A store whose address meets its checks, on plain core-local memory: the bytes outside its elements stay, and each element holds
its data where the elements lie at different addresses. -/
theorem stored_bytes (s : State) (k : Fin 128) (fn : LsFn) (r : BitVec 5) (an : BitVec 3) (mode : BitVec 2) (imm : BitVec 14)
    (hm : s.dev.mem.localPlain) (hbad : lsBadAddr s.dev.cores[k] fn an mode imm = none)
    (hwrap : lsWraps s.dev.cores[k] an mode = true → lsSize fn = 128 ∨ lsSize fn = 4)
    (hlen : (storeData s.dev.cores[k] fn r).length = lsSize fn / 4) :
    (∀ x, (∀ l, l < lsSize fn / 4 → x < coreBase k + (lsElem s.dev.cores[k] an mode imm l).toNat
        ∨ coreBase k + (lsElem s.dev.cores[k] an mode imm l).toNat + 4 ≤ x) →
      (stored s k fn r an mode imm).byte x = s.dev.mem.byte x)
    ∧ ∀ l (hl : l < (storeData s.dev.cores[k] fn r).length),
      (stored s k fn r an mode imm).bytes (coreBase k + (lsElem s.dev.cores[k] an mode imm l).toNat) 4
        = bytesOf 4 ((storeData s.dev.cores[k] fn r)[l]).toNat := by
  obtain ⟨-, -, -, hok⟩ := lsBadAddr_none _ fn an mode imm hbad
  have hk := k.isLt
  have hcount : (lsElems s.dev.cores[k] fn an mode imm).length = (storeData s.dev.cores[k] fn r).length := by rw [hlen]; simp [lsElems]
  have hmem : ∀ e ∈ (lsElems s.dev.cores[k] fn an mode imm).zip (storeData s.dev.cores[k] fn r),
      ∃ l < lsSize fn / 4, e.1 = lsElem s.dev.cores[k] an mode imm l := by
    intro e he
    obtain ⟨l, hl, heq⟩ := List.mem_map.mp (List.of_mem_zip he).1
    exact ⟨l, List.mem_range.mp hl, heq.symm⟩
  have hwords : ∀ e ∈ (lsElems s.dev.cores[k] fn an mode imm).zip (storeData s.dev.cores[k] fn r),
      localWord (coreBase k + e.1.toNat) := by
    intro e he
    obtain ⟨l, hl, heq⟩ := hmem e he
    obtain ⟨halign, hend⟩ := elemOk_word _ _ (hok l hl)
    rw [heq]
    unfold localWord coreBase
    omega
  have hdiff : ((lsElems s.dev.cores[k] fn an mode imm).zip (storeData s.dev.cores[k] fn r)).Pairwise (fun e f => e.1 ≠ f.1) := by
    rw [← List.pairwise_map (f := Prod.fst) (R := (· ≠ ·)), List.map_fst_zip hcount.le]
    refine List.Nodup.map_on (fun i hi j hj heq => ?_) List.nodup_range
    exact lsElem_inj _ fn an mode imm hbad hwrap i j (List.mem_range.mp hi) (List.mem_range.mp hj) heq
  refine ⟨fun x hx => ?_, fun l hl => ?_⟩
  · refine (storeWords_local _ _ _ hm hwords).2 x fun e he => ?_
    obtain ⟨l, hl, heq⟩ := hmem e he
    rw [heq]
    exact hx l hl
  · have hzip : l < ((lsElems s.dev.cores[k] fn an mode imm).zip (storeData s.dev.cores[k] fn r)).length := by
      rw [List.length_zip, hcount, Nat.min_self]
      exact hl
    have hpair : ((lsElems s.dev.cores[k] fn an mode imm).zip (storeData s.dev.cores[k] fn r))[l]
        = (lsElem s.dev.cores[k] an mode imm l, (storeData s.dev.cores[k] fn r)[l]) := by
      rw [List.getElem_zip]
      simp [lsElems]
    have hbytes := storeWords_bytes _ _ _ hm hwords hdiff _ (List.getElem_mem hzip)
    rw [hpair] at hbytes
    exact hbytes

/-! ### The bytes of an accumulator (R95) -/

/-- The bytes of lane `l` among those of all lanes. -/
theorem take_drop_flatMap (f : AccLane → List Byte) (n : Nat) (hf : ∀ x, (f x).length = n) (xs : List AccLane) :
    ∀ l (hl : l < xs.length), ((xs.flatMap f).drop (n * l)).take n = f xs[l] := by
  induction xs with
  | nil => exact fun l hl => absurd hl (Nat.not_lt_zero l)
  | cons x xs ih =>
    intro l hl
    rw [List.flatMap_cons]
    cases l with
    | zero => rw [Nat.mul_zero, List.drop_zero, ← hf x, List.take_left, List.getElem_cons_zero]
    | succ l =>
      rw [Nat.mul_succ, Nat.add_comm, ← List.drop_drop, ← hf x, List.drop_left, hf x]
      exact ih l (by simpa using hl)

/-- The bytes that ASV writes. -/
def accBytes (x : Acc) : List Byte := x.toList.flatMap asvLane

theorem length_asvLane (x : AccLane) : (asvLane x).length = 12 := by simp [asvLane]

theorem length_accBytes (x : Acc) : (accBytes x).length = 384 := by
  simp [accBytes, List.length_flatMap, length_asvLane]

/-- Byte `j` of lane `l`. -/
theorem getElem_accBytes (x : Acc) (l : Fin 32) (j : Nat) (hj : j < 12) :
    (accBytes x)[12 * l.val + j]'(by rw [length_accBytes]; omega) = (asvLane x[l])[j]'(by rw [length_asvLane]; omega) := by
  have htake := take_drop_flatMap asvLane 12 length_asvLane x.toList l.val (by simp)
  have hget := List.getElem_of_eq htake (i := j) (by rw [htake, length_asvLane]; exact hj)
  rw [List.getElem_take, List.getElem_drop] at hget
  exact hget

/-- What ASV stores: its words are the bytes of the accumulator, four by four. -/
theorem bytesOf_storeData_asv (c : Core) (q : BitVec 3) (j : Nat) (hj : j < (storeData c .asv (0#2 ++ q)).length) :
    bytesOf 4 ((storeData c .asv (0#2 ++ q))[j]).toNat = ((accBytes c.acc[q.toFin]).drop (4 * j)).take 4 := by
  have hlen := length_accBytes c.acc[q.toFin]
  have hdata : storeData c .asv (0#2 ++ q) = (List.range 96).map (fun k =>
      BitVec.ofNat 32 (natOf (((accBytes c.acc[q.toFin]).drop (4 * k)).take 4))) := by
    rw [← Core.getAcc_field]
    rfl
  have hj96 : j < 96 := by simpa [hdata] using hj
  have hfour : (((accBytes c.acc[q.toFin]).drop (4 * j)).take 4).length = 4 := by
    rw [List.length_take, List.length_drop]
    omega
  have hlt := natOf_lt (((accBytes c.acc[q.toFin]).drop (4 * j)).take 4)
  rw [hfour] at hlt
  have hread := bytesOf_natOf (((accBytes c.acc[q.toFin]).drop (4 * j)).take 4)
  rw [hfour] at hread
  simp only [hdata, List.getElem_map, List.getElem_range]
  rw [BitVec.toNat_ofNat]
  exact (congrArg (bytesOf 4) (Nat.mod_eq_of_lt hlt)).trans hread

/-- One byte of a range read. -/
theorem Memory.byte_of_bytes (m : Memory) (a n : Nat) (bs : List Byte) (h : m.bytes a n = bs) (j : Nat) (hj : j < bs.length) :
    m.byte (a + j) = bs[j] := by
  subst h
  simp [Memory.bytes_eq]

/-- A lane of an accumulator where its bytes lie in memory (R95). -/
theorem Memory.asvLane_read (m : Memory) (a : Nat) (x : AccLane) (h : ∀ j (hj : j < (asvLane x).length), m.byte (a + j) = (asvLane x)[j]) :
    m.field a 5 = x.re.toNat ∧ m.field (a + 5) 5 = x.im.toNat ∧ m.byte (a + 10) = (if x.gov then 1 else 0) ∧ m.byte (a + 11) = 0 := by
  have hre := x.re.isLt
  have him := x.im.isLt
  have hfield : ∀ (p v : Nat), v < 2 ^ 40 → (∀ j (hj : j < (bytesOf 5 v).length), m.byte (p + j) = (bytesOf 5 v)[j]) → m.field p 5 = v := by
    intro p v hv hbytes
    have hread := Memory.bytes_of_byte m p (bytesOf 5 v) hbytes
    rw [length_bytesOf] at hread
    rw [Memory.field, hread, natOf_bytesOf]
    exact Nat.mod_eq_of_lt hv
  refine ⟨hfield a _ hre fun j hj => ?_, hfield (a + 5) _ him fun j hj => ?_, ?_, ?_⟩
  · rw [length_bytesOf] at hj
    have hleft := h j (by rw [length_asvLane]; omega)
    have happend : (asvLane x)[j]'(by rw [length_asvLane]; omega) = (bytesOf 5 x.re.toNat)[j]'(by simpa using hj) := by
      simp only [asvLane, List.append_assoc]
      exact List.getElem_append_left _
    rwa [happend] at hleft
  · rw [length_bytesOf] at hj
    have hmid := h (5 + j) (by rw [length_asvLane]; omega)
    have happend : (asvLane x)[5 + j]'(by rw [length_asvLane]; omega) = (bytesOf 5 x.im.toNat)[j]'(by simpa using hj) := by
      simp only [asvLane, List.append_assoc]
      rw [List.getElem_append_right (by simp)]
      simp [List.getElem_append_left, hj]
    rwa [happend, ← Nat.add_assoc] at hmid
  · exact h 10 (by rw [length_asvLane]; decide)
  · exact h 11 (by rw [length_asvLane]; decide)

/-- A word whose bytes were written. -/
theorem Memory.word_of_bytes (m : Memory) (a : Nat) (w : Word) (h : m.bytes a 4 = bytesOf 4 w.toNat) : m.word a = w := by
  have hw := w.isLt
  unfold Memory.word Memory.field
  rw [h, natOf_bytesOf]
  refine BitVec.eq_of_toNat_eq ?_
  rw [BitVec.toNat_ofNat]
  omega

/-- A store alone meets no check with legal fields and an address that meets its own. -/
theorem checkLs_store (c : Core) (fn : LsFn) (r : BitVec 5) (an mn : BitVec 3) (mode : BitVec 2) (imm : BitVec 14)
    (hring : mode = 3 → an.getLsbD 2 = false) (hbad : lsBadAddr c fn an mode imm = none)
    (hscalar : fn = .ldw ∨ fn = .stw → r.getLsbD 4 = false) (hacc : fn = .asv ∨ fn = .ald → r.toNat < 8 ∧ mode ≠ 3) :
    checkLs c ⟨spellLs (.acc fn r an mn mode imm), some (.acc fn r an mn mode imm)⟩ = [] := by
  have hlow : ∀ x : BitVec 3, x.getLsbD 2 = false → ¬ 4 ≤ x.toNat := by decide
  have h1 : (decide (4 ≤ an.toNat) && mode == 3) = false := by
    by_cases hmode : mode = 3
    · rw [decide_eq_false (hlow an (hring hmode)), Bool.false_and]
    · rw [beq_eq_false_iff_ne.mpr hmode, Bool.and_false]
  have h2 : ((decide (fn = .ldw) || decide (fn = .stw)) && r.getLsbD 4) = false := by
    by_cases hfn : fn = .ldw ∨ fn = .stw
    · rw [hscalar hfn, Bool.and_false]
    · rw [← Bool.decide_or, decide_eq_false hfn, Bool.false_and]
  have h3 : ((decide (fn = .asv) || decide (fn = .ald)) && (decide (8 ≤ r.toNat) || mode == 3)) = false := by
    by_cases hfn : fn = .asv ∨ fn = .ald
    · obtain ⟨hr, hmode⟩ := hacc hfn
      rw [decide_eq_false (p := 8 ≤ r.toNat) (by omega), beq_eq_false_iff_ne.mpr hmode, Bool.or_self, Bool.and_false]
    · rw [← Bool.decide_or, decide_eq_false hfn, Bool.false_and]
  unfold checkLs
  dsimp only
  rw [h1, h2, h3, hbad]
  rfl

/-- The bytes that ASV leaves in memory, from those of its words. -/
theorem byte_of_asv (m : Memory) (a : Nat) (c : Core) (q : BitVec 3)
    (h : ∀ l (hl : l < (storeData c .asv (0#2 ++ q)).length), m.bytes (a + 4 * l) 4 = bytesOf 4 ((storeData c .asv (0#2 ++ q))[l]).toNat)
    (l : Fin 32) (j : Nat) (hj : j < (asvLane c.acc[q.toFin][l]).length) :
    m.byte (a + 12 * l.val + j) = (asvLane c.acc[q.toFin][l])[j] := by
  have hj12 := hj
  rw [length_asvLane] at hj12
  have hl := l.isLt
  have hword : 3 * l.val + j / 4 < (storeData c .asv (0#2 ++ q)).length := by simp [storeData]; omega
  have hbytes := h _ hword
  rw [bytesOf_storeData_asv] at hbytes
  have hfour : j % 4 < (((accBytes c.acc[q.toFin]).drop (4 * (3 * l.val + j / 4))).take 4).length := by
    rw [List.length_take, List.length_drop, length_accBytes]
    omega
  have hbyte := Memory.byte_of_bytes _ _ _ _ hbytes (j % 4) hfour
  rw [List.getElem_take, List.getElem_drop] at hbyte
  have haddr : a + 4 * (3 * l.val + j / 4) + j % 4 = a + 12 * l.val + j := by omega
  have hindex : 4 * (3 * l.val + j / 4) + j % 4 = 12 * l.val + j := by omega
  simp only [haddr, hindex] at hbyte
  exact hbyte.trans (getElem_accBytes _ l j hj12)

/-- Settles O13: what a store leaves in memory, for each of the three. -/
theorem storesWriteTheirBytesAndNoOther : Obligations.StoresWriteTheirBytesAndNoOther := by
  unfold Obligations.StoresWriteTheirBytesAndNoOther
  intro s k i an mn mode imm h hw hring hwf hharq c base addr done
  have hm : s.dev.mem.localPlain := ⟨hwf, hharq⟩
  have hstore : ∀ (fn : LsFn) (r : BitVec 5), lsIsLoad fn = false →
      checkLs c ⟨spellLs (.acc fn r an mn mode imm), some (.acc fn r an mn mode imm)⟩ = [] → lsBadAddr c fn an mode imm = none →
      (lsWraps c an mode = true → lsSize fn = 128 ∨ lsSize fn = 4) → (storeData c fn r).length = lsSize fn / 4 →
      ∃ t, issueLs k i fn r an mn mode imm s = .next t ∧ done fn r (lsSize fn / 4) t
        ∧ ∀ l (hl : l < (storeData c fn r).length), t.dev.mem.bytes (addr l) 4 = bytesOf 4 ((storeData c fn r)[l]).toNat := by
    intro fn r hfn hcheck hbad hwrap hlen
    obtain ⟨hkept, hwritten⟩ := stored_bytes s k fn r an mode imm hm hbad hwrap hlen
    exact ⟨_, store_lone s k i fn r an mn mode imm h hw hfn hcheck, ⟨rfl, hkept⟩, hwritten⟩
  refine ⟨fun hbad r => ?_, fun hbad r => ?_, fun hmode hbad r => ?_⟩
  · obtain ⟨t, ht, hdone, hbytes⟩ := hstore .stw (0#1 ++ r) rfl
      (checkLs_store c .stw _ an mn mode imm hring hbad (fun _ => sField_legal r) (by simp)) hbad (fun _ => .inr rfl) rfl
    refine ⟨t, ht, hdone, ?_⟩
    rw [← Core.getS5_field]
    exact Memory.word_of_bytes _ _ _ (hbytes 0 Nat.one_pos)
  · obtain ⟨t, ht, hdone, hbytes⟩ := hstore .stv r rfl
      (checkLs_store c .stv _ an mn mode imm hring hbad (by simp) (by simp)) hbad (fun _ => .inl rfl) (Vector.length_toList)
    refine ⟨t, ht, hdone, fun l => ?_⟩
    exact Memory.word_of_bytes _ _ _ (hbytes l.val (by simp [storeData]))
  · have hstraight : lsWraps c an mode = false := by
      unfold lsWraps
      rw [beq_eq_false_iff_ne.mpr hmode]
      rfl
    obtain ⟨t, ht, hdone, hbytes⟩ := hstore .asv (0#2 ++ r) rfl
      (checkLs_store c .asv _ an mn mode imm hring hbad (by simp) fun _ => ⟨accField_legal r, hmode⟩) hbad
      (fun hwraps => absurd hwraps (by rw [hstraight]; exact Bool.false_ne_true)) (by simp [storeData, lsSize])
    obtain ⟨-, hea, -, -⟩ := lsBadAddr_none c .asv an mode imm hbad
    refine ⟨t, ht, hdone, fun l => Memory.asvLane_read _ _ _ fun j hj => byte_of_asv _ _ c r (fun e he => ?_) l j hj⟩
    have he96 : e < 96 := by simpa [storeData] using he
    have haddr : addr 0 + 4 * e = addr e := by
      change base + (lsElem c an mode imm 0).toNat + 4 * e = base + (lsElem c an mode imm e).toNat
      rw [lsElem_straight c an mode imm 0 hstraight hea (by decide), lsElem_straight c an mode imm e hstraight hea he96]
      omega
    rw [haddr]
    exact hbytes e he

end Sys2Proof.Machine
end

section
/-! SUPPORT. A bundle of which a slot fails a check (03_signal_cores.md, R61, R91, R92): the trap taken, and what entering it leaves. -/

namespace Sys2Proof.Machine
open Sys2Proof

/-! ### The trap taken -/

/-- The lowest of a trap and more of them. -/
theorem foldl_lowest (ts : List Trap) : ∀ u : Trap, ∃ x, (x = u ∨ x ∈ ts)
    ∧ ts.foldl (fun best t => match best with | none => some t | some u => if t.code < u.code then some t else best) (some u) = some x
    ∧ x.code ≤ u.code ∧ ∀ y ∈ ts, x.code ≤ y.code := by
  induction ts with
  | nil => exact fun u => ⟨u, .inl rfl, rfl, le_rfl, fun y hy => absurd hy List.not_mem_nil⟩
  | cons t ts ih =>
    intro u
    by_cases hlt : t.code < u.code
    · obtain ⟨x, hx, hfold, hle, hall⟩ := ih t
      refine ⟨x, .inr (List.mem_cons.mpr hx), ?_, by omega, List.forall_mem_cons.mpr ⟨hle, hall⟩⟩
      rw [List.foldl_cons]
      dsimp only
      rw [if_pos hlt, hfold]
    · obtain ⟨x, hx, hfold, hle, hall⟩ := ih u
      refine ⟨x, hx.imp_right (List.mem_cons_of_mem t), ?_, hle, List.forall_mem_cons.mpr ⟨by omega, hall⟩⟩
      rw [List.foldl_cons]
      dsimp only
      rw [if_neg hlt, hfold]

/-- Of failing checks the one of the lowest code is taken (R92). -/
theorem lowestTrap_spec (ts : List Trap) (h : ts ≠ []) : ∃ x ∈ ts, lowestTrap ts = some x ∧ ∀ y ∈ ts, x.code ≤ y.code := by
  cases ts with
  | nil => exact absurd rfl h
  | cons t ts =>
    obtain ⟨x, hx, hfold, hle, hall⟩ := foldl_lowest ts t
    exact ⟨x, List.mem_cons.mpr hx, hfold, List.forall_mem_cons.mpr ⟨hle, hall⟩⟩

/-- Traps whose codes have 8 bits (Table 3.14). -/
def smallCodes (ts : List Trap) : Prop := ∀ x ∈ ts, x.code < 256

theorem smallCodes_nil : smallCodes [] := fun _ hx => absurd hx List.not_mem_nil

theorem smallCodes_single (t : Trap) (h : t.code < 256) : smallCodes [t] := fun _ hx => by rwa [List.mem_singleton.mp hx]

theorem smallCodes_ite (p : Prop) [Decidable p] (a b : List Trap) (ha : smallCodes a) (hb : smallCodes b) :
    smallCodes (if p then a else b) := by
  split_ifs
  · exact ha
  · exact hb

theorem smallCodes_append (a b : List Trap) (ha : smallCodes a) (hb : smallCodes b) : smallCodes (a ++ b) :=
  List.forall_mem_append.mpr ⟨ha, hb⟩

theorem checkSb_code (env : CoreEnv) (c : Core) (sl : Slot SbOp) (next : Bundle) : smallCodes (checkSb env c sl next) := by
  have hone : ∀ (code slot : Nat) (eval : Word), code < 256 → smallCodes [⟨code, slot, eval⟩] := fun _ _ _ h => smallCodes_single _ h
  have hite : ∀ (p : Prop) [Decidable p] (code slot : Nat) (eval : Word), code < 256 → smallCodes (if p then [⟨code, slot, eval⟩] else []) :=
    fun p _ _ _ _ h => smallCodes_ite p _ _ (smallCodes_single _ h) smallCodes_nil
  unfold checkSb
  dsimp only
  cases sl.op with
  | none => exact hone 2 _ _ (by decide)
  | some op =>
    cases op with
    | rep => exact smallCodes_append _ _ (hite _ 4 _ _ (by decide)) (smallCodes_ite _ _ _ smallCodes_nil (hone 1 _ _ (by decide)))
    | csr => exact smallCodes_ite _ _ _ (hone 3 _ _ (by decide)) (hite _ 2 _ _ (by decide))
    | trap => exact hone 6 _ _ (by decide)
    | brk => exact hite _ 7 _ _ (by decide)
    | rett | wait | done => exact hite _ 3 _ _ (by decide)
    | amod | movta | movfa | br | bmxb => exact hite _ 2 _ _ (by decide)
    | _ => exact smallCodes_nil

theorem checkLs_code (c : Core) (sl : Slot LsOp) : smallCodes (checkLs c sl) := by
  unfold checkLs
  dsimp only
  cases sl.op with
  | none => exact smallCodes_single _ (by change 2 < 256; decide)
  | some op =>
    cases op with
    | nop => exact smallCodes_nil
    | acc fn r an mn mode imm =>
      refine smallCodes_ite _ _ _ (smallCodes_single _ (by change 2 < 256; decide)) ?_
      cases lsBadAddr c fn an mode imm with
      | none => exact smallCodes_nil
      | some x => exact smallCodes_single _ (by change 5 < 256; decide)

theorem checkV_code (env : CoreEnv) (c : Core) (n : Nat) (sl : Slot VOp) : smallCodes (checkV env c n sl) := by
  unfold checkV
  exact smallCodes_ite _ _ _ (smallCodes_single _ (by change 2 < 256; decide)) smallCodes_nil

theorem bundleTraps_code (env : CoreEnv) (c : Core) (b next : Bundle) : smallCodes (bundleTraps env c b next) := by
  have hite : ∀ (p : Prop) [Decidable p] (code slot : Nat) (eval : Word), code < 256 → smallCodes (if p then [⟨code, slot, eval⟩] else []) :=
    fun p _ _ _ _ h => smallCodes_ite p _ _ (smallCodes_single _ h) smallCodes_nil
  unfold bundleTraps
  exact smallCodes_append _ _ (smallCodes_append _ _ (smallCodes_append _ _ (smallCodes_append _ _ (smallCodes_append _ _
    (hite _ 2 _ _ (by decide)) (hite _ 1 _ _ (by decide))) (checkSb_code env c _ _)) (checkLs_code c _)) (checkV_code env c _ _))
    (checkV_code env c _ _)

/-! ### What entering it leaves -/

/-- The registers that no bundle taken as a trap changes. -/
def Core.sameRegs (c n : Core) : Prop :=
  n.s = c.s ∧ n.v = c.v ∧ n.acc = c.acc ∧ n.a = c.a ∧ n.m = c.m ∧ n.b = c.b ∧ n.l = c.l ∧ n.vstat = c.vstat
    ∧ n.govmask = c.govmask ∧ n.bexpacc = c.bexpacc ∧ n.mxc.regs = c.mxc.regs ∧ n.mxc.queue = c.mxc.queue ∧ n.mxc.seq = c.mxc.seq

/-- Entering a trap (R92): the registers stay, the level is above Task, and its trap registers hold the code. -/
theorem enterTrap_spec (c : Core) (toMonitor : Bool) (code slot : Nat) (eval epc : Word) (hcode : code < 256) :
    c.sameRegs (enterTrap c toMonitor code slot false eval epc none) ∧ (enterTrap c toMonitor code slot false eval epc none).level ≠ .task
      ∧ ((if (enterTrap c toMonitor code slot false eval epc none).level = .monitor
          then (enterTrap c toMonitor code slot false eval epc none).trapM
          else (enterTrap c toMonitor code slot false eval epc none).trapS).ecause.extractLsb' 0 8).toNat = code := by
  have hcause : ((BitVec.ofNat 32 (code + slot * 256) ||| 0).extractLsb' 0 8).toNat = code := by
    have hor : BitVec.ofNat 32 (code + slot * 256) ||| 0 = BitVec.ofNat 32 (code + slot * 256) := BitVec.or_zero
    rw [hor, BitVec.extractLsb'_toNat, BitVec.toNat_ofNat, Nat.shiftRight_zero]
    omega
  unfold Core.sameRegs
  cases toMonitor with
  | false => exact ⟨⟨rfl, rfl, rfl, rfl, rfl, rfl, rfl, rfl, rfl, rfl, rfl, rfl, rfl⟩, (by decide : Level.supervisor ≠ .task), hcause⟩
  | true => exact ⟨⟨rfl, rfl, rfl, rfl, rfl, rfl, rfl, rfl, rfl, rfl, rfl, rfl, rfl⟩, (by decide : Level.monitor ≠ .task), hcause⟩

theorem Core.sameRegs_trans (a b c : Core) (hab : a.sameRegs b) (hbc : b.sameRegs c) : a.sameRegs c := by
  obtain ⟨h1, h2, h3, h4, h5, h6, h7, h8, h9, h10, h11, h12, h13⟩ := hab
  obtain ⟨g1, g2, g3, g4, g5, g6, g7, g8, g9, g10, g11, g12, g13⟩ := hbc
  exact ⟨g1.trans h1, g2.trans h2, g3.trans h3, g4.trans h4, g5.trans h5, g6.trans h6, g7.trans h7, g8.trans h8, g9.trans h9,
    g10.trans h10, g11.trans h11, g12.trans h12, g13.trans h13⟩

/-- A trap taken where the MXC is not stopped: a refusal is recorded at most, and nothing is posted (R111, R113). -/
theorem takeTrap_spec (env : CoreEnv) (c : Core) (m : Memory) (b : Bundle) (t : Trap) (hmx : env.mx ≠ .stopped) :
    ∃ c1, c.sameRegs c1 ∧ takeTrap env { core := c, mem := m } b t none
      = { core := enterTrap c1 (trapToMonitor c t.code) t.code t.slot false t.eval c.pc none, mem := m, trapped := true } := by
  have hpost : (decide (takenRefusal env c b t = 2) && decide (env.mx = .stopped) && !c.mxc.wakePosted) = false := by
    rw [decide_eq_false hmx, Bool.and_false, Bool.false_and]
  unfold takeTrap
  dsimp only
  rw [hpost]
  refine ⟨_, ?_, rfl⟩
  split_ifs <;> exact ⟨rfl, rfl, rfl, rfl, rfl, rfl, rfl, rfl, rfl, rfl, rfl, rfl, rfl⟩

/-- A bundle that fails a check takes the trap of its lowest code and none of its slots takes effect (R92), where no refusal can post
a wake request. -/
theorem issue_held (s : State) (k : Fin 128) (i : Issue) (b : Bundle) (h : s.issues k i) (hmx : s.dev.mxState k.val ≠ .stopped)
    (ht : bundleTraps (s.dev.coreEnv k) s.dev.cores[k] b (decodeBundle i.next) ≠ []) :
    ∃ n x, s.on (fun d => d.issue k i b) = .next (s.withCore k n s.dev.mem) ∧ s.dev.cores[k].sameRegs n ∧ n.level ≠ .task
      ∧ x ∈ bundleTraps (s.dev.coreEnv k) s.dev.cores[k] b (decodeBundle i.next)
      ∧ (∀ y ∈ bundleTraps (s.dev.coreEnv k) s.dev.cores[k] b (decodeBundle i.next), x.code ≤ y.code)
      ∧ ((if n.level = .monitor then n.trapM else n.trapS).ecause.extractLsb' 0 8).toNat = x.code := by
  obtain ⟨hup, hfetch, hecc, -⟩ := h
  obtain ⟨x, hx, hlow, hall⟩ := lowestTrap_spec _ ht
  obtain ⟨c1, hsame, htake⟩ := takeTrap_spec (s.dev.coreEnv k) s.dev.cores[k] s.dev.mem b x hmx
  obtain ⟨hregs, hlevel, hcode⟩ := enterTrap_spec c1 (trapToMonitor s.dev.cores[k] x.code) x.code x.slot x.eval s.dev.cores[k].pc
    (bundleTraps_code _ _ _ _ x hx)
  have honce : issueOnce (s.dev.coreEnv k) { core := s.dev.cores[k], mem := s.dev.mem } b (decodeBundle i.next) i.waits .none none
      = takeTrap (s.dev.coreEnv k) { core := s.dev.cores[k], mem := s.dev.mem } b x none := by
    unfold issueOnce
    rw [if_neg (by rw [hfetch]; decide), hlow]
    rfl
  have hbundle : runBundle (s.dev.coreEnv k) { core := s.dev.cores[k], mem := s.dev.mem } b i
      = takeTrap (s.dev.coreEnv k) { core := s.dev.cores[k], mem := s.dev.mem } b x none := by
    unfold runBundle
    rw [hecc]
    dsimp only
    rw [honce, htake]
    rfl
  refine ⟨_, x, ?_, Core.sameRegs_trans _ _ _ hsame hregs, hlevel, hx, hall, hcode⟩
  change Host.Outcome.next { s with dev := s.dev.issue k i b } = _
  unfold Dev.issue
  rw [if_pos hup, hbundle, htake]
  rfl

/-- Settles O22: each of the three rows issues a bundle that is held. -/
theorem bundleTakesEffectInAllSlotsOrNone : Obligations.BundleTakesEffectInAllSlotsOrNone := by
  unfold Obligations.BundleTakesEffectInAllSlotsOrNone
  intro s k i h c hmx held
  have hheld : ∀ b : Bundle, held b (s.on (fun d => d.issue k i b)) := by
    intro b ht
    obtain ⟨n, x, hrun, hregs, hlevel, hx, hlow, hcode⟩ := issue_held s k i b h hmx ht
    obtain ⟨h1, h2, h3, h4, h5, h6, h7, h8, h9, h10, h11, h12, h13⟩ := hregs
    refine ⟨_, hrun, rfl, fun j hj => ?_, ?_⟩
    · exact Vector.getElem_set_ne k.isLt j.isLt fun hkj => hj (Fin.ext hkj.symm)
    · rw [State.withCore_core]
      exact ⟨h1, h2, h3, h4, h5, h6, h7, h8, h9, h10, h11, h12, h13, hlevel, x, hx, hlow, hcode⟩
  exact ⟨fun sd sa sb => hheld _, fun r an mn mode imm => hheld _, fun slot d a b fn mod => hheld _⟩

end Sys2Proof.Machine
end

section
/-! SUPPORT. What becomes of the cores when an error of a unit is charged and the tests that are due start (20_thermal_and_health.md,
R492 to R497; 09_almanac_scheduler.md, R247, R248): of a core only the pending interrupts of a withdrawn delivery change. -/

namespace Sys2Proof.Machine
open Sys2Proof

/-! ### Functions of the device that leave the cores -/

/-- A fold over a function that leaves the cores. -/
theorem foldl_cores {α : Type} (f : Dev → α → Dev) (hf : ∀ d x, (f d x).cores = d.cores) (xs : List α) (d : Dev) :
    (xs.foldl f d).cores = d.cores := by
  induction xs generalizing d with
  | nil => rfl
  | cons x xs ih => exact (ih (f d x)).trans (hf d x)

/-- Of two ways to go on, each of which leaves the cores. -/
theorem ite_cores {d a b : Dev} (p : Prop) [Decidable p] (ha : a.cores = d.cores) (hb : b.cores = d.cores) :
    (if p then a else b).cores = d.cores := by
  split
  · exact ha
  · exact hb

theorem Dev.Told.cores {a b : Dev} (h : a.Told b) : b.cores = a.cores := by
  obtain ⟨_, _, _, _, _, rfl⟩ := h
  rfl

@[simp] theorem Dev.healthEvent_cores (d : Dev) (i : HealthInfo) : (d.healthEvent i).cores = d.cores := (d.healthEvent_told i).cores

@[simp] theorem Dev.post_cores (d : Dev) (kind : Nat) (p : List Byte) : (d.post kind p).cores = d.cores := (d.post_told kind p).cores

@[simp] theorem Dev.raiseAlert_cores (d : Dev) (bit : Nat) : (d.raiseAlert bit).cores = d.cores := (d.raiseAlert_told bit).cores

@[simp] theorem Dev.queueTest_cores (d : Dev) (c s : Nat) : (d.queueTest c s).cores = d.cores := by
  unfold Dev.queueTest
  exact ite_cores _ rfl rfl

@[simp] theorem Dev.charge_cores (d : Dev) (c s w : Nat) (direct : Bool) : (d.charge c s w direct).cores = d.cores := by
  unfold Dev.charge
  refine ite_cores _ ?_ rfl
  rw [Dev.queueTest_cores, Dev.updUnit_cores]

@[simp] theorem Dev.unitError_cores (d : Dev) (hkind c s w : Nat) (direct : Bool) (addr : Nat) :
    (d.unitError hkind c s w direct addr).cores = d.cores := by
  unfold Dev.unitError
  rw [Dev.healthEvent_cores, Dev.charge_cores]

/-! ### Jobs that end or go back to their lists -/

@[simp] theorem Dev.dropAllocated_cores (d : Dev) (x : Deferred) : (d.dropAllocated x).cores = d.cores := by
  unfold Dev.dropAllocated
  split <;> rfl

@[simp] theorem Dev.dropDeferred_cores (d : Dev) (id : Word) : (d.dropDeferred id).cores = d.cores := by
  unfold Dev.dropDeferred
  split
  · rfl
  · rw [Dev.onAlm_cores]
    exact foldl_cores _ Dev.dropAllocated_cores _ _

@[simp] theorem Dev.putQueue_cores (d : Dev) (id : Word) (entry : List Byte) : (d.putQueue id entry).cores = d.cores := by
  unfold Dev.putQueue
  split
  · rfl
  · split_ifs
    · exact Dev.post_cores ..
    · rfl
    · rfl

@[simp] theorem Dev.freeJob_cores (d : Dev) (id : Word) : (d.freeJob id).cores = d.cores := rfl

theorem Dev.releaseHeads_cores (n : Nat) (id : Word) (d : Dev) : (Dev.releaseHeads n id d).cores = d.cores := by
  induction n generalizing d with
  | zero => rfl
  | succ n ih =>
    unfold Dev.releaseHeads
    split
    · rfl
    · split
      · rfl
      · rw [ih, Dev.freeJob_cores, Dev.onAlm_cores, Dev.putQueue_cores]

@[simp] theorem Dev.finishJob_cores (d : Dev) (j : Job) (status : Word) (flags : Nat) : (d.finishJob j status flags).cores = d.cores := by
  unfold Dev.finishJob
  dsimp only
  split_ifs
  · rfl
  · rw [Dev.releaseHeads_cores, Dev.onAlm_cores]
  · rw [Dev.freeJob_cores, Dev.putQueue_cores]

@[simp] theorem Dev.endJob_cores (d : Dev) (id : Word) (flags : Nat) : (d.endJob id flags).cores = d.cores := by
  unfold Dev.endJob
  dsimp only
  split
  · exact Dev.dropDeferred_cores ..
  · rw [Dev.finishJob_cores, Dev.dropDeferred_cores]

@[simp] theorem Dev.redispatch_cores (d : Dev) (j : Job) : (d.redispatch j).cores = d.cores := by
  unfold Dev.redispatch
  dsimp only
  split
  · rw [Dev.endJob_cores, Dev.dropDeferred_cores]
  · rw [Dev.onAlm_cores, Dev.dropDeferred_cores]

@[simp] theorem Dev.noteLate_cores (d : Dev) (j : Job) : (d.noteLate j).cores = d.cores := by
  unfold Dev.noteLate
  split
  · rfl
  · exact Dev.healthEvent_cores ..

theorem Dev.measure_cores (d : Dev) (j : Job) : (d.measure j).1.cores = d.cores := by
  unfold Dev.measure
  dsimp only
  split_ifs
  · rfl
  · exact Dev.noteLate_cores ..
  · rfl

/-! ### An equaliser engine that fails -/

@[simp] theorem Dev.noEngine_cores (d : Dev) (j : Job) : (d.noEngine j).cores = d.cores := by
  unfold Dev.noEngine
  dsimp only
  rw [Dev.finishJob_cores, Dev.measure_cores, Dev.dropDeferred_cores]

@[simp] theorem Dev.rebindFrom_cores (d : Dev) (e : Nat) : (d.rebindFrom e).cores = d.cores := by
  unfold Dev.rebindFrom
  refine foldl_cores _ (fun d c0 => ?_) _ _
  dsimp only
  split
  · rfl
  · split
    · rfl
    · rfl

@[simp] theorem Dev.rerunEsts_cores (d : Dev) (e : Nat) : (d.rerunEsts e).cores = d.cores := by
  unfold Dev.rerunEsts
  refine foldl_cores _ (fun d t => ?_) _ _
  dsimp only
  split
  · rfl
  · rfl

/-! ### A line that goes down -/

@[simp] theorem Dev.timeAlert_cores (d before : Dev) : (d.timeAlert before).cores = d.cores := by
  unfold Dev.timeAlert
  split
  · exact Dev.raiseAlert_cores ..
  · rfl

@[simp] theorem Dev.ptpLost_cores (d : Dev) (p st : Nat) : (d.ptpLost p st).cores = d.cores := by
  unfold Dev.ptpLost
  dsimp only
  split
  · exact Dev.updEth_cores ..
  · exact Dev.timeAlert_cores ..

@[simp] theorem Dev.dropStage_cores (d : Dev) : d.dropStage.cores = d.cores := by
  unfold Dev.dropStage
  split
  · rfl
  · exact Dev.post_cores ..

@[simp] theorem Dev.closeChans_cores (d : Dev) (cs : List Nat) : (d.closeChans cs).cores = d.cores := by
  have hclosed := foldl_cores (fun (d : Dev) c => d.updChan c (fun x => { x with opened := false })) (fun d c => Dev.updChan_cores ..) cs d
  unfold Dev.closeChans
  dsimp only
  split
  · split
    · rw [Dev.dropStage_cores]
      exact hclosed
    · exact hclosed
  · exact hclosed

@[simp] theorem Dev.portDown_cores (d : Dev) (p : Nat) : (d.portDown p).cores = d.cores := by
  unfold Dev.portDown
  dsimp only
  rw [Dev.closeChans_cores, Dev.updEth_cores]
  split
  · exact Dev.ptpLost_cores ..
  · rfl

@[simp] theorem Dev.lineDown_cores (d : Dev) (c s : Nat) : (d.lineDown c s).cores = d.cores := by
  unfold Dev.lineDown
  split_ifs
  · exact Dev.portDown_cores ..
  · rfl
  · rfl

/-! ### Withdrawn deliveries -/

/-- Every core is as it was but for its pending interrupts. -/
def Dev.coresKept (a b : Dev) : Prop := ∀ k : Fin 128, ∃ p, b.cores[k] = { a.cores[k] with ipend := p }

theorem Dev.coresKept_of_eq {a b : Dev} (h : b.cores = a.cores) : a.coresKept b := fun k => ⟨a.cores[k].ipend, by rw [h]⟩

theorem Dev.coresKept_trans {a b c : Dev} (hab : a.coresKept b) (hbc : b.coresKept c) : a.coresKept c := by
  intro k
  obtain ⟨p, hp⟩ := hab k
  obtain ⟨q, hq⟩ := hbc k
  exact ⟨q, by rw [hq, hp]⟩

/-- A fold over a function that keeps the cores. -/
theorem foldl_coresKept {α : Type} (f : Dev → α → Dev) (hf : ∀ (d : Dev) (x : α), d.coresKept (f d x)) (xs : List α) (d : Dev) :
    d.coresKept (xs.foldl f d) := by
  induction xs generalizing d with
  | nil => exact Dev.coresKept_of_eq rfl
  | cons x xs ih => exact Dev.coresKept_trans (hf d x) (ih (f d x))

theorem ite_coresKept {d a b : Dev} (p : Prop) [Decidable p] (ha : d.coresKept a) (hb : d.coresKept b) :
    d.coresKept (if p then a else b) := by
  split
  · exact ha
  · exact hb

/-- A core changed, and the others not. -/
theorem Dev.updCore_getElem (d : Dev) (k : Nat) (f : Core → Core) (j : Fin 128) :
    (d.updCore k f).cores[j] = if j.val = k % 128 then f d.cores[j] else d.cores[j] := by
  unfold Dev.updCore
  by_cases hj : j.val = k % 128
  · obtain rfl : j = ⟨k % 128, Nat.mod_lt _ (by decide)⟩ := Fin.ext hj
    rw [if_pos rfl]
    exact Vector.getElem_set_self _
  · rw [if_neg hj]
    exact Vector.getElem_set_ne (Nat.mod_lt _ (by decide)) j.isLt (Ne.symm hj)

theorem Dev.withdraw_coresKept (d : Dev) (x : Delivery) (exclude : Bool) : d.coresKept (d.withdraw x exclude) := by
  intro k
  unfold Dev.withdraw
  dsimp only
  rw [Dev.updCore_getElem]
  split
  · exact ⟨_, rfl⟩
  · exact ⟨_, rfl⟩

/-! ### Units that fail and tests that start -/

theorem Dev.failUnit_coresKept (d : Dev) (c s : Nat) : d.coresKept (d.failUnit c s) := by
  have hredispatch := foldl_cores Dev.redispatch Dev.redispatch_cores
  have hmarked : d.coresKept (d.onAlm (fun a => { a with pool := a.pool.set (unitIdx c s) { a.pool[unitIdx c s] with failing := true } })) :=
    Dev.coresKept_of_eq rfl
  have hwithdrawn := fun xs => foldl_coresKept (fun (d : Dev) x => d.withdraw x false) (fun d x => d.withdraw_coresKept x false) xs
  unfold Dev.failUnit
  dsimp only
  generalize d.onAlm _ = d1 at hmarked ⊢
  have hleft : d.coresKept (if c = 1 then (d1.alm.deliveries.filter (fun x => x.core == s)).foldl (fun d x => d.withdraw x false) d1
      else if c = 4 then d1.rebindFrom s else d1) :=
    ite_coresKept _ (Dev.coresKept_trans hmarked (hwithdrawn _ d1))
      (ite_coresKept _ (Dev.coresKept_trans hmarked (Dev.coresKept_of_eq (d1.rebindFrom_cores s))) hmarked)
  generalize (if c = 1 then _ else _ : Dev) = d2 at hleft ⊢
  refine Dev.coresKept_trans hleft (ite_coresKept _ (Dev.coresKept_of_eq ?_) (Dev.coresKept_of_eq (hredispatch _ d2)))
  rw [foldl_cores Dev.noEngine Dev.noEngine_cores, Dev.rerunEsts_cores, hredispatch]

theorem Dev.testStart_coresKept (d : Dev) (u : Nat × Nat) (rolling : Bool) : d.coresKept (d.testStart u rolling) := by
  unfold Dev.testStart
  dsimp only
  have hmarked : d.coresKept (d.updUnit u.1 u.2 (fun x => { x with testing := true, queued := false, rolling := rolling })) :=
    Dev.coresKept_of_eq rfl
  generalize d.updUnit u.1 u.2 _ = d1 at hmarked ⊢
  have hfailed : d.coresKept (if testInService u.1 ∨ 14 ≤ u.1 then d1 else d1.failUnit u.1 u.2) :=
    ite_coresKept _ hmarked (Dev.coresKept_trans hmarked (d1.failUnit_coresKept u.1 u.2))
  generalize (if testInService u.1 ∨ 14 ≤ u.1 then d1 else d1.failUnit u.1 u.2) = d2 at hfailed ⊢
  have hline : d.coresKept (if u.1 = 1 then d2.updUnit 2 u.2 (fun x => { x with testing := d2.present 2 u.2 }) else d2.lineDown u.1 u.2) :=
    ite_coresKept _ hfailed (Dev.coresKept_trans hfailed (Dev.coresKept_of_eq (d2.lineDown_cores u.1 u.2)))
  exact Dev.coresKept_trans hline (Dev.coresKept_of_eq (Dev.healthEvent_cores _ _))

theorem Dev.startTests_coresKept (d : Dev) : d.coresKept d.startTests := by
  unfold Dev.startTests
  refine foldl_coresKept _ (fun d u => ?_) _ _
  have htaken : d.coresKept { d with health := { d.health with testQueue := d.health.testQueue.erase u } } := Dev.coresKept_of_eq rfl
  exact ite_coresKept _ (Dev.coresKept_trans htaken (Dev.testStart_coresKept _ u false)) (Dev.coresKept_of_eq rfl)

end Sys2Proof.Machine
end

section
/-! SUPPORT. Interrupts and the watchdog (03_signal_cores.md, R91, R92, R94, R96; 09_almanac_scheduler.md, R236). -/

namespace Sys2Proof.Machine
open Sys2Proof

/-! ### The interrupt taken -/

/-- Below Monitor with GIE set, a pending interrupt that is enabled can be taken. -/
theorem intTakeable_open (c : Core) (q : Nat) (hlevel : c.level ≠ .monitor) (hgie : c.ien.getLsbD 31 = true) :
    intTakeable c q = (c.ipend.getLsbD q && c.ien.getLsbD q) := by
  unfold intTakeable
  rw [hgie, bne_iff_ne.mpr hlevel, Bool.and_true, Bool.and_true]

/-- At Monitor or with GIE clear none can. -/
theorem intTakeable_closed (c : Core) (q : Nat) (h : c.level = .monitor ∨ c.ien.getLsbD 31 = false) : intTakeable c q = false := by
  unfold intTakeable
  obtain hlevel | hgie := h
  · rw [hlevel]
    exact Bool.and_false _
  · rw [hgie, Bool.and_false, Bool.false_and]

/-- The lowest pending enabled interrupt is the one taken (log entry 27). -/
theorem pendingInterrupt_lowest (c : Core) (b : Fin 4) (hlevel : c.level ≠ .monitor) (hgie : c.ien.getLsbD 31 = true)
    (hpend : c.ipend.getLsbD b = true) (hen : c.ien.getLsbD b = true)
    (hlow : ∀ q : Fin 4, q < b → c.ipend.getLsbD q = true → c.ien.getLsbD q = false) : pendingInterrupt c = some b.val := by
  unfold pendingInterrupt
  rw [List.find?_range_eq_some]
  refine ⟨?_, List.mem_range.mpr b.isLt, fun q hq => ?_⟩
  · rw [intTakeable_open c _ hlevel hgie, hpend, hen]
    rfl
  · rw [intTakeable_open c _ hlevel hgie]
    have hbelow := hlow ⟨q, by omega⟩ hq
    cases hp : c.ipend.getLsbD q with
    | false => rfl
    | true => rw [hbelow hp]; rfl

theorem pendingInterrupt_closed (c : Core) (h : c.level = .monitor ∨ c.ien.getLsbD 31 = false) : pendingInterrupt c = none := by
  unfold pendingInterrupt
  rw [List.find?_range_eq_none]
  exact fun q _ => by rw [intTakeable_closed c q h]; rfl

/-- A core that takes interrupt `b`: WAIT has ended, and the bit is cleared but for MXC_LATE. -/
def Core.taking (c : Core) (b : Nat) : Core :=
  { c with waiting := false, ipend := if b = 2 then c.ipend else c.ipend &&& ~~~((1 : BitVec 4) <<< b) }

/-- A core with another job stack. -/
def Core.withJobs (c : Core) (jobs : List Word) : Core := { c with jobs := jobs }

/-- A core with interrupt `b` taken, its jobs as `jobs` (R92). -/
def Core.interrupted (env : CoreEnv) (c : Core) (b : Nat) (jobs : List Word) : Core :=
  (enterInterrupt env (c.taking b) (0x10 + b) false).withJobs jobs

/-- The job stack with the job of a core's outstanding delivery, where there is one (R236). -/
def deliveredJobs (d : Dev) (k : Nat) (preempt : Bool) (jobs : List Word) : List Word :=
  match d.alm.deliveries.find? (fun y => y.core == k && y.preempt == preempt) with
  | some x => x.job :: jobs
  | none => jobs

/-- The job stack after interrupt `b`: PREEMPT and MSG come with a delivery. -/
def enteredJobs (d : Dev) (k : Nat) (b : Nat) (jobs : List Word) : List Word :=
  match b with
  | 0 => deliveredJobs d k true jobs
  | 1 => deliveredJobs d k false jobs
  | _ => jobs

theorem enteredJobs_high (d : Dev) (k b : Nat) (jobs : List Word) (hb : 2 ≤ b) : enteredJobs d k b jobs = jobs := by
  match b, hb with
  | _ + 2, _ => rfl

/-- PREEMPT and MSG push the job of their delivery. -/
theorem enteredJobs_delivery (d : Dev) (k b : Nat) (jobs : List Word) (x : Delivery) (hb : b < 2)
    (hx : d.alm.deliveries.find? (fun y => y.core == k && y.preempt == (b == 0)) = some x) : enteredJobs d k b jobs = x.job :: jobs := by
  have hpushed : ∀ p, d.alm.deliveries.find? (fun y => y.core == k && y.preempt == p) = some x → deliveredJobs d k p jobs = x.job :: jobs := by
    intro p hp
    unfold deliveredJobs
    rw [hp]
  match b, hb with
  | 0, _ => exact hpushed true hx
  | 1, _ => exact hpushed false hx

/-- Entering a delivery leaves memory, and of core `k` all but its job stack. -/
theorem Dev.enterDelivery_core (d : Dev) (k : Fin 128) (preempt : Bool) :
    (d.enterDelivery k.val preempt).mem = d.mem
      ∧ (d.enterDelivery k.val preempt).cores[k] = d.cores[k].withJobs (deliveredJobs d k.val preempt d.cores[k].jobs) := by
  unfold Dev.enterDelivery deliveredJobs
  cases d.alm.deliveries.find? (fun y => y.core == k.val && y.preempt == preempt) with
  | none => exact ⟨rfl, rfl⟩
  | some x =>
    refine ⟨rfl, ?_⟩
    dsimp only
    rw [Dev.updCore_getElem, if_pos (Nat.mod_eq_of_lt k.isLt).symm, Fin.getElem_fin, Fin.getElem_fin, Dev.onAlm_cores]
    rfl

/-- The delivery of the interrupt taken is entered. -/
def Dev.entered (d : Dev) (k : Nat) (taken : Option Nat) : Dev :=
  match taken with
  | some 0 => d.enterDelivery k true
  | some 1 => d.enterDelivery k false
  | _ => d

theorem Dev.entered_core (d : Dev) (k : Fin 128) (n : Nat) : (d.entered k.val (some n)).mem = d.mem
    ∧ (d.entered k.val (some n)).cores[k] = d.cores[k].withJobs (enteredJobs d k.val n d.cores[k].jobs) :=
  match n with
  | 0 => d.enterDelivery_core k true
  | 1 => d.enterDelivery_core k false
  | _ + 2 => ⟨rfl, rfl⟩

/-- INTERRUPT_ENTRY of a core that is up: the core after it, then the delivery. -/
theorem exec_interruptEntry (s : State) (k : Fin 128) (hup : s.dev.coreUp k.val = true) :
    exec (.interruptEntry k) s = .next { s with dev :=
      (s.withCore k (interruptEntry (s.dev.coreEnv k) s.dev.cores[k]) s.dev.mem).dev.entered k.val (pendingInterrupt s.dev.cores[k]) } := by
  have hexec : exec (.interruptEntry k) s = execInterruptEntry k s := rfl
  rw [hexec]
  unfold execInterruptEntry
  rw [State.on_eq]
  dsimp only
  rw [if_pos hup]
  rfl

/-- INTERRUPT_ENTRY where interrupt `b` is taken. -/
theorem exec_interruptEntry_taken (s : State) (k : Fin 128) (b : Nat) (hup : s.dev.coreUp k.val = true)
    (htaken : pendingInterrupt s.dev.cores[k] = some b) :
    ∃ t, exec (.interruptEntry k) s = .next t ∧ t.dev.mem = s.dev.mem ∧ t.dev.cores[k]
      = s.dev.cores[k].interrupted (s.dev.coreEnv k) b (enteredJobs s.dev k.val b s.dev.cores[k].jobs) := by
  have henter : interruptEntry (s.dev.coreEnv k) s.dev.cores[k]
      = enterInterrupt (s.dev.coreEnv k) (s.dev.cores[k].taking b) (0x10 + b) false := by
    unfold interruptEntry
    rw [htaken]
    rfl
  obtain ⟨hmem, hcore⟩ := Dev.entered_core
    (s.withCore k (enterInterrupt (s.dev.coreEnv k) (s.dev.cores[k].taking b) (0x10 + b) false) s.dev.mem).dev k b
  rw [State.withCore_core] at hcore
  rw [exec_interruptEntry s k hup, htaken, henter]
  exact ⟨_, rfl, hmem, hcore⟩

/-- What an interrupted core holds. -/
theorem Core.interrupted_spec (env : CoreEnv) (c : Core) (b : Fin 4) (jobs : List Word) (hlevel : c.level ≠ .monitor)
    (hgie : c.ien.getLsbD 31 = true) :
    let n := c.interrupted env b.val jobs
    n.level = .supervisor ∧ n.trapS.epc = c.pc ∧ n.trapS.ecause = 0x80000710 + BitVec.ofNat 32 b.val ∧ n.trapS.tvb = c.trapS.tvb
      ∧ n.trapS.tstat = (if c.level = .task then 4 else 5) ∧ n.pc = c.trapS.tvb + 0x100 + BitVec.ofNat 32 (16 * b.val)
      ∧ n.ien = c.ien &&& 0x7FFFFFFF ∧ n.waiting = false ∧ n.trapM = c.trapM ∧ n.s = c.s ∧ n.v = c.v ∧ n.acc = c.acc ∧ n.a = c.a
      ∧ n.m = c.m ∧ n.b = c.b ∧ n.l = c.l ∧ n.mxc = c.mxc ∧ n.jobs = jobs := by
  have hcause : ∀ b : Fin 4, BitVec.ofNat 32 (0x10 + b.val + 7 * 256) ||| 0x80000000 = 0x80000710 + BitVec.ofNat 32 b.val := by decide
  have hvector : ∀ b : Fin 4, BitVec.ofNat 32 (16 * (0x10 + b.val)) = (0x100 : Word) + BitVec.ofNat 32 (16 * b.val) := by decide
  refine ⟨rfl, rfl, hcause b, rfl, ?_, ?_, rfl, rfl, rfl, rfl, rfl, rfl, rfl, rfl, rfl, rfl, rfl, rfl⟩
  · change (levelCode c.level).setWidth 32 ||| (if c.ien.getLsbD 31 then 4 else 0) = _
    rw [hgie]
    cases hc : c.level with
    | monitor => exact absurd hc hlevel
    | task | supervisor => rfl
  · change c.trapS.tvb + BitVec.ofNat 32 (16 * (0x10 + b.val)) = _
    rw [hvector, BitVec.add_assoc]

/-- INTERRUPT_ENTRY where none can be taken only ends a WAIT (R96). -/
theorem exec_interruptEntry_none (s : State) (k : Fin 128) (hup : s.dev.coreUp k.val = true)
    (hnone : pendingInterrupt s.dev.cores[k] = none) :
    exec (.interruptEntry k) s = .next (s.withCore k
      { s.dev.cores[k] with waiting := s.dev.cores[k].waiting && (s.dev.cores[k].ipend
          &&& (if s.dev.cores[k].ien.getLsbD 2 then 0xF else 0xB)) == 0 } s.dev.mem) := by
  have hstay : interruptEntry (s.dev.coreEnv k) s.dev.cores[k] = { s.dev.cores[k] with waiting := s.dev.cores[k].waiting
      && (s.dev.cores[k].ipend &&& (if s.dev.cores[k].ien.getLsbD 2 then 0xF else 0xB)) == 0 } := by
    unfold interruptEntry wakesCore
    rw [hnone]
    generalize (s.dev.cores[k].ipend &&& (if s.dev.cores[k].ien.getLsbD 2 then 0xF else 0xB)) = p
    dsimp only
    by_cases hp : p = 0
    · rw [hp]
      simp
    · rw [if_pos (bne_iff_ne.mpr hp), beq_eq_false_iff_ne.mpr hp, Bool.and_false]
  rw [exec_interruptEntry s k hup, hnone, hstay]
  rfl

/-! ### The watchdog (R94) -/

/-- A core whose watchdog has expired, at Monitor. -/
def Core.barked (env : CoreEnv) (c : Core) : Core := enterInterrupt env { c with waiting := false, wdogTicks := 0 } 0x14 true

theorem Core.barked_spec (env : CoreEnv) (c : Core) (p : BitVec 4) :
    let n : Core := { c.barked env with ipend := p }
    n.level = .monitor ∧ n.trapM.epc = c.pc ∧ n.trapM.ecause = 0x80000714 ∧ n.trapM.tvb = c.trapM.tvb ∧ n.pc = c.trapM.tvb + 0x140
      ∧ n.wdogTicks = 0 ∧ n.waiting = false ∧ n.trapS = c.trapS ∧ n.s = c.s ∧ n.v = c.v ∧ n.acc = c.acc :=
  ⟨rfl, rfl, rfl, rfl, rfl, rfl, rfl, rfl, rfl, rfl, rfl⟩

/-- WDOG of an expired core: it enters Monitor, and what the error and the tests change of it are pending interrupts alone. -/
theorem exec_wdog_expired (s : State) (k : Fin 128) (hup : s.dev.coreUp k.val = true) (hexpired : wdogExpired s.dev.cores[k] = true) :
    ∃ t p, exec (.wdog k) s = .next t ∧ t.dev.cores[k] = { s.dev.cores[k].barked (s.dev.coreEnv k) with ipend := p } := by
  have hexec : exec (.wdog k) s = execWdog k s := rfl
  rw [hexec]
  unfold execWdog
  rw [State.on_eq]
  dsimp only
  rw [if_pos (by rw [hup, hexpired]; rfl)]
  obtain ⟨p, hp⟩ := Dev.startTests_coresKept
    ((s.withCore k (s.dev.cores[k].barked (s.dev.coreEnv k)) s.dev.mem).dev.unitError 0x0017 1 k.val 0 true 0) k
  refine ⟨_, p, rfl, hp.trans ?_⟩
  rw [Fin.getElem_fin, Dev.unitError_cores, ← Fin.getElem_fin, State.withCore_core]

/-- Settles O21: the interrupt taken with its delivery, none taken, and the watchdog. -/
theorem interruptsEnterTheSupervisor : Obligations.InterruptsEnterTheSupervisor := by
  unfold Obligations.InterruptsEnterTheSupervisor
  refine ⟨fun s k b hup => ?_, fun s k hup => ?_, fun s k hup => ?_⟩
  · intro c hlevel hgie hpend hen hlow
    obtain ⟨t, ht, hmem, hcore⟩ := exec_interruptEntry_taken s k b hup (pendingInterrupt_lowest c b hlevel hgie hpend hen hlow)
    refine ⟨t, ht, hmem, ?_⟩
    rw [hcore]
    obtain ⟨h1, h2, h3, h4, h5, h6, h7, h8, h9, h10, h11, h12, h13, h14, h15, h16, h17, hjobs⟩ :=
      Core.interrupted_spec (s.dev.coreEnv k) c b (enteredJobs s.dev k.val b.val c.jobs) hlevel hgie
    refine ⟨h1, h2, h3, h4, h5, h6, h7, h8, h9, h10, h11, h12, h13, h14, h15, h16, h17, fun hb => ?_, fun x hb hx => ?_⟩
    · exact hjobs.trans (enteredJobs_high s.dev k.val b.val c.jobs hb)
    · exact hjobs.trans (enteredJobs_delivery s.dev k.val b.val c.jobs x hb hx)
  · intro c hclosed
    exact exec_interruptEntry_none s k hup (pendingInterrupt_closed c hclosed)
  · intro c hne hexpired
    have hwdog : wdogExpired c = true := by
      unfold wdogExpired
      rw [bne_iff_ne.mpr hne, decide_eq_true hexpired]
      rfl
    obtain ⟨t, p, ht, hcore⟩ := exec_wdog_expired s k hup hwdog
    refine ⟨t, ht, ?_⟩
    rw [hcore]
    exact Core.barked_spec _ c p

end Sys2Proof.Machine
end

section
/-! SUPPORT. A load that meets an uncorrectable error (03_signal_cores.md, R93): the other slots take effect, and the trap follows. -/

namespace Sys2Proof.Machine
open Sys2Proof

/-- The slot words beside the load: VADD in VA. -/
def vaddBeside (d a b : BitVec 5) : BundleWords := { va := 0x01#6 ++ d ++ a ++ b ++ 0#11 }

/-- The bundle of a load beside VADD. -/
def loadBeside (r : BitVec 4) (an mn : BitVec 3) (imm : BitVec 14) (d a b : BitVec 5) : Bundle :=
  bundleLs (vaddBeside d a b) (.acc .ldw (0#1 ++ r) an mn 0 imm)

/-- The word of VADD, its FN and MOD fields 0. -/
theorem spellV_vadd (d a b : BitVec 5) : spellV (.valu .add d a b 0) = 0x01#6 ++ d ++ a ++ b ++ 0#11 := by
  refine BitVec.eq_of_toNat_eq ?_
  change (vWord 0x01 d a b 0 0).toNat = _
  unfold vWord
  simp only [BitVec.toNat_append]
  simp
  exact (Nat.shiftLeft_add _ 6 5).symm

theorem loadBeside_eq (r : BitVec 4) (an mn : BitVec 3) (imm : BitVec 14) (d a b : BitVec 5) :
    loadBeside r an mn imm d a b = { sb := ⟨0, some .nop⟩
                                     ls := ⟨spellLs (.acc .ldw (0#1 ++ r) an mn 0 imm), some (.acc .ldw (0#1 ++ r) an mn 0 imm)⟩
                                     va := ⟨spellV (.valu .add d a b 0), some (.valu .add d a b 0)⟩, vb := ⟨0, some .nop⟩ } := by
  have hword : (vaddBeside d a b).va = spellV (.valu .add d a b 0) := (spellV_vadd d a b).symm
  have hdecode : decodeV .va (vaddBeside d a b).va = some (.valu .add d a b 0) := by
    rw [hword]
    exact decodeV_spellV .va _ (by simp)
  change (⟨⟨(0 : Word), decodeSb 0⟩, _, ⟨(vaddBeside d a b).va, decodeV .va (vaddBeside d a b).va⟩,
    ⟨(0 : Word), decodeV .vb 0⟩⟩ : Bundle) = _
  rw [hdecode, hword]
  rfl

/-- It meets no check where the address of the load meets its own. -/
theorem bundleTraps_loadBeside (env : CoreEnv) (c : Core) (next : Bundle) (r : BitVec 4) (an mn : BitVec 3) (imm : BitVec 14) (d a b : BitVec 5)
    (hbad : lsBadAddr c .ldw an 0 imm = none) : bundleTraps env c (loadBeside r an mn imm d a b) next = [] := by
  have hls := checkLs_store c .ldw (0#1 ++ r) an mn 0 imm (fun hmode => absurd hmode (by decide)) hbad (fun _ => sField_legal r) (by simp)
  have hlegal : bundleIllegal (loadBeside r an mn imm d a b) = false := by
    rw [loadBeside_eq]
    unfold bundleIllegal
    simp [writesSb, writesLs, writesV, genUpdates, isMulClass]
  unfold bundleTraps
  rw [hlegal, loadBeside_eq]
  dsimp only
  rw [hls]
  rfl

/-- Core `c` after the load that failed and VADD: V[D] is the sum, and the load changed neither its register nor An. -/
def Core.besideFailed (env : CoreEnv) (c : Core) (waits : BitVec 3) (b : Bundle) (v : VReg) (d : BitVec 5) (vstat : Word) (ipend : BitVec 4) : Core :=
  { c with v := c.v.set d.toFin v, vstat := vstat, ipend := ipend, pc := c.pc + 16
           btcount := c.btcount + BitVec.ofNat 32 (bundleCost env c b waits), loading := loadsOf b }

/-- What the bundle does where its load meets an uncorrectable error. -/
theorem applyBundle_loadBeside (env : CoreEnv) (c : Core) (m : Memory) (waits : BitVec 3) (r : BitVec 4) (an mn : BitVec 3)
    (imm : BitVec 14) (d a b : BitVec 5) (hclean : ∀ x ∈ lsElems c .ldw an 0 imm, m.poisoned (coreBase env.num + x.toNat) 4 = false) :
    ∃ vstat ipend m', applyBundle env { core := c, mem := m } (loadBeside r an mn imm d a b) waits .loadUncorrectable
      = { core := c.besideFailed env waits (loadBeside r an mn imm d a b) (laneWords (valuLanes .add 0 c.v[a.toFin] c.v[b.toFin])) d vstat ipend
          mem := m', uncorrectable := some (lsElem c an 0 imm 0) } := by
  have herror : loadError env c m (loadBeside r an mn imm d a b) .loadUncorrectable = some (lsElem c an 0 imm 0) := by
    rw [loadBeside_eq]
    have hnone : (lsElems c .ldw an 0 imm).find? (fun x => m.poisoned (coreBase env.num + x.toNat) 4) = none :=
      List.find?_eq_none.mpr fun x hx => by rw [hclean x hx]; exact Bool.false_ne_true
    unfold loadError
    dsimp only
    rw [hnone]
    rfl
  have hself : writeReg c (.a an) c.a[an.toFin] = c := by
    change { c with a := c.a.set an.toFin c.a[an.toFin] } = c
    rw [show c.a.set an.toFin c.a[an.toFin] = c.a from Vector.set_getElem_self _]
  have hfailed : (lsIsLoad .ldw && (some (lsElem c an 0 imm 0)).isNone) = false := rfl
  have hnop : applySb env c c (some .nop) = c := rfl
  rw [loadBeside_eq] at herror ⊢
  unfold applyBundle
  dsimp only
  rw [herror]
  rw [hfailed, if_neg Bool.false_ne_true, if_pos rfl, hnop, hself]
  exact ⟨_, _, _, rfl⟩

/-- The whole bundle: what it did, then the trap of its load at Monitor. -/
theorem runBundle_loadBeside (env : CoreEnv) (c : Core) (m : Memory) (i : Issue) (r : BitVec 4) (an mn : BitVec 3) (imm : BitVec 14)
    (d a b : BitVec 5) (hfetch : fetchOk c = true) (hecc : i.ecc = .loadUncorrectable) (hbad : lsBadAddr c .ldw an 0 imm = none)
    (hclean : ∀ x ∈ lsElems c .ldw an 0 imm, m.poisoned (coreBase env.num + x.toNat) 4 = false) :
    ∃ vstat ipend m', runBundle env { core := c, mem := m } (loadBeside r an mn imm d a b) i
      = { core := enterTrap (c.besideFailed env i.waits (loadBeside r an mn imm d a b)
            (laneWords (valuLanes .add 0 c.v[a.toFin] c.v[b.toFin])) d vstat ipend) true 0x09 1 false (lsElem c an 0 imm 0) c.pc none
          mem := m', trapped := true, uncorrectable := some (lsElem c an 0 imm 0) } := by
  obtain ⟨vstat, ipend, m', happly⟩ := applyBundle_loadBeside env c m i.waits r an mn imm d a b hclean
  refine ⟨vstat, ipend, m', ?_⟩
  have honce : issueOnce env { core := c, mem := m } (loadBeside r an mn imm d a b) (decodeBundle i.next) i.waits .loadUncorrectable none
      = applyBundle env { core := c, mem := m } (loadBeside r an mn imm d a b) i.waits .loadUncorrectable :=
    issueOnce_clean env { core := c, mem := m } _ _ _ _ _ hfetch (bundleTraps_loadBeside env c _ r an mn imm d a b hbad)
  unfold runBundle
  rw [hecc]
  dsimp only
  rw [honce, happly, loadBeside_eq]
  cases i.parity <;> rfl

/-- An uncorrectable error of core-local memory is an error of its core, whose registers stay. -/
theorem Dev.eccUncorrectable_local_cores (d : Dev) (a : Nat) (ha : a < 0x4000000) : (d.eccUncorrectable a).cores = d.cores := by
  have hunit : storeUnit a = some (1, a / 0x80000) := if_pos ha
  unfold Dev.eccUncorrectable
  rw [hunit]
  exact Dev.unitError_cores ..

/-- What a bundle whose load failed reports outward leaves of the core: all but its pending interrupts. -/
theorem Dev.takeRun_loadFailed (d : Dev) (k : Fin 128) (b : Bundle) (c : Core) (m : Memory) (x : Word) (hx : x.toNat < 0x80000) :
    ∃ p, (d.takeRun k b .loadUncorrectable { core := c, mem := m, trapped := true, uncorrectable := some x }).cores[k]
      = { c with ipend := p } := by
  have haddr : coreBase k + 0 + x.toNat < 0x4000000 := by
    have hk := k.isLt
    unfold coreBase
    omega
  obtain ⟨p, hp⟩ := Dev.startTests_coresKept
    (({ d with cores := d.cores.set k c, mem := m, free := d.free + 1 } : Dev).eccUncorrectable (coreBase k + 0 + x.toNat)) k
  have hset : (d.cores.set k c)[k] = c := Vector.getElem_set_self _
  refine ⟨p, hp.trans ?_⟩
  rw [Fin.getElem_fin, Dev.eccUncorrectable_local_cores _ _ haddr, ← Fin.getElem_fin, hset]

/-- A load/store row of a core that issues. -/
theorem issueLs_up (s : State) (k : Fin 128) (i : Issue) (fn : LsFn) (r : BitVec 5) (an mn : BitVec 3) (mode : BitVec 2) (imm : BitVec 14)
    (h : s.dev.coreIssues k.val = true) :
    issueLs k i fn r an mn mode imm s = .next { s with
      dev := s.dev.takeRun k (bundleLs i.words (.acc fn r an mn mode imm)) i.ecc
        (runBundle (s.dev.coreEnv k) { core := s.dev.cores[k], mem := s.dev.mem } (bundleLs i.words (.acc fn r an mn mode imm)) i) } := by
  unfold issueLs
  rw [State.on_eq]
  unfold Dev.issue
  rw [if_pos h]

/-- Settles O23: the bundle's run, and that charging the error and starting the tests change of the core pending interrupts alone. -/
theorem uncorrectableLoadIsPreciseButNotAtomic : Obligations.UncorrectableLoadIsPreciseButNotAtomic := by
  unfold Obligations.UncorrectableLoadIsPreciseButNotAtomic
  intro s k i r an mn imm d a b hissues hfetch hecc hwords c hbad hclean
  obtain ⟨vstat, ipend, m', hrun⟩ := runBundle_loadBeside (s.dev.coreEnv k) c s.dev.mem i r an mn imm d a b hfetch hecc hbad hclean
  obtain ⟨-, -, -, hok⟩ := lsBadAddr_none c .ldw an 0 imm hbad
  have hlow := (elemOk_word c _ (hok 0 (by decide))).2
  have hexec : exec (.ldw k i (0#1 ++ r) an mn 0 imm) s = issueLs k i .ldw (0#1 ++ r) an mn 0 imm s := rfl
  have hbundle : bundleLs i.words (.acc .ldw (0#1 ++ r) an mn 0 imm) = loadBeside r an mn imm d a b := by
    rw [hwords]
    rfl
  rw [hexec, issueLs_up s k i _ _ _ _ _ _ hissues, hbundle, hecc, hrun]
  obtain ⟨p, hcore⟩ := s.dev.takeRun_loadFailed k (loadBeside r an mn imm d a b)
    (enterTrap (c.besideFailed (s.dev.coreEnv k) i.waits (loadBeside r an mn imm d a b)
      (laneWords (valuLanes .add 0 c.v[a.toFin] c.v[b.toFin])) d vstat ipend) true 0x09 1 false (lsElem c an 0 imm 0) c.pc none)
    m' (lsElem c an 0 imm 0) (by omega)
  refine ⟨_, rfl, ?_⟩
  rw [hcore]
  have hlanes : laneWords (valuLanes .add 0 c.v[a.toFin] c.v[b.toFin])
      = Vector.ofFn (fun l => (valuLane .add 0 c.v[a.toFin][l] c.v[b.toFin][l]).1) := laneWords_ofFn _
  rw [← hlanes]
  exact ⟨rfl, rfl, rfl, rfl, rfl, rfl, rfl, rfl⟩

end Sys2Proof.Machine
end

section
/-! SUPPORT. Branches alone in their bundle: what they cost and where they lead (03_signal_cores.md, R71, R74, Tables 3.5, 3.8;
04_matrix_coprocessor.md, R108). -/

namespace Sys2Proof.Machine
open Sys2Proof

/-- A membership test of one name in a list, the other way round. -/
theorem any_contains_single {α : Type} [BEq α] [LawfulBEq α] (xs : List α) (x : α) : (xs.any fun r => [x].contains r) = xs.contains x := by
  rw [Bool.eq_iff_iff, List.any_eq_true]
  simp

theorem boolNat_le (b : Bool) : boolNat b ≤ 1 := by cases b <;> decide

theorem branchCost_le (env : CoreEnv) (o : Core) (op : Option SbOp) : branchCost env o op ≤ 1 := by
  unfold branchCost
  split
  · exact boolNat_le _
  · exact le_rfl
  · exact le_rfl
  · exact le_rfl
  · exact boolNat_le _
  · exact Nat.zero_le 1

/-- A lone scalar/branch slot costs one bundle time, one more for a taken branch and one more for a register still being loaded; it
touches no line, and stays below the bounds of a bundle (Table 3.8). -/
theorem bundleCost_lone_sb (env : CoreEnv) (o : Core) (op : SbOp) (waits : BitVec 3) :
    bundleCost env o (bundleSb {} op) waits
      = 1 + branchCost env o (some op) + boolNat (o.loading.any fun r => (readsOf (bundleSb {} op)).contains r) := by
  have hbranch := branchCost_le env o (some op)
  have huse := boolNat_le (o.loading.any fun r => (readsOf (bundleSb {} op)).contains r)
  have hlines : Nat.min waits.toNat (linesOf []) = 0 := Nat.min_zero _
  change Nat.min (if repeatable (bundleSb {} op) then 4 else 6)
    (1 + branchCost env o (some op) + Nat.min waits.toNat (linesOf []) + boolNat (o.loading.any fun r => (readsOf (bundleSb {} op)).contains r)) = _
  rw [hlines, Nat.add_zero]
  exact Nat.min_eq_right (by split <;> omega)

/-- Core `c` after a branch issued in `o`: PC where the branch leads, BTCOUNT with a taken branch and a wait for a register. -/
def Core.branched (o c : Core) (taken wait : Bool) (pc : Word) : Core :=
  { c with pc := pc, loading := []
           btcount := o.btcount + BitVec.ofNat 32 (1 + (if taken then 1 else 0) + (if wait then 1 else 0)) }

/-- A lone branch that meets no check leaves the core with its effect where it leads. -/
theorem branch_lone (s : State) (k : Fin 128) (i : Issue) (op : SbOp) (c : Core) (taken wait : Bool) (pc : Word) (h : s.issues k i)
    (hw : i.words = {}) (hbranch : sbGoesOn op = false)
    (hs : checkSb (s.dev.coreEnv k) s.dev.cores[k] ⟨spellSb op, some op⟩ (decodeBundle i.next) = [])
    (happly : applySb (s.dev.coreEnv k) s.dev.cores[k] s.dev.cores[k] (some op) = c) (hv : c.vstat = s.dev.cores[k].vstat)
    (htaken : branchCost (s.dev.coreEnv k) s.dev.cores[k] (some op) = boolNat taken)
    (hwait : (s.dev.cores[k].loading.any fun r => (readsOf (bundleSb {} op)).contains r) = wait)
    (hpc : nextPc (s.dev.coreEnv k) s.dev.cores[k] (some op) = pc) :
    issueSb k i op s = .next (s.withCore k (s.dev.cores[k].branched c taken wait pc) s.dev.mem) := by
  subst happly
  have hrep : ∀ x y z, op ≠ .rep x y z := by
    rintro x y z rfl
    exact absurd hbranch (by simp [sbGoesOn])
  have hrett : op ≠ .rett := by
    rintro rfl
    exact absurd hbranch (by simp [sbGoesOn])
  rw [exec_lone s k i op h hw hs hrep hrett (by rw [hv]; exact satintRaised_same _ _), bundleCost_lone_sb, htaken, hwait, hpc]
  rfl

section
variable (s : State) (k : Fin 128) (i : Issue) (h : s.issues k i) (hw : i.words = {})
include h hw

/-- BR with a listed condition: it leads to its target where S[SA] meets the condition, else on (Table 3.5). -/
theorem br_lone (sa cond : BitVec 4) (off : BitVec 18) (b : Bool) (hcond : cond.toNat ≤ 5)
    (hb : brTaken cond s.dev.cores[k].s[sa.toFin] = b) :
    issueSb k i (.br sa cond off) s = .next (s.withCore k (s.dev.cores[k].branched s.dev.cores[k] b
      (s.dev.cores[k].loading.contains (.s sa)) (if b then brTarget s.dev.cores[k] off else s.dev.cores[k].pc + 16)) s.dev.mem) := by
  subst hb
  exact branch_lone s k i (.br sa cond off) _ _ _ _ h hw rfl (if_neg (by omega)) rfl rfl rfl (any_contains_single _ _) rfl

/-- BMXB with a listed condition: COND 0 asks for MXS.BUSY set, COND 1 for it clear (R108). -/
theorem bmxb_lone (cond : BitVec 4) (off : BitVec 18) (b : Bool) (hcond : cond.toNat ≤ 1)
    (hb : (mxBusy (s.dev.coreEnv k) s.dev.cores[k] == (cond == 0)) = b) :
    issueSb k i (.bmxb cond off) s = .next (s.withCore k (s.dev.cores[k].branched s.dev.cores[k] b false
      (if b then brTarget s.dev.cores[k] off else s.dev.cores[k].pc + 16)) s.dev.mem) := by
  subst hb
  exact branch_lone s k i (.bmxb cond off) _ _ _ _ h hw rfl (if_neg (by omega)) rfl rfl rfl (any_contains_nil _) rfl

end

/-- The conditions of BR as comparisons of signed words (Table 3.5). -/
theorem brTaken_signed (x : Word) : brTaken 2 x = x.slt 0 ∧ brTaken 3 x = !x.slt 0 ∧ brTaken 4 x = (0#32).slt x
    ∧ brTaken 5 x = !(0#32).slt x := by
  have hnonneg : decide (0 ≤ x.toInt) = !decide (x.toInt < 0) := by simp only [← decide_not, Int.not_lt]
  have hnonpos : decide (x.toInt ≤ 0) = !decide (0 < x.toInt) := by simp only [← decide_not, Int.not_lt]
  exact ⟨rfl, hnonneg, rfl, hnonpos⟩

/-- Settles O3: each branch by where it leads, what it costs and what else it writes. -/
theorem branchesSetTheProgramCounter : Obligations.BranchesSetTheProgramCounter := by
  unfold Obligations.BranchesSetTheProgramCounter
  intro s k i sa off h hw c x far go late pick busy
  obtain ⟨hltz, hgez, hgtz, hlez⟩ := brTaken_signed x
  have hclear : (mxBusy (s.dev.coreEnv k) c == false) = !busy := by
    change (busy == false) = !busy
    cases busy <;> rfl
  have hset : (mxBusy (s.dev.coreEnv k) c == true) = busy := by
    change (busy == true) = busy
    cases busy <;> rfl
  refine ⟨br_lone s k i h hw sa 0 off _ (by decide) rfl, br_lone s k i h hw sa 1 off _ (by decide) rfl,
    br_lone s k i h hw sa 2 off _ (by decide) hltz, br_lone s k i h hw sa 3 off _ (by decide) hgez,
    br_lone s k i h hw sa 4 off _ (by decide) hgtz, br_lone s k i h hw sa 5 off _ (by decide) hlez, ?_, ?_, ?_,
    bmxb_lone s k i h hw 0 off _ (by decide) hset, bmxb_lone s k i h hw 1 off _ (by decide) hclear⟩
  · exact branch_lone s k i (.jmp off) _ true false _ h hw rfl rfl rfl rfl rfl (any_contains_nil _) rfl
  · exact branch_lone s k i (.call off) _ true false _ h hw rfl rfl rfl rfl rfl (any_contains_nil _) rfl
  · exact branch_lone s k i (.jr sa) _ true late _ h hw rfl rfl rfl rfl rfl (any_contains_single _ _) rfl

end Sys2Proof.Machine
end

section
/-! SUPPORT. MXC instructions alone in their bundle that are accepted, with what they capture or deliver (04_matrix_coprocessor.md,
R101, R104 to R107, R111, Tables 4.1, 4.2). -/

namespace Sys2Proof.Machine
open Sys2Proof

/-! ### Accepted -/

/-- An MXC in RUN, enabled at the level, accepts a rightly encoded instruction where the queue has room for it, or is empty for one
that delivers (Table 4.5). -/
theorem mxRefusal_eq_zero (env : CoreEnv) (c : Core) (fn : MxFn) (d a b : BitVec 5) (fnf : BitVec 6) (mod : BitVec 5)
    (hrun : env.mx = .run) (hen : mxEnabled c = true) (henc : mxEncodingBad c fn d a b fnf mod = false)
    (hqueue : if mxDelivers fn then c.mxc.queue = [] else c.mxc.queue.length < 4) : mxRefusal env c fn d a b fnf mod = 0 := by
  unfold mxRefusal
  rw [hrun, hen, henc]
  cases hfn : mxDelivers fn with
  | true =>
    rw [hfn, if_pos rfl] at hqueue
    simp [mxBusy, hqueue]
  | false =>
    rw [hfn, if_neg Bool.false_ne_true] at hqueue
    simp [Nat.not_le.mpr hqueue]

/-- What an accepted instruction that delivers nothing captures (R106, R119). -/
def Core.captured (c : Core) (fn : MxFn) (d a b : BitVec 5) (fnf : BitVec 6) (mod : BitVec 5) : MxEntry :=
  { fn := fn, d := d.extractLsb' 0 4, a := a.extractLsb' 0 4, b := b.extractLsb' 0 4, fnf := fnf
    size := c.getS5 mod, param := c.getS5 b, data := c.v[a.toFin], seq := c.mxc.seq }

/-- Core `c` with an entry more in its MXC's queue. -/
def Core.queued (c : Core) (e : MxEntry) : Core :=
  { c with mxc := { c.mxc with queue := c.mxc.queue ++ [e], seq := c.mxc.seq + 1 } }

theorem acceptMx_queues (c : Core) (fn : MxFn) (d a b : BitVec 5) (fnf : BitVec 6) (mod : BitVec 5) (hfn : mxDelivers fn = false) :
    acceptMx c c fn d a b fnf mod = c.queued (c.captured fn d a b fnf mod) := by
  cases fn with
  | st | getExp | getSeq => exact absurd hfn (by simp [mxDelivers])
  | _ => rfl

/-- No accepted instruction touches VSTAT. -/
theorem acceptMx_vstat (o c : Core) (fn : MxFn) (d a b : BitVec 5) (fnf : BitVec 6) (mod : BitVec 5) :
    (acceptMx o c fn d a b fnf mod).vstat = c.vstat := by cases fn <;> rfl

section
variable (s : State) (k : Fin 128) (i : Issue) (h : s.issues k i) (hw : i.words = {}) (hrun : s.dev.mxState k.val = .run)
  (hen : mxEnabled s.dev.cores[k] = true) (fn : MxFn) (d a b : BitVec 5) (fnf : BitVec 6) (mod : BitVec 5)
  (henc : mxEncodingBad s.dev.cores[k] fn d a b fnf mod = false)
include h hw hrun hen henc

/-- An accepted MXC instruction alone in its bundle. -/
theorem mx_lone (hqueue : if mxDelivers fn then s.dev.cores[k].mxc.queue = [] else s.dev.cores[k].mxc.queue.length < 4) :
    issueV k i .vb (.mx fn d a b fnf mod) s
      = .next (s.after k i (bundleV {} .vb (.mx fn d a b fnf mod)) (acceptMx s.dev.cores[k] s.dev.cores[k] fn d a b fnf mod)) := by
  refine issueV_after_of_vstat s k i .vb _ _ h hw ?_ rfl (acceptMx_vstat ..)
  have hzero := mxRefusal_eq_zero (s.dev.coreEnv k) s.dev.cores[k] fn d a b fnf mod hrun hen henc hqueue
  change (if ((3 : Nat) != 3) || mxRefusal (s.dev.coreEnv k) s.dev.cores[k] fn d a b fnf mod != 0 then _ else []) = []
  rw [hzero]
  rfl

/-- One that delivers nothing is queued. -/
theorem mx_queued (hfn : mxDelivers fn = false) (hroom : s.dev.cores[k].mxc.queue.length < 4) :
    issueV k i .vb (.mx fn d a b fnf mod) s = .next (s.after k i (bundleV {} .vb (.mx fn d a b fnf mod))
      (s.dev.cores[k].queued (s.dev.cores[k].captured fn d a b fnf mod))) := by
  rw [mx_lone s k i h hw hrun hen fn d a b fnf mod henc (by rwa [hfn]), acceptMx_queues _ _ _ _ _ _ _ hfn]

end

/-! ### Right encodings (R104, Tables 4.1, 4.2) -/

/-- A size from 1 to 8 in a size word is no encoding error. -/
theorem size_legal (w : Word) (lo : Nat) (h : 1 ≤ (w.extractLsb' lo 4).toNat ∧ (w.extractLsb' lo 4).toNat ≤ 8) :
    ((fld w lo 4 == 0) || decide (8 < (fld w lo 4).toNat)) = false := by
  obtain ⟨hpos, hle⟩ := h
  have hne : fld w lo 4 ≠ 0 := fun hz => by
    have hzero : (w.extractLsb' lo 4).toNat = 0 := congrArg BitVec.toNat hz
    omega
  rw [beq_eq_false_iff_ne.mpr hne, Bool.false_or]
  exact decide_eq_false (Nat.not_lt.mpr hle)

/-- FN with its lowest bit in use. -/
theorem fnOne_legal (f : BitVec 1) : decide (2 ^ 1 ≤ (0#5 ++ f).toNat) = false := by revert f; decide

/-- FN with its two lowest bits in use. -/
theorem fnTwo_legal (f : BitVec 2) : decide (2 ^ 2 ≤ (0#4 ++ f).toNat) = false := by revert f; decide

section
variable (c : Core) (d a b m : BitVec 4) (va : BitVec 5) (f : BitVec 1)

theorem mxld_legal : mxEncodingBad c .ld (0#1 ++ d) va 0 (0#5 ++ f) 0 = false := by
  have hfn : (0#5 ++ f).getLsbD 1 = false ∧ decide (2 ^ 2 ≤ (0#5 ++ f).toNat) = false := by revert f; decide
  obtain ⟨hone, hover⟩ := hfn
  simp only [mxEncodingBad, sField_legal, hone, hover]
  rfl

/-- MXLD with FN[1] reads its exponent word from S[B]. -/
theorem mxldExp_legal : mxEncodingBad c .ld (0#1 ++ d) va (0#1 ++ b) (0#4 ++ 1#1 ++ f) 0 = false := by
  have hfn : (0#4 ++ 1#1 ++ f).getLsbD 1 = true ∧ decide (2 ^ 2 ≤ (0#4 ++ 1#1 ++ f).toNat) = false := by revert f; decide
  obtain ⟨hone, hover⟩ := hfn
  simp only [mxEncodingBad, sField_legal, hone, hover]
  rfl

theorem mxid_legal : mxEncodingBad c .ident (0#1 ++ d) 0 0 (0#5 ++ f) 0 = false := by
  simp only [mxEncodingBad, sField_legal, fnOne_legal]
  rfl

theorem mxadd_legal : mxEncodingBad c .add (0#1 ++ d) (0#1 ++ a) (0#1 ++ b) (0#5 ++ f) 0 = false := by
  simp only [mxEncodingBad, sField_legal, fnOne_legal]
  rfl

theorem mxmul_legal (f : BitVec 2) (hsize : mxSizeBad .mul c.s[m.toFin] = false) :
    mxEncodingBad c .mul (0#1 ++ d) (0#1 ++ a) (0#1 ++ b) (0#4 ++ f) (0#1 ++ m) = false := by
  simp only [mxEncodingBad, sField_legal, fnTwo_legal, Core.getS5_field, hsize]
  rfl

theorem mxgram_legal (hsize : mxSizeBad .gram c.s[m.toFin] = false) :
    mxEncodingBad c .gram (0#1 ++ d) (0#1 ++ a) (0#1 ++ b) 0 (0#1 ++ m) = false := by
  simp only [mxEncodingBad, sField_legal, Core.getS5_field, hsize]
  rfl

theorem mxinv_legal (hsize : mxSizeBad .inv c.s[m.toFin] = false) :
    mxEncodingBad c .inv (0#1 ++ d) (0#1 ++ a) 0 0 (0#1 ++ m) = false := by
  simp only [mxEncodingBad, sField_legal, Core.getS5_field, hsize]
  rfl

theorem mxscl_legal : mxEncodingBad c .scl (0#1 ++ d) (0#1 ++ a) (0#1 ++ b) 0 0 = false := by
  simp only [mxEncodingBad, sField_legal]
  rfl

theorem mxst_legal : mxEncodingBad c .st va (0#1 ++ a) 0 (0#5 ++ f) 0 = false := by
  simp only [mxEncodingBad, sField_legal, fnOne_legal]
  rfl

theorem mxgeteExp_legal : mxEncodingBad c .getExp (0#1 ++ d) (0#1 ++ a) 0 0 0 = false := by
  simp only [mxEncodingBad, sField_legal]
  rfl

theorem mxgeteSeq_legal : mxEncodingBad c .getSeq (0#1 ++ d) 0 0 1 0 = false := by
  simp only [mxEncodingBad, sField_legal]
  rfl

end

/-! ### What is delivered (R101, R107, Table 4.2) -/

/-- The exponent word of a matrix register, field by field. -/
theorem mxExpWord_fields (r : MxReg) : mxExpWord r = 0#22 ++ BitVec.ofBool r.p ++ BitVec.ofBool r.f ++ r.exp := by
  unfold mxExpWord
  generalize r.exp = e
  cases r.f <;> cases r.p <;> (revert e; decide)

/-- Lane `l` of half `f` of a matrix register is element 32f + l. -/
theorem mxHalf_lane (r : MxReg) (f : BitVec 1) (l : Fin 32) :
    (mxHalf r ((0#5 ++ f).getLsbD 0))[l] = r.elem.toList.getD (32 * f.toNat + l.val) 0 := by
  have hfirst : (if (0#5 ++ f).getLsbD 0 then 32 else 0) = 32 * f.toNat := by revert f; decide
  have hlane : (mxHalf r ((0#5 ++ f).getLsbD 0))[l]
      = r.elem.toList.getD (l.val + if (0#5 ++ f).getLsbD 0 then 32 else 0) 0 := Vector.getElem_ofFn l.isLt
  rw [hlane, hfirst, Nat.add_comm]

/-- Core `c` with a number more in its MXC's sequence count. -/
def Core.counted (c : Core) : Core := { c with mxc := { c.mxc with seq := c.mxc.seq + 1 } }

section
variable (c : Core) (a r : BitVec 4) (d b : BitVec 5) (fnf : BitVec 6) (mod : BitVec 5)

theorem acceptMx_st : acceptMx c c .st d (0#1 ++ a) b fnf mod
    = { c.counted with v := c.v.set d.toFin (mxHalf c.mxc.regs[a.toFin] (fnf.getLsbD 0)) } := by
  simp only [acceptMx, sField_number]
  rfl

theorem acceptMx_getExp : acceptMx c c .getExp (0#1 ++ r) (0#1 ++ a) b fnf mod
    = { c.counted with s := c.s.set r.toFin (mxExpWord c.mxc.regs[a.toFin]) } := by
  simp only [acceptMx, sField_number]
  rfl

theorem acceptMx_getSeq : acceptMx c c .getSeq (0#1 ++ r) d b fnf mod
    = { c.counted with s := c.s.set r.toFin (0#20 ++ (c.mxc.seq + 1)) } := by
  have hword : (c.mxc.seq + 1).setWidth 32 = 0#20 ++ (c.mxc.seq + 1) := BitVec.setWidth_eq_append (by decide)
  simp only [acceptMx, sField_number, hword]
  rfl

end

/-- Settles O18: each row is accepted, and captures or delivers what its own arm says. -/
theorem matrixInstructionsQueueOrDeliver : Obligations.MatrixInstructionsQueueOrDeliver := by
  unfold Obligations.MatrixInstructionsQueueOrDeliver
  refine ⟨?_, ?_⟩
  · intro s k i d a b m va h hw c hrun hen hroom size dim took
    have hd : (0#1 ++ d).extractLsb' 0 4 = d := sField_number d
    have ha : (0#1 ++ a).extractLsb' 0 4 = a := sField_number a
    have hb : (0#1 ++ b).extractLsb' 0 4 = b := sField_number b
    have hparam : c.getS5 (0#1 ++ b) = c.s[b.toFin] := Core.getS5_field c b
    have hsize : c.getS5 (0#1 ++ m) = size := Core.getS5_field c m
    have hmul : dim 0 → dim 4 → dim 8 → mxSizeBad .mul size = false := fun h0 h4 h8 => by
      simp only [mxSizeBad, size_legal size _ h0, size_legal size _ h4, size_legal size _ h8, Bool.or_false]
    have hgram : dim 0 → dim 4 → mxSizeBad .gram size = false := fun h0 h4 => by
      simp only [mxSizeBad, size_legal size _ h0, size_legal size _ h4, Bool.or_false]
    have hqueued := fun fn d a b fnf mod henc hfn => mx_queued s k i h hw hrun hen fn d a b fnf mod henc hfn hroom
    exact ⟨fun f => ⟨_, hqueued .ld _ _ _ _ _ (mxld_legal c d va f) rfl, rfl, hd, rfl, rfl, rfl⟩,
      fun f => ⟨_, hqueued .ld _ _ _ _ _ (mxldExp_legal c d b va f) rfl, rfl, hd, rfl, rfl, hparam, rfl⟩,
      fun f => ⟨_, hqueued .ident _ _ _ _ _ (mxid_legal c d f) rfl, rfl, hd, rfl, rfl⟩,
      fun f => ⟨_, hqueued .add _ _ _ _ _ (mxadd_legal c d a b f) rfl, rfl, hd, ha, hb, rfl, rfl⟩,
      fun h0 h4 h8 f => ⟨_, hqueued .mul _ _ _ _ _ (mxmul_legal c d a b m f (hmul h0 h4 h8)) rfl, rfl, hd, ha, hb, rfl, hsize, rfl⟩,
      fun h0 h4 => ⟨_, hqueued .gram _ _ _ _ _ (mxgram_legal c d a b m (hgram h0 h4)) rfl, rfl, hd, ha, hsize, hparam, rfl⟩,
      fun h0 => ⟨_, hqueued .inv _ _ _ _ _ (mxinv_legal c d a m (size_legal size 0 h0)) rfl, rfl, hd, ha, hsize, rfl⟩,
      ⟨_, hqueued .scl _ _ _ _ _ (mxscl_legal c d a b) rfl, rfl, hd, ha, hparam, rfl⟩,
      ⟨_, hqueued .ack _ _ _ _ _ rfl rfl, rfl, rfl⟩⟩
  · intro s k i a r d h hw c hrun hen hempty x go
    have hlone := fun fn d a b fnf mod henc (hfn : mxDelivers fn = true) =>
      mx_lone s k i h hw hrun hen fn d a b fnf mod henc (by rwa [hfn])
    refine ⟨fun f => ?_, ?_, ?_⟩
    · have ht := hlone .st d _ _ _ _ (mxst_legal c a d f) rfl
      rw [acceptMx_st] at ht
      have hset : (c.v.set d.toFin (mxHalf x ((0#5 ++ f).getLsbD 0)))[d.toFin] = mxHalf x ((0#5 ++ f).getLsbD 0) :=
        Vector.getElem_set_self _
      refine ⟨_, ht, ?_, fun l => ?_⟩
      · rw [State.after_core, Core.passed, hset]
        rfl
      · rw [State.after_core, Core.passed, hset]
        exact mxHalf_lane x f l
    · refine (hlone .getExp _ _ _ _ _ (mxgeteExp_legal c r a) rfl).trans ?_
      rw [acceptMx_getExp, mxExpWord_fields]
      rfl
    · refine (hlone .getSeq _ _ _ _ _ (mxgeteSeq_legal c r) rfl).trans ?_
      rw [acceptMx_getSeq]
      rfl

end Sys2Proof.Machine
end

section
/-! SUPPORT. An MXC instruction refused in Stop, where the host holds the domain (04_matrix_coprocessor.md, R111 to R113;
19_power_domains.md, R464). -/

namespace Sys2Proof.Machine
open Sys2Proof

/-- A device that runs, in mode M4, whose MXC 0 the host has put in Stop and holds there. -/
def heldMxcState : State :=
  { dev :=
    { cores := Vector.replicate 128 { mxc := { started := true } }
      units := Vector.replicate 2048 { st := .present }
      power := { dom := (Vector.replicate 1664 { st := .run }).set (domIdx 0x200) { st := .stop, hostHeld := true } }
      mode := { mode := 4 }
      start := { powered := true, resetLow := false, perstLow := false, ready := true, step := 11 } } }

theorem heldMxcState_issues : heldMxcState.issues 0 {} := by
  unfold State.issues
  decide +kernel

theorem heldMxcState_stopped : heldMxcState.dev.mxState (0 : Fin 128).val = .stopped := by decide +kernel

/-- The wake request that the refusal posts is answered at once with STOPPED, as the host holds the domain, and the answer takes the
mark of the request back (R113, R464). -/
theorem heldMxcState_answered :
    (heldMxcState.dev.issue 0 {} (bundleV {} .vb (.mx .add 0 0 0 0 0))).cores[(0 : Fin 128)].mxc.wakePosted = false := by
  decide +kernel

/-- Refutes O19: a wake request for a domain that the host holds in Stop is not outstanding after the refusal. -/
theorem not_matrixRefusals : ¬ Obligations.MatrixRefusals := by
  unfold Obligations.MatrixRefusals
  intro h
  obtain ⟨t, ht, -, hmxc, -⟩ := h heldMxcState 0 {} 0 0 0 0 2 heldMxcState_issues rfl (by rw [heldMxcState_stopped]; rfl) (by decide)
  obtain rfl := Host.Outcome.next.inj ht
  have hposted := congrArg Mxc.wakePosted hmxc
  rw [heldMxcState_stopped] at hposted
  exact Bool.false_ne_true (heldMxcState_answered.symm.trans
    (hposted.trans (Bool.or_true heldMxcState.dev.cores[(0 : Fin 128)].mxc.wakePosted)))

end Sys2Proof.Machine
end

section
/-! SUPPORT. The commit of the head of an MXC's queue (04_matrix_coprocessor.md, R101 to R104, R106, R116, R117, Table 4.1). -/

namespace Sys2Proof.Machine
open Sys2Proof

/-! ### The device around the commit -/

theorem Dev.startTests_none (d : Dev) (h : d.health.testQueue = []) : d.startTests = d := by
  unfold Dev.startTests
  rw [h]
  rfl

/-- Core `k` of the device changed. -/
theorem Dev.updCore_val (d : Dev) (k : Fin 128) (f : Core → Core) : d.updCore k.val f = { d with cores := d.cores.set k (f d.cores[k]) } := by
  have hk : (⟨k.val % 128, Nat.mod_lt _ (by decide)⟩ : Fin 128) = k := Fin.ext (Nat.mod_eq_of_lt k.isLt)
  exact congrArg (fun i : Fin 128 => { d with cores := d.cores.set i (f d.cores[i]) }) hk

theorem exec_mxcCommit (k : Fin 128) (bad : Bool) (s : State) :
    exec (.mxcCommit k bad) s = .next { s with dev := if s.dev.mxState k.val = .run then s.dev.mxcCommit k.val bad else s.dev } := rfl

/-- MXC_COMMIT of an empty queue does nothing. -/
theorem mxcCommit_empty (s : State) (k : Fin 128) (bad : Bool) (hempty : (s.dev.core k.val).mxc.queue = []) :
    exec (.mxcCommit k bad) s = .next s := by
  have hnone : s.dev.mxcCommit k.val bad = s.dev := by
    unfold Dev.mxcCommit
    rw [hempty]
  rw [exec_mxcCommit, hnone, ite_self]

/-- MXC_COMMIT in RUN, with no self-test waiting and no parity failure, changes the core alone (R106). -/
theorem mxcCommit_run (s : State) (k : Fin 128) (e : MxEntry) (rest : List MxEntry) (hrun : s.dev.mxState k.val = .run)
    (htests : s.dev.health.testQueue = []) (hqueue : s.dev.cores[k].mxc.queue = e :: rest) :
    exec (.mxcCommit k false) s
      = .next { s with dev := { s.dev with cores := s.dev.cores.set k (mxCommit s.dev.cores[k] false) } } := by
  have hdev : s.dev.mxcCommit k.val false = s.dev.updCore k.val (fun c => mxCommit c false) := by
    unfold Dev.mxcCommit
    rw [Dev.core_val, hqueue]
    dsimp only
    rw [if_neg (by simp)]
    exact Dev.startTests_none _ htests
  rw [exec_mxcCommit, if_pos hrun, hdev, Dev.updCore_val]

/-! ### The core -/

section
variable (c : Core) (e : MxEntry) (rest : List MxEntry) (hqueue : c.mxc.queue = e :: rest)
include hqueue

/-- MXACK clears the late-error record and its interrupt (R117). -/
theorem mxCommit_ack (hfn : e.fn = .ack) : mxCommit c false = { c with
    mxc := { c.mxc with queue := rest, late := false, lovf := false, lcause := 0, lreg := 0, lseq := 0 }, ipend := c.ipend &&& 0xB } := by
  unfold mxCommit
  rw [hqueue]
  dsimp only
  rw [if_pos hfn]
  rfl

/-- A result without a late error is written, and nothing else changes but the queue. -/
theorem mxCommit_result (bad : Bool) (r : MxReg) (hfn : e.fn ≠ .ack) (hr : mxCompute c.mxc e bad = (some r, [])) :
    mxCommit c bad = { c with mxc := { c.mxc with queue := rest, regs := c.mxc.regs.set e.d.toFin r } } := by
  unfold mxCommit
  rw [hqueue]
  dsimp only
  rw [if_neg hfn, hr]
  simp

/-- The first late error is recorded with its result, and raises its interrupt (R116). -/
theorem mxCommit_late (bad : Bool) (r : MxReg) (x : BitVec 3) (hfn : e.fn ≠ .ack) (hr : mxCompute c.mxc e bad = (some r, [x]))
    (hx : x ≠ 4) (hlate : c.mxc.late = false) :
    mxCommit c bad = { c with
      mxc := { c.mxc with queue := rest, regs := c.mxc.regs.set e.d.toFin r, late := true, lcause := x, lreg := e.d, lseq := e.seq }
      ipend := c.ipend ||| 4 } := by
  have hparity : [x].contains 4 = false := by simpa using hx.symm
  unfold mxCommit
  rw [hqueue]
  dsimp only
  rw [if_neg hfn, hr, hparity, hlate]
  simp [recordLate]

end

/-- Recording late errors leaves the registers and the queue. -/
theorem foldl_recordLate (d : BitVec 4) (seq : BitVec 12) (xs : List (BitVec 3)) : ∀ x : Mxc,
    (xs.foldl (fun x k => recordLate x d seq k) x).regs = x.regs ∧ (xs.foldl (fun x k => recordLate x d seq k) x).queue = x.queue := by
  induction xs with
  | nil => exact fun x => ⟨rfl, rfl⟩
  | cons k xs ih =>
    intro x
    obtain ⟨hregs, hqueue⟩ := ih (recordLate x d seq k)
    obtain ⟨hregs1, hqueue1⟩ : (recordLate x d seq k).regs = x.regs ∧ (recordLate x d seq k).queue = x.queue := by
      unfold recordLate
      split <;> exact ⟨rfl, rfl⟩
    exact ⟨hregs.trans hregs1, hqueue.trans hqueue1⟩

/-- A result is written to its register and the head leaves the queue, whatever late errors it met. -/
theorem mxCommit_written (c : Core) (e : MxEntry) (rest : List MxEntry) (bad : Bool) (r : MxReg) (hqueue : c.mxc.queue = e :: rest)
    (hfn : e.fn ≠ .ack) (hr : (mxCompute c.mxc e bad).1 = some r) :
    (mxCommit c bad).mxc.regs = c.mxc.regs.set e.d.toFin r ∧ (mxCommit c bad).mxc.queue = rest := by
  unfold mxCommit
  rw [hqueue]
  dsimp only
  rw [if_neg hfn, hr]
  exact foldl_recordLate _ _ _ _

/-! ### MXLD and MXSCL -/

/-- The exponent word of an MXLD, taken over where FN[1] is set (Table 4.2). -/
theorem mxLoad_flags (r : MxReg) (e : MxEntry) : ((mxLoad r e).exp, (mxLoad r e).f, (mxLoad r e).p)
    = if e.fnf.getLsbD 1 then (e.param.extractLsb' 0 8, e.param.getLsbD 8, e.param.getLsbD 9) else (r.exp, r.f, r.p) := by
  unfold mxLoad
  dsimp only
  split <;> rfl

/-- The half that an MXLD writes, and the one that it leaves (R101). -/
theorem mxLoad_elem (r : MxReg) (e : MxEntry) (n : Fin 64) : (mxLoad r e).elem[n]
    = if (n.val / 32 = 1 ↔ e.fnf.getLsbD 0 = true) then e.data.toList.getD (n.val % 32) 0 else r.elem[n] := by
  have helem : (mxLoad r e).elem = Vector.ofFn (fun k : Fin 64 =>
      if decide (32 ≤ k.val) = e.fnf.getLsbD 0 then e.data.toList.getD (k.val % 32) 0 else r.elem[k]) := by
    unfold mxLoad
    dsimp only
    split <;> rfl
  have hhalf : n.val / 32 = 1 ↔ 32 ≤ n.val := by omega
  have hlane : (mxLoad r e).elem[n]
      = if decide (32 ≤ n.val) = e.fnf.getLsbD 0 then e.data.toList.getD (n.val % 32) 0 else r.elem[n] := by
    rw [helem]
    exact Vector.getElem_ofFn n.isLt
  rw [hlane]
  refine if_congr ?_ rfl rfl
  rw [hhalf, Bool.eq_iff_iff, decide_eq_true_iff]

theorem mxCompute_ld (x : Mxc) (e : MxEntry) (bad : Bool) (hfn : e.fn = .ld) :
    mxCompute x e bad = (some (mxLoad x.regs[e.d.toFin] e), []) := by
  unfold mxCompute
  rw [hfn]

/-- MXSCL whose sum is an exponent. -/
theorem mxCompute_scl (x : Mxc) (e : MxEntry) (hfn : e.fn = .scl)
    (hlo : -128 ≤ mxE x.regs[e.a.toFin] + (fld e.param 0 8).toInt) (hhi : mxE x.regs[e.a.toFin] + (fld e.param 0 8).toInt ≤ 127) :
    mxCompute x e false = (some (mxFlags x.regs[e.d.toFin] [x.regs[e.a.toFin]] false false
      { x.regs[e.a.toFin] with exp := BitVec.ofInt 8 (mxE x.regs[e.a.toFin] + (fld e.param 0 8).toInt) }), []) := by
  unfold mxCompute
  rw [hfn]
  dsimp only
  rw [decide_eq_false (by omega), decide_eq_false (by omega)]
  rfl

/-- MXSCL whose sum is none: EXPONENT, and E at its end (R102). -/
theorem mxCompute_scl_out (x : Mxc) (e : MxEntry) (hfn : e.fn = .scl)
    (hout : mxE x.regs[e.a.toFin] + (fld e.param 0 8).toInt < -128 ∨ 127 < mxE x.regs[e.a.toFin] + (fld e.param 0 8).toInt) :
    mxCompute x e false = (some (mxFlags x.regs[e.d.toFin] [x.regs[e.a.toFin]] true false { x.regs[e.a.toFin] with exp := 127 }), [3]) := by
  have hbool : (decide (mxE x.regs[e.a.toFin] + (fld e.param 0 8).toInt < -128)
      || decide (127 < mxE x.regs[e.a.toFin] + (fld e.param 0 8).toInt)) = true := by
    rwa [Bool.or_eq_true, decide_eq_true_iff, decide_eq_true_iff]
  unfold mxCompute
  rw [hfn]
  dsimp only
  rw [hbool]
  rfl

/-! ### MXADD (R102) -/

/-- A word of two parts in range has those parts. -/
theorem parts_mkCplx (re im : Int) (hre : -32768 ≤ re ∧ re ≤ 32767) (him : -32768 ≤ im ∧ im ≤ 32767) :
    partRe (mkCplx re im) = re ∧ partIm (mkCplx re im) = im := by
  have hpart : ∀ x : Int, -32768 ≤ x ∧ x ≤ 32767 → (BitVec.ofInt 16 x).toInt = x :=
    fun x hx => BitVec.toInt_ofInt_eq_self (by decide) (by omega) (by omega)
  exact ⟨(congrArg BitVec.toInt BitVec.extractLsb'_append_eq_right).trans (hpart re hre), (partIm_append _ _).trans (hpart im him)⟩

/-- The exponent of a result is the smallest that fits all components. -/
theorem resultExp_eq_some (u ed : Int) (cs : List (Int × Int)) (hlo : -128 ≤ ed) (hhi : ed ≤ 127) (hfit : ∀ c ∈ cs, fitsExp u ed c = true)
    (hmin : ∀ w, -128 ≤ w → w < ed → ¬ ∀ c ∈ cs, fitsExp u w c = true) : resultExp u cs = some ed := by
  have hfind : (List.range 256).find? ((fun e => cs.all (fitsExp u e)) ∘ fun n : Nat => (n : Int) - 128) = some (ed + 128).toNat := by
    rw [List.find?_range_eq_some]
    refine ⟨?_, List.mem_range.mpr (by omega), fun j hj => ?_⟩
    · have hed : ((ed + 128).toNat : Int) - 128 = ed := by omega
      rw [Function.comp_apply, hed, List.all_eq_true]
      exact hfit
    · have hno := hmin ((j : Int) - 128) (by omega) (by omega)
      rw [← List.all_eq_true, Bool.not_eq_true] at hno
      rw [Function.comp_apply, hno]
      rfl
  unfold resultExp
  have hed : ((ed + 128).toNat : Int) - 128 = ed := by omega
  rw [List.find?_map, hfind]
  exact congrArg some hed

/-- A component fits an exponent where its shifted parts have 16 bits. -/
theorem fitsExp_iff (u w : Int) (c : Int × Int) : fitsExp (u - 15) w c = true
    ↔ -32768 ≤ shiftRightInt c.1 (w - u) ∧ shiftRightInt c.1 (w - u) ≤ 32767
      ∧ -32768 ≤ shiftRightInt c.2 (w - u) ∧ shiftRightInt c.2 (w - u) ≤ 32767 := by
  have hshift : w - 15 - (u - 15) = w - u := by omega
  unfold fitsExp
  dsimp only
  rw [hshift]
  simp only [Bool.and_eq_true, decide_eq_true_eq, and_assoc]

/-- An element of a source, its parts shifted to the larger exponent `u`. -/
def mxAligned (u : Int) (z : MxReg) (w : Word) : Int × Int := (partRe w / 2 ^ (u - mxE z).toNat, partIm w / 2 ^ (u - mxE z).toNat)

/-- The exact sum or difference of an element. -/
def mxSum (sub : Bool) (x y : MxReg) (n : Fin 64) : Int × Int :=
  if sub then cSub (mxAligned (max (mxE x) (mxE y)) x x.elem[n]) (mxAligned (max (mxE x) (mxE y)) y y.elem[n])
  else cAdd (mxAligned (max (mxE x) (mxE y)) x x.elem[n]) (mxAligned (max (mxE x) (mxE y)) y y.elem[n])

theorem mxAt_elem (r : MxReg) (n : Fin 64) : mxAt r (n.val / 8) (n.val % 8) = (partRe r.elem[n], partIm r.elem[n]) := by
  have hword : r.elem.toList.getD (8 * (n.val / 8) + n.val % 8) 0 = r.elem[n] := by
    rw [Nat.div_add_mod, List.getD_eq_getElem _ _ (by simp), Vector.getElem_toList]
    rfl
  unfold mxAt
  rw [hword]

/-- Shifting an element to an exponent that is not below its own divides its parts. -/
theorem mxAt_shifted (u : Int) (z : MxReg) (n : Fin 64) (hz : mxE z ≤ u) :
    (shiftRightInt (mxAt z (n.val / 8) (n.val % 8)).1 (u - mxE z), shiftRightInt (mxAt z (n.val / 8) (n.val % 8)).2 (u - mxE z))
      = mxAligned u z z.elem[n] := by
  rw [mxAt_elem]
  unfold shiftRightInt
  rw [if_pos (Int.sub_nonneg.mpr hz), if_pos (Int.sub_nonneg.mpr hz)]
  rfl

/-- The exact sum of MXADD, element by element, in units of the larger exponent. -/
theorem mxAddForm_eq (sub : Bool) (x y : MxReg) :
    mxAddForm sub x y = (max (mxE x) (mxE y) - 15, Vector.ofFn (mxSum sub x y)) := by
  refine Prod.ext rfl (congrArg Vector.ofFn (funext fun n => ?_))
  have hin : n.val / 8 < 8 ∧ n.val % 8 < 8 := by omega
  rw [if_pos hin]
  dsimp only
  rw [mxAt_shifted _ x n (le_max_left _ _), mxAt_shifted _ y n (le_max_right _ _)]
  rfl

/-- A result of components in units of 2^(u - 15), by the smallest exponent that fits them. -/
theorem mxResult_fits (u ed : Int) (f : Fin 64 → Int × Int) (hlo : -128 ≤ ed) (hhi : ed ≤ 127)
    (hfit : ∀ n, fitsExp (u - 15) ed (f n) = true) (hmin : ∀ w, -128 ≤ w → w < ed → ¬ ∀ n, fitsExp (u - 15) w (f n) = true) :
    mxResult (u - 15) (Vector.ofFn f)
      = ({ elem := Vector.ofFn fun n => mkCplx (shiftRightInt (f n).1 (ed - u)) (shiftRightInt (f n).2 (ed - u))
           exp := BitVec.ofInt 8 ed }, false) := by
  have hall : ∀ w, (∀ c ∈ (Vector.ofFn f).toList, fitsExp (u - 15) w c = true) ↔ ∀ n, fitsExp (u - 15) w (f n) = true := by
    intro w
    rw [Vector.toList_ofFn, List.forall_mem_ofFn_iff]
  have hexp : resultExp (u - 15) (Vector.ofFn f).toList = some ed :=
    resultExp_eq_some _ _ _ hlo hhi ((hall ed).mpr hfit) fun w hw hlt h => hmin w hw hlt ((hall w).mp h)
  have hshift : ed - 15 - (u - 15) = ed - u := by omega
  unfold mxResult
  rw [hexp]
  dsimp only
  rw [hshift, Vector.map_ofFn]
  rfl

/-- What MXADD computes before its flags: the register of the sum, and whether EXPONENT arises. -/
def mxAddResult (x : Mxc) (e : MxEntry) : MxReg × Bool :=
  mxResult (max (mxE x.regs[e.a.toFin]) (mxE x.regs[e.b.toFin]) - 15)
    (Vector.ofFn (mxSum (e.fnf.getLsbD 0) x.regs[e.a.toFin] x.regs[e.b.toFin]))

theorem mxCompute_add (x : Mxc) (e : MxEntry) (hfn : e.fn = .add) : (mxCompute x e false).1
    = some (mxFlags x.regs[e.d.toFin] [x.regs[e.a.toFin], x.regs[e.b.toFin]] (mxAddResult x e).2 false (mxAddResult x e).1) := by
  unfold mxCompute mxAddResult
  rw [hfn]
  dsimp only
  rw [mxAddForm_eq]
  simp

/-! ### Flags of a result (R103) -/

theorem mxFlags_one (old x r : MxReg) (sat : Bool) : mxFlags old [x] sat false r
    = { r with f := x.f || sat || (old.f && (x.f || x.p)), p := old.p && (x.f || x.p) } := by simp [mxFlags]

theorem mxFlags_two (old x y r : MxReg) : (mxFlags old [x, y] false false r).f = (x.f || y.f || (old.f && (x.p || y.p)))
    ∧ (mxFlags old [x, y] false false r).p = (old.p && (x.f || x.p || y.f || y.p)) := by
  cases hx : x.f <;> cases hy : y.f <;> simp [mxFlags, hx, hy]

/-- The parts of an element of the sum, shifted to the exponent `w`. -/
def mxSumAt (sub : Bool) (x y : MxReg) (w : Int) (n : Fin 64) : Int × Int :=
  (shiftRightInt (mxSum sub x y n).1 (w - max (mxE x) (mxE y)), shiftRightInt (mxSum sub x y n).2 (w - max (mxE x) (mxE y)))

/-- Whether the exponent `w` fits the sum: all shifted parts have 16 bits. -/
def mxSumFits (sub : Bool) (x y : MxReg) (w : Int) : Prop := ∀ n, -32768 ≤ (mxSumAt sub x y w n).1 ∧ (mxSumAt sub x y w n).1 ≤ 32767
  ∧ -32768 ≤ (mxSumAt sub x y w n).2 ∧ (mxSumAt sub x y w n).2 ≤ 32767

/-- The sum by the smallest exponent that fits it, without a late error. -/
theorem mxAddResult_fits (x : Mxc) (e : MxEntry) (ed : Int) (hlo : -128 ≤ ed) (hhi : ed ≤ 127)
    (hfit : mxSumFits (e.fnf.getLsbD 0) x.regs[e.a.toFin] x.regs[e.b.toFin] ed)
    (hmin : ∀ w, -128 ≤ w → w < ed → ¬ mxSumFits (e.fnf.getLsbD 0) x.regs[e.a.toFin] x.regs[e.b.toFin] w) :
    mxAddResult x e = ({ elem := Vector.ofFn fun n => mkCplx (mxSumAt (e.fnf.getLsbD 0) x.regs[e.a.toFin] x.regs[e.b.toFin] ed n).1
                           (mxSumAt (e.fnf.getLsbD 0) x.regs[e.a.toFin] x.regs[e.b.toFin] ed n).2
                         exp := BitVec.ofInt 8 ed }, false) :=
  mxResult_fits _ ed _ hlo hhi (fun n => (fitsExp_iff _ _ _).mpr (hfit n))
    fun w hw hlt hall => hmin w hw hlt fun n => (fitsExp_iff _ _ _).mp (hall n)

/-- The register that MXADD writes, where `ed` is the smallest exponent that fits the sum. -/
theorem mxAdd_written (x : Mxc) (e : MxEntry) (ed : Int) (hlo : -128 ≤ ed) (hhi : ed ≤ 127)
    (hfit : mxSumFits (e.fnf.getLsbD 0) x.regs[e.a.toFin] x.regs[e.b.toFin] ed)
    (hmin : ∀ w, -128 ≤ w → w < ed → ¬ mxSumFits (e.fnf.getLsbD 0) x.regs[e.a.toFin] x.regs[e.b.toFin] w) :
    let ra := x.regs[e.a.toFin]
    let rb := x.regs[e.b.toFin]
    let old := x.regs[e.d.toFin]
    let r := mxFlags old [ra, rb] (mxAddResult x e).2 false (mxAddResult x e).1
    r.exp.toInt = ed ∧ r.f = (ra.f || rb.f || (old.f && (ra.p || rb.p))) ∧ r.p = (old.p && (ra.f || ra.p || rb.f || rb.p))
      ∧ ∀ n : Fin 64, partRe r.elem[n] = (mxSumAt (e.fnf.getLsbD 0) ra rb ed n).1
          ∧ partIm r.elem[n] = (mxSumAt (e.fnf.getLsbD 0) ra rb ed n).2 := by
  dsimp only
  rw [mxAddResult_fits x e ed hlo hhi hfit hmin]
  obtain ⟨hf, hp⟩ := mxFlags_two x.regs[e.d.toFin] x.regs[e.a.toFin] x.regs[e.b.toFin] _
  refine ⟨BitVec.toInt_ofInt_eq_self (by decide) (by omega) (by omega), hf, hp, fun n => ?_⟩
  obtain ⟨hrelo, hrehi, himlo, himhi⟩ := hfit n
  simp only [mxFlags, Fin.getElem_fin, Vector.getElem_ofFn]
  exact parts_mkCplx _ _ ⟨hrelo, hrehi⟩ ⟨himlo, himhi⟩

/-! ### The commit -/

/-- Settles O20: MXC_COMMIT changes the core alone, and each row computes what its own arm says. -/
theorem matrixCommits : Obligations.MatrixCommits := by
  unfold Obligations.MatrixCommits
  refine ⟨mxcCommit_empty, ?_⟩
  intro s k e rest hrun htests c m hqueue old ra next fl
  have hexec : exec (.mxcCommit k false) s = next (mxCommit c false) := mxcCommit_run s k e rest hrun htests hqueue
  refine ⟨fun hfn => ?_, fun hfn => ?_, fun hfn => ?_, fun hfn => ?_⟩
  · rw [hexec, mxCommit_ack c e rest hqueue hfn]
  · rw [hexec, mxCommit_result c e rest hqueue false _ (by simp [hfn]) (mxCompute_ld _ _ _ hfn)]
    exact ⟨_, rfl, mxLoad_elem _ _, mxLoad_flags _ _⟩
  · intro x
    refine ⟨fun hlo hhi => ?_, fun hout hlate => ?_⟩
    · rw [hexec, mxCommit_result c e rest hqueue false _ (by simp [hfn]) (mxCompute_scl _ _ hfn hlo hhi), mxFlags_one, Bool.or_false]
      rfl
    · rw [hexec, mxCommit_late c e rest hqueue false _ 3 (by simp [hfn]) (mxCompute_scl_out _ _ hfn hout) (by decide) hlate,
        mxFlags_one, Bool.or_true, Bool.true_or]
  · obtain ⟨hregs, hrest⟩ := mxCommit_written c e rest false _ hqueue (by simp [hfn]) (mxCompute_add m e hfn)
    obtain ⟨t, ht, hcore⟩ : ∃ t, next (mxCommit c false) = .next t ∧ t.dev.cores[k] = mxCommit c false :=
      ⟨_, rfl, Vector.getElem_set_self _⟩
    refine ⟨t, hexec.trans ht, ?_⟩
    have hwritten : t.dev.cores[k].mxc.regs[e.d.toFin]
        = mxFlags old [ra, m.regs[e.b.toFin]] (mxAddResult m e).2 false (mxAddResult m e).1 := by
      rw [hcore, hregs]
      exact Vector.getElem_set_self _
    refine ⟨by rw [hcore, hrest], ?_, fun j hj => ?_⟩
    · rw [hwritten]
      exact fun ed hlo hhi => mxAdd_written m e ed hlo hhi
    · rw [hcore, hregs]
      exact Vector.getElem_set_ne _ _ fun hne => hj (Fin.ext hne.symm)

end Sys2Proof.Machine
end

section
/-! SUPPORT. Rows of the engines on the job they run; jobs whose MODE no table lists (05_transform_and_equaliser.md, R136, Table
5.7; 06_ldpc_and_polar.md, Table 6.8; 07_trellis_engine.md, Table 7.1). -/

namespace Sys2Proof.Machine
open Sys2Proof

/-! ### The row of an engine -/

section
variable {s : State} {pool u : Nat} {own : Dev → Job → Bool} {f : Dev → Job → Dev} {j : Job} (hj : s.dev.engineJob pool u = some j)
include hj

/-- A row acts on the running job that is its own. -/
theorem State.onEngine_own (hown : own s.dev j = true) : s.onEngine pool u own f = .next { s with dev := f s.dev j } := by
  unfold State.onEngine
  rw [State.on_eq, hj]
  dsimp only
  rw [if_pos hown]

/-- A row leaves the device as it is where the running job is another row's. -/
theorem State.onEngine_other (hown : own s.dev j = false) : s.onEngine pool u own f = .next s := by
  unfold State.onEngine
  rw [State.on_eq, hj]
  dsimp only
  rw [if_neg (ne_true_of_eq_false hown)]

end

/-! ### A MODE that no table lists is BAD_DESC -/

theorem engResult_badDesc (badAddr ecc counted : Bool) : engResult true badAddr ecc counted = 0x10 := rfl

@[simp] theorem Dev.length_doneTick (d : Dev) : d.doneTick.length = 4 := length_bytesOf _ _

theorem TxDesc.bad_of_unlisted (t : TxDesc) (pb : List Byte) (h : t.mode ∉ [1, 2, 3, 5, 6, 7, 8, 9, 10]) : t.bad pb = true := by
  have hmode : [1, 2, 3, 5, 6, 7, 8, 9, 10].contains t.mode = false := by rwa [List.contains_eq_mem, decide_eq_false_iff_not]
  unfold TxDesc.bad
  rw [hmode]
  simp only [Bool.not_false, Bool.true_or]

/-- Only PRACH, SRS, CHAN and SYNTH have a parameter block. -/
theorem pblkSize_of_unlisted {mode : Nat} (h : mode ∉ [1, 2, 3, 5, 6, 7, 8, 9, 10]) : pblkSize mode = 0 := by
  unfold pblkSize
  split
  case h_5 => rfl
  all_goals exact absurd h (by decide)

theorem polarBad_of_unlisted (b : List Byte) (h : pf b 0 1 ∉ [1, 2, 3, 4, 5]) : polarBad b = true := by
  have hmode : (pf b 0 1 == 0 || decide (5 < pf b 0 1)) = true := by
    rw [Bool.or_eq_true, beq_iff_eq, decide_eq_true_iff]
    simp only [List.mem_cons, List.not_mem_nil, or_false] at h
    omega
  unfold polarBad
  dsimp only
  rw [hmode]
  simp only [Bool.true_or]

/-! ### The jobs -/

/-- The job is answered by its status word alone, at byte 32 of its descriptor, and reported with BAD_DESC. -/
def Dev.refuseJob (d : Dev) (pool u : Nat) (j : Job) (word : List Byte) : Dev :=
  (d.engOut (engineNi pool u) (pf (d.descOf pool u j 48) 32 8) word).engReport pool u j 0x10

theorem Dev.transformJob_unlisted (d : Dev) (u : Nat) (j : Job) (h : pf (d.descOf 3 u j 48) 0 1 ∉ [1, 2, 3, 5, 6, 7, 8, 9, 10]) :
    d.transformJob u j = d.refuseJob 3 u j (txStatus 0x10 0 0 0 0 d.doneTick) := by
  have hpblk : pblkSize (txDesc (d.descOf 3 u j 48)).mode = 0 := pblkSize_of_unlisted h
  have hbad := (txDesc (d.descOf 3 u j 48)).bad_of_unlisted [] h
  unfold Dev.transformJob
  simp only [hpblk, bne_self_eq_false, Bool.false_and, Bool.false_eq_true, true_or, if_true, if_false, hbad, engResult_badDesc]
  rfl

theorem Dev.polarJob_unlisted (d : Dev) (u : Nat) (j : Job) (consistent : Bool) (h : pf (d.descOf 7 u j 48) 0 1 ∉ [1, 2, 3, 4, 5]) :
    d.polarJob u j consistent = d.refuseJob 7 u j (polarStatus 0x10 false false false false 0 0 0 d.doneTick) := by
  unfold Dev.polarJob
  simp only [polarBad_of_unlisted _ h, true_or, if_true, engResult_badDesc]
  rfl

section
variable (s : State) (j : Job)

theorem exec_fft (u : Fin 16) : exec (.fft u) s
    = s.onEngine 3 u.val (fun d j => !otherModes.contains (pf (d.descOf 3 u.val j 48) 0 1)) (fun d j => d.transformJob u.val j) := rfl

theorem exec_decUci (u : Fin 4) (consistent : Bool) : exec (.decUci u consistent) s
    = s.onEngine 7 u.val (fun d j => pf (d.descOf 7 u.val j 48) 0 1 < 2 || decide (5 < pf (d.descOf 7 u.val j 48) 0 1))
        (fun d j => d.polarJob u.val j consistent) := rfl

theorem exec_viterbi (u : Fin 4) (consistent : Bool) : exec (.viterbi u consistent) s
    = s.onEngine 8 u.val (fun d j => pf (d.descOf 8 u.val j 48) 0 1 < 2 || decide (4 < pf (d.descOf 8 u.val j 48) 0 1))
        (fun d j => if pf (d.descOf 8 u.val j 48) 0 1 = 1 then d.viterbiJob u.val j consistent else d.trellisUnknown u.val j) := rfl

theorem exec_fft_unlisted (u : Fin 16) (hj : s.dev.engineJob 3 u.val = some j)
    (h : pf (s.dev.descOf 3 u.val j 48) 0 1 ∉ [1, 2, 3, 5, 6, 7, 8, 9, 10]) :
    exec (.fft u) s = .next { s with dev := s.dev.refuseJob 3 u.val j (txStatus 0x10 0 0 0 0 s.dev.doneTick) } := by
  have hown : (!otherModes.contains (pf (s.dev.descOf 3 u.val j 48) 0 1)) = true := by
    rw [List.contains_eq_mem, Bool.not_eq_true', decide_eq_false_iff_not]
    exact fun hm => h (List.mem_cons_of_mem 1 hm)
  rw [exec_fft, ← Dev.transformJob_unlisted _ _ _ h]
  exact State.onEngine_own hj hown

theorem exec_decUci_unlisted (u : Fin 4) (consistent : Bool) (hj : s.dev.engineJob 7 u.val = some j)
    (h : pf (s.dev.descOf 7 u.val j 48) 0 1 ∉ [1, 2, 3, 4, 5]) :
    exec (.decUci u consistent) s
      = .next { s with dev := s.dev.refuseJob 7 u.val j (polarStatus 0x10 false false false false 0 0 0 s.dev.doneTick) } := by
  have hown : (decide (pf (s.dev.descOf 7 u.val j 48) 0 1 < 2) || decide (5 < pf (s.dev.descOf 7 u.val j 48) 0 1)) = true := by
    rw [Bool.or_eq_true, decide_eq_true_iff, decide_eq_true_iff]
    simp only [List.mem_cons, List.not_mem_nil, or_false] at h
    omega
  rw [exec_decUci, ← Dev.polarJob_unlisted _ _ _ consistent h]
  exact State.onEngine_own hj hown

theorem exec_viterbi_unlisted (u : Fin 4) (consistent : Bool) (hj : s.dev.engineJob 8 u.val = some j)
    (h : pf (s.dev.descOf 8 u.val j 48) 0 1 ∉ [1, 2, 3, 4]) :
    exec (.viterbi u consistent) s = .next { s with dev := s.dev.refuseJob 8 u.val j (viterbiStatus 0x10 false 0 0 s.dev.doneTick) } := by
  simp only [List.mem_cons, List.not_mem_nil, or_false, not_or] at h
  obtain ⟨h1, h2, h3, h4⟩ := h
  have hown : (decide (pf (s.dev.descOf 8 u.val j 48) 0 1 < 2) || decide (4 < pf (s.dev.descOf 8 u.val j 48) 0 1)) = true := by
    rw [Bool.or_eq_true, decide_eq_true_iff, decide_eq_true_iff]
    omega
  rw [exec_viterbi]
  refine (State.onEngine_own hj hown).trans ?_
  rw [if_neg h1]
  rfl

end

/-- Settles O33: each of the three rows refuses the job, whose status word has 16 bytes and begins with RESULT. -/
theorem unlistedModesCompleteWithBadDesc : Obligations.UnlistedModesCompleteWithBadDesc := by
  unfold Obligations.UnlistedModesCompleteWithBadDesc
  intro s j u16 u4 _
  refine ⟨fun hj h => ⟨_, ?_, ?_, exec_fft_unlisted s j u16 hj h⟩, fun hj h => ⟨_, ?_, ?_, exec_decUci_unlisted s j u4 true hj h⟩,
    fun hj h => ⟨_, ?_, ?_, exec_viterbi_unlisted s j u4 true hj h⟩⟩
  · simp [txStatus]
  · rfl
  · simp [polarStatus]
  · rfl
  · simp [viterbiStatus]
  · rfl

end Sys2Proof.Machine
end

section
/-! SUPPORT. The job an engine runs and the one it starts next; the age of a tally (05_transform_and_equaliser.md, R148;
06_ldpc_and_polar.md, R163). -/

namespace Sys2Proof.Machine
open Sys2Proof

/-! ### The jobs an engine holds -/

theorem AlmState.mem_heldBy (a : AlmState) (pool u : Nat) (j : Job) :
    j ∈ a.heldBy pool u ↔ j ∈ a.jobs ∧ j.st = .dispatched ∧ j.pool = pool ∧ j.runat = u := by
  simp only [AlmState.heldBy, List.mem_filter, Bool.and_eq_true, beq_iff_eq, and_assoc]

/-- The job an engine can complete is one it holds and has started. -/
theorem Dev.engineJob_started {d : Dev} {pool u : Nat} {j : Job} (h : d.engineJob pool u = some j) :
    j ∈ d.alm.heldBy pool u ∧ j.started = true := by
  unfold Dev.engineJob at h
  split at h
  · exact ⟨List.mem_of_find?_eq_some h, List.find?_some h⟩
  · cases h

/-! ### Pre-emption -/

/-- A running job at the boundary at which it gives its engine away (R148). -/
def Job.preempted (j : Job) : Job := { j with started := false, paused := true }

/-- The device once a job has been pre-empted. -/
def Dev.preempted (d : Dev) (id : Word) : Dev := d.onAlm (fun a => a.updJob id Job.preempted)

/-- Whether a job waits for an EST or an APPLY does not turn on which jobs run or are paused (R143, R148). -/
theorem Dev.preempted_mayStart (d : Dev) (id : Word) (pool u : Nat) (x : Job) :
    (d.preempted id).mayStart pool u x = d.mayStart pool u x := by
  have hjobs (p q : Job → Bool) (h : ∀ y, p (if y.id = id then y.preempted else y) = q y) :
      (d.preempted id).alm.jobs.any p = d.alm.jobs.any q :=
    List.any_map.trans (congrArg _ (funext h))
  have hest : (d.preempted id).estWaits pool u x = d.estWaits pool u x :=
    congrArg (pool == 4 && d.descField x 0 1 == 1 && ·) (hjobs _ _ fun y => by split <;> rfl)
  have happly : (d.preempted id).applyWaits pool x = d.applyWaits pool x :=
    congrArg (pool == 4 && d.descField x 0 1 == 2 && x.serves.isSome && ·) (hjobs _ _ fun y => by split <;> rfl)
  unfold Dev.mayStart
  rw [hest, happly]

/-- A class A job goes before one of another class (R148). -/
theorem nextForEngine_classA (j x : Job) (hj : j.cls ≠ 0) (hx : x.cls = 0) : nextForEngine [j, x] = some x := by
  have hlt : x.cls < j.cls := hx ▸ Nat.pos_of_ne_zero hj
  simp only [nextForEngine, List.foldl_cons, List.foldl_nil, if_pos hlt]

/-- An idle engine starts the job that is its next. -/
theorem Dev.startNext_starts (d : Dev) (pool u : Nat) (x : Job) (hidle : ∀ y ∈ d.alm.heldBy pool u, y.started = false)
    (hnext : nextForEngine ((d.alm.heldBy pool u).filter (d.mayStart pool u)) = some x) :
    d.startNext pool u = d.onAlm (fun a => a.updJob x.id d.begun) := by
  have hnone : ¬(d.alm.heldBy pool u).any (fun y => y.started) = true := by simpa using hidle
  unfold Dev.startNext
  dsimp only
  rw [if_neg hnone, hnext]

/-- A class A job that may start takes the engine from a running job of another class, which is paused (R148). -/
theorem Dev.preempted_startNext (d : Dev) (u : Nat) (j x : Job) (hjobs : d.alm.jobs = [j, x]) (hj : j ∈ d.alm.heldBy 4 u)
    (hx : x ∈ d.alm.heldBy 4 u) (hjc : j.cls ≠ 0) (hxc : x.cls = 0) (hne : x.id ≠ j.id) (hstart : x.started = false)
    (hmay : d.mayStart 4 u x = true) :
    ((d.preempted j.id).startNext 4 u).alm.jobs = [j.preempted, (d.preempted j.id).begun x] := by
  have hjobs' : (d.preempted j.id).alm.jobs = [j.preempted, x] := by
    refine (congrArg (List.map _) hjobs).trans ?_
    simp only [List.map_cons, List.map_nil, if_true, if_neg hne]
  obtain ⟨-, hjs, hjp, hju⟩ := (d.alm.mem_heldBy 4 u j).mp hj
  obtain ⟨-, hxs, hxp, hxu⟩ := (d.alm.mem_heldBy 4 u x).mp hx
  have hheld : (d.preempted j.id).alm.heldBy 4 u = [j.preempted, x] := by
    simp [AlmState.heldBy, hjobs', Job.preempted, hjs, hjp, hju, hxs, hxp, hxu]
  have hidle : ∀ y ∈ (d.preempted j.id).alm.heldBy 4 u, y.started = false := by
    rw [hheld]
    simp [Job.preempted, hstart]
  have hnext : nextForEngine (((d.preempted j.id).alm.heldBy 4 u).filter ((d.preempted j.id).mayStart 4 u)) = some x := by
    rw [hheld, List.filter_cons, List.filter_cons_of_pos (by rw [d.preempted_mayStart, hmay]), List.filter_nil]
    split
    · exact nextForEngine_classA j.preempted x hjc hxc
    · rfl
  rw [Dev.startNext_starts _ 4 u x hidle hnext]
  refine (congrArg (List.map _) hjobs').trans ?_
  have hjx : ¬j.preempted.id = x.id := fun h => hne h.symm
  simp only [List.map_cons, List.map_nil, if_true, if_neg hjx]

/-- Whether EQUALISER_PREEMPT pre-empts the job that runs (R148). -/
def Dev.preempts (d : Dev) (u : Nat) (j : Job) : Bool :=
  j.cls != 0 && (d.alm.heldBy 4 u).any (fun x => x.cls == 0 && !x.started && d.mayStart 4 u x) && pf (d.descOf 4 u j 48) 0 1 != 3

theorem exec_equaliserPreempt (s : State) (u : Fin 16) : exec (.equaliserPreempt u) s
    = s.onEngine 4 u.val (fun d j => d.preempts u.val j) (fun d j => (d.preempted j.id).startNext 4 u.val) := rfl

theorem Dev.preempts_eq_true {d : Dev} {u : Nat} {j x : Job} (hjc : j.cls ≠ 0) (hmode : pf (d.descOf 4 u j 48) 0 1 ≠ 3)
    (hx : x ∈ d.alm.heldBy 4 u) (hxc : x.cls = 0) (hstart : x.started = false) (hmay : d.mayStart 4 u x = true) :
    d.preempts u j = true := by
  have hany : (d.alm.heldBy 4 u).any (fun x => x.cls == 0 && !x.started && d.mayStart 4 u x) = true :=
    List.any_eq_true.mpr ⟨x, hx, by simp [hxc, hstart, hmay]⟩
  simp [Dev.preempts, hjc, hany, hmode]

/-- No job of class A that may start waits: the engine keeps its job. -/
theorem Dev.preempts_eq_false {d : Dev} {u : Nat} (j : Job) (h : ∀ x ∈ d.alm.heldBy 4 u, x.cls ≠ 0 ∨ d.mayStart 4 u x = false) :
    d.preempts u j = false := by
  have hany : (d.alm.heldBy 4 u).any (fun x => x.cls == 0 && !x.started && d.mayStart 4 u x) = false := by
    rw [List.any_eq_false]
    intro x hx
    rcases h x hx with hc | hm
    · simp [hc]
    · simp [hm]
  simp [Dev.preempts, hany]

theorem equaliserPreempt_taken (s : State) (u : Fin 16) (j x : Job) (hjobs : s.dev.alm.jobs = [j, x])
    (hj : s.dev.engineJob 4 u.val = some j) (hjc : j.cls ≠ 0) (hmode : pf (s.dev.descOf 4 u.val j 48) 0 1 ≠ 3) (hne : x.id ≠ j.id)
    (hx : x ∈ s.dev.alm.heldBy 4 u.val) (hxc : x.cls = 0) (hstart : x.started = false) (hmay : s.dev.mayStart 4 u.val x = true) :
    ∃ t, exec (.equaliserPreempt u) s = .next t ∧ t.dev.alm.jobs = [j.preempted, (s.dev.preempted j.id).begun x] := by
  rw [exec_equaliserPreempt]
  exact ⟨_, State.onEngine_own hj (Dev.preempts_eq_true hjc hmode hx hxc hstart hmay),
    s.dev.preempted_startNext u.val j x hjobs (Dev.engineJob_started hj).1 hx hjc hxc hne hstart hmay⟩

theorem equaliserPreempt_kept (s : State) (u : Fin 16) (j x : Job) (hjobs : s.dev.alm.jobs = [j, x])
    (hj : s.dev.engineJob 4 u.val = some j) (hjc : j.cls ≠ 0) (hx : x.cls ≠ 0 ∨ s.dev.mayStart 4 u.val x = false) :
    exec (.equaliserPreempt u) s = .next s := by
  rw [exec_equaliserPreempt]
  refine State.onEngine_other hj (Dev.preempts_eq_false j fun y hy => ?_)
  have hmem : y ∈ [j, x] := hjobs ▸ ((AlmState.mem_heldBy _ _ _ _).mp hy).1
  rcases List.mem_pair.mp hmem with rfl | rfl
  · exact .inl hjc
  · exact hx

/-! ### The tally -/

theorem Dev.tallyRec_val (d : Dev) (n : Fin 1024) : d.tallyRec n.val = d.eng.tally[n] := by
  simp [Dev.tallyRec]

theorem Dev.tallyRec_updTally (d : Dev) (n : Fin 1024) (f : TallyRec → TallyRec) :
    (d.updTally n.val f).tallyRec n.val = f (d.tallyRec n.val) := by
  rw [Dev.tallyRec_val, Dev.tallyRec_val]
  simp [Dev.updTally]

/-- Whether an entry of the tally is open and over the age limit (R163). -/
def Dev.tallyAged (d : Dev) (n : Nat) : Prop := (d.tallyRec n).st = .opened ∧ d.cfg.tallyAge < (d.time.tick - (d.tallyRec n).tick).toNat

/-- An aged entry is closed, and beside it only memory changes (R163). -/
theorem Dev.tallyAge_aged (d : Dev) (n : Nat) (h : d.tallyAged n) :
    ∃ m, d.tallyAge n = ({ d with mem := m } : Dev).updTally n (fun t => { t with st := .closed }) :=
  ⟨_, if_pos h⟩

theorem Dev.tallyAge_young (d : Dev) (n : Nat) (h : ¬d.tallyAged n) : d.tallyAge n = d := if_neg h

theorem exec_tallyAgeClose (s : State) (n : Fin 1024) (h : s.dev.launched = true) :
    exec (.tallyAgeClose n) s = .next { s with dev := s.dev.tallyAge n.val } := by
  have hexec : exec (.tallyAgeClose n) s = s.on (fun d => if d.launched then d.tallyAge n.val else d) := rfl
  rw [hexec, State.on_eq, if_pos h]

theorem tallyAgeClose_aged (s : State) (n : Fin 1024) (hlaunched : s.dev.launched = true) (h : s.dev.tallyAged n.val) :
    ∃ t, exec (.tallyAgeClose n) s = .next t ∧ (t.dev.tallyRec n.val).st = .closed ∧ t.dev.alm = s.dev.alm
      ∧ t.dev.cores = s.dev.cores := by
  obtain ⟨m, hm⟩ := s.dev.tallyAge_aged n.val h
  rw [exec_tallyAgeClose s n hlaunched, hm]
  refine ⟨_, rfl, ?_⟩
  dsimp only
  rw [Dev.tallyRec_updTally, Dev.updTally_alm, Dev.updTally_cores]
  exact ⟨rfl, rfl, rfl⟩

/-- Settles O35: the class A job starts where it may and the engine keeps its job where it may not; a tally is closed by its age. -/
theorem equaliserPreemptAndTallyAge : Obligations.EqualiserPreemptAndTallyAge := by
  unfold Obligations.EqualiserPreemptAndTallyAge
  refine ⟨fun s j x u hjobs hj hjc hmode hne => ⟨fun hxs hxp hxu hxc hstart hmay => ?_, equaliserPreempt_kept s u j x hjobs hj hjc⟩,
    fun s n hlaunched => ⟨fun hopen hage => ?_, fun hyoung => ?_⟩⟩
  · have hx : x ∈ s.dev.alm.heldBy 4 u.val := (AlmState.mem_heldBy _ _ _ _).mpr ⟨by simp [hjobs], hxs, hxp, hxu⟩
    obtain ⟨t, ht, htjobs⟩ := equaliserPreempt_taken s u j x hjobs hj hjc hmode hne hx hxc hstart hmay
    exact ⟨t, _, ht, htjobs, rfl, rfl, rfl, hxs, hxu⟩
  · exact tallyAgeClose_aged s n hlaunched ⟨hopen, hage⟩
  · have hnot : ¬s.dev.tallyAged n.val := fun ⟨hopen, hage⟩ => hyoung.elim (· hopen) (Nat.not_le.mpr hage)
    rw [exec_tallyAgeClose s n hlaunched, Dev.tallyAge_young _ _ hnot]

end Sys2Proof.Machine
end

section
/-! SUPPORT. The memory an engine's write leaves as it was, and what a polar job whose checker agrees writes
(06_ldpc_and_polar.md, R168 to R170, Tables 6.8 to 6.10; 12_memory.md, R306, R312). -/

namespace Sys2Proof.Machine
open Sys2Proof

/-! ### Writes outside the HARQ area -/

/-- A write moves no bound of the HARQ area. -/
@[simp] theorem Memory.ifWriteByte_inHarq (m : Memory) (base n a : Nat) (b : Byte) (x : Nat) :
    (m.ifWriteByte base n a b).inHarq x = m.inHarq x := by
  have hfirst : (m.firstUse a).inHarq x = m.inHarq x := by
    unfold Memory.firstUse
    split <;> rfl
  rw [← hfirst]
  unfold Memory.ifWriteByte
  dsimp only
  split_ifs <;> rfl

@[simp] theorem Memory.ifWriteFrom_inHarq (base n : Nat) (bs : List Byte) (x : Nat) :
    ∀ (m : Memory) (a : Nat), (m.ifWriteFrom base n a bs).inHarq x = m.inHarq x := by
  induction bs with
  | nil => exact fun m a => rfl
  | cons b bs ih => exact fun m a => (ih _ (a + 1)).trans (m.ifWriteByte_inHarq base n a b x)

theorem Memory.ifWriteFrom_byte (base n : Nat) (bs : List Byte) (x : Nat) :
    ∀ (m : Memory) (a : Nat), m.wf = true → (∀ y, a ≤ y ∧ y < a + bs.length → m.inHarq y = false) →
      ¬(a ≤ x ∧ x < a + bs.length) → (m.ifWriteFrom base n a bs).byte x = m.byte x := by
  induction bs with
  | nil => exact fun m a _ _ _ => rfl
  | cons b bs ih =>
    intro m a hwf hharq hx
    rw [List.length_cons] at hharq hx
    have hhead : (m.ifWriteByte base n a b).byte x = m.byte x :=
      m.ifWriteByte_byte base n a b hwf (hharq a (by omega)) x (by omega)
    refine (ih _ (a + 1) (m.ifWriteByte_wf base n a b hwf) (fun y hy => ?_) (by omega)).trans hhead
    rw [Memory.ifWriteByte_inHarq]
    exact hharq y (by omega)

/-! ### An engine's output and its report -/

section
variable (d : Dev) (ni a : Nat) (bs : List Byte)

/-- An output changes memory alone, and that only where the target takes it. -/
theorem Dev.engOut_cases : d.engOut ni a bs = d ∨ d.engOut ni a bs = { d with mem := d.mem.ifWrite a bs } := by
  unfold Dev.engOut
  split
  · exact .inl rfl
  · exact .inr rfl

@[simp] theorem Dev.engOut_nil : d.engOut ni a [] = d := rfl

@[simp] theorem Dev.engOut_cores : (d.engOut ni a bs).cores = d.cores := by rcases d.engOut_cases ni a bs with h | h <;> rw [h]
@[simp] theorem Dev.engOut_link : (d.engOut ni a bs).link = d.link := by rcases d.engOut_cases ni a bs with h | h <;> rw [h]
@[simp] theorem Dev.engOut_chiop : (d.engOut ni a bs).chiop = d.chiop := by rcases d.engOut_cases ni a bs with h | h <;> rw [h]
@[simp] theorem Dev.engOut_cfg : (d.engOut ni a bs).cfg = d.cfg := by rcases d.engOut_cases ni a bs with h | h <;> rw [h]

@[simp] theorem Dev.engOut_inHarq (x : Nat) : (d.engOut ni a bs).mem.inHarq x = d.mem.inHarq x := by
  rcases d.engOut_cases ni a bs with h | h <;> rw [h]
  exact Memory.ifWriteFrom_inHarq a bs.length bs x d.mem a

theorem Dev.engOut_wf (hwf : d.mem.wf = true) : (d.engOut ni a bs).mem.wf = true := by
  rcases d.engOut_cases ni a bs with h | h <;> rw [h]
  · exact hwf
  · exact d.mem.ifWrite_wf a bs hwf

/-- An output of at most `n` bytes outside the HARQ area leaves every byte outside its range as it was. -/
theorem Dev.engOut_byte (n : Nat) (hlen : bs.length ≤ n) (hwf : d.mem.wf = true)
    (hharq : ∀ y, a ≤ y ∧ y < a + n → d.mem.inHarq y = false) (x : Nat) (hx : ¬(a ≤ x ∧ x < a + n)) :
    (d.engOut ni a bs).mem.byte x = d.mem.byte x := by
  rcases d.engOut_cases ni a bs with h | h <;> rw [h]
  exact Memory.ifWriteFrom_byte a bs.length bs x d.mem a hwf (fun y hy => hharq y (by omega)) (by omega)

end

section
variable (d : Dev) (pool u : Nat) (j : Job) (r : Nat)

@[simp] theorem Dev.engReport_mem : (d.engReport pool u j r).mem = d.mem := rfl
@[simp] theorem Dev.engReport_cores : (d.engReport pool u j r).cores = d.cores := rfl
@[simp] theorem Dev.engReport_link : (d.engReport pool u j r).link = d.link := rfl
@[simp] theorem Dev.engReport_chiop : (d.engReport pool u j r).chiop = d.chiop := rfl
@[simp] theorem Dev.engReport_cfg : (d.engReport pool u j r).cfg = d.cfg := rfl

end

/-! ### The lengths of what a polar job writes -/

theorem length_packBits (bits : List Bool) : (packBits bits).length = (bits.length + 7) / 8 := by
  simp [packBits, ceilDiv]

theorem length_downPolar (e : Nat) (bits : List Bool) : (downPolar e bits).length = e := by
  simp [downPolar, polarBits, polarCode]

/-- A decoder puts out at most its A payload bits. -/
theorem length_polarDecode_le (b : List Byte) (xs : List Int) : (polarDecode b xs).1.length ≤ pf b 2 2 := by
  unfold polarDecode
  dsimp only
  split
  · rw [List.length_drop, List.length_append]
    omega
  · simp

theorem length_polarStatus (result : Nat) (crc dtx seg crc2 : Bool) (conf pm pm2 : Nat) (d : Dev) :
    (polarStatus result crc dtx seg crc2 conf pm pm2 d.doneTick).length = 16 := by
  simp [polarStatus]

/-! ### The job -/

/-- The bytes of a polar job's output range: ceil(A/8) for a decoder, ceil(E/8) for an encoder. -/
def polarOutLen (b : List Byte) : Nat := ((if 4 ≤ pf b 0 1 then pf b 4 4 else pf b 2 2) + 7) / 8

theorem polarOutLen_encode {b : List Byte} (h : 4 ≤ pf b 0 1) : polarOutLen b = (pf b 4 4 + 7) / 8 := by
  rw [polarOutLen, if_pos h]

theorem polarOutLen_decode {b : List Byte} (h : ¬4 ≤ pf b 0 1) : polarOutLen b = (pf b 2 2 + 7) / 8 := by
  rw [polarOutLen, if_neg h]

theorem length_encoded_le {b : List Byte} (h : 4 ≤ pf b 0 1) (bits : List Bool) :
    (packBits (downPolar (pf b 4 4) bits)).length ≤ polarOutLen b := by
  rw [length_packBits, length_downPolar, polarOutLen_encode h]

theorem length_decoded_le {b : List Byte} (h : ¬4 ≤ pf b 0 1) (xs : List Int) :
    (packBits (polarDecode b xs).1).length ≤ polarOutLen b := by
  rw [length_packBits, polarOutLen_decode h]
  exact Nat.div_le_div_right (Nat.add_le_add_right (length_polarDecode_le b xs) 7)

/-- A polar job whose checker agrees writes at most its output range, then its 16-byte status word, and reports; a refused
one has no output. -/
theorem Dev.polarJob_writes (d : Dev) (u : Nat) (j : Job) :
    ∃ (out word : List Byte) (r : Nat), out.length ≤ polarOutLen (d.descOf 7 u j 48) ∧ word.length = 16
      ∧ d.polarJob u j true = ((d.engOut (engineNi 7 u) (pf (d.descOf 7 u j 48) 24 8) out).engOut (engineNi 7 u)
          (pf (d.descOf 7 u j 48) 32 8) word).engReport 7 u j r := by
  unfold Dev.polarJob
  simp only [Bool.not_true, Bool.false_eq_true, if_false, decide_eq_true_eq]
  split
  case isTrue henc =>
    split
    · exact ⟨[], _, _, Nat.zero_le _, length_polarStatus .., rfl⟩
    · exact ⟨_, _, _, length_encoded_le henc _, length_polarStatus .., rfl⟩
  case isFalse hdec =>
    split
    · exact ⟨[], _, _, Nat.zero_le _, length_polarStatus .., rfl⟩
    · exact ⟨_, _, _, length_decoded_le hdec _, length_polarStatus .., rfl⟩

/-! ### The rows -/

section
variable {s : State} {j : Job} {u : Fin 4} (hj : s.dev.engineJob 7 u.val = some j)
include hj

theorem State.onPolar_own (own : Nat → Bool) (consistent : Bool) (hown : own (pf (s.dev.descOf 7 u.val j 48) 0 1) = true) :
    s.onPolar u own consistent = .next { s with dev := s.dev.polarJob u.val j consistent } :=
  State.onEngine_own hj hown

/-- The row of the running job's MODE completes it. -/
theorem exec_polarRow (row : Instr × Nat) (hrow : row ∈ ([(Instr.decUci u true, 1), (.decRm u true, 2), (.decSmall u true, 3),
      (.encDci u true, 4), (.encBch u true, 5)] : List (Instr × Nat))) (hmode : pf (s.dev.descOf 7 u.val j 48) 0 1 = row.2) :
    exec row.1 s = .next { s with dev := s.dev.polarJob u.val j true } := by
  simp only [List.mem_cons, List.not_mem_nil, or_false] at hrow
  rcases hrow with rfl | rfl | rfl | rfl | rfl
  · exact State.onPolar_own hj (fun m => m < 2 || decide (5 < m)) true (by rw [hmode]; rfl)
  · exact State.onPolar_own hj (fun m => m == 2) true (by rw [hmode]; rfl)
  · exact State.onPolar_own hj (fun m => m == 3) true (by rw [hmode]; rfl)
  · exact State.onPolar_own hj (fun m => m == 4) true (by rw [hmode]; rfl)
  · exact State.onPolar_own hj (fun m => m == 5) true (by rw [hmode]; rfl)

end

/-- Settles O34: the row runs the job, which makes two writes, and neither changes a byte outside its range. -/
theorem polarJobsWriteOnlyOutputAndStatus : Obligations.PolarJobsWriteOnlyOutputAndStatus := by
  unfold Obligations.PolarJobsWriteOnlyOutputAndStatus
  intro s j u _ hj hwf b dst stat len hharq row hrow hmode
  obtain ⟨out, word, r, hout, hword, hjob⟩ := s.dev.polarJob_writes u.val j
  refine ⟨_, exec_polarRow hj row hrow hmode, fun x hdst hstat => ?_, ?_⟩
  · dsimp only
    rw [hjob, Dev.engReport_mem]
    have hfirst : (s.dev.engOut (engineNi 7 u.val) dst out).mem.byte x = s.dev.mem.byte x :=
      s.dev.engOut_byte _ dst out len hout hwf (fun y hy => hharq y (.inl hy)) x hdst
    refine (Dev.engOut_byte _ _ stat word 16 hword.le (s.dev.engOut_wf _ _ _ hwf) (fun y hy => ?_) x hstat).trans hfirst
    rw [Dev.engOut_inHarq]
    exact hharq y (.inr hy)
  · rw [hjob]
    simp

end Sys2Proof.Machine
end

section
/-! SUPPORT. Rows of Almanac where no plan is under way: what they do to its queues, processions and jobs, and what an error of a
record destroys (09_almanac_scheduler.md, R218, R244, R245; 16_chiop_commands.md, R545). -/

namespace Sys2Proof.Machine
open Sys2Proof

/-! ### A row's effect -/

/-- Where no plan is under way no slot can be complete (R545). -/
theorem Dev.settlePlans_nil (d : Dev) (h : d.cfg.plans = []) : d.settlePlans = d := by
  unfold Dev.settlePlans
  rw [h]
  rfl

theorem State.onAlmanac_next {s : State} {f : Dev → Dev} {d : Dev} (hl : s.dev.launched = true) (hf : f s.dev = d)
    (hp : d.cfg.plans = []) : s.onAlmanac f = .next { s with dev := d } := by
  have halm : s.dev.almRuns = true := hl
  rw [State.onAlmanac_eq, if_pos halm, hf, Dev.settlePlans_nil d hp]

/-- A row whose cause does not hold. -/
theorem State.onAlmanac_same {s : State} {f : Dev → Dev} (hl : s.dev.launched = true) (hp : s.dev.cfg.plans = [])
    (hf : f s.dev = s.dev) : s.onAlmanac f = .next s := State.onAlmanac_next hl hf hp

theorem Dev.Told.alm {a b : Dev} (h : a.Told b) : b.alm = a.alm := by obtain ⟨_, _, _, _, _, rfl⟩ := h; rfl

theorem Dev.almLost_told (d : Dev) (cell : Nat) (id : Word) : d.Told (d.almLost cell id) := d.healthEvent_told _

/-! ### The only record of its kind -/

theorem AlmState.queue?_only {a : AlmState} {q : Queue} (h : a.queues = [q]) : a.queue? q.id = some q := by
  simp [AlmState.queue?, h]

theorem AlmState.proc?_only {a : AlmState} {p : Procession} (h : a.procs = [p]) : a.proc? p.id = some p := by
  simp [AlmState.proc?, h]

theorem AlmState.job?_only {a : AlmState} {j : Job} (h : a.jobs = [j]) : a.job? j.id = some j := by
  simp [AlmState.job?, h]

theorem AlmState.updQueue_only {a : AlmState} {q : Queue} (h : a.queues = [q]) (f : Queue → Queue) :
    a.updQueue q.id f = { a with queues := [f q] } := by
  simp [AlmState.updQueue, h]

theorem AlmState.updProc_only {a : AlmState} {p : Procession} (h : a.procs = [p]) (f : Procession → Procession) :
    a.updProc p.id f = { a with procs := [f p] } := by
  simp [AlmState.updProc, h]

theorem AlmState.updJob_only {a : AlmState} {j : Job} (h : a.jobs = [j]) (f : Job → Job) :
    a.updJob j.id f = { a with jobs := [f j] } := by
  simp [AlmState.updJob, h]

theorem Dev.onAlm_updQueue_only {d : Dev} {q : Queue} (h : d.alm.queues = [q]) (f : Queue → Queue) :
    d.onAlm (fun a => a.updQueue q.id f) = d.onAlm (fun a => { a with queues := [f q] }) :=
  congrArg (fun a => { d with alm := a }) (AlmState.updQueue_only h f)

theorem Dev.onAlm_updProc_only {d : Dev} {p : Procession} (h : d.alm.procs = [p]) (f : Procession → Procession) :
    d.onAlm (fun a => a.updProc p.id f) = d.onAlm (fun a => { a with procs := [f p] }) :=
  congrArg (fun a => { d with alm := a }) (AlmState.updProc_only h f)

theorem Dev.onAlm_updJob_only {d : Dev} {j : Job} (h : d.alm.jobs = [j]) (f : Job → Job) :
    d.onAlm (fun a => a.updJob j.id f) = d.onAlm (fun a => { a with jobs := [f j] }) :=
  congrArg (fun a => { d with alm := a }) (AlmState.updJob_only h f)

theorem AlmState.known_eq_false {a : AlmState} {id : Word} :
    a.known id = false ↔ a.job? id = none ∧ a.proc? id = none ∧ a.timer? id = none ∧ a.queue? id = none := by
  simp [AlmState.known, and_assoc]

/-- Where nothing is CLOSING nothing is freed. -/
theorem AlmState.sweep_open {a : AlmState} (hq : ∀ q ∈ a.queues, q.closing = false) (hp : ∀ p ∈ a.procs, p.closing = false) :
    a.sweep = a := by
  have hqueues : a.queues.filter (fun q => !(q.closing && q.entries.isEmpty && !a.namedDeferred q.id)) = a.queues :=
    List.filter_eq_self.mpr fun q h => by simp [hq q h]
  have hprocs : a.procs.filter (fun p => !(p.closing && !(a.jobs.any (fun j => j.link == p.id)) && !a.namedDeferred p.id)) = a.procs :=
    List.filter_eq_self.mpr fun p h => by simp [hp p h]
  rw [AlmState.sweep, hqueues, hprocs]

/-! ### Spilled and lost records -/

theorem exec_segmentRefill_queue (s : State) (id : Word) : exec (.segmentRefill (.queue id)) s
    = s.onAlmanac (fun d => d.onAlm (fun a => a.updQueue id (fun q => if q.chip < 128 then q.refill else q))) := rfl

theorem segmentRefill_only {s : State} {q : Queue} (hl : s.dev.launched = true) (hp : s.dev.cfg.plans = [])
    (hq : s.dev.alm.queues = [q]) : exec (.segmentRefill (.queue q.id)) s
      = .next { s with dev := { s.dev with alm := { s.dev.alm with queues := [if q.chip < 128 then q.refill else q] } } } := by
  rw [exec_segmentRefill_queue]
  exact State.onAlmanac_next hl (Dev.onAlm_updQueue_only hq _) hp

/-- A queue that has lost `n` entries from the `first` on, which count in OVERRUN up to the top (R245). -/
def Queue.without (q : Queue) (first n : Nat) : Queue :=
  { q with entries := q.entries.take first ++ q.entries.drop (first + n)
           chip := Nat.min q.chip (q.entries.length - n)
           overrun := if 2 ^ 32 ≤ q.overrun.toNat + n then 0xFFFFFFFF else q.overrun + BitVec.ofNat 32 n }

theorem Queue.without_overrun (q : Queue) (first n : Nat) (h : q.overrun.toNat + n < 2 ^ 32) :
    (q.without first n).overrun.toNat = q.overrun.toNat + n := by
  have hlow : ¬2 ^ 32 ≤ q.overrun.toNat + n := by omega
  rw [Queue.without, if_neg hlow, BitVec.toNat_add, BitVec.toNat_ofNat]
  omega

/-- Entries of a queue are lost (R245). -/
def AlmState.loseEntries (a : AlmState) (id : Word) (first n : Nat) : AlmState := (a.updQueue id (fun q => q.without first n)).sweep

theorem AlmState.loseEntries_only {a : AlmState} {q : Queue} (hq : a.queues = [q]) (hopen : q.closing = false) (hp : a.procs = [])
    (first n : Nat) : a.loseEntries q.id first n = { a with queues := [q.without first n] } := by
  rw [AlmState.loseEntries, AlmState.updQueue_only hq]
  refine AlmState.sweep_open (fun x hx => ?_) (fun p h => ?_)
  · rw [List.mem_singleton.mp hx]
    exact hopen
  · rw [hp] at h
    cases h

theorem exec_recordEccError (s : State) (what : LostRecord) : exec (.recordEccError what) s = execRecordEccError what s := rfl

theorem recordEccError_entries {s : State} {id : Word} {q : Queue} (hl : s.dev.launched = true) (hp : s.dev.cfg.plans = [])
    (hq : s.dev.alm.queue? id = some q) (first count : Nat) : ∃ t, exec (.recordEccError (.entries id first count)) s = .next t
      ∧ t.dev.alm = s.dev.alm.loseEntries id first (Nat.min count (q.entries.length - first)) := by
  let d := s.dev.onAlm (fun a => a.loseEntries id first (Nat.min count (q.entries.length - first)))
  have htold : d.Told (d.almLost 0xFFFF id) := d.almLost_told 0xFFFF id
  refine ⟨{ s with dev := d.almLost 0xFFFF id }, ?_, htold.alm⟩
  rw [exec_recordEccError, execRecordEccError]
  refine State.onAlmanac_next hl ?_ (htold.cfg ▸ hp)
  dsimp only
  rw [hq]
  rfl

theorem recordEccError_unknown {s : State} {id : Word} (hl : s.dev.launched = true) (hp : s.dev.cfg.plans = [])
    (h : s.dev.alm.known id = false) : exec (.recordEccError (.object id)) s = .next s := by
  obtain ⟨hjob, hproc, htimer, hqueue⟩ := AlmState.known_eq_false.mp h
  rw [exec_recordEccError, execRecordEccError]
  refine State.onAlmanac_same hl hp ?_
  simp [hjob, hproc, htimer, hqueue]

/-- Settles O30: a segment comes back or none does; the entries lost are those named; an identifier of nothing loses nothing. -/
theorem spilledAndLostRecords : Obligations.SpilledAndLostRecords := by
  unfold Obligations.SpilledAndLostRecords
  intro s q hl hp hq hopen
  refine ⟨fun hfew => ?_, fun hmany => ?_, fun first count hprocs hover hrange => ?_, fun id => recordEccError_unknown hl hp⟩
  · rw [segmentRefill_only hl hp hq, if_pos hfew]
    rfl
  · rw [segmentRefill_only hl hp hq, if_neg (Nat.not_lt.mpr hmany), ← hq]
  · have hcount : Nat.min count (q.entries.length - first) = count := Nat.min_eq_left (by omega)
    obtain ⟨t, ht, halm⟩ := recordEccError_entries hl hp (AlmState.queue?_only hq) first count
    rw [hcount, AlmState.loseEntries_only hq hopen hprocs] at halm
    exact ⟨t, q.without first count, ht, by rw [halm], rfl, q.without_overrun first count (by omega)⟩

end Sys2Proof.Machine
end

section
/-! SUPPORT. Completion of a class C job, release in order and the skip of a stuck head (09_almanac_scheduler.md, R239 to R242). -/

namespace Sys2Proof.Machine
open Sys2Proof

/-! ### Entries of a queue -/

theorem padTo_of_length {n : Nat} {bs : List Byte} (h : bs.length = n) : padTo n bs = bs := by
  rw [padTo, ← h, List.take_left]

@[simp] theorem Job.length_record (j : Job) : j.record.length = 16 := by
  simp [Job.record]

/-- A queue with one entry more (R222); `shared` are the records on chip. -/
def Queue.put (q : Queue) (entry : List Byte) (now : BitVec 40) (shared : Nat) : Queue :=
  { q with entries := q.entries ++ [padTo 16 entry]
           home := true
           used := now
           chip := if q.chip = q.entries.length ∧ q.chip < 256 ∧ shared < sharedRecords then q.chip + 1 else q.chip }

theorem AlmState.queueFull_room {a : AlmState} {q : Queue} (hroom : q.entries.length + q.reserved < q.limit)
    (hall : a.entries < 16777216) : a.queueFull q = false := by
  have hown : ¬q.limit ≤ q.entries.length + q.reserved := Nat.not_le.mpr hroom
  have hsum : ¬16777216 ≤ a.entries := Nat.not_le.mpr hall
  simp [AlmState.queueFull, hown, hsum]

theorem Dev.putQueue_room {d : Dev} {id : Word} {q : Queue} (hq : d.alm.queue? id = some q) (hhost : q.hostev = false)
    (hfull : d.alm.queueFull q = false) (entry : List Byte) :
    d.putQueue id entry = d.onAlm (fun a => a.updQueue id (fun q => q.put entry d.time.tick a.shared)) := by
  unfold Dev.putQueue
  simp only [hq, hhost, hfull]
  rfl

/-- The only queue, with room for an entry. -/
structure AlmState.OnlyQueue (a : AlmState) (q : Queue) : Prop where
  queues : a.queues = [q]
  notHost : q.hostev = false
  room : q.entries.length + q.reserved < q.limit
  all : a.entries < 16777216

theorem Dev.putQueue_only {d : Dev} {q : Queue} (h : d.alm.OnlyQueue q) (entry : List Byte) :
    d.putQueue q.id entry = d.onAlm (fun a => { a with queues := [q.put entry d.time.tick a.shared] }) := by
  rw [Dev.putQueue_room (AlmState.queue?_only h.queues) h.notHost (AlmState.queueFull_room h.room h.all)]
  exact Dev.onAlm_updQueue_only h.queues (fun x => x.put entry d.time.tick d.alm.shared)

/-! ### Completed jobs -/

/-- Whether nothing of Almanac is CLOSING. -/
structure AlmState.Open (a : AlmState) : Prop where
  queues : ∀ q ∈ a.queues, q.closing = false
  procs : ∀ p ∈ a.procs, p.closing = false

theorem AlmState.Open.sweep {a : AlmState} (h : a.Open) : a.sweep = a := AlmState.sweep_open h.queues h.procs

/-- A job with its completion record (R239, Table 9.12). -/
def Job.completed (j : Job) (status : Word) (flags : Nat) (tick : BitVec 40) : Job :=
  { j with st := .complete, started := false, status := status, doneTick := tick.setWidth 32
           aflags := boolNat j.late + flags + 4 * boolNat j.redisp + 8 * boolNat j.gateTimeout }

/-- The last job's record leaves. -/
theorem Dev.freeJob_only {d : Dev} {j : Job} (hjobs : d.alm.jobs = [j]) (hopen : d.alm.Open) (hp : d.cfg.plans = []) :
    d.freeJob j.id = d.onAlm (fun a => { a with jobs := [] }) := by
  have hleft : d.alm.jobs.filter (fun x => x.id != j.id) = [] := by simp [hjobs]
  have hswept : ({ d.alm with jobs := [] } : AlmState).sweep = { d.alm with jobs := [] } := AlmState.sweep_open hopen.queues hopen.procs
  have hcfg : { d.cfg with plans := d.cfg.plans.map (fun p => { p with jobs := p.jobs.filter (· != j.id.toNat) }) } = d.cfg := by
    rw [hp, List.map_nil, ← hp]
  rw [Dev.freeJob, hleft, hswept, hcfg]
  rfl

/-- An engine that holds nothing starts nothing. -/
theorem Dev.startNext_empty {d : Dev} {pool u : Nat} (h : d.alm.heldBy pool u = []) : d.startNext pool u = d := by
  simp [Dev.startNext, h, nextForEngine]

/-- No head of the procession is complete: none is released (R240). -/
theorem Dev.releaseHeads_waits {d : Dev} {id : Word} {p : Procession} (n : Nat) (hp : d.alm.proc? id = some p)
    (h : ∀ j ∈ d.alm.jobs, j.proc = true → j.link = id → j.pseq = p.headSeq → j.st ≠ .complete) : Dev.releaseHeads n id d = d := by
  have hnone : d.alm.jobs.find? (fun j => j.proc && j.link == id && j.pseq == p.headSeq && j.st == .complete) = none := by
    simp only [List.find?_eq_none, Bool.and_eq_true, beq_iff_eq, not_and]
    exact fun j hj ⟨⟨hproc, hlink⟩, hseq⟩ => h j hj hproc hlink hseq
  cases n with
  | zero => rfl
  | succ n =>
    unfold Dev.releaseHeads
    simp only [hp, hnone]

/-- The records with a job complete in its place. -/
def AlmState.keepComplete (a : AlmState) (j : Job) (status : Word) (flags : Nat) (tick : BitVec 40) : AlmState :=
  a.updJob j.id (fun _ => j.completed status flags tick)

theorem Dev.finishJob_eq (d : Dev) (j : Job) (status : Word) (flags : Nat) : d.finishJob j status flags
    = if j.skipped then d.freeJob j.id
      else if j.proc then Dev.releaseHeads ((d.alm.keepComplete j status flags d.time.tick).jobs.length + 1) j.link
        (d.onAlm (fun a => a.keepComplete j status flags d.time.tick))
      else (d.putQueue j.link (j.completed status flags d.time.tick).record).freeJob j.id := rfl

/-- Outside a procession a completed job's record goes to its queue and the job leaves (R240). -/
theorem Dev.finishJob_released {d : Dev} {j : Job} {q : Queue} (hjobs : d.alm.jobs = [j]) (hskip : j.skipped = false)
    (hproc : j.proc = false) (hq : d.alm.OnlyQueue q) (hid : q.id = j.link) (hopen : d.alm.Open) (hp : d.cfg.plans = [])
    (status : Word) (flags : Nat) : d.finishJob j status flags = d.onAlm (fun a =>
      { a with jobs := [], queues := [q.put (j.completed status flags d.time.tick).record d.time.tick a.shared] }) := by
  have hplain : ¬(j.proc = true) := by simp [hproc]
  rw [Dev.finishJob_eq, if_neg (by simp [hskip]), if_neg hplain, ← hid, Dev.putQueue_only hq]
  refine Dev.freeJob_only hjobs ⟨fun x hx => ?_, hopen.procs⟩ hp
  rw [List.mem_singleton.mp hx]
  exact hopen.queues q (by simp [hq.queues])

/-- In a procession a completed job that is not its head is held (R240). -/
theorem Dev.finishJob_held {d : Dev} {j : Job} {p : Procession} (hjobs : d.alm.jobs = [j]) (hskip : j.skipped = false)
    (hproc : j.proc = true) (hp : d.alm.proc? j.link = some p) (hseq : j.pseq ≠ p.headSeq) (status : Word) (flags : Nat) :
    d.finishJob j status flags = d.onAlm (fun a => { a with jobs := [j.completed status flags d.time.tick] }) := by
  have hkept : d.onAlm (fun a => a.keepComplete j status flags d.time.tick)
      = d.onAlm (fun a => { a with jobs := [j.completed status flags d.time.tick] }) :=
    Dev.onAlm_updJob_only hjobs _
  rw [Dev.finishJob_eq, if_neg (by simp [hskip]), if_pos hproc, hkept]
  refine Dev.releaseHeads_waits _ hp (fun x hx _ _ hhead => ?_)
  rw [List.mem_singleton.mp hx] at hhead
  exact absurd hhead hseq

/-- A class C job without deferred requests that its engine has run and reported: only its end is left (R239). -/
theorem Dev.completeJob_classC {d : Dev} {j : Job} (hjobs : d.alm.jobs = [j]) (hst : j.st = .dispatched) (hcls : j.cls = 2)
    (hdef : j.deferred = []) (hpool : j.pool ≠ 1) (hopen : d.alm.Open) (status : Word) :
    d.completeJob j.pool j.runat j.id status = (d.finishJob j status 0).startNext j.pool j.runat := by
  have hplain : ({ j with deferred := [] } : Job) = j := by rw [← hdef]
  have hsame : d.onAlm (fun a => a.updJob j.id (fun x => { x with deferred := [] })) = d := by
    rw [Dev.onAlm_updJob_only hjobs, hplain, ← hjobs]
    rfl
  have hsweep : d.onAlm AlmState.sweep = d := congrArg (fun a => { d with alm := a }) hopen.sweep
  have hmeasure : d.measure j = (d, j) := by simp [Dev.measure, hcls]
  have hheld : ¬(j.st ≠ .dispatched ∨ j.pool ≠ j.pool ∨ j.runat ≠ j.runat) := by simp [hst]
  unfold Dev.completeJob
  rw [AlmState.job?_only hjobs]
  dsimp only
  rw [if_neg hheld, hdef, List.foldl_nil, hsame, hplain, hmeasure]
  dsimp only
  rw [hsweep, if_neg hpool]

end Sys2Proof.Machine
end

section
/-! SUPPORT. JOB_COMPLETION and STUCK_HEAD_SKIP where Almanac holds one job (09_almanac_scheduler.md, R231, R239 to R242, R247). -/

namespace Sys2Proof.Machine
open Sys2Proof

/-! ### Completions that units report -/

theorem exec_jobCompletion (s : State) (pool u : Nat) : exec (.jobCompletion pool u) s = execJobCompletion pool u s := rfl

/-- A job that an accelerator has run, without deferred requests, and the one completion that is reported (R239). -/
structure Dev.Reported (d : Dev) (j : Job) (r : Report) : Prop where
  jobs : d.alm.jobs = [j]
  st : j.st = .dispatched
  classC : j.cls = 2
  skipped : j.skipped = false
  deferred : j.deferred = []
  low : 5 ≤ j.pool
  reports : d.alm.reports = [r]
  pool : r.pool = j.pool
  slot : r.slot = j.runat
  job : r.job = j.id

/-- The device once its one report has been taken. -/
def Dev.reportTaken (d : Dev) : Dev := d.onAlm (fun a => { a with reports := [] })

/-- JOB_COMPLETION ends the job that is reported, after which its engine holds no job (R239). -/
theorem jobCompletion_reported {s : State} {j : Job} {r : Report} (hl : s.dev.launched = true) (h : s.dev.Reported j r)
    (hopen : s.dev.alm.Open) {d : Dev} (hd : s.dev.reportTaken.finishJob j r.status 0 = d) (hidle : d.alm.heldBy j.pool j.runat = [])
    (hp : d.cfg.plans = []) : exec (.jobCompletion j.pool j.runat) s = .next { s with dev := d } := by
  have hlow := h.low
  have hpool : j.pool ≠ 1 := by omega
  have hfound : s.dev.alm.reports.find? (fun x => x.pool == j.pool && x.slot == j.runat) = some r := by
    simp [h.reports, h.pool, h.slot]
  have htaken : s.dev.onAlm (fun a => { a with reports := a.reports.erase r }) = s.dev.reportTaken := by
    simp [Dev.onAlm, Dev.reportTaken, h.reports]
  have hcomplete : s.dev.reportTaken.completeJob j.pool j.runat r.job r.status = d := by
    rw [h.job, Dev.completeJob_classC (d := s.dev.reportTaken) h.jobs h.st h.classC h.deferred hpool ⟨hopen.queues, hopen.procs⟩, hd,
      Dev.startNext_empty hidle]
  rw [exec_jobCompletion, execJobCompletion]
  refine State.onAlmanac_next hl ?_ hp
  rw [if_neg hpool, hfound, ← hcomplete]
  dsimp only
  rw [htaken]

/-- The 16 bytes of Table 9.12, of a job that ran to its end. -/
theorem Job.record_completed (j : Job) (status : Word) (tick : BitVec 40) : (j.completed status 0 tick).record
    = bytesOf 4 j.id.toNat ++ bytesOf 4 status.toNat
      ++ bytesOf 1 ((if j.late then 1 else 0) + (if j.redisp then 4 else 0) + (if j.gateTimeout then 8 else 0)) ++ bytesOf 1 j.cls
      ++ bytesOf 2 j.cell ++ bytesOf 4 (tick.setWidth 32).toNat := by
  simp only [Job.record, Job.completed, boolNat, mul_ite, mul_one, mul_zero, add_zero]

theorem jobCompletion_released {s : State} {j : Job} {r : Report} {q : Queue} (hl : s.dev.launched = true) (hp : s.dev.cfg.plans = [])
    (h : s.dev.Reported j r) (hprocs : s.dev.alm.procs = []) (hproc : j.proc = false) (hq : s.dev.alm.OnlyQueue q)
    (hclosing : q.closing = false) (hid : q.id = j.link) :
    ∃ t, exec (.jobCompletion j.pool j.runat) s = .next t ∧ t.dev.alm.jobs = [] ∧ t.dev.alm.reports = []
      ∧ t.dev.alm.queues = [q.put (j.completed r.status 0 s.dev.time.tick).record s.dev.time.tick s.dev.alm.shared] := by
  have hopen : s.dev.alm.Open := ⟨by simp [hq.queues, hclosing], by simp [hprocs]⟩
  exact ⟨_, jobCompletion_reported hl h hopen
    (Dev.finishJob_released (d := s.dev.reportTaken) h.jobs h.skipped hproc ⟨hq.queues, hq.notHost, hq.room, hq.all⟩ hid
      ⟨hopen.queues, hopen.procs⟩ hp _ _) rfl hp, rfl, rfl, rfl⟩

theorem jobCompletion_held {s : State} {j : Job} {r : Report} {p : Procession} (hl : s.dev.launched = true) (hp : s.dev.cfg.plans = [])
    (h : s.dev.Reported j r) (hopen : s.dev.alm.Open) (hproc : j.proc = true) (hlink : s.dev.alm.proc? j.link = some p)
    (hseq : j.pseq ≠ p.headSeq) : ∃ t, exec (.jobCompletion j.pool j.runat) s = .next t
      ∧ t.dev.alm = { s.dev.alm with jobs := [j.completed r.status 0 s.dev.time.tick], reports := [] } :=
  ⟨_, jobCompletion_reported hl h hopen (Dev.finishJob_held (d := s.dev.reportTaken) h.jobs h.skipped hproc hlink hseq _ _) rfl hp, rfl⟩

/-- A report of DONE for a job that is not known is discarded (R247, F3). -/
theorem jobCompletion_unknown {s : State} {u : Fin 128} {id status : Word} {rest : List (Word × Word)} (hl : s.dev.launched = true)
    (hp : s.dev.cfg.plans = []) (hdone : s.dev.cores[u].doneOut = (id, status) :: rest) (hjob : s.dev.alm.job? id = none) :
    exec (.jobCompletion 1 u.val) s = .next { s with dev := { s.dev with
      cores := s.dev.cores.set u { s.dev.cores[u] with doneOut := rest }, alm := { s.dev.alm with discarded := s.dev.alm.discarded + 1 } } } := by
  rw [exec_jobCompletion, execJobCompletion]
  refine State.onAlmanac_next hl ?_ hp
  rw [if_pos rfl, Dev.core_val, hdone]
  dsimp only
  rw [Dev.completeJob, Dev.updCore_alm, hjob, Dev.updCore_val]
  rfl

/-! ### Stuck heads -/

theorem exec_stuckHeadSkip (s : State) (id : Word) : exec (.stuckHeadSkip id) s = execStuckHeadSkip id s := rfl

/-- What a skip leaves of a procession's record (R242); `now` is the second of air time. -/
def Procession.headSkipped (p : Procession) (tick : BitVec 40) (now : Nat) : Procession :=
  { p with headSeq := p.headSeq + 1, headSince := tick, used := tick, skips := if p.skips = 0xFFFFFFFF then p.skips else p.skips + 1
           lastEvent := some now }

/-- A job as the record of its skip shows it: SKIP, and no STATUS (R242). -/
def Job.skippedAs (j : Job) (tick : BitVec 40) : Job :=
  { j with status := 0, doneTick := tick.setWidth 32, aflags := 2 + 4 * boolNat j.redisp + 8 * boolNat j.gateTimeout }

theorem Job.record_skippedAs (j : Job) (tick : BitVec 40) : (j.skippedAs tick).record
    = bytesOf 4 j.id.toNat ++ bytesOf 4 0 ++ bytesOf 1 (2 + (if j.redisp then 4 else 0) + (if j.gateTimeout then 8 else 0))
      ++ bytesOf 1 j.cls ++ bytesOf 2 j.cell ++ bytesOf 4 (tick.setWidth 32).toNat := by
  have hstatus : (0 : Word).toNat = 0 := rfl
  simp only [Job.record, Job.skippedAs, boolNat, mul_ite, mul_one, mul_zero, hstatus]

/-- The one job is the head of the one procession, not yet dispatched, and the next PSEQ follows its own (R242). -/
structure AlmState.HeadWaits (a : AlmState) (p : Procession) (j : Job) : Prop where
  jobs : a.jobs = [j]
  procs : a.procs = [p]
  opened : p.closing = false
  deliveries : a.deliveries = []
  proc : j.proc = true
  link : p.id = j.link
  head : j.pseq = p.headSeq
  next : p.nextSeq = p.headSeq + 1
  deferred : j.deferred = []
  waits : j.st = .waiting ∨ j.st = .ready

theorem Dev.dropDeferred_none {d : Dev} {j : Job} (hjobs : d.alm.jobs = [j]) (hdef : j.deferred = []) (hopen : d.alm.Open) :
    d.dropDeferred j.id = d := by
  have hplain : ({ j with deferred := [] } : Job) = j := by rw [← hdef]
  have hsame : (d.alm.updJob j.id (fun x => { x with deferred := [] })).sweep = d.alm := by
    rw [AlmState.updJob_only hjobs, hplain, ← hjobs]
    exact hopen.sweep
  unfold Dev.dropDeferred
  rw [AlmState.job?_only hjobs]
  dsimp only
  rw [hdef]
  exact congrArg (fun a => { d with alm := a }) hsame

/-- The record of a skipped head goes to the queue of its procession, which moves on (R242); the head itself has gone before. -/
def Dev.passHead (d : Dev) (p : Procession) (j : Job) : Dev :=
  (((d.putQueue p.relq (j.skippedAs d.time.tick).record).onAlm (fun a => { a with skippedIds := j.id :: a.skippedIds })).updCell j.cell
    (fun c => { c with skips := c.skips + 1 })).onAlm
      (fun a => a.updProc p.id (fun p => p.headSkipped d.time.tick (d.time.air / secondTc)))

/-- A skip is told of once in a second of air time (R242). -/
def Dev.tellSkip (d : Dev) (p : Procession) (j : Job) (now : Nat) : Dev :=
  if p.lastEvent == some now then d else d.healthEvent { hkind := 0x0043, cell := j.cell, addr := p.id.toNat }

theorem Dev.tellSkip_told (d : Dev) (p : Procession) (j : Job) (now : Nat) : d.Told (d.tellSkip p j now) := by
  unfold Dev.tellSkip
  split
  · exact ⟨_, _, _, _, _, rfl⟩
  · exact d.healthEvent_told _

/-- The skip of a head that is not yet dispatched, up to the release of those behind it. -/
theorem Dev.skipHead_eq {d : Dev} {p : Procession} {j : Job} (h : d.alm.HeadWaits p j) (hopen : d.alm.Open) (hp : d.cfg.plans = []) :
    d.skipHead p.id = Dev.releaseHeads
      ((((d.onAlm (fun a => { a with jobs := [] })).passHead p j).tellSkip p j (d.time.air / secondTc)).alm.jobs.length + 1) p.id
      (((d.onAlm (fun a => { a with jobs := [] })).passHead p j).tellSkip p j (d.time.air / secondTc)) := by
  have hst : (j.st != .pending) = true := by rcases h.waits with hw | hr <;> simp [*]
  have hnot : ¬(j.st = .dispatched ∧ (j.started = true ∨ j.paused = true)) := by rcases h.waits with hw | hr <;> simp [*]
  have hfound : d.alm.jobs.find? (fun x => x.proc && x.link == p.id && x.pseq == p.headSeq && x.st != .pending) = some j := by
    simp [h.jobs, h.proc, h.link, h.head, hst]
  have hdeliveries : d.alm.deliveries.find? (fun x => x.job == j.id) = none := by simp [h.deliveries]
  unfold Dev.skipHead
  rw [AlmState.proc?_only h.procs]
  dsimp only
  rw [hfound]
  dsimp only
  rw [hdeliveries]
  dsimp only
  rw [if_neg hnot, Dev.dropDeferred_none h.jobs h.deferred hopen, Dev.freeJob_only h.jobs hopen hp]
  rfl

/-- The records of Almanac once a waiting head has been skipped. -/
def AlmState.headSkipped (a : AlmState) (p : Procession) (j : Job) (q : Queue) (tick : BitVec 40) (now : Nat) : AlmState :=
  { a with jobs := []
           queues := [q.put (j.skippedAs tick).record tick ({ a with jobs := [] } : AlmState).shared]
           skippedIds := j.id :: a.skippedIds
           procs := [p.headSkipped tick now] }

theorem Dev.passHead_only {d : Dev} {p : Procession} {q : Queue} (hprocs : d.alm.procs = [p]) (hq : d.alm.OnlyQueue q)
    (hid : q.id = p.relq) (j : Job) : (d.passHead p j).cfg.plans = d.cfg.plans ∧ (d.passHead p j).alm = { d.alm with
      queues := [q.put (j.skippedAs d.time.tick).record d.time.tick d.alm.shared]
      skippedIds := j.id :: d.alm.skippedIds
      procs := [p.headSkipped d.time.tick (d.time.air / secondTc)] } := by
  unfold Dev.passHead
  rw [← hid, Dev.putQueue_only hq]
  exact ⟨rfl, AlmState.updProc_only (a := { d.alm with
    queues := [q.put (j.skippedAs d.time.tick).record d.time.tick d.alm.shared], skippedIds := j.id :: d.alm.skippedIds }) hprocs _⟩

theorem Dev.skipHead_waiting {d : Dev} {p : Procession} {j : Job} {q : Queue} (h : d.alm.HeadWaits p j) (hq : d.alm.OnlyQueue q)
    (hclosing : q.closing = false) (hid : q.id = p.relq) (hp : d.cfg.plans = []) : (d.skipHead p.id).cfg.plans = []
      ∧ (d.skipHead p.id).alm = d.alm.headSkipped p j q d.time.tick (d.time.air / secondTc) := by
  have hopen : d.alm.Open := ⟨by simp [hq.queues, hclosing], by simp [h.procs, h.opened]⟩
  let d1 := (d.onAlm (fun a => { a with jobs := [] })).passHead p j
  obtain ⟨hcfg, halm⟩ := Dev.passHead_only (d := d.onAlm (fun a => { a with jobs := [] })) h.procs
    ⟨hq.queues, hq.notHost, hq.room, hq.all⟩ hid j
  have hplans : d1.cfg.plans = [] := hcfg.trans hp
  have htold : d1.Told (d1.tellSkip p j (d.time.air / secondTc)) := d1.tellSkip_told p j _
  rw [Dev.skipHead_eq h hopen hp]
  generalize d1.tellSkip p j (d.time.air / secondTc) = d2 at htold ⊢
  have halm2 : d2.alm = d.alm.headSkipped p j q d.time.tick (d.time.air / secondTc) := htold.alm.trans halm
  have hproc : d2.alm.proc? p.id = some (p.headSkipped d.time.tick (d.time.air / secondTc)) := by
    rw [halm2]
    exact AlmState.proc?_only (p := p.headSkipped d.time.tick (d.time.air / secondTc)) rfl
  rw [Dev.releaseHeads_waits _ hproc (by simp [halm2, AlmState.headSkipped])]
  exact ⟨htold.cfg ▸ hplans, halm2⟩

theorem stuckHeadSkip_due {s : State} {p : Procession} {j : Job} {q : Queue} (hl : s.dev.launched = true) (hp : s.dev.cfg.plans = [])
    (h : s.dev.alm.HeadWaits p j) (hq : s.dev.alm.OnlyQueue q) (hclosing : q.closing = false) (hid : q.id = p.relq) (hto : p.stuckTo ≠ 0)
    (hdue : p.stuckTo.toNat ≤ (s.dev.time.tick - p.headSince).toNat) : ∃ t, exec (.stuckHeadSkip p.id) s = .next t
      ∧ t.dev.alm = s.dev.alm.headSkipped p j q s.dev.time.tick (s.dev.time.air / secondTc) := by
  obtain ⟨hplans, halm⟩ := Dev.skipHead_waiting h hq hclosing hid hp
  have hnext : p.headSeq ≠ p.nextSeq := by
    rw [h.next]
    bv_omega
  refine ⟨{ s with dev := s.dev.skipHead p.id }, ?_, halm⟩
  rw [exec_stuckHeadSkip, execStuckHeadSkip]
  refine State.onAlmanac_next hl ?_ hplans
  rw [AlmState.proc?_only h.procs]
  exact if_pos ⟨hto, hnext, hdue⟩

theorem stuckHeadSkip_early {s : State} {p : Procession} (hl : s.dev.launched = true) (hp : s.dev.cfg.plans = [])
    (hprocs : s.dev.alm.procs = [p]) (h : p.stuckTo = 0 ∨ (s.dev.time.tick - p.headSince).toNat < p.stuckTo.toNat) :
    exec (.stuckHeadSkip p.id) s = .next s := by
  have hnot : ¬(p.stuckTo ≠ 0 ∧ p.headSeq ≠ p.nextSeq ∧ p.stuckTo.toNat ≤ (s.dev.time.tick - p.headSince).toNat) :=
    fun ⟨hto, _, hdue⟩ => h.elim hto (Nat.not_lt.mpr hdue)
  rw [exec_stuckHeadSkip, execStuckHeadSkip]
  refine State.onAlmanac_same hl hp ?_
  rw [AlmState.proc?_only hprocs]
  exact if_neg hnot

/-- Settles O28: a completion behind the head is held, a head that waits too long is skipped, and before that nothing is. -/
theorem processionsReleaseInOrder : Obligations.ProcessionsReleaseInOrder := by
  unfold Obligations.ProcessionsReleaseInOrder
  refine ⟨?_, ?_, fun s p hl hp hprocs => stuckHeadSkip_early hl hp hprocs⟩
  · rintro s j p u r hl hp hjobs hprocs hclosing hid hseq hqueues hst hcls hproc hskip hdef rfl hlow _ hreports hrpool hrslot hrjob
    have hopen : s.dev.alm.Open := ⟨hqueues, by simp [hprocs, hclosing]⟩
    obtain ⟨t, ht, halm⟩ := jobCompletion_held hl hp ⟨hjobs, hst, hcls, hskip, hdef, hlow, hreports, hrpool, hrslot, hrjob⟩ hopen hproc
      (hid ▸ AlmState.proc?_only hprocs) hseq
    exact ⟨t, _, ht, congrArg AlmState.jobs halm, rfl, rfl, rfl, rfl, (congrArg AlmState.procs halm).trans hprocs,
      by rw [halm]⟩
  · rintro s j p q hl hp hjobs hdel hprocs hclosing hid hproc hseq hnext hdef hst hqueues hqid hqopen hhost hroom hall hto hdue
    obtain ⟨t, ht, halm⟩ := stuckHeadSkip_due hl hp ⟨hjobs, hprocs, hclosing, hdel, hproc, hid, hseq, hnext, hdef, hst⟩
      ⟨hqueues, hhost, hroom, hall⟩ hqopen hqid hto hdue
    refine ⟨t, _, p.headSkipped s.dev.time.tick (s.dev.time.air / secondTc), ht, congrArg AlmState.jobs halm, congrArg AlmState.procs halm,
      rfl, rfl, rfl, fun htop => if_neg htop, congrArg AlmState.queues halm, ?_⟩
    rw [← Job.record_skippedAs, Queue.put, padTo_of_length (Job.length_record _)]

end Sys2Proof.Machine
end

section
/-! SUPPORT. Dispatch of the only job, to an engine and to a signal core (09_almanac_scheduler.md, R230 to R236, Tables 9.10 and 9.11). -/

namespace Sys2Proof.Machine
open Sys2Proof

theorem exec_dispatch (s : State) (pool cluster : Nat) : exec (.dispatch pool cluster) s = execDispatch pool cluster s := rfl

/-- The one job of Almanac, READY, of class C, on chip, outside a procession. -/
structure AlmState.OnlyReady (a : AlmState) (j : Job) : Prop where
  jobs : a.jobs = [j]
  st : j.st = .ready
  classC : j.cls = 2
  chip : j.chip = true
  proc : j.proc = false

/-- No unit holds a job that is READY. -/
theorem AlmState.OnlyReady.heldBy {a : AlmState} {j : Job} (h : a.OnlyReady j) (pool u : Nat) : a.heldBy pool u = [] := by
  simp [AlmState.heldBy, h.jobs, h.st]

theorem AlmState.OnlyReady.passable {a : AlmState} {j : Job} (h : a.OnlyReady j) : a.passable j = true := by
  simp [AlmState.passable, h.proc]

theorem Dev.readyLists_only {d : Dev} {j : Job} (h : d.alm.OnlyReady j) :
    d.readyList j.pool 0 ++ d.readyList j.pool 1 ++ d.readyList j.pool 2 = [j] := by
  simp [Dev.readyList, h.jobs, h.st, h.classC, insertReady]

/-- The job goes to the unit that its place gives (R233). -/
theorem dispatch_only {s : State} {j : Job} {u cluster : Nat} (hl : s.dev.launched = true) (h : s.dev.alm.OnlyReady j)
    (hplace : s.dev.placeFor j (if j.pool = 1 then some cluster else none) = some u) {d : Dev} (hd : s.dev.dispatchTo j u = d)
    (hp : d.cfg.plans = []) : exec (.dispatch j.pool cluster) s = .next { s with dev := d } := by
  have hnext : s.dev.nextDispatch j.pool (if j.pool = 1 then some cluster else none) = some (j, u) := by
    simp only [Dev.nextDispatch, Dev.readyLists_only h, List.findSome?_cons, h.passable, h.chip, hplace]
    rfl
  rw [exec_dispatch, execDispatch]
  refine State.onAlmanac_next hl ?_ hp
  rw [hnext]
  exact hd

/-! ### To an engine -/

/-- An engine of an accelerator's pool without a job is the place of a job that names it (R230, R232, R233). -/
theorem Dev.placeFor_engine {d : Dev} {j : Job} (h : d.alm.OnlyReady j) (hlow : 5 ≤ j.pool) (hhigh : j.pool ≤ 9) (hu : j.unit < 16)
    (hin : d.inPool j.pool j.unit = true) (hrun : d.unitRun j.pool j.unit = true) : d.placeFor j none = some j.unit := by
  have hcore : ¬j.pool = 1 := by omega
  have heq : ¬j.pool = 4 := by omega
  have hany : ¬j.unit = 0xFF := by omega
  have hmatch : d.matching j none = [j.unit] := by simp [Dev.matching, hcore, heq, hany]
  have heligible : d.eligible j j.unit = true := by simp [Dev.eligible, hin, hrun, Dev.coreTakes, hcore]
  have hroom : engineRoom (d.alm.heldBy j.pool j.unit) j.cls = true := by simp [h.heldBy, engineRoom]
  simp [Dev.placeFor, hmatch, heligible, hcore, hroom, Dev.pickUnit]

/-- A job as its engine starts it (R233). -/
def Job.dispatched (j : Job) (u : Nat) (tick : BitVec 40) : Job :=
  { j with st := .dispatched, runat := u, dtick := tick, started := false, aslot := false }

/-- An engine without a job starts the job at once, outside the equaliser pool. -/
theorem Dev.dispatchTo_engine {d : Dev} {j : Job} (h : d.alm.OnlyReady j) (hcore : j.pool ≠ 1) (heq : j.pool ≠ 4) (u : Nat) :
    d.dispatchTo j u = d.onAlm (fun a => { a with jobs := [d.begun (j.dispatched u d.time.tick)] }) := by
  have hmay : d.mayStart j.pool u j = true := by simp [Dev.mayStart, Dev.estWaits, Dev.applyWaits, heq]
  have hidle : (!((d.alm.heldBy j.pool u).any (fun h => h.started)) && d.mayStart j.pool u j) = true := by simp [h.heldBy, hmay]
  unfold Dev.dispatchTo
  dsimp only
  rw [if_neg hcore, hidle, Dev.onAlm_updJob_only h.jobs]
  rfl

/-! ### To a signal core -/

/-- A core that takes class C, holds no job and has no delivery is the place of a job that names it (R230, R233, R235). -/
theorem Dev.placeFor_core {d : Dev} {j : Job} {u : Fin 128} (h : d.alm.OnlyReady j) (hpool : j.pool = 1) (hu : j.unit = u.val)
    (hexcluded : j.excluded = []) (hdeliveries : d.alm.deliveries = []) (hin : d.inPool 1 u.val = true)
    (hrun : d.domRun (0x100 + u.val) = true) (htakes : d.alm.unitCfg[u].getLsbD 2 = true) :
    d.placeFor j (some (u.val / 16)) = some u.val := by
  have hmatch : d.matching j (some (u.val / 16)) = [u.val] := by simp [Dev.matching, hpool, hu]
  have hmask : d.coreTakes j u.val = true := by
    have hget : d.alm.unitCfg.toList.getD u.val 0 = d.alm.unitCfg[u] := by simp
    rw [Dev.coreTakes, hget, h.classC, htakes, hexcluded]
    simp
  have heligible : d.eligible j u.val = true := by
    have hunit : d.unitRun 1 u.val = true := by simpa [Dev.unitRun, unitDomain] using hrun
    simp only [Dev.eligible, hpool, hin, hunit, hmask, Bool.and_true]
  have hroom : d.coreRoom j u.val = true := by simp [Dev.coreRoom, hdeliveries, h.heldBy]
  simp [Dev.placeFor, hmatch, heligible, hpool, Dev.pickCore, hroom, h.heldBy]

/-- A core without a job gets the job slot of class C, MSG and a delivery (R235, R236, Table 9.11). -/
theorem Dev.dispatchTo_core {d : Dev} {j : Job} {u : Fin 128} (h : d.alm.OnlyReady j) (hpool : j.pool = 1) : d.dispatchTo j u.val
    = { d with
        alm := { d.alm with jobs := [{ j with st := .dispatched, runat := u.val, dtick := d.time.tick, started := false }]
                            deliveries := d.alm.deliveries ++ [⟨u.val, j.id, false, d.time.tick⟩] }
        mem := d.mem.ifWrite (u.val * 0x80000 + 0x5B080) (d.jobSlot j d.time.tick)
        cores := d.cores.set u { d.cores[u] with ipend := d.cores[u].ipend ||| 2 } } := by
  unfold Dev.dispatchTo
  simp only [hpool, if_true, h.heldBy, h.classC, Dev.updCore_val, Dev.onAlm, AlmState.updJob_only h.jobs]
  rfl

/-- Settles O27: a job goes to an engine or to a core, its completion releases it, and a report of no job is discarded. -/
theorem dispatchAndCompletion : Obligations.DispatchAndCompletion := by
  unfold Obligations.DispatchAndCompletion
  refine ⟨?_, ?_, ?_, fun s u id status rest hl hp hdone hjob => jobCompletion_unknown hl hp hdone hjob⟩
  · rintro s j c u hl hp hjobs hst hcls hchip hproc rfl rfl hlow hhigh hu hin hrun
    have h : s.dev.alm.OnlyReady j := ⟨hjobs, hst, hcls, hchip, hproc⟩
    have hcore : j.pool ≠ 1 := by omega
    have hplace := Dev.placeFor_engine h hlow hhigh hu hin hrun
    have hexec := dispatch_only (s := s) (cluster := 0) hl h (by rwa [if_neg hcore]) (Dev.dispatchTo_engine h hcore (by omega) _) hp
    exact ⟨_, _, hexec, rfl, rfl, rfl, rfl, rfl, rfl, rfl, rfl, rfl⟩
  · intro s j u hl hp hjobs hst hcls hchip hproc hpool hu hexcluded hdel hin hrun htakes
    have h : s.dev.alm.OnlyReady j := ⟨hjobs, hst, hcls, hchip, hproc⟩
    have hplace := Dev.placeFor_core h hpool hu hexcluded hdel hin hrun htakes
    have hexec := dispatch_only (s := s) (cluster := u.val / 16) hl h (by rwa [if_pos hpool]) (Dev.dispatchTo_core h hpool) hp
    rw [hpool] at hexec
    exact ⟨_, _, hexec, rfl, rfl, rfl, rfl, by simp [hdel], by simp, by dsimp only,
      fun v hv => Vector.getElem_set_ne u.isLt v.isLt fun huv => hv (Fin.ext huv).symm⟩
  · rintro s j q u r hl hp hjobs hqueues hid hclosing hhost hroom hall hprocs hst hcls hproc hskip hdef rfl hlow _ hreports hrpool hrslot hrjob
    obtain ⟨t, ht, hjobs', hreports', hqueues'⟩ := jobCompletion_released hl hp
      ⟨hjobs, hst, hcls, hskip, hdef, hlow, hreports, hrpool, hrslot, hrjob⟩ hprocs hproc ⟨hqueues, hhost, hroom, hall⟩ hclosing hid
    refine ⟨t, _, ht, hjobs', hreports', hqueues', ?_⟩
    rw [Queue.put, padTo_of_length (Job.length_record _), Job.record_completed, hcls]

end Sys2Proof.Machine
end

section
/-! SUPPORT. Requests at a control core's port, and where the records stand (09_almanac_scheduler.md, R219 to R225, R244, Tables 9.7
to 9.9). -/

namespace Sys2Proof.Machine
open Sys2Proof

/-! ### The bytes of a request -/

theorem natOf_bytesOf_of_lt {n x : Nat} (h : x < 256 ^ n) : natOf (bytesOf n x) = x := by
  rw [natOf_bytesOf, Nat.mod_eq_of_lt h]

/-- The 32 bytes of a request without flags (Table 9.7). -/
def almRequest (op : Byte) (tag : BitVec 16) (obj : Word) (rest : List Byte) : List Byte :=
  padTo 32 ([op, 0] ++ bytesOf 2 tag.toNat ++ bytesOf 4 obj.toNat ++ rest)

@[simp] theorem rf_almRequest_op (op : Byte) (tag : BitVec 16) (obj : Word) (rest : List Byte) :
    rf (almRequest op tag obj rest) 0 1 = op.toNat := rfl

@[simp] theorem rf_almRequest_tag (op : Byte) (tag : BitVec 16) (obj : Word) (rest : List Byte) :
    rf (almRequest op tag obj rest) 2 2 = tag.toNat :=
  natOf_bytesOf_of_lt (n := 2) (x := tag.toNat) tag.isLt

@[simp] theorem rf_almRequest_obj (op : Byte) (tag : BitVec 16) (obj : Word) (rest : List Byte) :
    rf (almRequest op tag obj rest) 4 4 = obj.toNat :=
  natOf_bytesOf_of_lt (n := 4) (x := obj.toNat) obj.isLt

/-- The reply to a request that is not deferred (R224). -/
theorem almReply_almRequest (op : Byte) (tag : BitVec 16) (obj id : Word) (rest data : List Byte) (st : Nat) :
    almReply (almRequest op tag obj rest) st false id data
      = bytesOf 2 tag.toNat ++ bytesOf 1 st ++ [0] ++ bytesOf 4 id.toNat ++ padTo 24 data := by
  rw [almReply, rf_almRequest_tag]
  rfl

/-- A request that names an object alone has no reserved byte set (R222). -/
theorem reservedSet_object (op : Byte) (tag : BitVec 16) (obj : Word) (h : op ∈ [2, 3, 5, 7, 9, 10]) :
    reservedSet (almRequest op tag obj []) = false := by
  simp only [List.mem_cons, List.not_mem_nil, or_false] at h
  rcases h with rfl | rfl | rfl | rfl | rfl | rfl <;> rfl

/-! ### A request is handled -/

/-- The reply is what the port holds (R222). -/
def Dev.replied (d : Dev) (k : Fin 8) (reply : List Byte) : Dev :=
  d.onAlm (fun a => { a with replies := (.control k, reply) :: a.replies.filter (fun p => p.1 != .control k) })

/-- The data of a reply: the head that Q_GET takes, the record that QUERY reads (Table 9.7). -/
def Dev.replyData (d : Dev) (r : List Byte) : List Byte :=
  if rf r 0 1 = 7 then (match d.alm.queue? (BitVec.ofNat 32 (rf r 4 4)) with | some q => q.entries.headD [] | none => [])
  else if rf r 0 1 = 10 then d.alm.recordBytes (BitVec.ofNat 32 (rf r 4 4)) else []

theorem Dev.request_accepted {d : Dev} {k : Fin 8} {r : List Byte} (h : d.checkReq (.control k) r = 0) :
    d.request (.control k) r none = (almReply r 0 false (d.allocate r none).1 (d.replyData r),
      (d.allocate r none).2.2.takeEffect r (d.allocate r none).1 (d.allocate r none).2.1) := by
  simp [Dev.request, h, Dev.issuer, Dev.replyData] <;> rfl

theorem Dev.request_refused {d : Dev} {k : Fin 8} {r : List Byte} {st : Nat} (h : d.checkReq (.control k) r = st) (hst : st ≠ 0) :
    d.request (.control k) r none = (almReply r st false (BitVec.ofNat 32 (rf r 4 4)) [],
      if rf r 0 1 = 6 ∧ st = almFull then d.onAlm (fun a => a.updQueue (BitVec.ofNat 32 (rf r 4 4)) Queue.refuse) else d) := by
  simp [Dev.request, h, hst]

/-- A row at a control core's port with the OP of the row (R221). -/
theorem Dev.almRow_control {d : Dev} {op : Nat} {k : Fin 8} {bytes : List Byte} (hop : rf (padTo 32 bytes) 0 1 = op) :
    d.almRow op (.control k) bytes none = (d.request (.control k) (padTo 32 bytes) none).2.replied k
      (d.request (.control k) (padTo 32 bytes) none).1 := by
  simp [Dev.almRow, hop, Dev.replied]

theorem Dev.replyData_none {d : Dev} {r : List Byte} (hget : rf r 0 1 ≠ 7) (hquery : rf r 0 1 ≠ 10) : d.replyData r = [] := by
  rw [Dev.replyData, if_neg hget, if_neg hquery]

/-- An accepted request, with what was allocated for it and what its effect is. -/
theorem onAlmanac_accepted {s : State} {op : Nat} {k : Fin 8} {bytes r : List Byte} {obj tm : Word} {d d' : Dev} (hl : s.dev.launched = true)
    (hr : padTo 32 bytes = r) (hop : rf r 0 1 = op) (hcheck : s.dev.checkReq (.control k) r = 0)
    (halloc : s.dev.allocate r none = (obj, tm, d)) (heffect : d.takeEffect r obj tm = d') (hp : d'.cfg.plans = []) :
    s.onAlmanac (fun d => d.almRow op (.control k) bytes none)
      = .next { s with dev := d'.replied k (almReply r 0 false obj (s.dev.replyData r)) } := by
  subst hr
  refine State.onAlmanac_next hl ?_ hp
  rw [Dev.almRow_control hop, Dev.request_accepted hcheck, halloc]
  dsimp only
  rw [heffect]

theorem onAlmanac_refused {s : State} {op st : Nat} {k : Fin 8} {bytes r : List Byte} {d : Dev} (hl : s.dev.launched = true)
    (hr : padTo 32 bytes = r) (hop : rf r 0 1 = op) (hcheck : s.dev.checkReq (.control k) r = st) (hst : st ≠ 0)
    (hd : (if op = 6 ∧ st = almFull then s.dev.onAlm (fun a => a.updQueue (BitVec.ofNat 32 (rf r 4 4)) Queue.refuse) else s.dev) = d)
    (hp : d.cfg.plans = []) : s.onAlmanac (fun d => d.almRow op (.control k) bytes none)
      = .next { s with dev := d.replied k (almReply r st false (BitVec.ofNat 32 (rf r 4 4)) []) } := by
  subst hr
  refine State.onAlmanac_next hl ?_ hp
  rw [Dev.almRow_control hop, Dev.request_refused hcheck hst, hop, hd]

/-! ### Where records stand (R244) -/

/-- A job record wherever it stands. -/
def Job.anywhere (j : Job) : Job := { j with chip := true }
/-- A procession's record wherever it stands, whenever it was used. -/
def Procession.anywhere (p : Procession) : Procession := { p with chip := true, used := 0 }
/-- A timer's record wherever it stands. -/
def Timer.anywhere (x : Timer) : Timer := { x with spilled := false }
/-- A queue's record and entries wherever they stand, whenever it was used. -/
def Queue.anywhere (q : Queue) : Queue := { q with chip := 0, home := true, used := 0 }

/-- The same records, wherever they stand. -/
structure AlmState.SameRecords (a b : AlmState) : Prop where
  jobs : b.jobs.map Job.anywhere = a.jobs.map Job.anywhere
  procs : b.procs.map Procession.anywhere = a.procs.map Procession.anywhere
  timers : b.timers.map Timer.anywhere = a.timers.map Timer.anywhere
  queues : b.queues.map Queue.anywhere = a.queues.map Queue.anywhere

theorem AlmState.SameRecords.refl (a : AlmState) : a.SameRecords a := ⟨rfl, rfl, rfl, rfl⟩

theorem AlmState.SameRecords.trans {a b c : AlmState} (h1 : a.SameRecords b) (h2 : b.SameRecords c) : a.SameRecords c :=
  ⟨h2.jobs.trans h1.jobs, h2.procs.trans h1.procs, h2.timers.trans h1.timers, h2.queues.trans h1.queues⟩

/-- Records moved under a map that another map does not see. -/
theorem map_map_ite {α β : Type} (g : α → β) (f : α → α) (p : α → Prop) [DecidablePred p] (h : ∀ x, g (f x) = g x) (xs : List α) :
    (xs.map (fun x => if p x then f x else x)).map g = xs.map g := by
  rw [List.map_map]
  refine List.map_congr_left fun x _ => ?_
  simp only [Function.comp_apply]
  split
  · exact h x
  · rfl

/-- What leaves the chip stays what it is. -/
theorem AlmState.evict_sameRecords (a : AlmState) (x : SpillItem) : a.SameRecords (a.evict x) := by
  cases x with
  | timer id => exact ⟨rfl, rfl, map_map_ite _ _ _ (by intro; rfl) _, rfl⟩
  | proc id => exact ⟨rfl, map_map_ite _ _ _ (by intro; rfl) _, rfl, rfl⟩
  | queue id => exact ⟨rfl, rfl, rfl, map_map_ite _ _ _ (by intro; rfl) _⟩
  | entries id => exact ⟨rfl, rfl, rfl, map_map_ite _ _ _ (by intro; rfl) _⟩
  | ready pool c => exact ⟨map_map_ite _ _ _ (by intro; rfl) _, rfl, rfl, rfl⟩

theorem AlmState.makeRoom_sameRecords (a : AlmState) (now : BitVec 40) : a.SameRecords (a.makeRoom now) := by
  unfold AlmState.makeRoom
  generalize List.range (a.shared - sharedRecords) = steps
  induction steps generalizing a with
  | nil => exact .refl a
  | cons n steps ih =>
    refine AlmState.SameRecords.trans ?_ (ih _)
    dsimp only
    split
    · exact .refl a
    · split
      · exact a.evict_sameRecords _
      · exact .refl a

theorem Dev.touch_sameRecords (d : Dev) (id : Word) : d.alm.SameRecords (d.touch id).alm :=
  ⟨rfl, map_map_ite _ _ _ (by intro; rfl) _, rfl, map_map_ite _ _ _ (by intro; rfl) _⟩

end Sys2Proof.Machine
end

section
/-! SUPPORT. New identifiers, and what the records of Almanac keep where some stand elsewhere (09_almanac_scheduler.md, R219, R225, R244). -/

namespace Sys2Proof.Machine
open Sys2Proof

/-! ### Identifiers (R219) -/

@[simp] theorem AlmState.length_used (a : AlmState) : a.used.length = a.objects := by
  simp [AlmState.used, AlmState.objects, Nat.add_assoc]

/-- Of one index more than there are objects, one is free. -/
theorem AlmState.exists_unused (a : AlmState) : ∃ i ∈ List.range (a.objects + 1), i ∉ a.used := by
  by_contra hall
  push Not at hall
  have hle := (List.nodup_range.subperm hall).length_le
  rw [List.length_range, AlmState.length_used] at hle
  omega

theorem AlmState.pickIndex_unused (a : AlmState) (n : Nat) (h : a.objects < 8388608) :
    a.pickIndex n < 2 ^ 23 ∧ a.pickIndex n ∉ a.used := by
  unfold AlmState.pickIndex
  dsimp only
  split
  next =>
    obtain ⟨i, hi, hfree⟩ := a.exists_unused
    have hsome : ((List.range (a.objects + 1)).find? (fun k => !a.used.contains k)).isSome = true :=
      List.find?_isSome.mpr ⟨i, hi, by simpa using hfree⟩
    obtain ⟨k, hk⟩ := Option.isSome_iff_exists.mp hsome
    have hlt := List.mem_range.mp (List.mem_of_find?_eq_some hk)
    have hunused := List.find?_some hk
    rw [hk, Option.getD_some]
    exact ⟨by omega, by simpa using hunused⟩
  next hfree => exact ⟨(Config.newIndex n).isLt, by simpa using hfree⟩

/-- An identifier that names nothing, by kind of object. -/
theorem AlmState.known_eq_false_iff {a : AlmState} {id : Word} : a.known id = false
    ↔ (∀ j ∈ a.jobs, j.id ≠ id) ∧ (∀ p ∈ a.procs, p.id ≠ id) ∧ (∀ x ∈ a.timers, x.id ≠ id) ∧ ∀ q ∈ a.queues, q.id ≠ id := by
  simp [AlmState.known_eq_false, AlmState.job?, AlmState.proc?, AlmState.timer?, AlmState.queue?]

theorem AlmState.known_of_unused {a : AlmState} {id : Word} (h : id.toNat % 2 ^ 23 ∉ a.used) : a.known id = false := by
  simp only [AlmState.used, List.mem_append, List.mem_map, not_or, not_exists, not_and] at h
  obtain ⟨⟨⟨hjobs, hprocs⟩, htimers⟩, hqueues⟩ := h
  exact AlmState.known_eq_false_iff.mpr ⟨fun j hj e => hjobs j hj (by rw [e]), fun p hp e => hprocs p hp (by rw [e]),
    fun x hx e => htimers x hx (by rw [e]), fun q hq e => hqueues q hq (by rw [e])⟩

/-- A new identifier has named no object before (R219). -/
theorem Dev.newId_unknown (d : Dev) (h : d.alm.objects < 8388608) : d.alm.known d.newId.1 = false := by
  obtain ⟨hlt, hunused⟩ := d.alm.pickIndex_unused d.free h
  have hindex : ∀ g, (BitVec.ofNat 32 (d.alm.pickIndex d.free + g * 2 ^ 23)).toNat % 2 ^ 23 = d.alm.pickIndex d.free := fun g => by
    rw [BitVec.toNat_ofNat, Nat.mod_mod_of_dvd _ (by decide), Nat.add_mul_mod_self_right, Nat.mod_eq_of_lt hlt]
  exact AlmState.known_of_unused (by rw [Dev.newId, hindex]; exact hunused)

/-! ### Records that move -/

/-- An update that another map does not disturb. -/
theorem map_ite_map {α : Type} (g f : α → α) (p : α → Prop) [DecidablePred p] (hp : ∀ x, p (g x) ↔ p x) (hf : ∀ x, g (f x) = f (g x))
    (xs : List α) : (xs.map (fun x => if p x then f x else x)).map g = (xs.map g).map (fun x => if p x then f x else x) := by
  rw [List.map_map, List.map_map]
  refine List.map_congr_left fun x _ => ?_
  simp only [Function.comp_apply, apply_ite g, hf, hp]

/-- An update of the last record, which alone has its identifier. -/
theorem map_ite_last {α : Type} (p : α → Prop) [DecidablePred p] (f : α → α) {xs : List α} {x : α} (hxs : ∀ y ∈ xs, ¬p y) (hx : p x) :
    (xs ++ [x]).map (fun y => if p y then f y else y) = xs ++ [f x] := by
  rw [List.map_append, List.map_singleton, if_pos hx]
  exact congrArg (· ++ [f x]) ((List.map_congr_left fun y hy => if_neg (hxs y hy)).trans (List.map_id xs))

/-- A list with the same records as one that ends with a new record ends with that record too. -/
theorem eq_append_of_map_eq {α : Type} (g : α → α) (id : α → Word) (hg : ∀ x, id (g x) = id x) {xs ys : List α} {x : α}
    (h : ys.map g = (xs ++ [x]).map g) (hfresh : ∀ y ∈ xs, id y ≠ id x) : ∃ ys' x', ys = ys' ++ [x'] ∧ ys'.map g = xs.map g ∧ g x' = g x
      ∧ id x' = id x ∧ ∀ y ∈ ys', id y ≠ id x := by
  rw [List.map_append, List.map_singleton] at h
  obtain ⟨ys', tail, rfl, hys, htail⟩ := List.map_eq_append_iff.mp h
  obtain ⟨x', rfl, hx⟩ := List.map_eq_singleton_iff.mp htail
  refine ⟨ys', x', rfl, hys, hx, by rw [← hg x', hx, hg], fun y hy => ?_⟩
  obtain ⟨z, hz, hzy⟩ := List.mem_map.mp (hys ▸ List.mem_map_of_mem (f := g) hy)
  rw [← hg y, ← hzy, hg]
  exact hfresh z hz

theorem AlmState.SameRecords.updQueue {a b : AlmState} (h : a.SameRecords b) (id : Word) {f : Queue → Queue}
    (hf : ∀ q, (f q).anywhere = f q.anywhere) : (a.updQueue id f).SameRecords (b.updQueue id f) := by
  have hq (c : AlmState) : (c.updQueue id f).queues.map Queue.anywhere
      = (c.queues.map Queue.anywhere).map (fun q => if q.id = id then f q else q) := 
    map_ite_map _ _ _ (by intro; exact Iff.rfl) hf _
  exact ⟨h.jobs, h.procs, h.timers, by rw [hq, hq, h.queues]⟩

theorem AlmState.SameRecords.entries {a b : AlmState} (h : a.SameRecords b) : b.entries = a.entries := by
  have hentries (c : AlmState) : c.entries = ((c.queues.map Queue.anywhere).map (fun q => q.entries.length + q.reserved)).sum := by
    rw [List.map_map]
    rfl
  rw [hentries, hentries, h.queues]

/-- A queue is found wherever its record stands. -/
theorem AlmState.SameRecords.queue? {a b : AlmState} (h : a.SameRecords b) {id : Word} {q : Queue} (hq : a.queue? id = some q) :
    ∃ q', b.queue? id = some q' ∧ q'.anywhere = q.anywhere := by
  have hfind (c : AlmState) : (c.queues.map Queue.anywhere).find? (fun q => q.id == id) = (c.queue? id).map Queue.anywhere := List.find?_map
  have heq : (b.queue? id).map Queue.anywhere = some q.anywhere := by rw [← hfind, h.queues, hfind, hq, Option.map_some]
  exact Option.map_eq_some_iff.mp heq

/-! ### Queues that change -/

theorem Queue.fields_of_anywhere {q q' : Queue} (h : q'.anywhere = q.anywhere) : q'.id = q.id ∧ q'.entries = q.entries ∧ q'.reserved = q.reserved
    ∧ q'.limit = q.limit ∧ q'.closing = q.closing ∧ q'.hostev = q.hostev ∧ q'.overrun = q.overrun := by
  simp only [Queue.anywhere, Queue.mk.injEq] at h
  obtain ⟨hid, hclosing, hhost, hlimit, hentries, hoverrun, hreserved, -⟩ := h
  exact ⟨hid, hentries, hreserved, hlimit, hclosing, hhost, hoverrun⟩

theorem AlmState.queue?_id {a : AlmState} {id : Word} {q : Queue} (h : a.queue? id = some q) : q.id = id := by
  simpa using List.find?_some h

theorem AlmState.known_of_queue {a : AlmState} {id : Word} {q : Queue} (h : a.queue? id = some q) : a.known id = true := by
  simp [AlmState.known, h]

theorem AlmState.queue?_updQueue (a : AlmState) (id : Word) {f : Queue → Queue} (hf : ∀ q, (f q).id = q.id) :
    (a.updQueue id f).queue? id = (a.queue? id).map f := by
  have hsame : ((fun q : Queue => q.id == id) ∘ fun q => if q.id = id then f q else q) = fun q => q.id == id := by
    funext q
    rw [Function.comp_apply, apply_ite Queue.id, hf, ite_self]
  have hfind : (a.updQueue id f).queue? id = (a.queue? id).map (fun q => if q.id = id then f q else q) :=
    List.find?_map.trans (by rw [hsame, AlmState.queue?])
  rw [hfind]
  cases hq : a.queue? id with
  | none => rfl
  | some q => exact congrArg some (if_pos (AlmState.queue?_id hq))

/-- What is found stays found where others are left out. -/
theorem find?_filter_of_find? {α : Type} {p keep : α → Bool} {x : α} : ∀ {xs : List α}, xs.find? p = some x → keep x = true →
    (xs.filter keep).find? p = some x := by
  intro xs h hk
  induction xs with
  | nil => cases h
  | cons y ys ih =>
    cases hp : p y with
    | true =>
      rw [List.find?_cons_of_pos hp] at h
      cases h
      rw [List.filter_cons_of_pos hk, List.find?_cons_of_pos hp]
    | false =>
      have hne : ¬p y = true := by simp [hp]
      rw [List.find?_cons_of_neg hne] at h
      rw [List.filter_cons]
      split
      · rw [List.find?_cons_of_neg hne, ih h]
      · exact ih h

/-- A queue that is open or not empty stays. -/
theorem AlmState.queue?_sweep {a : AlmState} {id : Word} {q : Queue} (h : a.queue? id = some q)
    (hstays : q.closing = false ∨ q.entries ≠ []) : a.sweep.queue? id = some q :=
  find?_filter_of_find? h (by rcases hstays with hopen | hentries <;> simp [*])

/-- A place that is held and given back (R225). -/
theorem AlmState.unreserve_reserve (a : AlmState) (id : Word) : (a.updQueue id (fun q => { q with reserved := q.reserved + 1 })).updQueue id
    (fun q => { q with reserved := q.reserved - 1 }) = a := by
  have hqueues : ((a.updQueue id (fun q => { q with reserved := q.reserved + 1 })).updQueue id
      (fun q => { q with reserved := q.reserved - 1 })).queues = a.queues := by
    refine List.map_map.trans ((List.map_congr_left fun q _ => ?_).trans (List.map_id _))
    rw [Function.comp_apply]
    by_cases hq : q.id = id
    · rw [if_pos hq, if_pos hq]
      rfl
    · rw [if_neg hq, if_neg hq]
      rfl
  exact congrArg (fun qs => { a with queues := qs }) hqueues

end Sys2Proof.Machine
end

section
/-! SUPPORT. CREATE, Q_PUT, Q_GET, QUERY and DESTROY of a queue at a control core's port (09_almanac_scheduler.md, R219 to R225,
Tables 9.5, 9.7, 9.9). -/

namespace Sys2Proof.Machine
open Sys2Proof

/-! ### What a request allocates and what it uses -/

/-- The device once a request has used the queue or procession that it names (R244). -/
def Dev.usedBy (d : Dev) (id : Word) : Dev := if id = 0 then d else d.touch id

theorem Dev.usedBy_alm (d : Dev) (id : Word) : ∃ a, d.usedBy id = { d with alm := a } ∧ d.alm.SameRecords a ∧ a.jobs = d.alm.jobs := by
  unfold Dev.usedBy
  split
  · exact ⟨d.alm, rfl, .refl _, rfl⟩
  · exact ⟨_, rfl, d.touch_sameRecords id, rfl⟩

theorem Dev.usedBy_eq (d : Dev) (id : Word) {op : Nat} (h : op ∈ [1, 2, 6, 7, 9, 10]) :
    (if op ∈ [1, 2, 6, 7, 9, 10] ∧ id.toNat ≠ 0 then d.touch (BitVec.ofNat 32 id.toNat) else d) = d.usedBy id := by
  have hzero : id.toNat = 0 ↔ id = 0 := ⟨fun h => BitVec.eq_of_toNat_eq h, fun h => h ▸ rfl⟩
  by_cases hid : id = 0
  · rw [Dev.usedBy, if_pos hid, if_neg (fun hn => hn.2 (hzero.mpr hid))]
  · rw [Dev.usedBy, if_neg hid, if_pos ⟨h, fun hn => hid (hzero.mp hn)⟩, BitVec.ofNat_toNat, BitVec.setWidth_eq]

/-- Q_GET, DESTROY and QUERY allocate nothing (R225). -/
theorem Dev.allocate_object (d : Dev) (op : Byte) (tag : BitVec 16) (id : Word) (h : op ∈ [7, 9, 10]) {d' : Dev}
    (hd : d.usedBy id = d') : d.allocate (almRequest op tag id []) none = (id, 0, d') := by
  subst hd
  have huse := d.usedBy_eq id (op := op.toNat) (by simp only [List.mem_cons, List.not_mem_nil, or_false] at h; rcases h with rfl | rfl | rfl <;> decide)
  simp only [Dev.allocate, rf_almRequest_op, rf_almRequest_obj, huse]
  simp only [List.mem_cons, List.not_mem_nil, or_false] at h
  rcases h with rfl | rfl | rfl <;> simp [Dev.allocateRaw]

/-- Q_PUT takes a place in the queue (R225). -/
theorem Dev.allocate_put (d : Dev) (tag : BitVec 16) (id : Word) (e : List Byte) {d' : Dev} (hd : d.usedBy id = d') :
    d.allocate (almRequest 6 tag id e) none = (id, 0, d'.onAlm (fun a => a.updQueue id (fun q => { q with reserved := q.reserved + 1 }))) := by
  subst hd
  have huse := d.usedBy_eq id (op := (6 : Byte).toNat) (by decide)
  simp only [Dev.allocate, rf_almRequest_op, rf_almRequest_obj, huse]
  simp [Dev.allocateRaw]

/-- A queue as CREATE allocates it. -/
def Queue.created (id : Word) (limit : Nat) (now : BitVec 40) : Queue := { id := id, limit := limit, pending := true, used := now }

/-- CREATE of a queue: its operands (Table 9.7). -/
def createQueueRequest (tag : BitVec 16) (limit : Nat) : List Byte := almRequest 8 tag 0 ([1, 0, 0, 0] ++ bytesOf 4 limit)

theorem rf_createQueueRequest_limit (tag : BitVec 16) {limit : Nat} (h : limit ≤ 16777216) : rf (createQueueRequest tag limit) 12 4 = limit := by
  have hbytes : rf (createQueueRequest tag limit) 12 4 = natOf (bytesOf 4 limit) := rfl
  rw [hbytes, natOf_bytesOf_of_lt (by omega)]

/-- The records with a queue as CREATE allocates it. -/
def Dev.withQueue (d : Dev) (limit : Nat) : AlmState :=
  { d.newId.2.alm with queues := d.alm.queues ++ [Queue.created d.newId.1 limit d.time.tick] }

theorem Dev.allocate_createQueue (d : Dev) (tag : BitVec 16) {limit : Nat} (h : limit ≤ 16777216) :
    ∃ a, (d.withQueue limit).SameRecords a
      ∧ d.allocate (createQueueRequest tag limit) none = (d.newId.1, 0, { d.newId.2 with alm := a }) := by
  refine ⟨_, (d.withQueue limit).makeRoom_sameRecords d.time.tick, ?_⟩
  have hop : rf (createQueueRequest tag limit) 0 1 = 8 := rfl
  have hkind : rf (createQueueRequest tag limit) 8 1 = 1 := rfl
  have hflags : rf (createQueueRequest tag limit) 9 1 = 0 := rfl
  have hlimit := rf_createQueueRequest_limit tag h
  have huse : ¬(8 ∈ [1, 2, 6, 7, 9, 10] ∧ rf (createQueueRequest tag limit) 4 4 ≠ 0) := by simp
  have hroom : 8 ∈ [1, 2, 4, 8] := by decide
  have hhost : bitAt 0 0 = false := rfl
  simp only [Dev.allocate, Dev.allocateRaw, hop, hkind, hflags, hlimit, if_neg huse, if_pos hroom, hhost, if_true, Dev.onAlm]
  congr 3

/-! ### Which requests are accepted -/

theorem Dev.checkReq_createQueue {d : Dev} {k : Fin 8} (tag : BitVec 16) {limit : Nat} (hlow : 1 ≤ limit) (hhigh : limit ≤ 16777216)
    (hq : d.alm.queues.length < 65536) (hobj : d.alm.objects < 8388608) : d.checkReq (.control k) (createQueueRequest tag limit) = 0 := by
  have hop : rf (createQueueRequest tag limit) 0 1 = 8 := rfl
  have hkind : rf (createQueueRequest tag limit) 8 1 = 1 := rfl
  have hflags : rf (createQueueRequest tag limit) 9 1 = 0 := rfl
  have hres : reservedSet (createQueueRequest tag limit) = false := rfl
  have hlimit := rf_createQueueRequest_limit tag hhigh
  have hbad : ¬(1 < 0 ∨ limit < 1 ∨ 16777216 < limit) := by omega
  have hroom : ¬(65536 ≤ d.alm.queues.length ∨ 8388608 ≤ d.alm.objects) := by omega
  simp only [Dev.checkReq, Dev.checkCreate, hop, hkind, hflags, hres, hlimit, if_neg hbad, if_neg hroom]
  rfl

theorem Dev.checkReq_put {d : Dev} {k : Fin 8} {id : Word} {q : Queue} (tag : BitVec 16) (x : Nat) (hq : d.alm.queue? id = some q)
    (hopen : q.closing = false) : d.checkReq (.control k) (almRequest 6 tag id (bytesOf 16 x)) = if d.alm.queueFull q then almFull else 0 := by
  have hres : reservedSet (almRequest 6 tag id (bytesOf 16 x)) = false := rfl
  have hop : rf (almRequest 6 tag id (bytesOf 16 x)) 0 1 = 6 := rfl
  rw [Dev.checkReq, hres, hop]
  simp [hq, hopen]

theorem Dev.checkReq_get {d : Dev} {k : Fin 8} {id : Word} {q : Queue} (tag : BitVec 16) (hq : d.alm.queue? id = some q) :
    d.checkReq (.control k) (almRequest 7 tag id []) = if q.entries = [] then almEmpty else 0 := by
  simp [Dev.checkReq, reservedSet_object, hq]

theorem Dev.checkReq_destroy {d : Dev} {k : Fin 8} {id : Word} {q : Queue} (tag : BitVec 16) (hq : d.alm.queue? id = some q) :
    d.checkReq (.control k) (almRequest 9 tag id []) = 0 := by
  simp [Dev.checkReq, reservedSet_object, hq, AlmState.known_of_queue hq]

theorem Dev.checkReq_query {d : Dev} {k : Fin 8} {id : Word} (tag : BitVec 16) (h : d.alm.known id = true) :
    d.checkReq (.control k) (almRequest 10 tag id []) = 0 := by
  simp [Dev.checkReq, reservedSet_object, h]

/-! ### What a request does -/

section
variable {d : Dev} {r : List Byte} {obj tm : Word}

theorem Dev.takeEffect_put (h : rf r 0 1 = 6) : d.takeEffect r obj tm
    = (d.onAlm (fun a => a.updQueue obj (fun q => { q with reserved := q.reserved - 1 }))).putQueue obj ((r.drop 8).take 16) := by
  simp only [Dev.takeEffect, h]

theorem Dev.takeEffect_get (h : rf r 0 1 = 7) : d.takeEffect r obj tm = d.onAlm (fun a => (a.updQueue obj Queue.pop).sweep) := by
  simp only [Dev.takeEffect, h]

theorem Dev.takeEffect_create (h : rf r 0 1 = 8) : d.takeEffect r obj tm = d.onAlm (fun a =>
    (a.updQueue obj (fun q => { q with pending := false })).updProc obj (fun p => { p with pending := false, headSince := d.time.tick })) := by
  simp only [Dev.takeEffect, h]

theorem Dev.takeEffect_destroy (h : rf r 0 1 = 9) : d.takeEffect r obj tm = d.onAlm (fun a => a.destroy obj) := by
  simp only [Dev.takeEffect, h]

theorem Dev.takeEffect_query (h : rf r 0 1 = 10) : d.takeEffect r obj tm = d := by
  simp only [Dev.takeEffect, h]

end

/-! ### The rows -/

theorem exec_create (s : State) (port : AlmPort) (bytes : List Byte) : exec (.create port bytes) s
    = s.onAlmanac (fun d => d.almRow 8 port bytes none) := rfl

theorem exec_qPut (s : State) (port : AlmPort) (bytes : List Byte) : exec (.qPut port bytes) s
    = s.onAlmanac (fun d => d.almRow 6 port bytes none) := rfl

theorem exec_qGet (s : State) (port : AlmPort) (bytes : List Byte) : exec (.qGet port bytes) s
    = s.onAlmanac (fun d => d.almRow 7 port bytes none) := rfl

theorem exec_query (s : State) (port : AlmPort) (bytes : List Byte) : exec (.query port bytes) s
    = s.onAlmanac (fun d => d.almRow 10 port bytes none) := rfl

theorem exec_destroy (s : State) (port : AlmPort) (bytes : List Byte) : exec (.destroy port bytes) s
    = s.onAlmanac (fun d => d.almRow 9 port bytes none) := rfl

/-- What a control core's port holds after a request without flags: the reply to it (R222, R224). -/
def State.repliedTo (t : State) (k : Fin 8) (tag : BitVec 16) (st : Nat) (obj : Word) (data : List Byte) : Prop :=
  t.dev.alm.replies.head? = some (.control k, bytesOf 2 tag.toNat ++ bytesOf 1 st ++ [0] ++ bytesOf 4 obj.toNat ++ padTo 24 data)

theorem State.repliedTo_replied (s : State) (d : Dev) (k : Fin 8) (op : Byte) (tag : BitVec 16) (obj id : Word) (rest data : List Byte) (st : Nat) :
    ({ s with dev := d.replied k (almReply (almRequest op tag obj rest) st false id data) } : State).repliedTo k tag st id data := by
  rw [almReply_almRequest]
  rfl

theorem create_queue {s : State} {k : Fin 8} {tag : BitVec 16} {limit : Nat} {bytes : List Byte} (hl : s.dev.launched = true)
    (hp : s.dev.cfg.plans = []) (hr : padTo 32 bytes = createQueueRequest tag limit) (hlow : 1 ≤ limit) (hhigh : limit ≤ 16777216)
    (hq : s.dev.alm.queues.length < 65536) (hobj : s.dev.alm.objects < 8388608) : ∃ t, exec (.create (.control k) bytes) s = .next t
      ∧ t.repliedTo k tag 0 s.dev.newId.1 [] ∧ t.dev.alm.queues.map Queue.anywhere
        = (s.dev.alm.queues ++ [({ id := s.dev.newId.1, limit := limit } : Queue)]).map Queue.anywhere := by
  obtain ⟨-, -, -, hfresh⟩ := AlmState.known_eq_false_iff.mp (s.dev.newId_unknown hobj)
  have hop : rf (createQueueRequest tag limit) 0 1 = 8 := rfl
  have hdata : s.dev.replyData (createQueueRequest tag limit) = [] := Dev.replyData_none (by rw [hop]; decide) (by rw [hop]; decide)
  obtain ⟨a, hsame, halloc⟩ := s.dev.allocate_createQueue tag hhigh
  have hmoved := hsame.updQueue s.dev.newId.1 (f := fun q => { q with pending := false }) (by intro; rfl)
  have hlast : ((s.dev.withQueue limit).updQueue s.dev.newId.1 (fun q => { q with pending := false })).queues
      = s.dev.alm.queues ++ [{ Queue.created s.dev.newId.1 limit s.dev.time.tick with pending := false }] :=
    map_ite_last (fun q : Queue => q.id = s.dev.newId.1) _ hfresh rfl
  rw [exec_create, onAlmanac_accepted hl hr hop (Dev.checkReq_createQueue tag hlow hhigh hq hobj) halloc
    (Dev.takeEffect_create hop) hp, hdata]
  refine ⟨_, rfl, State.repliedTo_replied _ _ _ _ _ _ _ _ _ _, hmoved.queues.trans ?_⟩
  rw [hlast, List.map_append, List.map_append]
  rfl

/-- A queue that is open at the state in which a request finds it. -/
theorem Dev.usedBy_queue {d : Dev} {id : Word} {q : Queue} (h : d.alm.queue? id = some q) : ∃ a q', d.usedBy id = { d with alm := a }
    ∧ d.alm.SameRecords a ∧ a.jobs = d.alm.jobs ∧ a.queue? id = some q' ∧ q'.anywhere = q.anywhere := by
  obtain ⟨a, ha, hsame, hjobs⟩ := d.usedBy_alm id
  obtain ⟨q', hq', hrec⟩ := hsame.queue? h
  exact ⟨a, q', ha, hsame, hjobs, hq', hrec⟩

theorem qPut_room {s : State} {k : Fin 8} {tag : BitVec 16} {id : Word} {q : Queue} {x : Nat} {bytes : List Byte} (hl : s.dev.launched = true)
    (hp : s.dev.cfg.plans = []) (hr : padTo 32 bytes = almRequest 6 tag id (bytesOf 16 x)) (hq : s.dev.alm.queue? id = some q)
    (hopen : q.closing = false) (hhost : q.hostev = false) (hroom : q.entries.length + q.reserved < q.limit) (hall : s.dev.alm.entries < 16777216) :
    ∃ t q', exec (.qPut (.control k) bytes) s = .next t ∧ t.repliedTo k tag 0 id [] ∧ t.dev.alm.queue? id = some q'
      ∧ q'.entries = q.entries ++ [bytesOf 16 x] ∧ q'.limit = q.limit ∧ q'.closing = false ∧ q'.overrun = q.overrun := by
  obtain ⟨a, q', ha, hsame, -, hq', hrec⟩ := Dev.usedBy_queue hq
  have hop : rf (almRequest 6 tag id (bytesOf 16 x)) 0 1 = 6 := rfl
  have hentry : ((almRequest 6 tag id (bytesOf 16 x)).drop 8).take 16 = bytesOf 16 x := rfl
  obtain ⟨-, hentries, hreserved, hlimit, hclosing, hhost', hoverrun⟩ := Queue.fields_of_anywhere hrec
  have hcheck : s.dev.checkReq (.control k) (almRequest 6 tag id (bytesOf 16 x)) = 0 := by
    rw [Dev.checkReq_put tag x hq hopen, AlmState.queueFull_room hroom hall]
    rfl
  have hfull : a.queueFull q' = false := AlmState.queueFull_room (by rw [hentries, hreserved, hlimit]; exact hroom) (hsame.entries ▸ hall)
  have hput : (({ s.dev with alm := a } : Dev).onAlm (fun a => a.updQueue id (fun q => { q with reserved := q.reserved + 1 }))).takeEffect
      (almRequest 6 tag id (bytesOf 16 x)) id 0
      = ({ s.dev with alm := a } : Dev).onAlm (fun a => a.updQueue id (fun q => q.put (bytesOf 16 x) s.dev.time.tick a.shared)) := by
    rw [Dev.takeEffect_put hop, hentry]
    refine (congrArg (fun b => ({ s.dev with alm := b } : Dev).putQueue id (bytesOf 16 x)) (a.unreserve_reserve id)).trans ?_
    exact Dev.putQueue_room hq' (hhost'.trans hhost) hfull _
  rw [exec_qPut, onAlmanac_accepted hl hr hop hcheck (s.dev.allocate_put tag id _ ha) hput hp,
    Dev.replyData_none (by rw [hop]; decide) (by rw [hop]; decide)]
  refine ⟨_, q'.put (bytesOf 16 x) s.dev.time.tick a.shared, rfl, State.repliedTo_replied _ _ _ _ _ _ _ _ _ _, ?_, ?_, hlimit, hclosing.trans hopen,
    hoverrun⟩
  · exact (AlmState.queue?_updQueue a id (by intro; rfl)).trans (by rw [hq']; rfl)
  · rw [Queue.put, padTo_of_length (length_bytesOf 16 x), hentries]

theorem qPut_full {s : State} {k : Fin 8} {tag : BitVec 16} {id : Word} {q : Queue} {x : Nat} {bytes : List Byte} (hl : s.dev.launched = true)
    (hp : s.dev.cfg.plans = []) (hr : padTo 32 bytes = almRequest 6 tag id (bytesOf 16 x)) (hq : s.dev.alm.queue? id = some q)
    (hopen : q.closing = false) (hhost : q.hostev = false) (hfull : q.limit ≤ q.entries.length + q.reserved) :
    ∃ t, exec (.qPut (.control k) bytes) s = .next t ∧ t.repliedTo k tag 1 id []
      ∧ t.dev.alm.queues = s.dev.alm.queues.map (fun q => if q.id = id then q.refuse else q) := by
  have hop : rf (almRequest 6 tag id (bytesOf 16 x)) 0 1 = 6 := rfl
  have hcheck : s.dev.checkReq (.control k) (almRequest 6 tag id (bytesOf 16 x)) = almFull := by
    rw [Dev.checkReq_put tag x hq hopen, if_pos (by simp [AlmState.queueFull, hhost, hfull])]
  rw [exec_qPut, onAlmanac_refused hl hr hop hcheck (by decide) (if_pos ⟨rfl, rfl⟩) hp, rf_almRequest_obj, BitVec.ofNat_toNat, BitVec.setWidth_eq]
  exact ⟨_, rfl, State.repliedTo_replied _ _ _ _ _ _ _ _ _ _, rfl⟩

theorem qGet_head {s : State} {k : Fin 8} {tag : BitVec 16} {id : Word} {q : Queue} {e : List Byte} {rest : List (List Byte)} {bytes : List Byte}
    (hl : s.dev.launched = true) (hp : s.dev.cfg.plans = []) (hr : padTo 32 bytes = almRequest 7 tag id []) (hq : s.dev.alm.queue? id = some q)
    (hopen : q.closing = false) (he : q.entries = e :: rest) : ∃ t q', exec (.qGet (.control k) bytes) s = .next t
      ∧ t.repliedTo k tag 0 id e ∧ t.dev.alm.queue? id = some q' ∧ q'.entries = rest := by
  obtain ⟨a, q', ha, -, -, hq', hrec⟩ := Dev.usedBy_queue hq
  have hop : rf (almRequest 7 tag id []) 0 1 = 7 := rfl
  have hcheck : s.dev.checkReq (.control k) (almRequest 7 tag id []) = 0 := by
    rw [Dev.checkReq_get tag hq, he]
    rfl
  have hdata : s.dev.replyData (almRequest 7 tag id []) = e := by
    rw [Dev.replyData, if_pos hop, rf_almRequest_obj, BitVec.ofNat_toNat, BitVec.setWidth_eq, hq]
    simp [he]
  obtain ⟨-, hentries, -, -, hclosing, -, -⟩ := Queue.fields_of_anywhere hrec
  have hpop (x : Queue) : x.pop.id = x.id ∧ x.pop.closing = x.closing ∧ x.pop.entries = x.entries.drop 1 := by
    unfold Queue.pop
    split
    · exact ⟨rfl, rfl, rfl⟩
    · exact ⟨rfl, rfl, rfl⟩
  rw [exec_qGet, onAlmanac_accepted hl hr hop hcheck (s.dev.allocate_object 7 tag id (by simp) ha) (Dev.takeEffect_get hop) hp, hdata]
  refine ⟨_, q'.pop, rfl, State.repliedTo_replied _ _ _ _ _ _ _ _ _ _, ?_, ?_⟩
  · refine AlmState.queue?_sweep ((AlmState.queue?_updQueue a id (fun x => (hpop x).1)).trans (by rw [hq']; rfl)) (.inl ?_)
    exact (hpop q').2.1.trans (hclosing.trans hopen)
  · rw [(hpop q').2.2, hentries, he]
    rfl

theorem qGet_empty {s : State} {k : Fin 8} {tag : BitVec 16} {id : Word} {q : Queue} {bytes : List Byte} (hl : s.dev.launched = true)
    (hp : s.dev.cfg.plans = []) (hr : padTo 32 bytes = almRequest 7 tag id []) (hq : s.dev.alm.queue? id = some q) (he : q.entries = []) :
    ∃ t, exec (.qGet (.control k) bytes) s = .next t ∧ t.repliedTo k tag 6 id [] ∧ t.dev.alm.queues = s.dev.alm.queues := by
  have hop : rf (almRequest 7 tag id []) 0 1 = 7 := rfl
  have hcheck : s.dev.checkReq (.control k) (almRequest 7 tag id []) = almEmpty := by rw [Dev.checkReq_get tag hq, if_pos he]
  rw [exec_qGet, onAlmanac_refused hl hr hop hcheck (by decide) (if_neg (by decide)) hp, rf_almRequest_obj, BitVec.ofNat_toNat, BitVec.setWidth_eq]
  exact ⟨_, rfl, State.repliedTo_replied _ _ _ _ _ _ _ _ _ _, rfl⟩

theorem query_known {s : State} {k : Fin 8} {tag : BitVec 16} {id : Word} {bytes : List Byte} (hl : s.dev.launched = true)
    (hp : s.dev.cfg.plans = []) (hr : padTo 32 bytes = almRequest 10 tag id []) (hknown : s.dev.alm.known id = true) :
    ∃ t, exec (.query (.control k) bytes) s = .next t ∧ t.repliedTo k tag 0 id (s.dev.alm.recordBytes id)
      ∧ s.dev.alm.SameRecords t.dev.alm := by
  obtain ⟨a, ha, hsame, -⟩ := s.dev.usedBy_alm id
  have hop : rf (almRequest 10 tag id []) 0 1 = 10 := rfl
  have hdata : s.dev.replyData (almRequest 10 tag id []) = s.dev.alm.recordBytes id := by
    rw [Dev.replyData, if_neg (by rw [hop]; decide), if_pos hop, rf_almRequest_obj, BitVec.ofNat_toNat, BitVec.setWidth_eq]
  rw [exec_query, onAlmanac_accepted hl hr hop (Dev.checkReq_query tag hknown) (s.dev.allocate_object 10 tag id (by simp) ha)
    (Dev.takeEffect_query hop) hp, hdata]
  exact ⟨_, rfl, State.repliedTo_replied _ _ _ _ _ _ _ _ _ _, hsame.jobs, hsame.procs, hsame.timers, hsame.queues⟩

/-- DESTROY of a queue's identifier is accepted. -/
theorem destroy_queue {s : State} {k : Fin 8} {tag : BitVec 16} {id : Word} {q : Queue} {bytes : List Byte} (hl : s.dev.launched = true)
    (hp : s.dev.cfg.plans = []) (hr : padTo 32 bytes = almRequest 9 tag id []) (hq : s.dev.alm.queue? id = some q) {a : AlmState}
    (ha : s.dev.usedBy id = { s.dev with alm := a }) : ∃ t, exec (.destroy (.control k) bytes) s = .next t ∧ t.repliedTo k tag 0 id []
      ∧ t.dev.alm.queues = (a.destroy id).queues := by
  have hop : rf (almRequest 9 tag id []) 0 1 = 9 := rfl
  rw [exec_destroy, onAlmanac_accepted hl hr hop (Dev.checkReq_destroy tag hq) (s.dev.allocate_object 9 tag id (by simp) ha)
    (Dev.takeEffect_destroy hop) hp, Dev.replyData_none (by rw [hop]; decide) (by rw [hop]; decide)]
  exact ⟨_, rfl, State.repliedTo_replied _ _ _ _ _ _ _ _ _ _, rfl⟩

/-- A queue with entries is CLOSING once it has been destroyed. -/
theorem AlmState.destroy_closes {a : AlmState} {id : Word} {q : Queue} (hq : a.queue? id = some q) (he : q.entries ≠ []) :
    (a.destroy id).queue? id = some { q with closing := true } :=
  AlmState.queue?_sweep ((AlmState.queue?_updQueue ({ a with timers := a.timers.filter (fun t => t.id != id) } : AlmState) id (by intro; rfl)).trans
    (congrArg (Option.map _) hq)) (.inr he)

/-- An only queue that is empty and that no deferred request names is freed once it has been destroyed. -/
theorem AlmState.destroy_frees {a : AlmState} {q : Queue} (hq : a.queues = [q]) (he : q.entries = []) (hn : a.namedDeferred q.id = false) :
    (a.destroy q.id).queues = [] := by
  have hclosing : (({ a with timers := a.timers.filter (fun t => t.id != q.id) } : AlmState).updQueue q.id
      (fun q => { q with closing := true })).queues = [{ q with closing := true }] := by
    rw [AlmState.updQueue_only (a := { a with timers := a.timers.filter (fun t => t.id != q.id) }) hq]
  have hfreed : (!(true && q.entries.isEmpty && !a.namedDeferred q.id)) = false := by rw [he, hn]; rfl
  refine (congrArg (List.filter _) hclosing).trans (List.filter_eq_nil_iff.mpr fun x hx => ?_)
  rw [List.mem_singleton.mp hx]
  exact Bool.eq_false_iff.mp hfreed

theorem Queue.refuse_eq (q : Queue) : q.refuse
    = { q with overrun := if q.hostev = false ∧ q.overrun ≠ 0xFFFFFFFF then q.overrun + 1 else q.overrun } := by
  unfold Queue.refuse
  by_cases h : q.hostev = true ∨ q.overrun = 0xFFFFFFFF
  · rw [if_pos h, if_neg (by rcases h with hhost | htop <;> simp [*])]
  · rw [if_neg h, if_pos (by simpa using h)]

/-- Bytes 0 to 23 of the record of an open queue (Table 9.5). -/
theorem AlmState.recordBytes_queue {a : AlmState} {id : Word} {q : Queue} (hjob : a.job? id = none) (hproc : a.proc? id = none)
    (htimer : a.timer? id = none) (hq : a.queue? id = some q) (hopen : q.closing = false) : a.recordBytes id
      = [1, if q.hostev then 1 else 0, 0, 0] ++ bytesOf 4 q.limit ++ bytesOf 4 q.entries.length ++ bytesOf 4 q.overrun.toNat ++ bytesOf 8 0 := by
  simp only [AlmState.recordBytes, hjob, hproc, htimer, hq, hopen]
  cases q.hostev <;> rfl

/-- Settles O24: each request by what it allocates, what it changes and what it answers. -/
theorem almanacQueueRequests : Obligations.AlmanacQueueRequests := by
  unfold Obligations.AlmanacQueueRequests
  intro s k tag hl hp
  refine ⟨fun limit hlow hhigh hq hobj => ?_, fun id q hq hopen => ⟨fun e he hhost hroom hall => ?_, fun e he hhost hfull => ?_, fun e rest he => ?_,
    qGet_empty hl hp rfl hq, fun hjob hproc htimer => ?_, fun he => ?_, fun hqs he hn => ?_⟩⟩
  · obtain ⟨t, ht, hreply, hqueues⟩ := create_queue (k := k) (tag := tag) hl hp rfl hlow hhigh hq hobj
    exact ⟨t, _, ht, hreply, s.dev.newId_unknown hobj, hqueues⟩
  · obtain ⟨x, rfl⟩ : ∃ x, e = bytesOf 16 x := ⟨natOf e, by rw [← he, bytesOf_natOf]⟩
    exact qPut_room hl hp rfl hq hopen hhost hroom hall
  · obtain ⟨x, rfl⟩ : ∃ x, e = bytesOf 16 x := ⟨natOf e, by rw [← he, bytesOf_natOf]⟩
    obtain ⟨t, ht, hreply, hqueues⟩ := qPut_full (k := k) (tag := tag) (x := x) hl hp rfl hq hopen hhost hfull
    refine ⟨t, ht, hreply, hqueues.trans (List.map_congr_left fun y _ => ?_)⟩
    rw [Queue.refuse_eq]
  · exact qGet_head hl hp rfl hq hopen he
  · obtain ⟨t, ht, hreply, hsame⟩ := query_known (k := k) (tag := tag) hl hp rfl (AlmState.known_of_queue hq)
    rw [AlmState.recordBytes_queue hjob hproc htimer hq hopen] at hreply
    exact ⟨t, ht, hreply, hsame.queues⟩
  · obtain ⟨a, q', ha, -, -, hq', hrec⟩ := Dev.usedBy_queue hq
    obtain ⟨-, hentries, -⟩ := Queue.fields_of_anywhere hrec
    obtain ⟨t, ht, hreply, hqueues⟩ := destroy_queue (k := k) (tag := tag) hl hp rfl hq ha
    have hclosed : t.dev.alm.queue? id = some { q' with closing := true } :=
      (congrArg (List.find? (fun q => q.id == id)) hqueues).trans (AlmState.destroy_closes hq' (hentries ▸ he))
    refine ⟨t, ht, hreply, ?_⟩
    rw [hclosed]
    exact congrArg (fun x : Queue => some { x with closing := true }) hrec
  · obtain rfl : q.id = id := AlmState.queue?_id hq
    obtain ⟨a, ha, hsame, hjobs⟩ := s.dev.usedBy_alm q.id
    obtain ⟨q', hq', hrec⟩ := List.map_eq_singleton_iff.mp (hsame.queues.trans (congrArg (List.map _) hqs))
    obtain ⟨hid, hentries, -⟩ := Queue.fields_of_anywhere hrec
    have hnamed : a.namedDeferred q'.id = false := by
      rw [AlmState.namedDeferred, hjobs, hid]
      exact hn
    obtain ⟨t, ht, hreply, hqueues⟩ := destroy_queue (k := k) (tag := tag) hl hp rfl hq ha
    exact ⟨t, ht, hreply, hqueues.trans (hid ▸ AlmState.destroy_frees hq' (hentries.trans he) hnamed)⟩

end Sys2Proof.Machine
end

section
/-! SUPPORT. TIMER_SET, TIMER_CANCEL, TIMER_FIRE and the refill sweep (09_almanac_scheduler.md, R222, R226, R228, R244, Tables 9.4, 9.7). -/

namespace Sys2Proof.Machine
open Sys2Proof

/-! ### TIMER_SET -/

/-- TIMER_SET with its operands (Table 9.7). -/
def timerSetRequest (act cal : Byte) (target : Word) (expiry : BitVec 40) (period : BitVec 24) (entry : DWord) : List Byte :=
  [4, 0, 0, 0, 0, 0, 0, 0] ++ [act, cal, 0, 0] ++ bytesOf 4 target.toNat ++ bytesOf 5 expiry.toNat ++ bytesOf 3 period.toNat
    ++ bytesOf 8 entry.toNat

/-- A timer as TIMER_SET describes it, not yet armed. -/
def Timer.described (id : Word) (act cal : Byte) (target : Word) (expiry : BitVec 40) (period : BitVec 24) (entry : DWord) : Timer :=
  { id := id, armed := false, action := act.toNat, cal := cal.toNat, target := target, expiry := expiry, period := period, entry := entry }

/-- A field of a request that holds a bit vector. -/
theorem ofNat_rf {w n off : Nat} {r : List Byte} {x : BitVec w} (hrf : rf r off n = natOf (bytesOf n x.toNat)) (hw : 2 ^ w = 256 ^ n) :
    BitVec.ofNat w (rf r off n) = x := by
  rw [hrf, natOf_bytesOf_of_lt (hw ▸ x.isLt), BitVec.ofNat_toNat, BitVec.setWidth_eq]

/-- The records with a timer as TIMER_SET allocates it. -/
def Dev.withTimer (d : Dev) (act cal : Byte) (target : Word) (expiry : BitVec 40) (period : BitVec 24) (entry : DWord) : AlmState :=
  { d.newId.2.alm with timers := d.alm.timers ++ [Timer.described d.newId.1 act cal target expiry period entry] }

section
variable (act cal : Byte) (target : Word) (expiry : BitVec 40) (period : BitVec 24) (entry : DWord)

theorem Dev.allocate_timerSet (d : Dev) : ∃ a, (d.withTimer act cal target expiry period entry).SameRecords a
    ∧ d.allocate (timerSetRequest act cal target expiry period entry) none = (d.newId.1, 0, { d.newId.2 with alm := a }) := by
  refine ⟨_, AlmState.makeRoom_sameRecords _ d.time.tick, ?_⟩
  have hop : rf (timerSetRequest act cal target expiry period entry) 0 1 = 4 := rfl
  have hact : rf (timerSetRequest act cal target expiry period entry) 8 1 = act.toNat := rfl
  have hcal : rf (timerSetRequest act cal target expiry period entry) 9 1 = cal.toNat := rfl
  have htarget : BitVec.ofNat 32 (rf (timerSetRequest act cal target expiry period entry) 12 4) = target := ofNat_rf rfl rfl
  have hexpiry : BitVec.ofNat 40 (rf (timerSetRequest act cal target expiry period entry) 16 5) = expiry := ofNat_rf rfl rfl
  have hperiod : BitVec.ofNat 24 (rf (timerSetRequest act cal target expiry period entry) 21 3) = period := ofNat_rf rfl rfl
  have hentry : BitVec.ofNat 64 (rf (timerSetRequest act cal target expiry period entry) 24 8) = entry := ofNat_rf rfl rfl
  have huse : ¬(4 ∈ [1, 2, 6, 7, 9, 10] ∧ rf (timerSetRequest act cal target expiry period entry) 4 4 ≠ 0) := by simp
  have hroom : 4 ∈ [1, 2, 4, 8] := by decide
  simp only [Dev.allocate, Dev.allocateRaw, hop, hact, hcal, htarget, hexpiry, hperiod, hentry, if_neg huse, if_pos hroom, Dev.onAlm]
  congr 3

end

/-- No timer is accepted where there is no room for an object (R222). -/
theorem Dev.checkTimerSet_full {d : Dev} {port : AlmPort} {r : List Byte} (h : 8388608 ≤ d.alm.objects) : d.checkTimerSet port r ≠ 0 := by
  unfold Dev.checkTimerSet
  dsimp only
  split_ifs with h1 h2 h3 h4 h5
  · decide
  · decide
  · decide
  · decide
  · decide
  · exact absurd (.inr h) h5

theorem Dev.checkReq_timerSet {d : Dev} {port : AlmPort} {r : List Byte} (hop : rf r 0 1 = 4) (h : d.checkReq port r = 0) :
    d.checkTimerSet port r = 0 := by
  unfold Dev.checkReq at h
  simp only [hop] at h
  split at h
  · cases h
  · exact h

/-- A timer that is armed now (R228), on chip or not. -/
def Timer.arm (x : Timer) (now : BitVec 40) (far : Bool) : Timer := { x with armed := true, armedAt := now, spilled := far }

theorem Dev.takeEffect_timerSet {d : Dev} {r : List Byte} {obj tm : Word} (h : rf r 0 1 = 4) : ∃ far, d.takeEffect r obj tm
    = { d with free := d.free + 1, alm := d.alm.arm obj (fun x => x.arm d.time.tick far) } :=
  ⟨decide (2048 < (BitVec.ofNat 40 (rf r 16 5) - d.time.tick).toNat) && decide ((BitVec.ofNat 40 (rf r 16 5) - d.time.tick).toNat < 2 ^ 39)
    && Config.timerSpills d.free, by simp only [Dev.takeEffect, h, Timer.arm]⟩

/-- The last timer, alone with its identifier, is armed where it stands. -/
theorem AlmState.arm_last {a : AlmState} {xs : List Timer} {x : Timer} (htimers : a.timers = xs ++ [x]) (hfresh : ∀ y ∈ xs, y.id ≠ x.id)
    (f : Timer → Timer) : (a.arm x.id f).timers = xs ++ [f x] := by
  have hnone : xs.find? (fun y => y.id == x.id) = none := by simpa using hfresh
  have hfind : a.timer? x.id = some x := by simp [AlmState.timer?, htimers, List.find?_append, hnone]
  have hrest : a.timers.filter (fun y => y.id != x.id) = xs := by
    rw [htimers, List.filter_append, List.filter_eq_self.mpr (by simpa using hfresh)]
    simp
  rw [AlmState.arm, hfind]
  dsimp only
  rw [hrest]

theorem exec_timerSet (s : State) (port : AlmPort) (bytes : List Byte) : exec (.timerSet port bytes) s
    = s.onAlmanac (fun d => d.almRow 4 port bytes none) := rfl

theorem Timer.fields_of_anywhere {x y : Timer} (h : y.anywhere = x.anywhere) : y.action = x.action ∧ y.cal = x.cal ∧ y.target = x.target
    ∧ y.expiry = x.expiry ∧ y.period = x.period ∧ y.entry = x.entry := by
  simp only [Timer.anywhere, Timer.mk.injEq] at h
  obtain ⟨-, -, haction, hcal, htarget, hexpiry, hperiod, hentry, -⟩ := h
  exact ⟨haction, hcal, htarget, hexpiry, hperiod, hentry⟩

@[simp] theorem Timer.arm_id (x : Timer) (now : BitVec 40) (far : Bool) : (x.arm now far).id = x.id := rfl

theorem timerSet_accepted {s : State} {k : Fin 8} (act cal : Byte) (target : Word) (expiry : BitVec 40) (period : BitVec 24) (entry : DWord)
    (hl : s.dev.launched = true) (hp : s.dev.cfg.plans = [])
    (hcheck : s.dev.checkReq (.control k) (timerSetRequest act cal target expiry period entry) = 0) :
    ∃ t x, exec (.timerSet (.control k) (timerSetRequest act cal target expiry period entry)) s = .next t
      ∧ t.dev.alm.timers.map Timer.anywhere = (s.dev.alm.timers ++ [x]).map Timer.anywhere ∧ s.dev.alm.known x.id = false ∧ x.armed = true
      ∧ x.action = act.toNat ∧ x.cal = cal.toNat ∧ x.target = target ∧ x.expiry = expiry ∧ x.period = period ∧ x.entry = entry
      ∧ x.armedAt = s.dev.time.tick := by
  have hop : rf (timerSetRequest act cal target expiry period entry) 0 1 = 4 := rfl
  have hobj : s.dev.alm.objects < 8388608 :=
    Nat.lt_of_not_le fun hfull => Dev.checkTimerSet_full hfull (Dev.checkReq_timerSet hop hcheck)
  have hnew := s.dev.newId_unknown hobj
  obtain ⟨-, -, hfresh, -⟩ := AlmState.known_eq_false_iff.mp hnew
  obtain ⟨a, hsame, halloc⟩ := s.dev.allocate_timerSet act cal target expiry period entry
  obtain ⟨xs, x, htimers, hxs, hx, hid, hothers⟩ := eq_append_of_map_eq Timer.anywhere Timer.id (by intro; rfl) hsame.timers hfresh
  obtain ⟨haction, hcal, htarget, hexpiry, hperiod, hentry⟩ := Timer.fields_of_anywhere hx
  obtain ⟨far, heffect⟩ := Dev.takeEffect_timerSet (d := { s.dev.newId.2 with alm := a }) (obj := s.dev.newId.1) (tm := 0) hop
  have hid' : x.id = s.dev.newId.1 := hid
  have harm := AlmState.arm_last htimers (hid ▸ hothers)
    (fun x => x.arm s.dev.time.tick far)
  rw [hid'] at harm
  rw [exec_timerSet, onAlmanac_accepted hl (padTo_of_length (by simp [timerSetRequest])) hop hcheck halloc heffect hp]
  refine ⟨_, x.arm s.dev.time.tick far, rfl, (congrArg (List.map _) harm).trans ?_, hid' ▸ hnew, rfl,
    haction, hcal, htarget, hexpiry, hperiod, hentry, rfl⟩
  rw [List.map_append, hxs, List.map_append]

/-! ### TIMER_CANCEL -/

theorem exec_timerCancel (s : State) (port : AlmPort) (bytes : List Byte) : exec (.timerCancel port bytes) s
    = s.onAlmanac (fun d => d.almRow 5 port bytes none) := rfl

theorem timerCancel_only {s : State} {k : Fin 8} {x : Timer} {bytes : List Byte} (hl : s.dev.launched = true) (hp : s.dev.cfg.plans = [])
    (hr : padTo 32 bytes = almRequest 5 0 x.id []) (htimers : s.dev.alm.timers = [x]) :
    ∃ t, exec (.timerCancel (.control k) bytes) s = .next t ∧ t.dev.alm.timers = [] := by
  have hop : rf (almRequest 5 0 x.id []) 0 1 = 5 := rfl
  have hfind : s.dev.alm.timer? x.id = some x := by simp [AlmState.timer?, htimers]
  have hknown : s.dev.alm.known x.id = true := by simp [AlmState.known, hfind]
  have hcheck : s.dev.checkReq (.control k) (almRequest 5 0 x.id []) = 0 := by simp [Dev.checkReq, reservedSet_object, hfind, hknown]
  have halloc : s.dev.allocate (almRequest 5 0 x.id []) none = (x.id, 0, s.dev) := by simp [Dev.allocate, Dev.allocateRaw]
  have heffect : s.dev.takeEffect (almRequest 5 0 x.id []) x.id 0
      = s.dev.onAlm (fun a => { a with timers := a.timers.filter (fun t => t.id != x.id) }) := by simp only [Dev.takeEffect, hop]
  rw [exec_timerCancel, onAlmanac_accepted hl hr hop hcheck halloc heffect hp]
  exact ⟨_, rfl, (congrArg (List.filter _) htimers).trans (by simp)⟩

end Sys2Proof.Machine
end

section
/-! SUPPORT. What a timer that fires leaves (09_almanac_scheduler.md, R226, R228, R229, R244, Table 9.4). -/

namespace Sys2Proof.Machine
open Sys2Proof

/-! ### Actions leave the timers -/

/-- The same timers and the same configuration. -/
def Dev.TimersKept (a b : Dev) : Prop := b.alm.timers = a.alm.timers ∧ b.cfg = a.cfg

theorem Dev.TimersKept.refl (d : Dev) : d.TimersKept d := ⟨rfl, rfl⟩

theorem Dev.TimersKept.trans {a b c : Dev} (h1 : a.TimersKept b) (h2 : b.TimersKept c) : a.TimersKept c :=
  ⟨h2.1.trans h1.1, h2.2.trans h1.2⟩

theorem Dev.makeReady_timersKept (d : Dev) (id : Word) (gated : Bool) : d.TimersKept (d.makeReady id gated) := ⟨rfl, rfl⟩

theorem Dev.gatesDone_timersKept (d : Dev) (j : Job) : d.TimersKept (d.gatesDone j) := by
  unfold Dev.gatesDone
  extract_lets eq ready
  have hready : d.TimersKept ready := d.makeReady_timersKept j.id true
  split
  · exact ⟨rfl, rfl⟩
  · split
    · generalize (ready.eqWaiting j 2).filter _ = xs
      generalize ready = d1 at hready
      induction xs generalizing d1 with
      | nil => exact hready
      | cons x xs ih => exact ih _ (hready.trans (d1.makeReady_timersKept x.id true))
    · exact hready

theorem Dev.eventTo_timersKept (d : Dev) (id : Word) : d.TimersKept (d.eventTo id) := by
  unfold Dev.eventTo
  split
  · split_ifs
    · exact .refl d
    · exact d.gatesDone_timersKept _
    · exact ⟨rfl, rfl⟩
  · exact .refl d

theorem Dev.releaseGates_timersKept (d : Dev) (id : Word) : d.TimersKept (d.releaseGates id) := by
  unfold Dev.releaseGates
  split
  · split
    · exact .refl d
    · exact Dev.TimersKept.trans ⟨rfl, rfl⟩ (Dev.gatesDone_timersKept _ _)
  · exact .refl d

theorem Dev.putQueue_timersKept (d : Dev) (id : Word) (entry : List Byte) : d.TimersKept (d.putQueue id entry) := by
  unfold Dev.putQueue
  split
  · exact .refl d
  · split_ifs
    · exact ⟨congrArg AlmState.timers (d.post_told _ _).alm, (d.post_told _ _).cfg⟩
    · exact ⟨rfl, rfl⟩
    · exact ⟨rfl, rfl⟩

theorem Dev.timerAction_timersKept (d : Dev) (x : Timer) : d.TimersKept (d.timerAction x) := by
  unfold Dev.timerAction
  split
  · exact d.releaseGates_timersKept _
  · exact d.eventTo_timersKept _
  · exact d.putQueue_timersKept _ _

/-! ### TIMER_FIRE -/

theorem exec_timerFire (s : State) : exec .timerFire s = execTimerFire s := rfl

/-- An only timer is due where it is armed, was armed at another tick and has expired (R228). -/
theorem firstDue_only (now : BitVec 40) (x : Timer) :
    firstDue now [x] = if x.armed = true ∧ x.armedAt ≠ now ∧ (now - x.expiry).toNat ≤ 2 ^ 39 then some x else none := by
  by_cases h : x.armed = true ∧ x.armedAt ≠ now ∧ (now - x.expiry).toNat ≤ 2 ^ 39
  · obtain ⟨harmed, hat, hpast⟩ := id h
    have hdue : (x.armed && x.armedAt != now && tickPast now x.expiry) = true := by
      simp only [harmed, tickPast, hpast, bne_iff_ne.mpr hat, decide_true, Bool.and_self]
    rw [firstDue, List.filter_singleton, hdue, if_pos h]
    rfl
  · have hnot : (x.armed && x.armedAt != now && tickPast now x.expiry) = false := Bool.eq_false_iff.mpr fun hdue => by
      simp only [tickPast, Bool.and_eq_true, bne_iff_ne, decide_eq_true_eq, and_assoc] at hdue
      exact h hdue
    rw [firstDue, List.filter_singleton, hnot, if_neg h]
    rfl

/-- The timers once the only one has fired: none, or it again, armed for a period later (R228). -/
def Timer.after (x : Timer) (now : BitVec 40) : List Timer :=
  if x.period = 0 then [] else [{ x with expiry := x.expiry + x.period.setWidth 40, armedAt := now, spilled := false }]

theorem Dev.fireTimer_only {d : Dev} {x : Timer} (h : d.alm.timers = [x]) :
    d.fireTimer x = (d.onAlm (fun a => { a with timers := x.after d.time.tick })).timerAction x := by
  have hrest : d.alm.timers.filter (fun y => y.id != x.id) = [] := by simp [h]
  unfold Dev.fireTimer Timer.after
  dsimp only
  rw [hrest, List.nil_append]
  rfl

theorem timerFire_due {s : State} {x : Timer} (hl : s.dev.launched = true) (hp : s.dev.cfg.plans = []) (htimers : s.dev.alm.timers = [x])
    (harmed : x.armed = true) (hat : x.armedAt ≠ s.dev.time.tick) (hpast : (s.dev.time.tick - x.expiry).toNat ≤ 2 ^ 39) :
    exec .timerFire s = .next { s with dev :=
      (s.dev.onAlm (fun a => { a with timers := x.after s.dev.time.tick })).timerAction x } := by
  have hkept := (s.dev.onAlm (fun a => { a with timers := x.after s.dev.time.tick })).timerAction_timersKept x
  rw [exec_timerFire, execTimerFire]
  refine State.onAlmanac_next hl ?_ (hkept.2 ▸ hp)
  rw [htimers, firstDue_only, if_pos ⟨harmed, hat, hpast⟩]
  exact Dev.fireTimer_only htimers

theorem timerFire_early {s : State} {x : Timer} (hl : s.dev.launched = true) (hp : s.dev.cfg.plans = []) (htimers : s.dev.alm.timers = [x])
    (h : x.armed = false ∨ x.armedAt = s.dev.time.tick ∨ 2 ^ 39 < (s.dev.time.tick - x.expiry).toNat) : exec .timerFire s = .next s := by
  have hnot : ¬(x.armed = true ∧ x.armedAt ≠ s.dev.time.tick ∧ (s.dev.time.tick - x.expiry).toNat ≤ 2 ^ 39) := by
    rintro ⟨harmed, hat, hpast⟩
    rcases h with hoff | hnow | hlate
    · simp [harmed] at hoff
    · exact hat hnow
    · exact Nat.not_lt.mpr hpast hlate
  rw [exec_timerFire, execTimerFire]
  refine State.onAlmanac_same hl hp ?_
  rw [htimers, firstDue_only, if_neg hnot]

/-- With action 3 the entry of a timer goes into its queue (Table 9.4). -/
theorem Dev.timerAction_put {d : Dev} {x : Timer} {q : Queue} (haction : x.action = 3) (hq : d.alm.OnlyQueue q) (hid : q.id = x.target) :
    d.timerAction x = d.onAlm (fun a => { a with queues := [q.put (bytesOf 8 x.entry.toNat) d.time.tick a.shared] }) := by
  rw [← Dev.putQueue_only hq, hid]
  simp only [Dev.timerAction, haction]

/-! ### The refill sweep -/

/-- A timer that comes back on chip where it is due or nearly so (R244). -/
def Timer.refilled (now : BitVec 40) (x : Timer) : Timer :=
  if (now - x.expiry).toNat ≤ 2 ^ 39 ∨ (x.expiry - now).toNat ≤ 2048 then { x with spilled := false } else x

theorem exec_timerRefillSweep (s : State) : exec .timerRefillSweep s = s.onAlmanac (fun d =>
    if d.time.tick.toNat % 256 ≠ 0 then d
    else d.onAlm (fun a => { a with timers := a.timers.map (fun t =>
      if tickPast d.time.tick t.expiry || decide ((t.expiry - d.time.tick).toNat ≤ 2048) then { t with spilled := false } else t) })) := rfl

theorem timerRefillSweep_due {s : State} (hl : s.dev.launched = true) (hp : s.dev.cfg.plans = []) (h : s.dev.time.tick.toNat % 256 = 0) :
    exec .timerRefillSweep s = .next { s with dev := { s.dev with alm := { s.dev.alm with
      timers := s.dev.alm.timers.map (Timer.refilled s.dev.time.tick) } } } := by
  rw [exec_timerRefillSweep]
  refine State.onAlmanac_next hl ?_ hp
  rw [if_neg (not_not.mpr h)]
  simp only [tickPast, Bool.or_eq_true, decide_eq_true_eq]
  rfl

theorem timerRefillSweep_other {s : State} (hl : s.dev.launched = true) (hp : s.dev.cfg.plans = []) (h : s.dev.time.tick.toNat % 256 ≠ 0) :
    exec .timerRefillSweep s = .next s := by
  rw [exec_timerRefillSweep]
  exact State.onAlmanac_same hl hp (if_pos h)

/-- Settles O26: a timer is set, cancelled, fires or does not, and the sweep brings those near expiry back. -/
theorem timersAreSetCancelledAndFire : Obligations.TimersAreSetCancelledAndFire := by
  unfold Obligations.TimersAreSetCancelledAndFire
  intro s k hl hp
  refine ⟨fun act cal target expiry period entry hcheck => timerSet_accepted act cal target expiry period entry hl hp hcheck,
    fun x htimers => ⟨timerCancel_only hl hp rfl htimers, fun harmed hat hpast => ?_, timerFire_early hl hp htimers⟩,
    timerRefillSweep_due hl hp, timerRefillSweep_other hl hp⟩
  have hkept := (s.dev.onAlm (fun a => { a with timers := x.after s.dev.time.tick })).timerAction_timersKept x
  refine ⟨_, timerFire_due hl hp htimers harmed hat hpast, fun h => hkept.1.trans (if_pos h), fun h => hkept.1.trans (if_neg h),
    fun q haction hqueues hid hhost hroom hall => ?_⟩
  have hput := Dev.timerAction_put (d := s.dev.onAlm (fun a => { a with timers := x.after s.dev.time.tick })) haction
    ⟨hqueues, hhost, hroom, hall⟩ hid
  refine ⟨_, congrArg (fun d => d.alm.queues) hput, ?_⟩
  rw [Queue.put]
  rfl

end Sys2Proof.Machine
end

section
/-! SUPPORT. JOB_ENQ and EVENT at a control core's port (09_almanac_scheduler.md, R222 to R226, Tables 9.2, 9.7, 9.8). -/

namespace Sys2Proof.Machine
open Sys2Proof

/-! ### The newest job -/

/-- The last job, alone with its identifier. -/
structure AlmState.LastJob (a : AlmState) (js : List Job) (j : Job) : Prop where
  jobs : a.jobs = js ++ [j]
  fresh : ∀ x ∈ js, x.id ≠ j.id

theorem AlmState.LastJob.job? {a : AlmState} {js : List Job} {j : Job} (h : a.LastJob js j) : a.job? j.id = some j := by
  have hnone : js.find? (fun x => x.id == j.id) = none := by simpa using h.fresh
  simp [AlmState.job?, h.jobs, List.find?_append, hnone]

theorem AlmState.LastJob.updJob {a : AlmState} {js : List Job} {j : Job} (h : a.LastJob js j) {f : Job → Job} (hf : (f j).id = j.id) :
    (a.updJob j.id f).LastJob js (f j) := by
  refine ⟨?_, fun x hx => hf ▸ h.fresh x hx⟩
  rw [AlmState.updJob, h.jobs]
  exact map_ite_last (fun x : Job => x.id = j.id) f h.fresh rfl

/-- A job that has been allocated is the newest wherever the records stand. -/
theorem AlmState.SameRecords.lastJob {a b : AlmState} (h : a.SameRecords b) {js : List Job} {j : Job} (hlast : a.LastJob js j) :
    ∃ js' j', b.LastJob js' j' ∧ js'.map Job.anywhere = js.map Job.anywhere ∧ j'.anywhere = j.anywhere ∧ j'.id = j.id := by
  obtain ⟨js', j', hjobs, hjs, hj, hid, hothers⟩ :=
    eq_append_of_map_eq Job.anywhere Job.id (by intro; rfl) (hlast.jobs ▸ h.jobs) hlast.fresh
  exact ⟨js', j', ⟨hjobs, hid ▸ hothers⟩, hjs, hj, hid⟩

/-! ### JOB_ENQ: what it allocates -/

/-- JOB_ENQ without flags, link and fallback timer (Table 9.8). -/
def jobEnqRequest (tag : BitVec 16) (desc : DWord) (deadline : BitVec 40) (cls pool unit gates : Byte) (cell : BitVec 16) : List Byte :=
  [1, 0] ++ bytesOf 2 tag.toNat ++ [0, 0, 0, 0] ++ bytesOf 8 desc.toNat ++ bytesOf 5 deadline.toNat ++ [cls, pool, unit]
    ++ [gates, 0] ++ bytesOf 2 cell.toNat ++ [0, 0, 0, 0]

/-- A job as JOB_ENQ describes it, before it takes effect. -/
def Job.described (id : Word) (desc : DWord) (deadline : BitVec 40) (cls pool unit gates : Byte) (cell : BitVec 16) : Job :=
  { id := id, st := .pending, cls := cls.toNat, pool := pool.toNat, unit := unit.toNat, gates := gates.toNat, cell := cell.toNat
    desc := desc, deadline := deadline }

/-- The records with a job as JOB_ENQ allocates it. -/
def Dev.withJob (d : Dev) (j : Job) : AlmState := { d.newId.2.alm with jobs := d.alm.jobs ++ [j] }

section
variable (tag : BitVec 16) (desc : DWord) (deadline : BitVec 40) (cls pool unit gates : Byte) (cell : BitVec 16)

theorem jobOf_jobEnqRequest (id : Word) : jobOf (jobEnqRequest tag desc deadline cls pool unit gates cell) id none
    = Job.described id desc deadline cls pool unit gates cell := by
  have hflags : rf (jobEnqRequest tag desc deadline cls pool unit gates cell) 1 1 = 0 := rfl
  have hcls : rf (jobEnqRequest tag desc deadline cls pool unit gates cell) 21 1 = cls.toNat := rfl
  have hpool : rf (jobEnqRequest tag desc deadline cls pool unit gates cell) 22 1 = pool.toNat := rfl
  have hunit : rf (jobEnqRequest tag desc deadline cls pool unit gates cell) 23 1 = unit.toNat := rfl
  have hgates : rf (jobEnqRequest tag desc deadline cls pool unit gates cell) 24 1 = gates.toNat := rfl
  have hcell : rf (jobEnqRequest tag desc deadline cls pool unit gates cell) 26 2 = cell.toNat :=
    natOf_bytesOf_of_lt (n := 2) (x := cell.toNat) cell.isLt
  have hdesc : BitVec.ofNat 64 (rf (jobEnqRequest tag desc deadline cls pool unit gates cell) 8 8) = desc := ofNat_rf rfl rfl
  have hdeadline : BitVec.ofNat 40 (rf (jobEnqRequest tag desc deadline cls pool unit gates cell) 16 5) = deadline := ofNat_rf rfl rfl
  have hlink : rf (jobEnqRequest tag desc deadline cls pool unit gates cell) 4 4 = 0 := rfl
  simp only [jobOf, hflags, hcls, hpool, hunit, hgates, hcell, hdesc, hdeadline, hlink]
  rfl

theorem Dev.allocate_jobEnq (d : Dev) : ∃ a, (d.withJob (Job.described d.newId.1 desc deadline cls pool unit gates cell)).SameRecords a
    ∧ d.allocate (jobEnqRequest tag desc deadline cls pool unit gates cell) none = (d.newId.1, 0, { d.newId.2 with alm := a }) := by
  refine ⟨_, AlmState.makeRoom_sameRecords _ d.time.tick, ?_⟩
  have hop : rf (jobEnqRequest tag desc deadline cls pool unit gates cell) 0 1 = 1 := rfl
  have hlink : rf (jobEnqRequest tag desc deadline cls pool unit gates cell) 4 4 = 0 := rfl
  have htimeout : rf (jobEnqRequest tag desc deadline cls pool unit gates cell) 28 4 = 0 := rfl
  have huse : ¬(1 ∈ [1, 2, 6, 7, 9, 10] ∧ (0 : Nat) ≠ 0) := by simp
  have hroom : 1 ∈ [1, 2, 4, 8] := by decide
  simp only [Dev.allocate, Dev.allocateRaw, hop, hlink, htimeout, jobOf_jobEnqRequest, if_neg huse, if_pos hroom, if_true, Dev.onAlm]
  congr 3

end

/-- No job is accepted where there is no room for an object (R243). -/
theorem Dev.checkJobEnq_full {d : Dev} {port : AlmPort} {r : List Byte} (h : 8388608 ≤ d.alm.objects) : d.checkJobEnq port r ≠ 0 := by
  unfold Dev.checkJobEnq
  dsimp only
  split_ifs with h1 h2 h3 h4 h5 h6
  · decide
  · decide
  · decide
  · exact h4
  · decide
  · decide
  · omega
  · omega
  · omega

theorem Dev.checkReq_jobEnq {d : Dev} {port : AlmPort} {r : List Byte} (hop : rf r 0 1 = 1) (h : d.checkReq port r = 0) :
    d.checkJobEnq port r = 0 := by
  unfold Dev.checkReq at h
  simp only [hop] at h
  split at h
  · cases h
  · exact h

/-! ### JOB_ENQ: what it does -/

theorem AlmState.arm_jobs (a : AlmState) (id : Word) (f : Timer → Timer) : (a.arm id f).jobs = a.jobs := by
  unfold AlmState.arm
  split
  · rfl
  · rfl

theorem Dev.joinProc_outside {d : Dev} {id : Word} {j : Job} (hj : d.alm.job? id = some j) (hproc : j.proc = false) :
    d.joinProc id = d := by
  simp [Dev.joinProc, hj, hproc]

/-- A job that makes ready is last as before (R226). -/
theorem Dev.makeReady_lastJob {d : Dev} {js : List Job} {j : Job} (h : d.alm.LastJob js j) : ∃ chip,
    (d.makeReady j.id false).alm.LastJob js { j with st := .ready, gates := 0, order := d.alm.nextOrder, readyAt := d.time.tick, chip := chip } := by
  have hupd := h.updJob (f := fun j => { j with
    st := .ready, gates := 0, order := d.alm.nextOrder, readyAt := d.time.tick, chip := j.cls != 2 || d.alm.listOnChip j }) rfl
  exact ⟨_, ⟨hupd.jobs, hupd.fresh⟩⟩

/-- The device once a job has joined the jobs that wait, its fallback timer armed (R223). -/
def Dev.enqueued (d : Dev) (r : List Byte) (obj tm : Word) : Dev :=
  ((d.onAlm (fun a => a.updJob obj (fun j => { j with st := .waiting }))).joinProc obj).onAlm (fun a => a.arm tm (fun t =>
    { t with armed := true, armedAt := d.time.tick, expiry := d.time.tick + BitVec.ofNat 40 (rf r 28 4) }))

/-- A job of no slot whose record is not lost is READY at once where it has no gate (R223). -/
theorem Dev.takeEffect_enqueued {d : Dev} {r : List Byte} {obj tm : Word} {j : Job} (hop : rf r 0 1 = 1)
    (hj : (d.enqueued r obj tm).alm.job? obj = some j) (hserves : j.serves = none) (hlost : j.lost = false) :
    d.takeEffect r obj tm = if rf r 24 1 = 0 then (d.enqueued r obj tm).makeReady obj false else d.enqueued r obj tm := by
  unfold Dev.enqueued at hj ⊢
  simp only [Dev.takeEffect, hop, hj, hserves, hlost]
  rfl

/-- A job outside a procession waits as the last of the jobs. -/
theorem Dev.enqueued_lastJob {d : Dev} {js : List Job} {j : Job} (h : d.alm.LastJob js j) (hproc : j.proc = false) (r : List Byte) (tm : Word) :
    (d.enqueued r j.id tm).cfg = d.cfg ∧ (d.enqueued r j.id tm).alm.LastJob js { j with st := .waiting } := by
  have hwaits := h.updJob (f := fun j => { j with st := .waiting }) rfl
  unfold Dev.enqueued
  rw [Dev.joinProc_outside (d := d.onAlm (fun a => a.updJob j.id (fun j => { j with st := .waiting }))) hwaits.job? hproc]
  exact ⟨rfl, (AlmState.arm_jobs _ _ _).trans hwaits.jobs, hwaits.fresh⟩

theorem Dev.takeEffect_jobEnq {d : Dev} {r : List Byte} {js : List Job} {j : Job} {tm : Word} (hop : rf r 0 1 = 1) (h : d.alm.LastJob js j)
    (hproc : j.proc = false) (hserves : j.serves = none) (hlost : j.lost = false) (hgates : j.gates = rf r 24 1) :
    (d.takeEffect r j.id tm).cfg = d.cfg ∧ ∃ order readyAt chip, (d.takeEffect r j.id tm).alm.LastJob js
      { j with st := if j.gates = 0 then .ready else .waiting, order := order, readyAt := readyAt, chip := chip } := by
  obtain ⟨hcfg, hlast⟩ := Dev.enqueued_lastJob h hproc r tm
  rw [Dev.takeEffect_enqueued hop hlast.job? hserves hlost, ← hgates]
  by_cases hzero : j.gates = 0
  · obtain ⟨chip, hready⟩ := Dev.makeReady_lastJob hlast
    rw [if_pos hzero, if_pos hzero, hzero]
    exact ⟨hcfg, _, _, chip, hready⟩
  · rw [if_neg hzero, if_neg hzero]
    exact ⟨hcfg, j.order, j.readyAt, j.chip, hlast⟩

theorem exec_jobEnq (s : State) (port : AlmPort) (bytes : List Byte) (serves : Option Serves) : exec (.jobEnq port bytes serves) s
    = s.onAlmanac (fun d => d.almRow 1 port bytes serves) := rfl

/-- What a job keeps of its description wherever its record stands. -/
theorem Job.ofAnywhere {j j' : Job} (h : j'.anywhere = j.anywhere) : ∃ chip, j' = { j with chip := chip } :=
  ⟨j'.chip, congrArg (fun x : Job => { x with chip := j'.chip }) h⟩

theorem jobEnq_accepted {s : State} {k : Fin 8} (tag : BitVec 16) (desc : DWord) (deadline : BitVec 40) (cls pool unit gates : Byte)
    (cell : BitVec 16) (hl : s.dev.launched = true) (hp : s.dev.cfg.plans = [])
    (hcheck : s.dev.checkReq (.control k) (jobEnqRequest tag desc deadline cls pool unit gates cell) = 0) :
    ∃ t js order readyAt chip, exec (.jobEnq (.control k) (jobEnqRequest tag desc deadline cls pool unit gates cell) none) s = .next t
      ∧ s.dev.alm.known s.dev.newId.1 = false ∧ t.repliedTo k tag 0 s.dev.newId.1 []
      ∧ js.map Job.anywhere = s.dev.alm.jobs.map Job.anywhere ∧ t.dev.alm.jobs = js ++
        [{ Job.described s.dev.newId.1 desc deadline cls pool unit gates cell with
            st := if gates.toNat = 0 then .ready else .waiting, order := order, readyAt := readyAt, chip := chip }] := by
  have hop : rf (jobEnqRequest tag desc deadline cls pool unit gates cell) 0 1 = 1 := rfl
  have hgates : gates.toNat = rf (jobEnqRequest tag desc deadline cls pool unit gates cell) 24 1 := rfl
  have htag : rf (jobEnqRequest tag desc deadline cls pool unit gates cell) 2 2 = tag.toNat :=
    natOf_bytesOf_of_lt (n := 2) (x := tag.toNat) tag.isLt
  have hobj : s.dev.alm.objects < 8388608 :=
    Nat.lt_of_not_le fun hfull => Dev.checkJobEnq_full hfull (Dev.checkReq_jobEnq hop hcheck)
  have hnew := s.dev.newId_unknown hobj
  obtain ⟨hfresh, -⟩ := AlmState.known_eq_false_iff.mp hnew
  obtain ⟨a, hsame, halloc⟩ := s.dev.allocate_jobEnq tag desc deadline cls pool unit gates cell
  obtain ⟨js, j, hlast, hjs, hj, -⟩ := hsame.lastJob ⟨rfl, hfresh⟩
  obtain ⟨chip, rfl⟩ := Job.ofAnywhere hj
  obtain ⟨hcfg, order, readyAt, chip', hdone⟩ :=
    Dev.takeEffect_jobEnq (d := { s.dev.newId.2 with alm := a }) (tm := 0) hop hlast rfl rfl rfl hgates
  have hplans : (({ s.dev.newId.2 with alm := a } : Dev).takeEffect (jobEnqRequest tag desc deadline cls pool unit gates cell)
      s.dev.newId.1 0).cfg.plans = [] := (congrArg _ hcfg).trans hp
  rw [exec_jobEnq, onAlmanac_accepted hl (padTo_of_length (by simp [jobEnqRequest])) hop hcheck halloc rfl hplans,
    Dev.replyData_none (by rw [hop]; decide) (by rw [hop]; decide), almReply, htag]
  exact ⟨_, js, order, readyAt, chip', rfl, hnew, rfl, hjs, hdone.jobs⟩

/-! ### EVENT -/

theorem exec_event (s : State) (port : AlmPort) (bytes : List Byte) : exec (.event port bytes) s
    = s.onAlmanac (fun d => d.almRow 3 port bytes none) := rfl

/-- EVENT for the only job (R226). -/
theorem event_only {s : State} {k : Fin 8} {j : Job} {bytes : List Byte} {d : Dev} (hl : s.dev.launched = true)
    (hr : padTo 32 bytes = almRequest 3 0 j.id []) (hjobs : s.dev.alm.jobs = [j]) (hd : s.dev.eventTo j.id = d) (hp : d.cfg.plans = []) :
    ∃ t, exec (.event (.control k) bytes) s = .next t ∧ t.dev.alm.jobs = d.alm.jobs := by
  have hop : rf (almRequest 3 0 j.id []) 0 1 = 3 := rfl
  have hfind := AlmState.job?_only hjobs
  have hknown : s.dev.alm.known j.id = true := by simp [AlmState.known, hfind]
  have hcheck : s.dev.checkReq (.control k) (almRequest 3 0 j.id []) = 0 := by simp [Dev.checkReq, reservedSet_object, hfind, hknown]
  have halloc : s.dev.allocate (almRequest 3 0 j.id []) none = (j.id, 0, s.dev) := by simp [Dev.allocate, Dev.allocateRaw]
  have heffect : s.dev.takeEffect (almRequest 3 0 j.id []) j.id 0 = d := by simp only [Dev.takeEffect, hop, hd]
  rw [exec_event, onAlmanac_accepted hl hr hop hcheck halloc heffect hp]
  exact ⟨_, rfl, rfl⟩

section
variable {d : Dev} {j : Job} (hjobs : d.alm.jobs = [j])
include hjobs

/-- One gate of more than one is done. -/
theorem Dev.eventTo_lowers (hst : j.st = .waiting) (hgates : 2 ≤ j.gates) :
    d.eventTo j.id = d.onAlm (fun a => { a with jobs := [{ j with gates := j.gates - 1 }] }) := by
  have hmore : ¬j.gates ≤ 1 := by omega
  unfold Dev.eventTo
  rw [AlmState.job?_only hjobs]
  dsimp only
  rw [if_neg (not_not.mpr hst), if_neg hmore, Dev.onAlm_updJob_only hjobs]

/-- The last gate of a job outside the equaliser pool is done. -/
theorem Dev.eventTo_ready (hst : j.st = .waiting) (hgates : j.gates ≤ 1) (hpool : j.pool ≠ 4) : d.eventTo j.id = d.makeReady j.id true := by
  have hother : (j.pool == 4 && j.serves.isSome) = false := by simp [hpool]
  unfold Dev.eventTo
  rw [AlmState.job?_only hjobs]
  dsimp only
  rw [if_neg (not_not.mpr hst), if_pos hgates]
  simp [Dev.gatesDone, hother]

theorem Dev.eventTo_other (hst : j.st ≠ .waiting) : d.eventTo j.id = d := by
  unfold Dev.eventTo
  rw [AlmState.job?_only hjobs]
  exact if_pos hst

/-- The only job is READY, at the end of those that became so (R226). -/
theorem Dev.makeReady_only : ∃ chip deadline, (d.makeReady j.id true).alm.jobs = [{ j with
    st := .ready, gates := 0, order := d.alm.nextOrder, readyAt := d.time.tick, chip := chip, deadline := deadline }] :=
  ⟨_, _, congrArg AlmState.jobs (AlmState.updJob_only hjobs (fun j => { j with
    st := .ready, gates := 0, order := d.alm.nextOrder, readyAt := d.time.tick, chip := j.cls != 2 || d.alm.listOnChip j
    deadline := d.releaseDeadline j }))⟩

end

end Sys2Proof.Machine
end

section
/-! SUPPORT. SKIP_ENQ on an open procession (09_almanac_scheduler.md, R222, R240, R241). -/

namespace Sys2Proof.Machine
open Sys2Proof

/-! ### What does not turn on where records stand -/

/-- Whether a record is found does not turn on what another map does not see. -/
theorem isSome_find?_of_map_eq {α : Type} (g : α → α) (p : α → Bool) (hp : p ∘ g = p) {xs ys : List α} (h : ys.map g = xs.map g) :
    (ys.find? p).isSome = (xs.find? p).isSome := by
  have hfind (zs : List α) : ((zs.map g).find? p).isSome = (zs.find? p).isSome := by rw [List.find?_map, Option.isSome_map, hp]
  rw [← hfind ys, h, hfind]

theorem AlmState.SameRecords.known {a b : AlmState} (h : a.SameRecords b) (id : Word) : b.known id = a.known id := by
  have hjobs : (b.job? id).isSome = (a.job? id).isSome := isSome_find?_of_map_eq _ _ rfl h.jobs
  have hprocs : (b.proc? id).isSome = (a.proc? id).isSome := isSome_find?_of_map_eq _ _ rfl h.procs
  have htimers : (b.timer? id).isSome = (a.timer? id).isSome := isSome_find?_of_map_eq _ _ rfl h.timers
  have hqueues : (b.queue? id).isSome = (a.queue? id).isSome := isSome_find?_of_map_eq _ _ rfl h.queues
  rw [AlmState.known, AlmState.known, hjobs, hprocs, htimers, hqueues]

theorem length_of_map_eq {α β : Type} {g : α → β} {xs ys : List α} (h : ys.map g = xs.map g) : ys.length = xs.length := by
  simpa using congrArg List.length h

theorem AlmState.SameRecords.objects {a b : AlmState} (h : a.SameRecords b) : b.objects = a.objects := by
  rw [AlmState.objects, AlmState.objects, length_of_map_eq h.jobs, length_of_map_eq h.procs, length_of_map_eq h.timers, length_of_map_eq h.queues]

/-! ### The marker -/

/-- A SKIP marker as SKIP_ENQ allocates it (R241). -/
def Job.marker (id link : Word) : Job := { id := id, st := .pending, cls := 3, link := link, proc := true }

/-- A SKIP marker that has taken its place in the procession (R241). -/
def Job.skipMarker (id link pseq : Word) (doneTick : Word) (chip : Bool) : Job :=
  { Job.marker id link with st := .complete, aflags := 2, doneTick := doneTick, pseq := pseq, chip := chip }

theorem Dev.allocate_skipEnq (d : Dev) (id : Word) : ∃ a,
    ((d.usedBy id).withJob (Job.marker (d.usedBy id).newId.1 id)).SameRecords a
      ∧ d.allocate (almRequest 2 0 id []) none = ((d.usedBy id).newId.1, 0, { (d.usedBy id).newId.2 with alm := a }) := by
  refine ⟨_, AlmState.makeRoom_sameRecords _ d.time.tick, ?_⟩
  have huse := d.usedBy_eq id (op := (2 : Byte).toNat) (by decide)
  have hop : (2 : Byte).toNat = 2 := rfl
  have hroom : 2 ∈ [1, 2, 4, 8] := by decide
  simp only [Dev.allocate, rf_almRequest_op, rf_almRequest_obj, huse]
  simp only [Dev.allocateRaw, rf_almRequest_op, rf_almRequest_obj, hop, if_pos hroom, BitVec.ofNat_toNat, BitVec.setWidth_eq, Dev.onAlm]
  congr 3

/-- A procession with one PSEQ more given (R231); the first of an empty one becomes head now. -/
def Procession.joined (p : Procession) (now : BitVec 40) : Procession :=
  { p with nextSeq := p.nextSeq + 1, headSince := if p.nextSeq = p.headSeq then now else p.headSince, chip := true, used := now }

/-- The newest job takes the next PSEQ of the only procession (R231). -/
theorem Dev.joinProc_only {d : Dev} {js : List Job} {j : Job} {p : Procession} (hlast : d.alm.LastJob js j) (hproc : j.proc = true)
    (hprocs : d.alm.procs = [p]) (hid : p.id = j.link) : d.joinProc j.id = d.onAlm (fun a =>
      (a.updJob j.id (fun j => { j with pseq := p.nextSeq })).updProc p.id (fun p => p.joined d.time.tick)) := by
  have hfind : d.alm.proc? j.link = some p := hid ▸ AlmState.proc?_only hprocs
  unfold Dev.joinProc
  rw [hlast.job?]
  dsimp only
  rw [hproc, hfind]
  rfl

/-- A marker joins its procession, complete; where the head is not, none is released (R240, R241). -/
theorem Dev.takeEffect_skipEnq {d : Dev} {js : List Job} {p : Procession} {new : Word} {chip : Bool}
    (hlast : d.alm.LastJob js { Job.marker new p.id with chip := chip }) (hprocs : d.alm.procs = [p]) (hbusy : p.nextSeq ≠ p.headSeq)
    (hhead : ∀ x ∈ js, x.proc = true → x.link = p.id → x.pseq = p.headSeq → x.st ≠ .complete) :
    (d.takeEffect (almRequest 2 0 p.id []) new 0).cfg = d.cfg
      ∧ (d.takeEffect (almRequest 2 0 p.id []) new 0).alm.jobs = js ++ [Job.skipMarker new p.id p.nextSeq (d.time.tick.setWidth 32) chip]
      ∧ (d.takeEffect (almRequest 2 0 p.id []) new 0).alm.procs = [p.joined d.time.tick] := by
  have hop : rf (almRequest 2 0 p.id []) 0 1 = 2 := rfl
  let f : Job → Job := fun j => { j with st := .complete, aflags := if j.lost then 66 else 2, doneTick := d.time.tick.setWidth 32 }
  have hcomplete := hlast.updJob (f := f) rfl
  have hjoin := Dev.joinProc_only (d := d.onAlm (fun a => a.updJob new f)) hcomplete rfl hprocs rfl
  let a : AlmState := (d.alm.updJob new f).updJob new (fun j => { j with pseq := p.nextSeq })
  have hjoined : a.LastJob js (Job.skipMarker new p.id p.nextSeq (d.time.tick.setWidth 32) chip) := hcomplete.updJob rfl
  let d1 : Dev := { d with alm := a.updProc p.id (fun p => p.joined d.time.tick) }
  have hprocs1 : d1.alm.procs = [p.joined d.time.tick] := congrArg AlmState.procs (AlmState.updProc_only (a := a) hprocs _)
  have hwaits : Dev.releaseHeads (d1.alm.jobs.length + 1) p.id d1 = d1 := by
    refine Dev.releaseHeads_waits (p := p.joined d.time.tick) _ (AlmState.proc?_only hprocs1) (fun x hx => ?_)
    rcases List.mem_append.mp (hjoined.jobs ▸ hx : x ∈ js ++ [_]) with hold | hnew
    · exact hhead x hold
    · rw [List.mem_singleton.mp hnew]
      exact fun _ _ hseq => absurd hseq hbusy
  have heffect : d.takeEffect (almRequest 2 0 p.id []) new 0 = d1 := by
    refine Eq.trans ?_ hwaits
    simp only [Dev.takeEffect, hop, rf_almRequest_obj, BitVec.ofNat_toNat, BitVec.setWidth_eq]
    exact congrArg (fun d => Dev.releaseHeads (d.alm.jobs.length + 1) p.id d) hjoin
  rw [heffect]
  exact ⟨rfl, hjoined.jobs, hprocs1⟩

theorem Procession.joined_of_anywhere {p p' : Procession} (h : p'.anywhere = p.anywhere) (now : BitVec 40) : p'.joined now = p.joined now := by
  have hsame (x : Procession) : x.joined now = x.anywhere.joined now := rfl
  rw [hsame p', h, hsame p]

theorem Procession.fields_of_anywhere {p p' : Procession} (h : p'.anywhere = p.anywhere) : p'.id = p.id ∧ p'.nextSeq = p.nextSeq
    ∧ p'.headSeq = p.headSeq := by
  simp only [Procession.anywhere, Procession.mk.injEq] at h
  obtain ⟨hid, -, -, hnext, hhead, -⟩ := h
  exact ⟨hid, hnext, hhead⟩

theorem exec_skipEnq (s : State) (port : AlmPort) (bytes : List Byte) : exec (.skipEnq port bytes) s
    = s.onAlmanac (fun d => d.almRow 2 port bytes none) := rfl

theorem Dev.checkReq_skipEnq {d : Dev} {k : Fin 8} {p : Procession} (hp : d.alm.procs = [p]) (hopen : p.closing = false)
    (hobj : d.alm.objects < 8388608) : d.checkReq (.control k) (almRequest 2 0 p.id []) = 0 := by
  have hfind := AlmState.proc?_only hp
  have hknown : d.alm.known p.id = true := by simp [AlmState.known, hfind]
  have hroom : ¬8388608 ≤ d.alm.objects := Nat.not_le.mpr hobj
  simp [Dev.checkReq, reservedSet_object, hfind, hknown, hopen, hroom]

theorem skipEnq_joins {s : State} {k : Fin 8} {p : Procession} {bytes : List Byte} (hl : s.dev.launched = true) (hp : s.dev.cfg.plans = [])
    (hr : padTo 32 bytes = almRequest 2 0 p.id []) (hprocs : s.dev.alm.procs = [p]) (hopen : p.closing = false)
    (hobj : s.dev.alm.objects < 8388608) (hbusy : p.nextSeq ≠ p.headSeq)
    (hhead : ∀ j ∈ s.dev.alm.jobs, j.proc = true → j.link = p.id → j.pseq = p.headSeq → j.st ≠ .complete) :
    ∃ t js new chip, exec (.skipEnq (.control k) bytes) s = .next t ∧ s.dev.alm.known new = false
      ∧ js.map Job.anywhere = s.dev.alm.jobs.map Job.anywhere
      ∧ t.dev.alm.jobs = js ++ [Job.skipMarker new p.id p.nextSeq (s.dev.time.tick.setWidth 32) chip]
      ∧ t.dev.alm.procs = [p.joined s.dev.time.tick] := by
  have hop : rf (almRequest 2 0 p.id []) 0 1 = 2 := rfl
  obtain ⟨b, hused, husedSame, husedJobs⟩ := s.dev.usedBy_alm p.id
  obtain ⟨a, hsame, halloc⟩ := s.dev.allocate_skipEnq p.id
  rw [hused] at hsame halloc
  have hnew : b.known ({ s.dev with alm := b } : Dev).newId.1 = false :=
    Dev.newId_unknown { s.dev with alm := b } (husedSame.objects ▸ hobj)
  obtain ⟨hfresh, -⟩ := AlmState.known_eq_false_iff.mp hnew
  obtain ⟨js, j, hlast, hjs, hj, -⟩ := hsame.lastJob ⟨rfl, hfresh⟩
  obtain ⟨chip, rfl⟩ := Job.ofAnywhere hj
  have hjs' : js.map Job.anywhere = s.dev.alm.jobs.map Job.anywhere := hjs.trans (congrArg _ husedJobs)
  obtain ⟨p', hprocs', hp'⟩ := List.map_eq_singleton_iff.mp ((hsame.procs.trans husedSame.procs).trans (congrArg (List.map _) hprocs))
  obtain ⟨hid, hnext, hfirst⟩ := Procession.fields_of_anywhere hp'
  have hhead' : ∀ x ∈ js, x.proc = true → x.link = p'.id → x.pseq = p'.headSeq → x.st ≠ .complete := by
    intro x hx
    obtain ⟨y, hy, hyx⟩ := List.mem_map.mp (hjs' ▸ List.mem_map_of_mem (f := Job.anywhere) hx)
    obtain ⟨_, rfl⟩ := Job.ofAnywhere hyx.symm
    rw [hid, hfirst]
    exact hhead y hy
  obtain ⟨hcfg, hjobs, hprocs1⟩ := Dev.takeEffect_skipEnq (d := { ({ s.dev with alm := b } : Dev).newId.2 with alm := a })
    (hid ▸ hlast) hprocs' (by rw [hnext, hfirst]; exact hbusy) hhead'
  rw [hid] at hcfg hjobs hprocs1
  rw [exec_skipEnq, onAlmanac_accepted hl hr hop (Dev.checkReq_skipEnq hprocs hopen hobj) halloc rfl ((congrArg _ hcfg).trans hp)]
  exact ⟨_, js, _, chip, rfl, husedSame.known _ ▸ hnew, hjs', hnext ▸ hjobs, hprocs1.trans (by rw [Procession.joined_of_anywhere hp']; rfl)⟩

/-- Settles O25: JOB_ENQ by the job it adds, EVENT by the state and gates of its job, SKIP_ENQ by its marker. -/
theorem jobsAreEnqueuedAndReleasedByEvents : Obligations.JobsAreEnqueuedAndReleasedByEvents := by
  unfold Obligations.JobsAreEnqueuedAndReleasedByEvents
  intro s k hl hp
  refine ⟨fun tag desc deadline cls pool unit gates cell hcheck => ?_, fun id j hjobs hid => ?_, fun id p hprocs hid hopen hobj hhead hbusy => ?_⟩
  · obtain ⟨t, js, order, readyAt, chip, ht, hnew, hreply, hjs, hjobs⟩ := jobEnq_accepted tag desc deadline cls pool unit gates cell hl hp hcheck
    have hgates : gates = 0 ↔ gates.toNat = 0 := ⟨fun h => h ▸ rfl, fun h => BitVec.eq_of_toNat_eq h⟩
    refine ⟨t, _, _, ht, hnew, ?_, ?_, hjobs ▸ List.mem_append_right js (List.mem_singleton_self _), rfl, ?_, rfl, rfl, rfl, rfl, rfl, rfl, rfl, rfl, rfl, rfl⟩
    · exact hreply.trans rfl
    · rw [hjobs, List.map_append, List.map_append]
      exact congrArg (· ++ _) hjs
    · simp only [hgates]
  · subst hid
    refine ⟨fun hst hmany => ?_, fun hst hlast hpool => ?_, fun hst => ?_⟩
    · exact event_only hl rfl hjobs (Dev.eventTo_lowers hjobs hst hmany) hp
    · obtain ⟨chip, deadline, hready⟩ := Dev.makeReady_only hjobs
      obtain ⟨t, ht, htjobs⟩ := event_only (k := k) hl rfl hjobs (Dev.eventTo_ready hjobs hst hlast hpool) hp
      exact ⟨t, _, ht, htjobs.trans hready, rfl, rfl, rfl, rfl, rfl, rfl, rfl⟩
    · obtain ⟨t, ht, htjobs⟩ := event_only (k := k) hl rfl hjobs (Dev.eventTo_other hjobs hst) hp
      exact ⟨t, ht, htjobs.trans hjobs⟩
  · subst hid
    obtain ⟨t, js, new, chip, ht, hnew, hjs, hjobs, hprocs1⟩ := skipEnq_joins (k := k) hl hp rfl hprocs hopen hobj hbusy hhead
    refine ⟨t, Job.skipMarker new p.id p.nextSeq (s.dev.time.tick.setWidth 32) chip, ht, ?_, rfl, rfl, rfl, rfl, rfl, rfl, hnew, ?_⟩
    · rw [hjobs, List.map_append, List.map_append]
      exact congrArg (· ++ _) hjs
    · rw [hprocs1, Procession.joined, if_neg hbusy]

end Sys2Proof.Machine
end

section
/-! SUPPORT. One NI changed, the routes that stay, and the rows of Ringroad (10_ringroad.md, R258, R270, R275). -/

namespace Sys2Proof.Machine
open Sys2Proof

/-! ### The rows -/

/-- A row of Ringroad in a device in service. -/
theorem State.onRing_inService (s : State) (f : Dev → Dev) (hup : s.dev.up = true) (hmode : s.dev.mode.mode ≠ 9) :
    s.onRing f = .next { s with dev := f s.dev } := by
  rw [State.onRing_eq, hup, bne_iff_ne.mpr hmode]
  rfl

/-! ### One NI changed -/

theorem Dev.niRec_updNi (d : Dev) (k j : Nat) (f : Ni → Ni) :
    (d.updNi k f).niRec j = if j % 256 = k % 256 then f (d.niRec j) else d.niRec j := by
  unfold Dev.updNi Dev.niRec
  by_cases h : j % 256 = k % 256
  · rw [if_pos h]
    simp [h]
  · rw [if_neg h]
    exact Vector.getElem_set_ne (Nat.mod_lt _ (by decide)) (Nat.mod_lt _ (by decide)) (Ne.symm h)

@[simp] theorem Dev.niRec_updNi_same (d : Dev) (k : Nat) (f : Ni → Ni) : (d.updNi k f).niRec k = f (d.niRec k) := by
  rw [Dev.niRec_updNi, if_pos rfl]

/-- A change of an NI that leaves the record it has is none. -/
theorem Dev.updNi_fixed (d : Dev) (k : Nat) (f : Ni → Ni) (h : f (d.niRec k) = d.niRec k) : d.updNi k f = d := by
  have hset : d.ring.ni.set (k % 256) (d.niRec k) (Nat.mod_lt _ (by decide)) = d.ring.ni := Vector.set_getElem_self _
  exact congrArg (fun v => { d with ring := { d.ring with ni := v } })
    ((congrArg (fun n => d.ring.ni.set (k % 256) n (Nat.mod_lt _ (by decide))) h).trans hset)

/-! ### Routes -/

/-- What a request's route and its target's shell depend on is the same (R258, R270, R275). -/
structure Dev.SameRoutes (a b : Dev) : Prop where
  part : b.part = a.part
  loaded : b.ring.loaded = a.ring.loaded
  links : b.ring.links = a.ring.links
  shell : ∀ k, (b.niRec k).shell = (a.niRec k).shell
  itin : ∀ k, (b.niRec k).itin = (a.niRec k).itin

theorem Dev.SameRoutes.trans {a b c : Dev} (h1 : a.SameRoutes b) (h2 : b.SameRoutes c) : a.SameRoutes c :=
  ⟨h2.part.trans h1.part, h2.loaded.trans h1.loaded, h2.links.trans h1.links, fun k => (h2.shell k).trans (h1.shell k),
    fun k => (h2.itin k).trans (h1.itin k)⟩

/-- A change of an NI that keeps its shell and its itineraries keeps the routes. -/
theorem Dev.updNi_sameRoutes (d : Dev) (k : Nat) (f : Ni → Ni) (hshell : ∀ n, (f n).shell = n.shell) (hitin : ∀ n, (f n).itin = n.itin) :
    d.SameRoutes (d.updNi k f) := by
  refine ⟨rfl, rfl, rfl, fun j => ?_, fun j => ?_⟩
  · rw [Dev.niRec_updNi]
    split
    · exact hshell _
    · rfl
  · rw [Dev.niRec_updNi]
    split
    · exact hitin _
    · rfl

section
variable {a b : Dev} (h : a.SameRoutes b)
include h

theorem Dev.SameRoutes.entry (src dst : Nat) : b.entry src dst = a.entry src dst := by
  unfold Dev.entry
  rw [h.loaded, h.itin, h.part]

theorem Dev.SameRoutes.pathCut (src dst : Nat) : b.pathCut src dst = a.pathCut src dst := by
  unfold Dev.pathCut
  rw [h.links, h.entry]

theorem Dev.SameRoutes.shellSays (k : Nat) : b.shellSays k = a.shellSays k := by
  unfold Dev.shellSays
  rw [h.shell]

end

/-! ### A packet over free rings -/

/-- The device once the rings have delivered a packet (R255). -/
def Dev.delivered (d : Dev) (p : Packet) : Dev := { d with ring := { d.ring with last := some p } }

theorem Dev.delivered_sameRoutes (d : Dev) (p : Packet) : d.SameRoutes (d.delivered p) := ⟨rfl, rfl, rfl, fun _ => rfl, fun _ => rfl⟩

end Sys2Proof.Machine
end

section
/-! SUPPORT. Requests: what an NI sends, and what a target does with it over free rings (10_ringroad.md, R255 to R257, R266, R268,
R275; 12_memory.md, R300, R306). -/

namespace Sys2Proof.Machine
open Sys2Proof

/-! ### Memory that answers every NI -/

/-- Data memory of a core, cluster memory or global SRAM. -/
def Region.isMemory (r : Region) : Prop := r.kind = .coreData ∨ r.kind = .cluster ∨ r.kind = .sram

theorem regionNi_lt {a : Nat} {r : Region} (hr : regionOf a = some r) (hmem : r.isMemory) : regionNi r a < 256 := by
  unfold regionOf at hr
  dsimp only at hr
  split_ifs at hr
  all_goals
    obtain rfl := Option.some.inj hr
    simp [Region.isMemory] at hmem
  all_goals
    simp only [regionNi]
    omega

/-- An address of a memory, with a valid itinerary over whole links to the open shell of its NI. -/
structure Dev.Reaches (d : Dev) (src a : Nat) (r : Region) : Prop where
  region : regionOf a = some r
  memory : r.isMemory
  valid : entryValid (d.entry src (regionNi r a)) = true
  whole : d.pathCut src (regionNi r a) = false
  shell : d.shellSays (regionNi r a) = 0

section
variable {d : Dev} {src a : Nat} {r : Region} (h : d.Reaches src a r)
include h

theorem Dev.Reaches.of_sameRoutes {d' : Dev} (hs : d.SameRoutes d') : d'.Reaches src a r :=
  ⟨h.region, h.memory, by rw [hs.entry]; exact h.valid, by rw [hs.pathCut]; exact h.whole, by rw [hs.shellSays]; exact h.shell⟩

theorem Dev.Reaches.mayAccess : mayAccess src r a = true := by
  unfold Machine.mayAccess
  rcases h.memory with hk | hk | hk
  all_goals rw [hk]

theorem Dev.Reaches.notHost : isHost a = false := by
  unfold isHost
  rw [h.region]
  rcases h.memory with hk | hk | hk
  all_goals simp [hk]

theorem Dev.Reaches.notProgram : d.progBusy a = false := by
  unfold Dev.progBusy
  rw [h.region]
  rcases h.memory with hk | hk | hk
  all_goals simp [hk]

theorem Dev.Reaches.notDma : r.kind ≠ .dmaRegs ∧ r.kind ≠ .dmaStream := by
  rcases h.memory with hk | hk | hk
  all_goals simp [hk]

/-- The range is delivered to its target (R256, R257, R301). -/
theorem Dev.Reaches.reach {n : Nat} (hrange : oneRegion a n = true) : d.reach src src a n = 0 := by
  have hin : ¬r.base + r.size < a + n := by
    unfold oneRegion at hrange
    rw [h.region] at hrange
    exact Nat.not_lt.mpr (of_decide_eq_true hrange)
  unfold Dev.reach
  simp [h.region, hin, h.valid, h.whole, h.shell, h.mayAccess]

theorem Dev.Reaches.netRead {n : Nat} (hrange : oneRegion a n = true) (hgood : d.mem.poisoned a n = false) :
    d.netRead src src a n .none = (0, d.mem.ifBytes a n, d) := by
  unfold Dev.netRead
  simp [h.notHost, h.reach hrange, Dev.eccHit, hgood]

theorem Dev.Reaches.netWrite {bs : List Byte} (hrange : oneRegion a bs.length = true) (hgood : d.mem.partialPoison a bs.length = false) :
    d.netWrite src src a bs .none = (0, { d with mem := d.mem.ifWrite a bs }) := by
  unfold Dev.netWrite
  simp [h.reach hrange, h.notProgram, hgood]

end

/-! ### A request that arrives -/

/-- A target whose shell is open takes a read of memory and answers OK with the bytes (R255, R306). -/
theorem Dev.takeRequest_read {d : Dev} {p : Packet} {r : Region} (h : d.Reaches p.src p.addr.toNat r) (hkind : p.kind = 1)
    (hdst : p.dst = regionNi r p.addr.toNat) (hrange : oneRegion p.addr.toNat p.len = true)
    (hgood : d.mem.poisoned p.addr.toNat p.len = false) :
    d.takeRequest p false .none = d.answer p 0 (d.mem.ifBytes p.addr.toNat p.len) := by
  have hserve : d.serve p.src p.dst 1 p.addr.toNat p.data p.len .none = (0, d.mem.ifBytes p.addr.toNat p.len, d) := by
    unfold Dev.serve
    simp [h.region, h.notDma, h.netRead hrange hgood]
  unfold Dev.takeRequest
  simp [hdst ▸ h.shell, h.region, h.mayAccess, hkind, hserve]

/-- It takes a write of memory, stores its bytes and answers OK. -/
theorem Dev.takeRequest_write {d : Dev} {p : Packet} {r : Region} (h : d.Reaches p.src p.addr.toNat r) (hkind : p.kind = 2)
    (hdst : p.dst = regionNi r p.addr.toNat) (hrange : oneRegion p.addr.toNat p.data.length = true)
    (hgood : d.mem.partialPoison p.addr.toNat p.data.length = false) :
    d.takeRequest p false .none = ({ d with mem := d.mem.ifWrite p.addr.toNat p.data } : Dev).answer p 0 [] := by
  have hserve : d.serve p.src p.dst 2 p.addr.toNat p.data p.len .none
      = (0, [], { d with mem := d.mem.ifWrite p.addr.toNat p.data }) := by
    unfold Dev.serve
    simp [h.region, h.notDma, h.netWrite hrange hgood]
  unfold Dev.takeRequest
  simp [hdst ▸ h.shell, h.region, h.mayAccess, hkind, h.notProgram, hserve]

/-- A message port other than Almanac's takes a message of 32 bytes and answers OK (R268). -/
theorem Dev.takeRequest_message {d : Dev} {p : Packet} (hkind : p.kind = 3) (hshell : d.shellSays p.dst = 0) (halm : p.dst ≠ 253)
    (hlen : p.data.length = 32) :
    d.takeRequest p false .none
      = ({ d with ring := { d.ring with messages := d.ring.messages ++ [(p.dst, p.data)] } } : Dev).answer p 0 [] := by
  have hserve : d.serve p.src p.dst 3 p.addr.toNat p.data p.len .none
      = (0, [], { d with ring := { d.ring with messages := d.ring.messages ++ [(p.dst, p.data)] } }) := by
    unfold Dev.serve
    simp [halm, padTo_of_length hlen]
  unfold Dev.takeRequest
  cases hr : regionOf p.addr.toNat with
  | none => simp [hshell, hkind, hserve]
  | some r => simp [hshell, hkind, hserve]

/-! ### A request that is sent -/

/-- A request as its NI keeps it. -/
def heldReq (kind dst len : Nat) (addr : DWord) (dl : Bool) (data : List Byte) : HeldReq :=
  ⟨BitVec.ofNat 8 kind, BitVec.ofNat 8 dst, BitVec.ofNat 16 len, addr, dl, data⟩

/-- The packet of a request, by the itinerary of its NI and with the lowest free tag (R255, R258, R266). -/
def Dev.packetOf (d : Dev) (src kind dst len : Nat) (addr : DWord) (dl : Bool) (data : List Byte) : Packet :=
  { route := routeWord (d.entry src dst) (requestVc (d.entry src dst) (d.marksDl src dl)), kind := kind, len := len, src := src, dst := dst
    tag := (d.niRec src).freeTag, dl := d.marksDl src dl, addr := addr, data := data }

theorem Dev.requestPacket_heldReq (d : Dev) {src kind dst len : Nat} {addr : DWord} {dl : Bool} {data : List Byte} (hkind : kind < 256)
    (hdst : dst < 256) (hlen : len < 65536) :
    d.requestPacket src (heldReq kind dst len addr dl data) = d.packetOf src kind dst len addr dl data := by
  have hk : (BitVec.ofNat 8 kind).toNat = kind := (BitVec.toNat_ofNat ..).trans (Nat.mod_eq_of_lt hkind)
  have hd : (BitVec.ofNat 8 dst).toNat = dst := (BitVec.toNat_ofNat ..).trans (Nat.mod_eq_of_lt hdst)
  have hl : (BitVec.ofNat 16 len).toNat = len := (BitVec.toNat_ofNat ..).trans (Nat.mod_eq_of_lt hlen)
  unfold Dev.requestPacket Dev.packetOf heldReq
  simp only [hk, hd, hl]

/-- The transaction that a request opens (R266). -/
def Dev.transOf (d : Dev) (src : Nat) (q : HeldReq) : Trans := ⟨(d.niRec src).freeTag, q.kind, q.dst, q.len, q.addr, d.time.air⟩

/-- The device with a request's transaction open. -/
def Dev.opened (d : Dev) (src : Nat) (q : HeldReq) : Dev :=
  d.updNi src (fun n => { n with trans := n.trans ++ [d.transOf src q] })

theorem Dev.opened_sameRoutes (d : Dev) (src : Nat) (q : HeldReq) : d.SameRoutes (d.opened src q) :=
  d.updNi_sameRoutes src _ (fun _ => rfl) (fun _ => rfl)

@[simp] theorem Dev.opened_trans (d : Dev) (src : Nat) (q : HeldReq) :
    ((d.opened src q).niRec src).trans = (d.niRec src).trans ++ [d.transOf src q] := by
  rw [Dev.opened, Dev.niRec_updNi_same]

/-- The device with a packet more on the rings (R263). -/
def Dev.onRings (d : Dev) (w : Worm) : Dev := { d with ring := { d.ring with net := { d.ring.net with worms := d.ring.net.worms ++ [w] } } }

/-! ### What an NI makes of a request -/

/-- An NI that nothing keeps from sending: its shell is open, it holds no request, and no roadworks is under way (R266, R273, R275). -/
structure Dev.MaySend (d : Dev) (src : Nat) : Prop where
  shell : (d.niRec src).shell = .open_
  held : (d.niRec src).held = []
  works : d.ring.works = none

/-- A request that keeps to Table 10.6 and has a destination with a valid itinerary over whole links, and its tag and space (R256, R258,
R266, R270). -/
structure Dev.Granted (d : Dev) (src kind dst : Nat) (addr : DWord) (len : Nat) (to_ : Nat) : Prop where
  kindLt : kind < 256
  dest : requestDst kind dst addr.toNat = some to_
  destLt : to_ < 256
  good : badRequest kind addr.toNat len = false
  range : kind ≤ 2 → oneRegion addr.toNat len = true
  lenLt : len < 65536
  valid : entryValid (d.entry src to_) = true
  whole : d.pathCut src to_ = false
  room : (d.niRec src).canSend kind len = true

section
variable {d : Dev} {src kind dst : Nat} {addr : DWord} {len : Nat} (dl : Bool) (data : List Byte) (m : Mishap) (e : EccHit)

section
variable {to_ : Nat} (hq : d.Granted src kind dst addr len to_)
include hq

theorem Dev.Granted.notCut (hm : m ≠ .lost) :
    ¬(m = .lost ∨ d.pathCut src (d.requestPacket src (heldReq kind to_ len addr dl data)).dst = true) := by
  rw [Dev.requestPacket_heldReq d hq.kindLt hq.destLt hq.lenLt]
  simp [hm, Dev.packetOf, hq.whole]

variable (h : d.MaySend src)
include h

theorem Dev.askNet_granted : d.askNet src kind dst addr len dl data m e = d.sendReq src (heldReq kind to_ len addr dl data) m e := by
  have hin : (decide (kind ≤ 2) && !oneRegion addr.toNat len) = false := by
    by_cases hk : kind ≤ 2
    · simp [hq.range hk]
    · simp [hk]
  have hheld : d.worksHold src to_ = false := by rw [Dev.worksHold, h.works]
  unfold Dev.askNet heldReq
  simp [h.shell, hq.dest, hq.good, hin, hq.valid, h.held, hheld, hq.room]

/-- A request that is lost leaves its transaction open, and does nothing else (R269). -/
theorem Dev.askNet_lost : d.askNet src kind dst addr len dl data .lost e = d.opened src (heldReq kind to_ len addr dl data) := by
  rw [Dev.askNet_granted dl data .lost e hq h]
  rfl

/-- One that meets traffic enters the rings (R263). -/
theorem Dev.askNet_slow : d.askNet src kind dst addr len dl data .slow e = (d.opened src (heldReq kind to_ len addr dl data)).onRings
    ((d.packetOf src kind to_ len addr dl data).worm src (.request e) false) := by
  rw [Dev.askNet_granted dl data .slow e hq h, Dev.sendReq, if_neg (hq.notCut dl data .slow (by decide)), Dev.carry_slow,
    Dev.requestPacket_heldReq d hq.kindLt hq.destLt hq.lenLt]
  rfl

/-- Over free rings its target takes it at once. -/
theorem Dev.askNet_free (hnet : d.ring.net.worms = []) : d.askNet src kind dst addr len dl data .none e
    = ((d.opened src (heldReq kind to_ len addr dl data)).delivered (d.packetOf src kind to_ len addr dl data)).takeRequest
        (d.packetOf src kind to_ len addr dl data) false e := by
  rw [Dev.askNet_granted dl data .none e hq h, Dev.sendReq, if_neg (hq.notCut dl data .none (by decide)),
    Dev.carry_free _ _ _ _ _ _ (by decide) (by exact hnet), Dev.requestPacket_heldReq d hq.kindLt hq.destLt hq.lenLt]
  rfl

end

/-- A request that breaks Table 10.6 completes at once with DECODE (R256). -/
theorem Dev.askNet_bad (hshell : (d.niRec src).shell = .open_) (hbad : badRequest kind addr.toNat len = true) {to_ : Nat}
    (hto : requestDst kind dst addr.toNat = some to_) :
    d.askNet src kind dst addr len dl data m e = d.localDone src rsDecode (d.niRec src).freeTag := by
  unfold Dev.askNet
  simp [hshell, hto, hbad]

/-- An NI whose shell is closed or absent sends nothing (R275). -/
theorem Dev.askNet_shut (hshell : (d.niRec src).shell = .closed ∨ (d.niRec src).shell = .absent) :
    d.askNet src kind dst addr len dl data m e = d := by
  unfold Dev.askNet
  rcases hshell with h | h
  all_goals simp only [h]

end

/-! ### Reads, writes and messages -/

theorem requestDst_memory {kind a : Nat} {r : Region} (hkind : kind = 1 ∨ kind = 2) (hr : regionOf a = some r) :
    requestDst kind 0 a = some (regionNi r a) := by
  rw [requestDst, if_pos hkind, hr]
  rfl

/-- A write that keeps to Table 10.6 has at most 512 bytes. -/
theorem length_le_of_badRequest {a n : Nat} (h : badRequest 2 a n = false) : n ≤ 512 := by
  simp only [badRequest, Bool.or_eq_false_iff, decide_eq_false_iff_not] at h
  omega

section
variable {d : Dev} {src : Nat} {addr : DWord} {r : Region} (hreach : d.Reaches src addr.toNat r)
include hreach

theorem Dev.Reaches.granted {kind len : Nat} (hkind : kind = 1 ∨ kind = 2) (hgood : badRequest kind addr.toNat len = false)
    (hrange : oneRegion addr.toNat len = true) (hlen : len < 65536) (hroom : (d.niRec src).canSend kind len = true) :
    d.Granted src kind 0 addr len (regionNi r addr.toNat) where
  kindLt := by omega
  dest := requestDst_memory hkind hreach.region
  destLt := regionNi_lt hreach.region hreach.memory
  good := hgood
  range := fun _ => hrange
  lenLt := hlen
  valid := hreach.valid
  whole := hreach.whole
  room := hroom

variable (dl : Bool) (h : d.MaySend src) (hnet : d.ring.net.worms = [])
include h hnet

/-- RD of memory (R255, R306): its transaction is open, and the answer with the bytes is on its way. -/
theorem Dev.askNet_read {len : Nat} (hq : d.Granted src 1 0 addr len (regionNi r addr.toNat)) (hrange : oneRegion addr.toNat len = true)
    (hgood : d.mem.poisoned addr.toNat len = false) :
    d.askNet src 1 0 addr len dl [] .none .none
      = ((d.opened src (heldReq 1 (regionNi r addr.toNat) len addr dl [])).delivered
          (d.packetOf src 1 (regionNi r addr.toNat) len addr dl [])).answer
          (d.packetOf src 1 (regionNi r addr.toNat) len addr dl []) 0 (d.mem.ifBytes addr.toNat len) := by
  rw [Dev.askNet_free dl [] .none hq h hnet]
  exact Dev.takeRequest_read (hreach.of_sameRoutes ((d.opened_sameRoutes ..).trans (Dev.delivered_sameRoutes ..))) rfl rfl hrange hgood

/-- WR of memory (R255, R306): its bytes are stored as well. -/
theorem Dev.askNet_write {data : List Byte} (hq : d.Granted src 2 0 addr data.length (regionNi r addr.toNat))
    (hrange : oneRegion addr.toNat data.length = true) (hgood : d.mem.partialPoison addr.toNat data.length = false) :
    d.askNet src 2 0 addr data.length dl data .none .none
      = ({ (d.opened src (heldReq 2 (regionNi r addr.toNat) data.length addr dl data)).delivered
            (d.packetOf src 2 (regionNi r addr.toNat) data.length addr dl data) with mem := d.mem.ifWrite addr.toNat data } : Dev).answer
          (d.packetOf src 2 (regionNi r addr.toNat) data.length addr dl data) 0 [] := by
  rw [Dev.askNet_free dl data .none hq h hnet]
  exact Dev.takeRequest_write (hreach.of_sameRoutes ((d.opened_sameRoutes ..).trans (Dev.delivered_sameRoutes ..))) rfl rfl hrange hgood

end

/-- MSG_PACKET to a port other than Almanac's (R268): the port has its message. -/
theorem Dev.askNet_message {d : Dev} {src dst : Nat} (dl : Bool) {data : List Byte} (hq : d.Granted src 3 dst 0 32 dst) (h : d.MaySend src)
    (hnet : d.ring.net.worms = []) (hshell : d.shellSays dst = 0) (halm : dst ≠ 253) (hlen : data.length = 32) :
    ∃ d' : Dev, d.askNet src 3 dst 0 32 dl data .none .none = d'.answer (d.packetOf src 3 dst 32 0 dl data) 0 [] ∧ d'.mem = d.mem
      ∧ d'.ring.messages = d.ring.messages ++ [(dst, data)] ∧ d'.ring.answers = d.ring.answers := by
  have hsame := (d.opened_sameRoutes src (heldReq 3 dst 32 0 dl data)).trans (Dev.delivered_sameRoutes _ (d.packetOf src 3 dst 32 0 dl data))
  rw [Dev.askNet_free dl data .none hq h hnet, Dev.takeRequest_message rfl ((hsame.shellSays dst).trans hshell) halm hlen]
  exact ⟨_, rfl, rfl, rfl, rfl⟩

/-! ### The rows -/

section
variable (s : State) (src : Fin 256) (dl : Bool) (hup : s.dev.up = true) (hmode : s.dev.mode.mode ≠ 9)
include hup hmode

theorem exec_msgPacket (dst : Fin 256) (data : List Byte) : exec (.msgPacket src dst data dl .none) s
    = .next { s with dev := s.dev.askNet src.val 3 dst.val 0 32 dl (padTo 32 data) .none .none } := by
  have hexec : exec (.msgPacket src dst data dl .none) s
      = s.onRing (fun d => d.askNet src.val 3 dst.val 0 32 dl (padTo 32 data) .none .none) := rfl
  rw [hexec, s.onRing_inService _ hup hmode]

variable (htests : s.dev.health.testQueue = [])
include htests

/-- A read after which no self-test waits, as none did before. -/
theorem exec_rd (addr : DWord) (len : Half) (m : Mishap)
    (hkept : (s.dev.askNet src.val 1 0 addr len.toNat dl [] m .none).health = s.dev.health) :
    exec (.rd src addr len dl m .none) s = .next { s with dev := s.dev.askNet src.val 1 0 addr len.toNat dl [] m .none } := by
  have hexec : exec (.rd src addr len dl m .none) s
      = s.onRing (fun d => (d.askNet src.val 1 0 addr len.toNat dl [] m .none).startTests) := rfl
  rw [hexec, s.onRing_inService _ hup hmode, Dev.startTests_none _ (by rw [hkept, htests])]

theorem exec_wr (addr : DWord) (data : List Byte)
    (hkept : (s.dev.askNet src.val 2 0 addr data.length dl data .none .none).health = s.dev.health) :
    exec (.wr src addr data dl .none .none) s
      = .next { s with dev := s.dev.askNet src.val 2 0 addr data.length dl data .none .none } := by
  have hexec : exec (.wr src addr data dl .none .none) s
      = s.onRing (fun d => (d.askNet src.val 2 0 addr data.length dl data .none .none).startTests) := rfl
  rw [hexec, s.onRing_inService _ hup hmode, Dev.startTests_none _ (by rw [hkept, htests])]

end

/-- Settles O39: a granted request is lost, enters the rings or is taken by its target; a bad one ends at its NI; a shut NI sends none. -/
theorem ringroadRequestsReachTheirTarget : Obligations.RingroadRequestsReachTheirTarget := by
  unfold Obligations.RingroadRequestsReachTheirTarget
  intro s src dl hup hmode htests
  refine ⟨fun hopen hheld hworks hnet => ?_, fun hshut addr len data dst => ?_⟩
  · have hsend : s.dev.MaySend src.val := ⟨hopen, hheld, hworks⟩
    refine ⟨fun addr r hr hmem hvalid hwhole hshell => ?_, fun dst data halm hvalid hwhole hshell hroom => ?_, fun addr len r hr hbad => ?_⟩
    · have hreach : s.dev.Reaches src.val addr.toNat r := ⟨hr, hmem, hvalid, hwhole, hshell⟩
      refine ⟨fun len hgood hroom hrange hclean => ?_, fun data hgood hroom hrange hclean => ?_⟩
      · have hq := hreach.granted (.inl rfl) hgood hrange len.isLt hroom
        refine ⟨?_, fun m hm => ?_⟩
        · have hask := Dev.askNet_read hreach dl hsend hnet hq hrange hclean
          refine ⟨_, exec_rd s src dl hup hmode htests addr len .none (by rw [hask]; rfl), ?_⟩
          rw [hask]
          exact ⟨rfl, Dev.opened_trans .., rfl⟩
        · rcases List.mem_pair.mp hm with rfl | rfl
          · have hask := Dev.askNet_lost dl [] .none hq hsend
            refine ⟨_, exec_rd s src dl hup hmode htests addr len .lost (by rw [hask]; rfl), ?_⟩
            rw [hask]
            exact ⟨rfl, rfl, Dev.opened_trans .., congrArg _ hnet⟩
          · have hask := Dev.askNet_slow dl [] .none hq hsend
            refine ⟨_, exec_rd s src dl hup hmode htests addr len .slow (by rw [hask]; rfl), ?_⟩
            rw [hask]
            exact ⟨rfl, rfl, Dev.opened_trans .., congrArg (fun ws => (ws ++ [_]).map _) hnet⟩
      · have hlen : data.length < 65536 := Nat.lt_of_le_of_lt (length_le_of_badRequest hgood) (by decide)
        have hask := Dev.askNet_write hreach dl hsend hnet (hreach.granted (.inr rfl) hgood hrange hlen hroom) hrange hclean
        refine ⟨_, exec_wr s src dl hup hmode htests addr data (by rw [hask]; rfl), ?_⟩
        rw [hask]
        exact ⟨rfl, Dev.opened_trans .., rfl⟩
    · have hq : s.dev.Granted src.val 3 dst.val 0 32 dst.val :=
        ⟨by decide, rfl, dst.isLt, rfl, fun h => absurd h (by decide), by decide, hvalid, hwhole, hroom⟩
      obtain ⟨d', hask, hmem, hmessages, hanswers⟩ := Dev.askNet_message dl (data := padTo 32 data) hq hsend hnet hshell halm (by simp [padTo])
      refine ⟨_, exec_msgPacket s src dl hup hmode dst data, ?_⟩
      rw [hask]
      exact ⟨hmem, hmessages, congrArg (· ++ _) hanswers⟩
    · have hask := Dev.askNet_bad (d := s.dev) (src := src.val) dl [] .none .none hopen hbad (requestDst_memory (.inl rfl) hr)
      refine ⟨_, exec_rd s src dl hup hmode htests addr len .none (by rw [hask]; rfl), ?_⟩
      rw [hask]
      exact ⟨Dev.niRec_updNi_same .., rfl, rfl⟩
  · have hnone (kind n : Nat) (a : DWord) (l : Nat) (bs : List Byte) :=
      Dev.askNet_shut (kind := kind) (dst := n) (addr := a) (len := l) dl bs .none .none hshut
    refine ⟨?_, ?_, ?_⟩
    · rw [exec_rd s src dl hup hmode htests addr len .none (by rw [hnone]), hnone]
    · rw [exec_wr s src dl hup hmode htests addr data (by rw [hnone]), hnone]
    · rw [exec_msgPacket s src dl hup hmode dst data, hnone]

end Sys2Proof.Machine
end

section
/-! SUPPORT. Responses, time-outs of transactions and of CLOSING (10_ringroad.md, R257, R265, R267, R269, R270, R277). -/

namespace Sys2Proof.Machine
open Sys2Proof

/-! ### What follows a completion -/

/-- A shell that is not CLOSING stays as it is (R277). -/
theorem Dev.settleNi_kept (d : Dev) (k : Nat) (h : (d.niRec k).shell ≠ .closing) : d.settleNi k = d :=
  d.updNi_fixed k _ (if_neg fun hclosing => h hclosing.1)

/-- A requester that holds no request sends none. -/
theorem Dev.pump_none (d : Dev) (k : Nat) (h : (d.niRec k).held = []) : d.pump k = d := by
  unfold Dev.pump
  rw [h]
  rfl

/-- A transaction's completion at its requester (R257). -/
def Ni.completed (n : Ni) (tag : Byte) (status : Nat) (data : List Byte) : Ni :=
  { n with trans := n.trans.filter (fun x => x.tag != tag), last := some (tag, status, data) }

/-! ### A response that arrives -/

/-- It completes its transaction, with LINK and no data where it came poisoned (R267, R270). -/
theorem Dev.takeResponse_open {d : Dev} {p : Packet} (poison : Bool) (hshell : (d.niRec p.dst).shell = .open_)
    (htag : ∃ x ∈ (d.niRec p.dst).trans, x.tag = p.tag) :
    d.takeResponse p poison = d.updNi p.dst (fun n => n.completed p.tag (if poison then rsLink else p.status)
      (if (if poison then rsLink else p.status) = 0 then p.data else [])) := by
  have hany : ((d.niRec p.dst).trans.any fun t => t.tag == p.tag) = true := by simpa using htag
  unfold Dev.takeResponse
  simp [hshell, hany, Ni.completed]

/-- One whose tag is not open is discarded and counted (R269). -/
theorem Dev.takeResponse_stray {d : Dev} {p : Packet} (poison : Bool) (htag : ∀ x ∈ (d.niRec p.dst).trans, x.tag ≠ p.tag) :
    d.takeResponse p poison = d.updNi p.dst (fun n => { n with stray := n.stray + 1 }) := by
  have hany : ((d.niRec p.dst).trans.any fun t => t.tag == p.tag) = false := by simpa using htag
  unfold Dev.takeResponse
  simp [hany]

/-! ### The only answer on its way -/

/-- The device whose only answer has arrived as a packet. -/
def Dev.responded (d : Dev) (p : Packet) : Dev := { d with ring := { d.ring with answers := [], last := some p } }

section
variable {d : Dev} {a : Answer} {dst kind : Nat} {tag : Byte} (hans : d.ring.answers = [a]) (hdst : a.dst = dst) (hkind : a.kind = kind)
  (htag : a.tag = tag)
include hans hdst hkind htag

theorem Dev.answerFor_only : d.answerFor dst kind tag = some a := by
  subst hdst hkind htag
  simp [Dev.answerFor, hans, Option.filter]

/-- Over whole links and free rings the only answer arrives at once. -/
theorem Dev.takeAnswer_arrives (m : Mishap) (hm : m ≠ .lost ∧ m ≠ .slow) (hwhole : d.pathCut a.target dst = false)
    (hnet : d.ring.net.worms = []) :
    d.takeAnswer dst kind tag m = (((((d.responded (d.responsePacket a)).takeResponse (d.responsePacket a) (decide (m = .poison))).settleNi
      dst).settleNi a.target).pump dst) := by
  have herase : d.ring.answers.erase a = [] := by rw [hans, List.erase_cons_head]
  have hgone : ({ d with ring := { d.ring with answers := [] } } : Dev).pathCut a.target dst = false := hwhole
  unfold Dev.takeAnswer
  rw [Dev.answerFor_only hans hdst hkind htag]
  simp only [herase, hgone, hm.1, Bool.false_eq_true, or_self, if_false]
  rw [Dev.carry_free _ _ _ _ _ _ hm.2 (by exact hnet)]
  rfl

variable (m : Mishap) (hm : m ≠ .lost ∧ m ≠ .slow) (hwhole : d.pathCut a.target dst = false) (hnet : d.ring.net.worms = [])
  (hopen : (d.niRec dst).shell = .open_) (htarget : (d.niRec a.target).shell = .open_) (hheld : (d.niRec dst).held = [])
include hm hwhole hnet hopen htarget hheld

/-- An arrival that changes the requester's record alone, and neither its shell nor its held requests, has no other effect. -/
theorem Dev.takeAnswer_updNi (f : Ni → Ni) (hshell : ∀ n, (f n).shell = n.shell) (hkept : ∀ n, (f n).held = n.held)
    (htake : (d.responded (d.responsePacket a)).takeResponse (d.responsePacket a) (decide (m = .poison))
      = (d.responded (d.responsePacket a)).updNi dst f) :
    d.takeAnswer dst kind tag m = (d.responded (d.responsePacket a)).updNi dst f := by
  have hshells (k : Nat) : (((d.responded (d.responsePacket a)).updNi dst f).niRec k).shell = (d.niRec k).shell := by
    rw [Dev.niRec_updNi]
    split
    · exact hshell _
    · rfl
  rw [Dev.takeAnswer_arrives hans hdst hkind htag m hm hwhole hnet, htake, Dev.settleNi_kept _ dst (by rw [hshells, hopen]; decide),
    Dev.settleNi_kept _ a.target (by rw [hshells, htarget]; decide), Dev.pump_none _ dst (by rw [Dev.niRec_updNi_same, hkept]; exact hheld)]

/-- The only answer completes the transaction of its tag (R267, R270). -/
theorem Dev.takeAnswer_completes (hmine : ∃ x ∈ (d.niRec dst).trans, x.tag = tag) :
    d.takeAnswer dst kind tag m = (d.responded (d.responsePacket a)).updNi dst (fun n => n.completed tag
      (if m = .poison then rsLink else a.status) (if (if m = .poison then rsLink else a.status) = 0 then a.data else [])) := by
  refine Dev.takeAnswer_updNi hans hdst hkind htag m hm hwhole hnet hopen htarget hheld _ (fun _ => rfl) (fun _ => rfl) ?_
  subst hdst htag
  refine (Dev.takeResponse_open _ hopen hmine).trans ?_
  simp only [decide_eq_true_eq]
  rfl

/-- One of a tag that is not open is counted (R269). -/
theorem Dev.takeAnswer_stray (hnone : ∀ x ∈ (d.niRec dst).trans, x.tag ≠ tag) :
    d.takeAnswer dst kind tag m = (d.responded (d.responsePacket a)).updNi dst (fun n => { n with stray := n.stray + 1 }) := by
  refine Dev.takeAnswer_updNi hans hdst hkind htag m hm hwhole hnet hopen htarget hheld _ (fun _ => rfl) (fun _ => rfl) ?_
  subst hdst htag
  exact Dev.takeResponse_stray _ hnone

end

/-! ### Time-outs -/

/-- An open transaction whose time is due completes with TIMEOUT (R269). In the proof `due` stands for `d.due`, so that checking it does
not count down the moment, whose numerals are large. -/
theorem Dev.transTimeout_due {d d1 : Dev} {src : Nat} {tag : Byte} {x : Trans}
    (hfind : (d.niRec src).trans.find? (fun t => t.tag == tag) = some x) (hdue : d.due ((x.sent + usToTc 64) % airWrap) = some d1) :
    d.transTimeout src tag = ((d1.updNi src (fun n => n.completed tag rsTimeout [])).settleNi src).pump src := by
  obtain ⟨due, hd⟩ : ∃ f, f = d.due := exists_eq
  unfold Dev.transTimeout
  rw [← hd] at hdue ⊢
  simp only [hfind, hdue, Ni.completed]

/-- The 64 µs of a requester's only transaction have passed. -/
theorem Dev.transTimeout_only {d : Dev} {src : Nat} {x : Trans} (hopen : (d.niRec src).shell = .open_) (hheld : (d.niRec src).held = [])
    (htrans : (d.niRec src).trans = [x]) (hpast : airPast d.time.air ((x.sent + usToTc 64) % airWrap) = true) :
    d.transTimeout src x.tag = d.updNi src (fun n => n.completed x.tag rsTimeout []) := by
  have hfind : (d.niRec src).trans.find? (fun t => t.tag == x.tag) = some x := by simp [htrans]
  rw [Dev.transTimeout_due hfind (d.due_past _ hpast), Dev.settleNi_kept, Dev.pump_none]
  · rw [Dev.niRec_updNi_same]
    exact hheld
  · rw [Dev.niRec_updNi_same]
    exact fun hclosing => absurd (hopen.symm.trans hclosing) (by decide)

/-! ### The rows -/

/-- The rows of the five responses, with the KIND each takes (Table 10.6). -/
theorem exec_response (s : State) (dst : Fin 256) (tag : Byte) (m : Mishap) (hup : s.dev.up = true) (hmode : s.dev.mode.mode ≠ 9)
    (row : (Fin 256 → Byte → Mishap → Instr) × Nat) (hrow : row ∈ ([(Instr.rdRsp, 0x81), (Instr.wrRsp, 0x82), (Instr.msgRsp, 0x83),
      (Instr.maintRdRsp, 0x84), (Instr.maintWrRsp, 0x85)] : List ((Fin 256 → Byte → Mishap → Instr) × Nat))) :
    exec (row.1 dst tag m) s = .next { s with dev := s.dev.takeAnswer dst.val row.2 tag m } := by
  have hexec : exec (row.1 dst tag m) s = s.onRing (fun d => d.takeAnswer dst.val row.2 tag m) := by
    simp only [List.mem_cons, List.not_mem_nil, or_false] at hrow
    rcases hrow with rfl | rfl | rfl | rfl | rfl
    all_goals rfl
  rw [hexec, s.onRing_inService _ hup hmode]

theorem exec_transactionTimeout (s : State) (src : Fin 256) (tag : Byte) (hup : s.dev.up = true) (hmode : s.dev.mode.mode ≠ 9) :
    exec (.transactionTimeout src tag) s = .next { s with dev := s.dev.transTimeout src.val tag } := by
  have hexec : exec (.transactionTimeout src tag) s = s.onRing (fun d => d.transTimeout src.val tag) := rfl
  rw [hexec, s.onRing_inService _ hup hmode]

theorem exec_closingTimeout (s : State) (ni : Fin 256) (hup : s.dev.up = true) (hmode : s.dev.mode.mode ≠ 9) :
    exec (.closingTimeout ni) s = .next { s with dev := s.dev.closingTimeout ni.val } := by
  have hexec : exec (.closingTimeout ni) s = s.onRing (fun d => d.closingTimeout ni.val) := rfl
  rw [hexec, s.onRing_inService _ hup hmode]

/-- Settles O40: the only answer arrives and completes its transaction or is counted; an overdue transaction and a closing shell end. -/
theorem ringroadResponsesAndTimeouts : Obligations.RingroadResponsesAndTimeouts := by
  unfold Obligations.RingroadResponsesAndTimeouts
  refine ⟨fun s dst tag a hup hmode hans hdst htag _ htarget hopen hheld hwhole hnet row hrow hkind => ⟨fun hmine m hm => ?_, fun hnone => ?_⟩,
    fun s src tag x hup hmode hopen hheld htrans htag hpast => ?_, fun s ni hup hmode => ⟨fun hclosing => ?_, fun hother => ?_⟩⟩
  · have hnot : m ≠ .lost ∧ m ≠ .slow := by
      rcases List.mem_pair.mp hm with rfl | rfl
      all_goals decide
    refine ⟨_, exec_response s dst tag m hup hmode row hrow, ?_⟩
    rw [Dev.takeAnswer_completes hans hdst hkind htag m hnot hwhole hnet hopen htarget hheld hmine]
    exact ⟨rfl, rfl, Dev.niRec_updNi_same ..⟩
  · refine ⟨_, exec_response s dst tag .none hup hmode row hrow, ?_⟩
    rw [Dev.takeAnswer_stray hans hdst hkind htag .none (by decide) hwhole hnet hopen htarget hheld hnone]
    exact ⟨rfl, Dev.niRec_updNi_same ..⟩
  · subst htag
    refine ⟨_, exec_transactionTimeout s src x.tag hup hmode, ?_⟩
    rw [Dev.transTimeout_only hopen hheld htrans hpast]
    refine ⟨(Dev.niRec_updNi_same ..).trans ?_, rfl⟩
    simp [Ni.completed, htrans, rsTimeout]
  · refine ⟨_, exec_closingTimeout s ni hup hmode, ?_⟩
    rw [Dev.closingTimeout, if_neg (not_not.mpr hclosing)]
    exact ⟨Dev.niRec_updNi_same .., rfl⟩
  · rw [exec_closingTimeout s ni hup hmode, Dev.closingTimeout, if_pos hother]

end Sys2Proof.Machine
end

section
/-! SUPPORT. Link errors (10_ringroad.md, R254, R270). -/

namespace Sys2Proof.Machine
open Sys2Proof

/-! ### The CRC of a flit -/

theorem crcStep_lt (r : Nat) (b : Bool) : crcStep 16 0x1021 r b < 2 ^ 16 := by
  have hshift : r * 2 % 2 ^ 16 < 2 ^ 16 := Nat.mod_lt _ (by decide)
  unfold crcStep
  dsimp only
  split
  · exact Nat.xor_lt_two_pow hshift (by decide)
  · exact hshift

theorem crcBits_lt (bits : List Bool) : ∀ init, init < 2 ^ 16 → crcBits 16 0x1021 init bits < 2 ^ 16 := by
  induction bits with
  | nil => exact fun _ h => h
  | cons b bits ih => exact fun init _ => ih _ (crcStep_lt init b)

/-- A flit that a junction forms, of its ring's width, passes the check. -/
theorem flitGood_mkFlit (ring : Nat) (data : List Byte) (low : Fin 256) (hlen : data.length = flitBytes ring) :
    flitGood ring (mkFlit data low.val) = true := by
  have hcrc : flitCrc data low.val < 2 ^ 16 := crcBits_lt _ _ (by decide)
  have hlow := low.isLt
  have hside : (mkFlit data low.val).side.toNat = low.val + 256 * flitCrc data low.val :=
    (BitVec.toNat_ofNat ..).trans (Nat.mod_eq_of_lt (by omega))
  have hbits : (low.val + 256 * flitCrc data low.val) % 256 = low.val := by omega
  have hcode : (low.val + 256 * flitCrc data low.val) / 256 = flitCrc data low.val := by omega
  have hpad : padTo (flitBytes ring) (mkFlit data low.val).data = data := padTo_of_length hlen
  rw [flitGood, hside, hpad, hbits, hcode, beq_self_eq_true]

/-! ### A link's record -/

theorem Dev.Told.ring {a b : Dev} (h : a.Told b) : b.ring = a.ring := by
  obtain ⟨_, _, _, _, _, rfl⟩ := h
  rfl

/-- The record of a link, as new where it has none. -/
def Dev.linkRec (d : Dev) (l : LinkId) : LinkRec := (d.ring.links.find? (fun r => r.link == l)).getD { link := l }

theorem Dev.linkRec_link (d : Dev) (l : LinkId) : (d.linkRec l).link = l := by
  unfold Dev.linkRec
  cases hfind : d.ring.links.find? (fun r => r.link == l) with
  | none => rfl
  | some r =>
    have hr : (r.link == l) = true := List.find?_some (p := fun r : LinkRec => r.link == l) hfind
    exact eq_of_beq hr

/-- The record after one more failed flit (R270): `again` where it is the same flit. -/
def LinkRec.failedFlit (r : LinkRec) (again : Bool) : LinkRec :=
  { r with run := if again then r.run + 1 else 1, replays := r.replays + 1, failed := decide (3 ≤ if again then r.run + 1 else 1) }

/-- A failed or removed link counts no flit. -/
theorem Dev.flitError_gone (d : Dev) (l : LinkId) (again : Bool) (h : (d.linkRec l).failed = true ∨ (d.linkRec l).removed = true) :
    d.flitError l again = d := by
  unfold Dev.flitError
  exact if_pos h

/-- On another the flit is counted in the link's record. -/
theorem Dev.flitError_counts (d : Dev) (l : LinkId) (again : Bool) (hfailed : (d.linkRec l).failed = false)
    (hremoved : (d.linkRec l).removed = false) :
    (d.flitError l again).ring.links.find? (fun r => r.link == l) = some ((d.linkRec l).failedFlit again) := by
  have hgoes : ¬((d.linkRec l).failed = true ∨ (d.linkRec l).removed = true) := by simp [hfailed, hremoved]
  have hlinks : (d.flitError l again).ring.links = (d.linkRec l).failedFlit again :: d.ring.links.filter (fun r => r.link != l) := by
    unfold Dev.flitError
    dsimp only
    rw [if_neg (by exact hgoes), (Dev.healthEvent_told _ _).ring]
    rfl
  rw [hlinks]
  exact List.find?_cons_of_pos (beq_iff_eq.mpr (d.linkRec_link l))

/-! ### The row -/

section
variable {s : State} {l : LinkId} {f : RxFlit} (hup : s.dev.up = true) (hmode : s.dev.mode.mode ≠ 9)
include hup hmode

/-- A flit whose CRC is right is no error. -/
theorem exec_flitCrcError_good (hgood : flitGood l.ring f = true) : exec (.flitCrcError l f) s = .next s := by
  have hexec : exec (.flitCrcError l f) s
      = s.onRing (fun d => if linkExists d.part l && !flitGood l.ring f then d.flitError l f.again else d) := rfl
  rw [hexec, s.onRing_inService _ hup hmode, hgood]
  simp

theorem exec_flitCrcError_bad (hlink : linkExists s.dev.part l = true) (hbad : flitGood l.ring f = false) :
    exec (.flitCrcError l f) s = .next { s with dev := s.dev.flitError l f.again } := by
  have hexec : exec (.flitCrcError l f) s
      = s.onRing (fun d => if linkExists d.part l && !flitGood l.ring f then d.flitError l f.again else d) := rfl
  rw [hexec, s.onRing_inService _ hup hmode, hlink, hbad]
  rfl

end

end Sys2Proof.Machine
end

section
/-! SUPPORT. Poison of the device's own stores stays while errors are told of and a core, a cluster memory or a bank of global SRAM goes
under test (12_memory.md, R306, R307; 20_thermal_and_health.md, R492 to R497). An equaliser engine would not do: what it fails writes
status words. -/

namespace Sys2Proof.Machine
open Sys2Proof

/-! ### The relation -/

/-- The first address of the host's map (R300): the device's own lie below. -/
def hostBase : Nat := 0x8000000000000000

/-- Every poisoned word of the device's own stores is still poisoned. -/
structure Dev.PoisonKept (a b : Dev) : Prop where
  kept : ∀ w < hostBase, w ∈ a.mem.poison → w ∈ b.mem.poison

theorem Dev.PoisonKept.of_mem {a b : Dev} (h : b.mem = a.mem) : a.PoisonKept b := ⟨fun _ _ hw => h ▸ hw⟩

theorem Dev.PoisonKept.trans {a b c : Dev} (hab : a.PoisonKept b) (hbc : b.PoisonKept c) : a.PoisonKept c :=
  ⟨fun w hlt hw => hbc.kept w hlt (hab.kept w hlt hw)⟩

/-- What keeps poison keeps it from before a change beside memory. -/
theorem Dev.PoisonKept.since {a b c : Dev} (hbc : b.PoisonKept c) (h : b.mem = a.mem) : a.PoisonKept c := (Dev.PoisonKept.of_mem h).trans hbc

theorem Dev.PoisonKept.ite {d a b : Dev} (p : Prop) [Decidable p] (ha : d.PoisonKept a) (hb : d.PoisonKept b) :
    d.PoisonKept (if p then a else b) := by
  split
  · exact ha
  · exact hb

/-- A fold over a function that keeps poison for the members of the list. -/
theorem foldl_poisonKept {α : Type} (f : Dev → α → Dev) (xs : List α) (hf : ∀ x ∈ xs, ∀ d : Dev, d.PoisonKept (f d x)) (d : Dev) :
    d.PoisonKept (xs.foldl f d) := by
  induction xs generalizing d with
  | nil => exact .of_mem rfl
  | cons x xs ih =>
    exact (hf x List.mem_cons_self d).trans (ih (fun y hy => hf y (List.mem_cons_of_mem x hy)) (f d x))

/-! ### A write to the host -/

theorem Memory.firstUse_poison (m : Memory) {a w : Nat} (ha : hostBase ≤ a) (hlt : w < hostBase) (hw : w ∈ m.poison) :
    w ∈ (m.firstUse a).poison := by
  have hpage : w / 4096 ≠ a / 4096 := by
    unfold hostBase at ha hlt
    omega
  unfold Memory.firstUse
  split
  · exact List.mem_filter.mpr ⟨hw, bne_iff_ne.mpr hpage⟩
  · exact hw

theorem codeWordOf_host {a : Nat} (ha : hostBase ≤ a) : hostBase ≤ codeWordOf a := by
  unfold hostBase at ha ⊢
  unfold codeWordOf codeWidth
  rw [if_neg (by omega)]
  omega

theorem Memory.ifWriteByte_poison (m : Memory) (base n : Nat) (b : Byte) {a w : Nat} (ha : hostBase ≤ a) (hlt : w < hostBase)
    (hw : w ∈ m.poison) : w ∈ (m.ifWriteByte base n a b).poison := by
  have hused : w ∈ (m.firstUse a).poison := m.firstUse_poison ha hlt hw
  have hother : w ≠ codeWordOf a := (Nat.lt_of_lt_of_le hlt (codeWordOf_host ha)).ne
  unfold Memory.ifWriteByte
  dsimp only
  split_ifs
  · exact List.mem_filter.mpr ⟨hused, bne_iff_ne.mpr hother⟩
  · exact hused
  · exact hused
  · exact hused

theorem Memory.ifWriteFrom_poison (base n : Nat) (bs : List Byte) {w : Nat} (hlt : w < hostBase) :
    ∀ (m : Memory) (a : Nat), hostBase ≤ a → w ∈ m.poison → w ∈ (m.ifWriteFrom base n a bs).poison := by
  induction bs with
  | nil => exact fun _ _ _ hw => hw
  | cons b bs ih => exact fun m a ha hw => ih _ (a + 1) (Nat.le_succ_of_le ha) (m.ifWriteByte_poison base n b ha hlt hw)

/-! ### Telling of something -/

section
variable (d : Dev)

theorem Dev.raiseAlert_poisonKept (bit : Nat) : d.PoisonKept (d.raiseAlert bit) := by
  obtain ⟨h, hh⟩ := d.raiseAlert_eq bit
  exact .of_mem (by rw [hh])

theorem Dev.writeEvent_poisonKept (e : EventRec) : d.PoisonKept (d.writeEvent e) :=
  ⟨fun _ hlt hw => Memory.ifWriteFrom_poison _ _ _ hlt _ _ (Nat.le_add_right _ _) hw⟩

theorem Dev.post_poisonKept (kind : Nat) (payload : List Byte) : d.PoisonKept (d.post kind payload) := by
  unfold Dev.post
  extract_lets e counts numbered copied rest
  have hcopied : d.PoisonKept copied := .of_mem rfl
  exact .ite _ hcopied (.ite _ (hcopied.trans (copied.writeEvent_poisonKept e))
    (.ite _ (hcopied.trans (.of_mem rfl)) (hcopied.trans ((Dev.raiseAlert_poisonKept _ 10).since rfl))))

theorem Dev.logAdd_mem (type : Nat) (mirror : Bool) (p : List Byte) : (d.logAdd type mirror p).mem = d.mem := by
  unfold Dev.logAdd
  rfl

theorem Dev.healthEvent_poisonKept (i : HealthInfo) : d.PoisonKept (d.healthEvent i) := by
  unfold Dev.healthEvent
  extract_lets p logged health posted health'
  have hposted : d.PoisonKept (d.post 0xF003 p) := d.post_poisonKept 0xF003 p
  have hlogged : d.PoisonKept logged := hposted.trans (.of_mem (Dev.logAdd_mem _ _ _ _))
  exact .ite _ (.ite _ (hlogged.trans (logged.raiseAlert_poisonKept 12)) hlogged) (.ite _ (.of_mem rfl) (hposted.trans (.of_mem rfl)))

theorem Dev.queueTest_poisonKept (c s : Nat) : d.PoisonKept (d.queueTest c s) := by
  unfold Dev.queueTest
  exact .ite _ (.of_mem rfl) (.of_mem rfl)

theorem Dev.charge_poisonKept (c s w : Nat) (direct : Bool) : d.PoisonKept (d.charge c s w direct) := by
  unfold Dev.charge
  exact .ite _ ((Dev.queueTest_poisonKept _ c s).since rfl) (.of_mem rfl)

theorem Dev.unitError_poisonKept (hkind c s w : Nat) (direct : Bool) (addr : Nat) : d.PoisonKept (d.unitError hkind c s w direct addr) :=
  (d.charge_poisonKept c s w direct).trans (Dev.healthEvent_poisonKept _ _)

theorem Dev.hbmRepair_poisonKept (r : HbmRow) (a : Nat) : d.PoisonKept (d.hbmRepair r a) := by
  unfold Dev.hbmRepair
  extract_lets used errors ev due base repaired spared spent
  have hspared : spared.mem = d.mem := by
    unfold spared
    split <;> rfl
  have hmarked : (if r.stack = 0 then { spent with health := due spent.health } else spent.updUnit 12 r.stack
      (fun u => { u with markRetire := true })).mem = d.mem := by
    split <;> rfl
  exact .ite _ ((Dev.healthEvent_poisonKept _ _).since ((Dev.logAdd_mem ..).trans hspared)) ((Dev.healthEvent_poisonKept _ _).since hmarked)

theorem Dev.hbmError_poisonKept (a : Nat) (corrected : Bool) : d.PoisonKept (d.hbmError a corrected) := by
  unfold Dev.hbmError
  exact .ite _ (.of_mem rfl) (d.hbmRepair_poisonKept _ a)

theorem Dev.eccUncorrectable_poisonKept (a : Nat) : d.PoisonKept (d.eccUncorrectable a) := by
  unfold Dev.eccUncorrectable
  split
  · exact (d.healthEvent_poisonKept _).trans (Dev.hbmError_poisonKept _ a false)
  · exact d.unitError_poisonKept _ _ _ _ _ _
  · exact .of_mem rfl

/-! ### Jobs that end or go back to their lists -/

theorem Dev.dropAllocated_mem (x : Deferred) : (d.dropAllocated x).mem = d.mem := by
  unfold Dev.dropAllocated
  split <;> rfl

theorem Dev.dropDeferred_poisonKept (id : Word) : d.PoisonKept (d.dropDeferred id) := by
  unfold Dev.dropDeferred
  split
  · exact .of_mem rfl
  · exact (foldl_poisonKept Dev.dropAllocated _ (fun x _ d => .of_mem (d.dropAllocated_mem x)) d).trans (.of_mem rfl)

theorem Dev.putQueue_poisonKept (id : Word) (entry : List Byte) : d.PoisonKept (d.putQueue id entry) := by
  unfold Dev.putQueue
  split
  · exact .of_mem rfl
  · exact .ite _ (d.post_poisonKept _ _) (.ite _ (.of_mem rfl) (.of_mem rfl))

end

theorem Dev.releaseHeads_poisonKept (n : Nat) (id : Word) (d : Dev) : d.PoisonKept (Dev.releaseHeads n id d) := by
  induction n generalizing d with
  | zero => exact .of_mem rfl
  | succ n ih =>
    unfold Dev.releaseHeads
    split
    · exact .of_mem rfl
    · split
      · exact .of_mem rfl
      · refine Dev.PoisonKept.trans ?_ (ih _)
        exact (d.putQueue_poisonKept _ _).trans (.of_mem rfl)

section
variable (d : Dev)

theorem Dev.finishJob_poisonKept (j : Job) (status : Word) (flags : Nat) : d.PoisonKept (d.finishJob j status flags) := by
  unfold Dev.finishJob
  dsimp only
  split_ifs
  · exact .of_mem rfl
  · exact (Dev.releaseHeads_poisonKept _ _ _).since rfl
  · exact (d.putQueue_poisonKept _ _).trans (.of_mem rfl)

theorem Dev.endJob_poisonKept (id : Word) (flags : Nat) : d.PoisonKept (d.endJob id flags) := by
  have hdropped := d.dropDeferred_poisonKept id
  unfold Dev.endJob
  dsimp only
  split
  · exact hdropped
  · exact hdropped.trans (Dev.finishJob_poisonKept _ _ _ _)

theorem Dev.redispatch_poisonKept (j : Job) : d.PoisonKept (d.redispatch j) := by
  have hdropped := d.dropDeferred_poisonKept j.id
  unfold Dev.redispatch
  exact .ite _ (hdropped.trans (Dev.endJob_poisonKept _ _ _)) (hdropped.trans (.of_mem rfl))

/-- A withdrawn delivery clears its slot's JOBID, and marks no word good. -/
theorem Dev.withdraw_poisonKept (x : Delivery) (exclude : Bool) : d.PoisonKept (d.withdraw x exclude) := ⟨fun _ _ hw => hw⟩

/-! ### Units that fail and tests that start -/

theorem Dev.failUnit_poisonKept (c s : Nat) (hc : c ≠ 4) : d.PoisonKept (d.failUnit c s) := by
  have hwithdrawn (xs : List Delivery) (d : Dev) : d.PoisonKept (xs.foldl (fun d x => d.withdraw x false) d) :=
    foldl_poisonKept _ xs (fun x _ d => d.withdraw_poisonKept x false) d
  unfold Dev.failUnit
  dsimp only
  rw [if_neg hc, if_neg hc]
  refine Dev.PoisonKept.trans ?_ (foldl_poisonKept Dev.redispatch _ (fun j _ d => d.redispatch_poisonKept j) _)
  exact .ite _ ((hwithdrawn _ _).since rfl) (.of_mem rfl)

/-- The units whose tests write no memory: cores, and the stores beside theirs. -/
def testKeepsPoison (u : Nat × Nat) : Prop := u.1 = 1 ∨ u.1 = 10 ∨ u.1 = 11 ∨ u.1 = 12

theorem Dev.testStart_poisonKept (u : Nat × Nat) (rolling : Bool) (hu : testKeepsPoison u) : d.PoisonKept (d.testStart u rolling) := by
  have hmarked : d.PoisonKept (d.updUnit u.1 u.2 (fun x => { x with testing := true, queued := false, rolling := rolling })) := .of_mem rfl
  have hfour : u.1 ≠ 4 := by
    unfold testKeepsPoison at hu
    omega
  have hline (d : Dev) (h : u.1 ≠ 1) : d.lineDown u.1 u.2 = d := by
    unfold testKeepsPoison at hu
    rw [Dev.lineDown, if_neg (by omega), if_neg (by omega)]
  unfold Dev.testStart
  extract_lets d1 d2 d3
  have hfailed : d.PoisonKept d2 := .ite _ hmarked (hmarked.trans (d1.failUnit_poisonKept u.1 u.2 hfour))
  have hlines : d2.PoisonKept d3 := by
    unfold d3
    split
    next => exact .of_mem rfl
    next h => exact .of_mem (congrArg Dev.mem (hline d2 h))
  exact (hfailed.trans hlines).trans (d3.healthEvent_poisonKept _)

theorem Dev.startTests_poisonKept (h : ∀ u ∈ d.health.testQueue, testKeepsPoison u) : d.PoisonKept d.startTests := by
  unfold Dev.startTests
  refine foldl_poisonKept _ _ (fun u hu d => ?_) d
  exact .ite _ ((Dev.testStart_poisonKept _ u false (h u hu)).since rfl) (.of_mem rfl)

/-! ### The tests that wait -/

theorem Dev.raiseAlert_health (bit : Nat) : (d.raiseAlert bit).health = d.health := by
  obtain ⟨h, hh⟩ := d.raiseAlert_eq bit
  rw [hh]

theorem Dev.post_health (kind : Nat) (payload : List Byte) : (d.post kind payload).health = d.health := by
  unfold Dev.post
  extract_lets e counts numbered copied rest
  have hcopied : copied.health = d.health := rfl
  split
  · exact hcopied
  · split
    · exact hcopied
    · split
      · exact hcopied
      · exact (Dev.raiseAlert_health _ 10).trans hcopied

theorem Dev.logAdd_testQueue (type : Nat) (mirror : Bool) (p : List Byte) :
    (d.logAdd type mirror p).health.testQueue = d.health.testQueue := by
  obtain ⟨log, next, due, h⟩ : ∃ log next due, (d.logAdd type mirror p).health
      = { d.health with log := log, logNext := next, sparesDue := due } := ⟨_, _, _, rfl⟩
  rw [h]

theorem Dev.healthEvent_testQueue (i : HealthInfo) : (d.healthEvent i).health.testQueue = d.health.testQueue := by
  unfold Dev.healthEvent
  extract_lets p logged health posted health'
  have hposted : (d.post 0xF003 p).health.testQueue = d.health.testQueue := by rw [Dev.post_health]
  have hlogged : logged.health.testQueue = d.health.testQueue := (Dev.logAdd_testQueue _ _ _ _).trans hposted
  split
  · split
    · rw [Dev.raiseAlert_health, hlogged]
    · exact hlogged
  · split
    · rfl
    · exact hposted

theorem Dev.hbmRepair_testQueue (r : HbmRow) (a : Nat) : (d.hbmRepair r a).health.testQueue = d.health.testQueue := by
  unfold Dev.hbmRepair
  extract_lets used errors ev due base repaired spared spent
  have hspared : spared.health.testQueue = d.health.testQueue := by
    unfold spared
    split <;> rfl
  split
  · exact (Dev.healthEvent_testQueue _ _).trans ((Dev.logAdd_testQueue _ _ _ _).trans hspared)
  · refine (Dev.healthEvent_testQueue _ _).trans ?_
    split <;> rfl

theorem Dev.hbmError_testQueue (a : Nat) (corrected : Bool) : (d.hbmError a corrected).health.testQueue = d.health.testQueue := by
  unfold Dev.hbmError
  dsimp only
  split
  · rfl
  · exact d.hbmRepair_testQueue _ a

theorem Dev.queueTest_testQueue (c s : Nat) (u : Nat × Nat) (hu : u ∈ (d.queueTest c s).health.testQueue) :
    u ∈ d.health.testQueue ∨ u = (c, s) := by
  unfold Dev.queueTest at hu
  dsimp only at hu
  split at hu
  · exact .inl hu
  · exact (List.mem_append.mp hu).imp_right List.mem_singleton.mp

theorem Dev.charge_testQueue (c s w : Nat) (direct : Bool) (u : Nat × Nat) (hu : u ∈ (d.charge c s w direct).health.testQueue) :
    u ∈ d.health.testQueue ∨ u = (c, s) := by
  unfold Dev.charge at hu
  extract_lets cfg add old lvl d1 at hu
  split at hu
  · exact d1.queueTest_testQueue c s u hu
  · exact .inl hu

/-- An error of a unit adds at most its own test. -/
theorem Dev.unitError_testQueue (hkind c s w : Nat) (direct : Bool) (addr : Nat) (u : Nat × Nat)
    (hu : u ∈ (d.unitError hkind c s w direct addr).health.testQueue) : u ∈ d.health.testQueue ∨ u = (c, s) := by
  unfold Dev.unitError at hu
  rw [Dev.healthEvent_testQueue] at hu
  exact d.charge_testQueue c s w direct u hu

/-- An uncorrectable word adds at most the test of the unit that owns the store. -/
theorem Dev.eccUncorrectable_testQueue (a : Nat) (u : Nat × Nat) (hu : u ∈ (d.eccUncorrectable a).health.testQueue) :
    u ∈ d.health.testQueue ∨ storeUnit a = some u := by
  unfold Dev.eccUncorrectable at hu
  split at hu
  next =>
    rw [Dev.hbmError_testQueue, Dev.healthEvent_testQueue] at hu
    exact .inl hu
  next c s _ hunit =>
    rcases d.unitError_testQueue _ c s _ _ a u hu with hold | rfl
    · exact .inl hold
    · exact .inr hunit
  next => exact .inl hu

end

/-- The tests of the units that own stores write no memory. -/
theorem storeUnit_testKeepsPoison {a : Nat} {u : Nat × Nat} (h : storeUnit a = some u) : testKeepsPoison u := by
  unfold storeUnit at h
  split_ifs at h
  all_goals
    obtain rfl := Option.some.inj h
    simp [testKeepsPoison]

end Sys2Proof.Machine
end

section
/-! SUPPORT. SCRUB (12_memory.md, R306, R307). -/

namespace Sys2Proof.Machine
open Sys2Proof

theorem mem_insertNat (n : Nat) (xs : List Nat) : n ∈ insertNat n xs := by
  induction xs with
  | nil => exact List.mem_singleton_self n
  | cons k xs ih =>
    unfold insertNat
    split_ifs with hlt heq
    · exact List.mem_cons_self
    · exact heq ▸ List.mem_cons_self
    · exact List.mem_cons_of_mem k ih

theorem codeWordOf_codeWordOf (a : Nat) : codeWordOf (codeWordOf a) = codeWordOf a := by
  have hside : codeWidth (codeWordOf a) = codeWidth a := by
    unfold codeWordOf codeWidth
    split_ifs
    all_goals omega
  have hpos : 0 < codeWidth a := by
    unfold codeWidth
    split <;> decide
  rw [codeWordOf, hside]
  unfold codeWordOf
  rw [Nat.mul_div_cancel _ hpos]

/-- A word that is marked poisoned is (R306). -/
theorem Memory.markPoison_marks (m : Memory) (a : Nat) : codeWordOf a ∈ (m.markPoison (codeWordOf a)).poison := by
  unfold Memory.markPoison
  rw [codeWordOf_codeWordOf]
  exact mem_insertNat _ _

/-- The stores are the device's own. -/
theorem storeUnit_below {a : Nat} {u : Nat × Nat} (h : storeUnit a = some u) : codeWordOf a < hostBase := by
  have hdown : codeWordOf a ≤ a := Nat.div_mul_le_self a (codeWidth a)
  have hlow : a < hostBase := by
    unfold storeUnit at h
    unfold hostBase
    split_ifs at h
    all_goals omega
  exact Nat.lt_of_le_of_lt hdown hlow

theorem Dev.scrub_clean (d : Dev) (a : Nat) : d.scrub a .none = d := by
  unfold Dev.scrub
  split
  · rfl
  · dsimp only
    rw [ite_self]

theorem Dev.scrub_outside (d : Dev) (a : Nat) (e : EccHit) (h : storeUnit a = none) : d.scrub a e = d := by
  unfold Dev.scrub
  rw [h]

theorem Dev.scrub_uncorrectable (d : Dev) {a c u : Nat} (off : Nat) (h : storeUnit a = some (c, u)) (hpresent : d.present c u = true)
    (hrun : d.domRun (unitDomain c u) = true) :
    d.scrub a (.uncorrectable off) = ({ d with mem := d.mem.markPoison (codeWordOf a) } : Dev).eccUncorrectable (codeWordOf a) := by
  unfold Dev.scrub
  simp [h, hpresent, hrun]

/-- No poison goes while an uncorrectable word is told of and the test of its unit, the only one that waits, starts. -/
theorem Dev.eccUncorrectable_startTests_poisonKept (d : Dev) (a : Nat) (htests : d.health.testQueue = []) :
    d.PoisonKept (d.eccUncorrectable a).startTests := by
  refine (d.eccUncorrectable_poisonKept a).trans (Dev.startTests_poisonKept _ fun u hu => ?_)
  rcases d.eccUncorrectable_testQueue a u hu with hold | hunit
  · exact absurd (htests ▸ hold) List.not_mem_nil
  · exact storeUnit_testKeepsPoison hunit

theorem Dev.scrub_poisons (d : Dev) {a c u : Nat} (off : Nat) (h : storeUnit a = some (c, u)) (hpresent : d.present c u = true)
    (hrun : d.domRun (unitDomain c u) = true) (htests : d.health.testQueue = []) :
    codeWordOf a ∈ ((d.scrub a (.uncorrectable off)).startTests).mem.poison := by
  have hkept := Dev.eccUncorrectable_startTests_poisonKept { d with mem := d.mem.markPoison (codeWordOf a) } (codeWordOf a) htests
  rw [d.scrub_uncorrectable off h hpresent hrun]
  exact hkept.kept _ (storeUnit_below h) (d.mem.markPoison_marks a)

theorem exec_scrub (s : State) (addr : DWord) (e : EccHit) (hup : s.dev.up = true) (hmode : s.dev.mode.mode ≠ 9) :
    exec (.scrub addr e) s = .next { s with dev := (s.dev.scrub addr.toNat e).startTests } := by
  have hexec : exec (.scrub addr e) s = s.onRing (fun d => (d.scrub addr.toNat e).startTests) := rfl
  rw [hexec, s.onRing_inService _ hup hmode]

/-- Settles O42: the check of a flit, the record of its link, and the poison of a scrubbed word. -/
theorem linkErrorsAndScrub : Obligations.LinkErrorsAndScrub := by
  unfold Obligations.LinkErrorsAndScrub
  intro s l f hup hmode
  refine ⟨flitGood_mkFlit l.ring, exec_flitCrcError_good hup hmode, fun hlink hbad => ?_, fun htests addr => ?_⟩
  · have hexec := exec_flitCrcError_bad hup hmode hlink hbad
    refine ⟨fun hnone => ⟨_, hexec, ?_⟩, fun old hold hfailed hremoved => ⟨_, hexec, ?_⟩, fun old hold hfailed => ?_⟩
    · have hrec : s.dev.linkRec l = { link := l } := by rw [Dev.linkRec, hnone, Option.getD_none]
      have hcount := s.dev.flitError_counts l f.again (by rw [hrec]) (by rw [hrec])
      rw [hcount, hrec, LinkRec.failedFlit]
      simp
    · have hrec : s.dev.linkRec l = old := by rw [Dev.linkRec, hold, Option.getD_some]
      exact (s.dev.flitError_counts l f.again (by rw [hrec, hfailed]) (by rw [hrec, hremoved])).trans (by rw [hrec, LinkRec.failedFlit])
    · have hrec : s.dev.linkRec l = old := by rw [Dev.linkRec, hold, Option.getD_some]
      rw [hexec, s.dev.flitError_gone l f.again (.inl (by rw [hrec, hfailed]))]
  · refine ⟨?_, fun hout e => ?_, fun c u off hunit hpresent hrun => ⟨_, exec_scrub s addr _ hup hmode, ?_⟩⟩
    · rw [exec_scrub s addr .none hup hmode, Dev.scrub_clean, Dev.startTests_none _ htests]
    · rw [exec_scrub s addr e hup hmode, s.dev.scrub_outside _ e hout, Dev.startTests_none _ htests]
    · exact s.dev.scrub_poisons off hunit hpresent hrun htests

end Sys2Proof.Machine
end

section
/-! SUPPORT. A maintenance write that would give a stream channel more than the 2 MiB of its engine's buffer (11_dma.md, R280, Table 11.1). -/

namespace Sys2Proof.Machine
open Sys2Proof

/-- A device in service, with every shell open and nothing else in it. -/
@[irreducible] def openShells : State :=
  { dev :=
    { start := { powered := true, resetLow := false }
      mode := { mode := 4 }
      ring := { ni := Vector.replicate 256 { shell := .open_ } } } }

/-- A write that would assign a channel 65,535 units of 4 KiB. -/
def wideRegion : DWord := 0xFFFF00000000

/-- The device meets what the statement asks where control core 0 assigns stream channel S0 of DMA engine 0. -/
theorem openShells_writes : openShells.dev.up = true ∧ openShells.dev.mode.mode ≠ 9 ∧ (openShells.dev.niRec 245).shell = .open_
    ∧ openShells.dev.pathCut 245 216 = false ∧ openShells.dev.ring.net.worms = [] ∧ (openShells.dev.niRec 245).canSend 5 8 = true
    ∧ (openShells.dev.dmaChan 0 0).idle = true := by
  decide +kernel

/-- The channel stays unassigned (R280). -/
theorem openShells_unassigned :
    ((openShells.dev.maint 245 216 (.channel 0) (some wideRegion) .none).dmaChan 0 0).assigned = false := by
  decide +kernel

theorem exec_maintWr (s : State) (src ni : Fin 256) (reg : MaintReg) (v : DWord) (m : Mishap) (hup : s.dev.up = true)
    (hmode : s.dev.mode.mode ≠ 9) :
    exec (.maintWr src ni reg v m) s = .next { s with dev := s.dev.maint src.val ni.val reg (some v) m } := by
  have hexec : exec (.maintWr src ni reg v m) s = s.onRing (fun d => d.maint src.val ni.val reg (some v) m) := rfl
  rw [hexec, s.onRing_inService _ hup hmode]

/-- Refutes O41: its clause for MAINT_WR assigns an idle channel whatever the value, but a stream channel whose region would
bring the engine's buffer past 2 MiB is not assigned (R280). -/
theorem not_maintenanceMarksAndRoadworks : ¬ Obligations.MaintenanceMarksAndRoadworks := by
  unfold Obligations.MaintenanceMarksAndRoadworks
  intro h
  obtain ⟨hup, hmode, hshell, hwhole, hnet, hroom, hidle⟩ := openShells_writes
  obtain ⟨hMaintenance, -⟩ := h openShells hup hmode
  obtain ⟨-, hWrite⟩ := hMaintenance 0 0 0 wideRegion hshell hwhole hnet
  obtain ⟨t, ht, hassigned, -⟩ := hWrite hroom hidle (by decide)
  rw [exec_maintWr _ _ _ _ _ _ hup hmode] at ht
  obtain rfl := Host.Outcome.next.inj ht
  exact Bool.false_ne_true (openShells_unassigned.symm.trans hassigned)

end Sys2Proof.Machine
end

section
/-! SUPPORT. One channel of a DMA engine changed: how its blocks begin, and what ABORT, RESUME, RETRY, DOORBELL and a hand-over make of it
(11_dma.md, R282, R283, R285, R294, R296). -/

namespace Sys2Proof.Machine
open Sys2Proof

/-! ### One channel changed -/

/-- The device with one channel of an engine replaced. -/
def Dev.setDma (d : Dev) (e n : Nat) (c : DmaChan) : Dev := { d with dma := { d.dma with chan := d.dma.chan.set (dmaIdx e n) c } }

theorem Dev.updDma_eq (d : Dev) (e n : Nat) (f : DmaChan → DmaChan) : d.updDma e n f = d.setDma e n (f (d.dmaChan e n)) := rfl

@[simp] theorem Dev.dmaChan_setDma (d : Dev) (e n : Nat) (c : DmaChan) : (d.setDma e n c).dmaChan e n = c := by
  simp [Dev.dmaChan, Dev.setDma]

@[simp] theorem Dev.setDma_setDma (d : Dev) (e n : Nat) (c c' : DmaChan) : (d.setDma e n c).setDma e n c' = d.setDma e n c' := by
  simp [Dev.setDma]

@[simp] theorem Dev.setDma_dmaChan (d : Dev) (e n : Nat) : d.setDma e n (d.dmaChan e n) = d := by
  simp [Dev.dmaChan, Dev.setDma]

@[simp] theorem Dev.setDma_turns (d : Dev) (e n : Nat) (c : DmaChan) (k : Nat) : (d.setDma e n c).dmaTurns k = d.dmaTurns k := rfl

section
variable {d : Dev} {e n : Nat}

/-! ### Blocks begin -/

/-- A block that begins becomes the one in progress, with the descriptor it was given and nothing else (R285). -/
theorem Dev.dmaBegin_run (d : Dev) (e n : Nat) (r : DmaRun) :
    ∃ r', d.dmaBegin e n r = d.setDma e n { d.dmaChan e n with run := some r' } ∧ r'.desc = r.desc ∧ r'.at_ = r.at_
      ∧ r'.written = r.written := by
  refine ⟨_, rfl, ?_⟩
  dsimp only
  split
  · exact ⟨rfl, rfl, rfl⟩
  · split_ifs
    all_goals exact ⟨rfl, rfl, rfl⟩

theorem Dev.dmaBegin_setDma (d : Dev) (e n : Nat) (c : DmaChan) (r : DmaRun) :
    ∃ r', (d.setDma e n c).dmaBegin e n r = d.setDma e n { c with run := some r' } ∧ r'.desc = r.desc ∧ r'.at_ = r.at_
      ∧ r'.written = r.written := by
  obtain ⟨r', hbegin, hr⟩ := (d.setDma e n c).dmaBegin_run e n r
  rw [Dev.dmaChan_setDma, Dev.setDma_setDma] at hbegin
  exact ⟨r', hbegin, hr⟩

/-- A read that is delivered and meets no poison answers the bytes. -/
theorem Dev.netRead_delivered {src rights a k : Nat} (hreach : d.reach src rights a k = 0) (hgood : d.mem.poisoned a k = false) :
    d.netRead src rights a k .none = (0, d.mem.ifBytes a k, d) := by
  unfold Dev.netRead
  simp [hreach, hostSays, Dev.eccHit, hgood]

/-- A descriptor that can be read begins its block (R282, R285). -/
theorem Dev.dmaFetch_delivered {a : DWord} (halign : a.toNat % 64 = 0) (hreach : d.reach (216 + e) (d.dmaChan e n).owner a.toNat 64 = 0)
    (hgood : d.mem.poisoned a.toNat 64 = false) :
    d.dmaFetch e n a false = d.dmaBegin e n { desc := d.mem.ifBytes a.toNat 64, at_ := a } := by
  unfold Dev.dmaFetch
  simp [halign, d.netRead_delivered hreach hgood]

/-- No chain starts on a channel that is busy or halted, is in REG mode, or has none queued (R283). -/
theorem Dev.dmaNext_stays {c : DmaChan} (h : c.idle = false ∨ c.mode = true ∨ c.queue = []) :
    (d.setDma e n c).dmaNext e n = d.setDma e n c := by
  unfold Dev.dmaNext
  rcases h with h | h | h
  all_goals simp [h]

/-- A chain queued alone on an idle DESC-mode channel starts (R283). -/
theorem Dev.dmaNext_starts {c : DmaChan} (a : DWord) (hidle : c.idle = true) (hmode : c.mode = false) (hqueue : c.queue = []) :
    (d.setDma e n { c with queue := [a] }).dmaNext e n = (d.setDma e n c).dmaFetch e n a false := by
  have hidle' : ({ c with queue := [a] } : DmaChan).idle = true := hidle
  have hempty : ({ c with queue := [] } : DmaChan) = c := by rw [← hqueue]
  have hnext : (d.setDma e n { c with queue := [a] }).dmaNext e n
      = ((d.setDma e n { c with queue := [a] }).updDma e n (fun c => { c with queue := [] })).dmaFetch e n a false := by
    rw [Dev.dmaNext, Dev.dmaChan_setDma, hidle', hmode]
    rfl
  rw [hnext, Dev.updDma_eq, Dev.dmaChan_setDma, Dev.setDma_setDma, hempty]

/-! ### ABORT, RESUME and RETRY -/

theorem Dev.dmaAbort_noBlock (hrun : (d.dmaChan e n).run = none) : d.dmaAbort e n = d := by
  have hsame : { d.dmaChan e n with run := none } = d.dmaChan e n := by rw [← hrun]
  simp [Dev.dmaAbort, Dev.updDma_eq, hrun, hsame]

theorem Dev.dmaAbort_running {r : DmaRun} (hrun : (d.dmaChan e n).run = some r) (hdone : r.done = none) :
    d.dmaAbort e n = d.setDma e n { d.dmaChan e n with run := some { r with done := some (0x25, 0) } } := by
  simp [Dev.dmaAbort, Dev.updDma_eq, hrun, hdone]

/-- RESUME of a channel that is not halted, or still has its block, has no effect (R294). -/
theorem Dev.dmaResume_noEffect (h : (d.dmaChan e n).halt = false ∨ (d.dmaChan e n).run.isSome = true) : d.dmaResume e n = d := by
  unfold Dev.dmaResume
  rw [if_pos (by simpa using h)]

/-- RETRY of a channel that is not halted, or still has its block, has no effect (R294). -/
theorem Dev.dmaRetry_noEffect (h : (d.dmaChan e n).halt = false ∨ (d.dmaChan e n).run.isSome = true) : d.dmaRetry e n = d := by
  unfold Dev.dmaRetry
  rw [if_pos (by simpa using h)]

/-- RESUME where nothing is left to flush and no chain is queued clears HALT (R294; a REG-mode channel goes idle, log entry 81). -/
theorem Dev.dmaResume_clears (hhalt : (d.dmaChan e n).halt = true) (hrun : (d.dmaChan e n).run = none)
    (hqueue : (d.dmaChan e n).queue = []) (hchain : (d.dmaChan e n).failed = none ∨ (d.dmaChan e n).mode = true) :
    d.dmaResume e n = d.setDma e n { d.dmaChan e n with halt := false, failed := none } := by
  have hstays : (d.setDma e n { d.dmaChan e n with halt := false, failed := none }).dmaNext e n = _ :=
    Dev.dmaNext_stays (.inr (.inr hqueue))
  unfold Dev.dmaResume
  dsimp only
  rw [if_neg (by simp [hhalt, hrun])]
  split
  case h_1 r hfailed =>
    have hmode : (d.dmaChan e n).mode = true := hchain.resolve_left (by simp [hfailed])
    rw [if_neg (by simp [hmode])]
    exact hstays
  case h_2 hfailed =>
    rw [← hfailed] at hstays ⊢
    exact hstays

/-- RETRY in REG mode runs the active set again (R294). -/
theorem Dev.dmaRetry_active (hhalt : (d.dmaChan e n).halt = true) (hrun : (d.dmaChan e n).run = none)
    (hmode : (d.dmaChan e n).mode = true) :
    ∃ r, d.dmaRetry e n = d.setDma e n { d.dmaChan e n with halt := false, failed := none, run := some r }
      ∧ r.desc = (d.dmaChan e n).active := by
  have hretry : d.dmaRetry e n
      = (d.setDma e n { d.dmaChan e n with halt := false, failed := none }).dmaBegin e n { desc := (d.dmaChan e n).active } :=
    (if_neg (by simp [hhalt, hrun])).trans (if_pos hmode)
  obtain ⟨r, hbegin, hdesc, -, -⟩ := d.dmaBegin_setDma e n { d.dmaChan e n with halt := false, failed := none } { desc := (d.dmaChan e n).active }
  exact ⟨r, hretry.trans hbegin, hdesc⟩

/-! ### DOORBELL and the hand-over -/

theorem Dev.dmaDoorbell_overflows (a : DWord) (h : (d.dmaChan e n).mode = true ∨ 64 ≤ (d.dmaChan e n).queue.length) :
    d.dmaDoorbell e n a = d.setDma e n { d.dmaChan e n with dbovf := true } :=
  if_pos h

theorem Dev.dmaDoorbell_accepts (a : DWord) (hmode : (d.dmaChan e n).mode = false) (hroom : (d.dmaChan e n).queue.length < 64) :
    d.dmaDoorbell e n a = (d.setDma e n { d.dmaChan e n with queue := (d.dmaChan e n).queue ++ [a] }).dmaNext e n :=
  if_neg (by simp [hmode, hroom])

theorem Dev.dmaDoorbell_queues (a : DWord) (hmode : (d.dmaChan e n).mode = false) (hroom : (d.dmaChan e n).queue.length < 64)
    (hidle : (d.dmaChan e n).idle = false) :
    d.dmaDoorbell e n a = d.setDma e n { d.dmaChan e n with queue := (d.dmaChan e n).queue ++ [a] } :=
  (Dev.dmaDoorbell_accepts a hmode hroom).trans (Dev.dmaNext_stays (.inl hidle))

/-- On an idle channel with an empty queue the chain's first descriptor is read and its block begins (R283). -/
theorem Dev.dmaDoorbell_begins {a : DWord} (hmode : (d.dmaChan e n).mode = false) (hqueue : (d.dmaChan e n).queue = [])
    (hidle : (d.dmaChan e n).idle = true) (halign : a.toNat % 64 = 0)
    (hreach : d.reach (216 + e) (d.dmaChan e n).owner a.toNat 64 = 0) (hgood : d.mem.poisoned a.toNat 64 = false) :
    ∃ r, d.dmaDoorbell e n a = d.setDma e n { d.dmaChan e n with run := some r } ∧ r.desc = d.mem.ifBytes a.toNat 64 ∧ r.at_ = a
      ∧ r.written = 0 := by
  have hfetch : d.dmaDoorbell e n a = d.dmaFetch e n a false := by
    rw [Dev.dmaDoorbell_accepts a hmode (by simp [hqueue]), hqueue, List.nil_append, Dev.dmaNext_starts a hidle hmode hqueue,
      Dev.setDma_dmaChan]
  obtain ⟨r, hbegin, hr⟩ := d.dmaBegin_run e n { desc := d.mem.ifBytes a.toNat 64, at_ := a }
  exact ⟨r, (hfetch.trans (Dev.dmaFetch_delivered halign hreach hgood)).trans hbegin, hr⟩

/-- An armed image is handed over to a new block (R296). -/
theorem Dev.dmaHandOver_armed (cont : Bool) (harmed : (d.dmaChan e n).armed = true) :
    ∃ r, d.dmaHandOver e n cont
        = d.setDma e n { d.dmaChan e n with active := (d.dmaChan e n).shadow, armed := false, taken := true, run := some r }
      ∧ r.desc = (d.dmaChan e n).shadow := by
  obtain ⟨r, hbegin, hdesc, -, -⟩ := d.dmaBegin_setDma e n
    { d.dmaChan e n with active := (d.dmaChan e n).shadow, armed := false, taken := true } { desc := (d.dmaChan e n).shadow }
  exact ⟨r, (if_pos harmed).trans hbegin, hdesc⟩

end

end Sys2Proof.Machine
end

section
/-! SUPPORT. The completion of a block of a DMA channel (11_dma.md, R293, R294, R298). -/

namespace Sys2Proof.Machine
open Sys2Proof

section
variable {d : Dev} {e n : Nat}

/-! ### Channels other than C255 -/

theorem Dev.dmaTakeJob_other (hn : n ≠ 319) : d.dmaTakeJob e n = d := if_pos (.inl hn)

theorem Dev.dmaJobHalt_other (hn : n ≠ 319) : d.dmaJobHalt e n = d := if_neg (fun h => hn h.1)

theorem Dev.dmaBurstEnd_unserved (h : (d.dmaTurns e).serving = none) : d.dmaBurstEnd e n = d := if_neg (by simp [h])

/-! ### What follows a block -/

/-- A failed block halts its channel, which keeps it (R293). -/
theorem Dev.dmaAfter_failed {r : DmaRun} {res det : Nat} (status : Word) (hn : n ≠ 319) (hdone : r.done = some (res, det)) (hres : res ≠ 0)
    (hflush : (d.dmaChan e n).flushing = false) :
    d.dmaAfter e n r status = d.setDma e n { d.dmaChan e n with run := none, halt := true, failed := some r } := by
  unfold Dev.dmaAfter
  simp [Dev.updDma_eq, hflush, hdone, hres, hn]

/-- After a block that ended its chain with OK a channel without a queued chain is idle (R283, R293). -/
theorem Dev.dmaAfter_idle {r : DmaRun} {det : Nat} (status : Word) (hn : n ≠ 319) (hdone : r.done = some (0, det))
    (hflush : (d.dmaChan e n).flushing = false) (hmode : (d.dmaChan e n).mode = false) (hchain : r.flag 0 = false)
    (hqueue : (d.dmaChan e n).queue = []) :
    d.dmaAfter e n r status = d.setDma e n { d.dmaChan e n with run := none } := by
  have hnext : d.dmaAfter e n r status = (d.setDma e n { d.dmaChan e n with run := none }).dmaNext e n := by
    unfold Dev.dmaAfter
    simp [Dev.updDma_eq, hflush, hdone, hmode, hchain, hn]
  exact hnext.trans (Dev.dmaNext_stays (.inr (.inr hqueue)))

/-! ### The completion -/

theorem Dev.dmaComplete_unfinished (h : ∀ r, (d.dmaChan e n).run = some r → r.done = none) : d.dmaComplete e n = d := by
  unfold Dev.dmaComplete
  dsimp only
  split
  case h_1 => rfl
  case h_2 r hrun => rw [h r hrun]

/-- A block that asks for no status word, queue entry or event leaves its result in LASTRESULT and LASTDETAIL and nothing else (R293). -/
theorem Dev.dmaComplete_silent {r : DmaRun} {res det : Nat} (hserving : (d.dmaTurns e).serving = none)
    (hrun : (d.dmaChan e n).run = some r) (hdone : r.done = some (res, det)) (hstw : r.flag 1 = false) (hcqv : r.flag 2 = false)
    (hevv : r.flag 3 = false) (hoverlaps : r.overlaps = false) :
    ∃ status, d.dmaComplete e n
      = (d.setDma e n { d.dmaChan e n with lastResult := res, lastDetail := det }).dmaAfter e n r status := by
  unfold Dev.dmaComplete
  simp only [hrun, hdone, hstw, hcqv, hevv, hoverlaps, Bool.false_eq_true, false_and, if_false, Dev.updDma_eq]
  rw [Dev.dmaBurstEnd_unserved (by simpa using hserving)]
  exact ⟨_, rfl⟩

end

theorem exec_dmaBlockComplete (s : State) (e : Fin 8) (n : Fin 320) (hup : s.dev.up = true) (hn : n.val ≠ 319) :
    exec (.dmaBlockComplete e n) s = .next { s with dev := s.dev.dmaComplete e.val n.val } := by
  have hexec : exec (.dmaBlockComplete e n) s = .next { s with dev :=
      if s.dev.up then ((s.dev.dmaTakeJob e.val n.val).dmaComplete e.val n.val).dmaJobHalt e.val n.val else s.dev } := rfl
  rw [hexec, if_pos hup, Dev.dmaJobHalt_other hn, Dev.dmaTakeJob_other hn]

/-- Settles O38: without notifications a completion only records the result and lets the channel halt or go idle. -/
theorem dmaBlocksComplete : Obligations.DmaBlocksComplete := by
  unfold Obligations.DmaBlocksComplete
  intro s e n hup hn c hserving set
  rw [exec_dmaBlockComplete s e n hup hn]
  refine ⟨fun r res det hrun hdone hmode hflush hchain hstw hcqv hevv hoverlaps => ?_, fun h => ?_⟩
  · obtain ⟨status, hcomplete⟩ := Dev.dmaComplete_silent hserving hrun hdone hstw hcqv hevv hoverlaps
    rw [hcomplete]
    refine ⟨fun hres hqueue => ?_, fun hres => ?_⟩
    · subst hres
      rw [Dev.dmaAfter_idle status hn hdone (by simpa using hflush) (by simpa using hmode) hchain (by simpa using hqueue),
        Dev.dmaChan_setDma, Dev.setDma_setDma]
      rfl
    · rw [Dev.dmaAfter_failed status hn hdone hres (by simpa using hflush), Dev.dmaChan_setDma, Dev.setDma_setDma]
      rfl
  · rw [Dev.dmaComplete_unfinished h]

end Sys2Proof.Machine
end

section
/-! SUPPORT. Register writes of the owner of a DMA channel (11_dma.md, R280, R281, R283, R294, R296). -/

namespace Sys2Proof.Machine
open Sys2Proof

/-! ### Which register a write meets (Table 11.2) -/

/-- A flag of the low byte of a register. -/
theorem bitAt_lowByte (v : Word) {i : Nat} (hi : i < 8) : bitAt (v.toNat % 256) i = v.getLsbD i := by
  have hlow : (v.toNat % 2 ^ 8).testBit i = v.toNat.testBit i := by rw [Nat.testBit_mod_two_pow, decide_eq_true hi, Bool.true_and]
  rw [bitAt, BitVec.getLsbD, ← hlow, Nat.testBit_eq_decide_div_mod_eq]
  exact beq_eq_decide _ _

section
variable (d : Dev) (e n : Nat)

theorem Dev.dmaWrite_chctl (x : Nat) : d.dmaWrite e n 0 (bytesOf 4 x) = d.dmaCtl e n (x % 256) := by
  simp [Dev.dmaWrite, bytesOf]

theorem Dev.dmaWrite_doorbell (a : DWord) : d.dmaWrite e n 8 (bytesOf 8 a.toNat) = d.dmaDoorbell e n a := by
  have haddr : BitVec.ofNat 64 (natOf (bytesOf 8 a.toNat)) = a := by
    rw [natOf_bytesOf_of_lt a.isLt, BitVec.ofNat_toNat, BitVec.setWidth_eq]
  have hwrite : d.dmaWrite e n 8 (bytesOf 8 a.toNat) = d.dmaDoorbell e n (BitVec.ofNat 64 (natOf (bytesOf 8 a.toNat))) := by
    simp [Dev.dmaWrite, List.range, List.range.loop]
    rfl
  rw [hwrite, haddr]

theorem Dev.dmaWrite_shadow {off : Nat} {bs : List Byte} (hbs : bs ≠ []) (hoff : off < 64) :
    d.dmaWrite e n (0x40 + off) bs
      = d.setDma e n { d.dmaChan e n with armed := false, shadow := overlay (d.dmaChan e n).shadow off bs } := by
  have hpos : 0 < bs.length := List.length_pos_iff.mpr hbs
  have hbehind : ∀ x < 64, ¬64 + off ≤ x := by omega
  have hdrop : 64 - (64 + off) = 0 := by omega
  have hin : 64 < 64 + off + bs.length ∧ 64 + off < 128 := by omega
  simp [Dev.dmaWrite, Dev.updDma_eq, hbehind, hin, hdrop]

theorem Dev.dmaWrite_arm :
    d.dmaWrite e n 0x3C (bytesOf 4 1) =
      if (d.dmaChan e n).idle = true ∧ (d.dmaChan e n).mode = true then (d.setDma e n { d.dmaChan e n with armed := true }).dmaHandOver e n false
      else d.setDma e n { d.dmaChan e n with armed := true } := by
  have hset : bitAt 1 0 = true := by decide
  simp [Dev.dmaWrite, bytesOf, Dev.updDma_eq, hset, DmaChan.idle]

variable {d e n}

theorem Dev.dmaWrite_arm_marks (h : (d.dmaChan e n).idle = false ∨ (d.dmaChan e n).mode = false) :
    d.dmaWrite e n 0x3C (bytesOf 4 1) = d.setDma e n { d.dmaChan e n with armed := true } := by
  have hstays : ¬((d.dmaChan e n).idle = true ∧ (d.dmaChan e n).mode = true) := by
    rintro ⟨hidle, hmode⟩
    simp [hidle, hmode] at h
  rw [Dev.dmaWrite_arm, if_neg hstays]

/-- ARM of an idle REG-mode channel starts a hand-over at once (R296). -/
theorem Dev.dmaWrite_arm_handsOver (hidle : (d.dmaChan e n).idle = true) (hmode : (d.dmaChan e n).mode = true) :
    ∃ r, d.dmaWrite e n 0x3C (bytesOf 4 1)
        = d.setDma e n { d.dmaChan e n with active := (d.dmaChan e n).shadow, armed := false, taken := true, run := some r }
      ∧ r.desc = (d.dmaChan e n).shadow := by
  obtain ⟨r, hhandOver, hdesc⟩ := Dev.dmaHandOver_armed (d := d.setDma e n { d.dmaChan e n with armed := true }) (e := e) (n := n) false
    (by simp)
  rw [Dev.dmaChan_setDma, Dev.setDma_setDma] at hhandOver
  rw [Dev.dmaChan_setDma] at hdesc
  rw [Dev.dmaWrite_arm, if_pos ⟨hidle, hmode⟩]
  exact ⟨r, hhandOver, hdesc⟩

/-! ### A write of CHCTL to a channel that is not idle (Table 11.3) -/

/-- MODE and REPEAT stay, and ABORT, RESUME and RETRY act in this order. -/
theorem Dev.dmaCtl_notIdle (v : Nat) (hidle : (d.dmaChan e n).idle = false) :
    d.dmaCtl e n v =
      (let d1 := if bitAt v 2 then d.dmaAbort e n else d
       let d2 := if bitAt v 3 then d1.dmaResume e n else d1
       if bitAt v 4 then d2.dmaRetry e n else d2) := by
  have hkeeps : d.updDma e n (fun c => if c.idle then { c with mode := bitAt v 0, rerun := bitAt v 1 } else c) = d := by
    simp [Dev.updDma_eq, hidle]
  rw [Dev.dmaCtl, hkeeps]

/-- ABORT of a running block; RESUME and RETRY beside it have no effect. -/
theorem Dev.dmaCtl_aborts {v : Nat} {r : DmaRun} (habort : bitAt v 2 = true) (hrun : (d.dmaChan e n).run = some r) (hdone : r.done = none) :
    d.dmaCtl e n v = d.setDma e n { d.dmaChan e n with run := some { r with done := some (0x25, 0) } } := by
  rw [Dev.dmaCtl_notIdle v (by simp [DmaChan.idle, hrun]), if_pos habort, Dev.dmaAbort_running hrun hdone]
  simp [Dev.dmaResume_noEffect, Dev.dmaRetry_noEffect]

theorem Dev.dmaCtl_resumes {v : Nat} (hresume : bitAt v 3 = true) (hhalt : (d.dmaChan e n).halt = true) (hrun : (d.dmaChan e n).run = none)
    (hqueue : (d.dmaChan e n).queue = []) (hchain : (d.dmaChan e n).failed = none ∨ (d.dmaChan e n).mode = true) :
    d.dmaCtl e n v = d.setDma e n { d.dmaChan e n with halt := false, failed := none } := by
  rw [Dev.dmaCtl_notIdle v (by simp [DmaChan.idle, hhalt]), Dev.dmaAbort_noBlock hrun, ite_self]
  dsimp only
  rw [if_pos hresume, Dev.dmaResume_clears hhalt hrun hqueue hchain, Dev.dmaRetry_noEffect (.inl (by simp)), ite_self]

theorem Dev.dmaCtl_retries {v : Nat} (hretry : bitAt v 4 = true) (hresume : bitAt v 3 = false) (hhalt : (d.dmaChan e n).halt = true)
    (hrun : (d.dmaChan e n).run = none) (hmode : (d.dmaChan e n).mode = true) :
    ∃ r, d.dmaCtl e n v = d.setDma e n { d.dmaChan e n with halt := false, failed := none, run := some r }
      ∧ r.desc = (d.dmaChan e n).active := by
  rw [Dev.dmaCtl_notIdle v (by simp [DmaChan.idle, hhalt]), Dev.dmaAbort_noBlock hrun, ite_self, hresume, if_pos hretry]
  exact Dev.dmaRetry_active hhalt hrun hmode

end

/-! ### Rows -/

section
variable {s : State} {e : Fin 8} {n : Fin 320} {ni : Fin 256}

/-- A write that is delivered (R280, R281). -/
def State.reachesBlock (s : State) (e : Fin 8) (n : Fin 320) (ni : Fin 256) (off len : Nat) : Prop :=
  s.dev.reach ni.val ni.val (0x30000000 + e.val * 0x10000 + n.val * 128 + off) len = 0

theorem State.onDma_other (off : Nat) (bs : List Byte) (hother : s.dev.dmaOwned ni.val e.val n.val = false) :
    s.onDma e n ni off bs = .next s := by
  simp [State.onDma, hother]

variable (hup : s.dev.up = true) (howned : s.dev.dmaOwned ni.val e.val n.val = true)
include hup howned

theorem State.onDma_owned {off : Nat} {bs : List Byte} (hreach : s.reachesBlock e n ni off bs.length) :
    s.onDma e n ni off bs = .next { s with dev := s.dev.dmaWrite e.val n.val off bs } := by
  unfold State.reachesBlock at hreach
  simp [State.onDma, hup, hreach, howned]

theorem exec_doorbell (addr : DWord) (hreach : s.reachesBlock e n ni 8 8) :
    exec (.doorbell e n ni addr) s = .next { s with dev := s.dev.dmaDoorbell e.val n.val addr } := by
  have hexec : exec (.doorbell e n ni addr) s = s.onDma e n ni 8 (bytesOf 8 addr.toNat) := rfl
  rw [hexec, State.onDma_owned hup howned (by rwa [length_bytesOf]), Dev.dmaWrite_doorbell]

/-- The rows ABORT, RESUME and RETRY write CHCTL. -/
theorem State.onDma_chctl (v : Word) (hreach : s.reachesBlock e n ni 0 4) :
    s.onDma e n ni 0 (bytesOf 4 v.toNat) = .next { s with dev := s.dev.dmaCtl e.val n.val (v.toNat % 256) } := by
  rw [State.onDma_owned hup howned (by rwa [length_bytesOf]), Dev.dmaWrite_chctl]

theorem exec_shadowWrite {off : Fin 64} {bytes : List Byte} (hbytes : bytes ≠ [])
    (hreach : s.reachesBlock e n ni (0x40 + off.val) (bytes.take (64 - off.val)).length) :
    exec (.shadowWrite e n ni off bytes) s = .next { s with dev := s.dev.setDma e.val n.val { s.dev.dmaChan e.val n.val with
      armed := false, shadow := overlay (s.dev.dmaChan e.val n.val).shadow off.val (bytes.take (64 - off.val)) } } := by
  have hexec : exec (.shadowWrite e n ni off bytes) s = s.onDma e n ni (0x40 + off.val) (bytes.take (64 - off.val)) := rfl
  have htake : bytes.take (64 - off.val) ≠ [] := by
    rw [Ne, List.take_eq_nil_iff]
    exact not_or.mpr ⟨by omega, hbytes⟩
  rw [hexec, State.onDma_owned hup howned hreach, Dev.dmaWrite_shadow _ _ _ htake off.isLt]

theorem exec_arm (hreach : s.reachesBlock e n ni 0x3C 4) :
    exec (.arm e n ni) s = .next { s with dev := s.dev.dmaWrite e.val n.val 0x3C (bytesOf 4 1) } :=
  State.onDma_owned hup howned hreach

end

/-- The bytes laid over an image may be read from the list they were taken from. -/
theorem overlay_take (img bytes : List Byte) (off k : Nat) :
    overlay img off (bytes.take k) = (List.range img.length).map (fun x =>
      if off ≤ x ∧ x < off + (bytes.take k).length then bytes.getD (x - off) 0 else img.getD x 0) := by
  refine List.map_congr_left fun x _ => ?_
  split_ifs with hx
  · have hk : x - off < k := by
      have := hx.2
      rw [List.length_take] at this
      omega
    simp [List.getD_eq_getElem?_getD, hk]
  · rfl

/-- Settles O36: each row is one write of the owner, and which register it meets says what becomes of the channel; the row of
another NI writes nothing. -/
theorem dmaRegisterWritesActOnTheirChannel : Obligations.DmaRegisterWritesActOnTheirChannel := by
  unfold Obligations.DmaRegisterWritesActOnTheirChannel
  intro s e n ni hup c ok set
  have hset : ∀ {d : Dev} {c' : DmaChan}, d = s.dev.setDma e.val n.val c' → Host.Outcome.next { s with dev := d } = set c' := by
    rintro d c' rfl
    rfl
  refine ⟨fun howned => ⟨fun addr hok => ?_, fun v r hok hrun hdone => ?_, fun v hok hhalt hrun hqueue hchain => ?_,
      fun v hok hhalt hrun hmode hbit => ?_, fun off bytes hbytes hok => ?_, fun hok hbusy => ?_, fun hok hidle hmode => ?_⟩,
    fun hother addr v off bytes i hi => ?_⟩
  · rw [exec_doorbell hup howned addr hok]
    refine ⟨fun hfull => hset (Dev.dmaDoorbell_overflows addr hfull),
      fun hmode hroom hidle => hset (Dev.dmaDoorbell_queues addr hmode hroom hidle),
      fun hmode hqueue hidle halign hreach hgood => ?_⟩
    obtain ⟨r, hbegins, hr⟩ := Dev.dmaDoorbell_begins hmode hqueue hidle halign hreach hgood
    exact ⟨r, hset hbegins, hr⟩
  · have habort : bitAt ((v ||| 4#32).toNat % 256) 2 = true := (bitAt_lowByte _ (by decide)).trans (by simp)
    exact (State.onDma_chctl hup howned (v ||| 4#32) hok).trans (hset (Dev.dmaCtl_aborts habort hrun hdone))
  · have hresume : bitAt ((v ||| 8#32).toNat % 256) 3 = true := (bitAt_lowByte _ (by decide)).trans (by simp)
    exact (State.onDma_chctl hup howned (v ||| 8#32) hok).trans (hset (Dev.dmaCtl_resumes hresume hhalt hrun hqueue hchain))
  · have hretry : bitAt ((v ||| 16#32).toNat % 256) 4 = true := (bitAt_lowByte _ (by decide)).trans (by simp)
    have hresume : bitAt ((v ||| 16#32).toNat % 256) 3 = false := by
      rw [bitAt_lowByte _ (by decide), BitVec.getLsbD_or, hbit]
      rfl
    obtain ⟨r, hretries, hdesc⟩ := Dev.dmaCtl_retries hretry hresume hhalt hrun hmode
    exact ⟨r, (State.onDma_chctl hup howned (v ||| 16#32) hok).trans (hset hretries), hdesc⟩
  · rw [exec_shadowWrite hup howned hbytes hok, overlay_take]
    exact hset rfl
  · rw [exec_arm hup howned hok]
    exact hset (Dev.dmaWrite_arm_marks hbusy)
  · obtain ⟨r, hhandOver, hdesc⟩ := Dev.dmaWrite_arm_handsOver hidle hmode
    rw [exec_arm hup howned hok]
    exact ⟨r, hset hhandOver, hdesc⟩
  · simp only [List.mem_cons, List.not_mem_nil, or_false] at hi
    rcases hi with rfl | rfl | rfl | rfl | rfl | rfl
    all_goals exact State.onDma_other _ _ hother

end Sys2Proof.Machine
end

section
/-! SUPPORT. A DMA block that would write the program memory of a core that holds a job (03_signal_cores.md, R67; 12_memory.md, Table
12.1). -/

namespace Sys2Proof.Machine
open Sys2Proof

/-- A COPY of 16 bytes from cluster memory to the start of the program memory of core 0: OP 1, LEN, SRC, DST; its bytes are read. -/
def progCopy : DmaRun :=
  { desc := [1, 0, 0, 0] ++ bytesOf 4 16 ++ bytesOf 8 0x10000000 ++ bytesOf 8 0x60000 ++ List.replicate 40 0
    readPos := 64, got := 16, buf := List.replicate 16 0 }

/-- A device with every shell open in which every core holds a job and control core 0 (NI 245) owns the one busy channel, C0 of DMA
engine 0, with that COPY in progress. -/
@[irreducible] def busyProgram : State :=
  { dev :=
    { start := { powered := true, resetLow := false }
      ring := { ni := Vector.replicate 256 { shell := .open_ }, loaded := true }
      cores := Vector.replicate 128 { jobs := [1] }
      dma := { chan := (Vector.replicate 2560 {}).set (dmaIdx 0 64) { assigned := true, owner := 245, run := some progCopy } } } }

/-- The device and the block meet what the statement asks of a write. -/
theorem busyProgram_writes : busyProgram.dev.up = true ∧ busyProgram.dev.health.testQueue = []
    ∧ (busyProgram.dev.dmaChan 0 64).run = some progCopy ∧ busyProgram.dev.dmaTurn 0 64 = true
    ∧ busyProgram.dev.reach 216 (busyProgram.dev.dmaChan 0 64).owner 0x60000 16 = 0
    ∧ busyProgram.dev.mem.partialPoison 0x60000 16 = false := by
  decide +kernel

/-- The whole block lies ready as one write packet. -/
theorem progCopy_ready : progCopy.done = none ∧ progCopy.readFail = none ∧ progCopy.check = false
    ∧ progCopy.dst + progCopy.written = 0x60000 ∧ min (progCopy.total - progCopy.written) (512 - 0x60000 % 512) = 16
    ∧ 16 ≤ progCopy.buf.length ∧ progCopy.written + 16 = progCopy.total := by
  decide +kernel

/-- The device after the beat's response. -/
def Dev.dmaBeatAnswered (d : Dev) (e n : Nat) : Dev :=
  (((d.dmaTakeJob e n).dmaBeatAt e n .none .none false).dmaJobHalt e n).startTests

theorem exec_dmaBeatResponse (s : State) (e : Fin 8) (n : Fin 320) (hup : s.dev.up = true) :
    exec (.dmaBeatResponse e n .none .none false) s = .next { s with dev := s.dev.dmaBeatAnswered e.val n.val } := by
  have hexec : exec (.dmaBeatResponse e n .none .none false) s
      = .next { s with dev := if s.dev.up then s.dev.dmaBeatAnswered e.val n.val else s.dev } := rfl
  rw [hexec, if_pos hup]

/-- The core's port refuses the write with DECODE, and the block ends with ERR_LAST_BEAT (R67, R295). -/
theorem busyProgram_refuses : ((busyProgram.dev.dmaBeatAnswered 0 64).dmaChan 0 64).run.map (fun r => r.done) = some (some (0x24, 4)) := by
  decide +kernel

/-- Refutes O37: its clause for a write asks only that the destination admits the channel's owner, as program memory does a control
core, but nothing is written to the program memory of a core that holds a job (R67). -/
theorem not_dmaBeatsMoveTheBlock : ¬ Obligations.DmaBeatsMoveTheBlock := by
  unfold Obligations.DmaBeatsMoveTheBlock
  intro h
  obtain ⟨hup, htests, hrun, hturn, hreach, hgood⟩ := busyProgram_writes
  obtain ⟨hdone, hread, hcheck, hdst, hpacket, hready, hlast⟩ := progCopy_ready
  obtain ⟨-, -, hbeat⟩ := h busyProgram 0 64 progCopy hup htests (by decide) hrun hdone hread hcheck
  obtain ⟨-, -, hwrite⟩ := hbeat hturn
  simp only [hdst, hpacket] at hwrite
  have hnext := hwrite (by decide) hready hreach hgood
  rw [exec_dmaBeatResponse _ _ _ hup] at hnext
  have hchan := congrArg (fun t => (t.dev.dmaChan 0 64).run.map (fun r => r.done)) (Host.Outcome.next.inj hnext)
  have hrefused := busyProgram_refuses.symm.trans hchan
  simp [Dev.dmaChan, hlast] at hrefused

end Sys2Proof.Machine
end

section
/-! SUPPORT. What follows from a defect of a lane: its group's requests and its second (13_ecner_framing.md, R337 to R343;
14_link_performance.md, R355, R359). -/

namespace Sys2Proof.Machine
open Sys2Proof

/-! ### Lanes and moments -/

/-- A lane after a change of one. -/
theorem Dev.lane_updLane (d : Dev) (k l : Nat) (f : Lane → Lane) (hl : l < 32) :
    (d.updLane k f).lane l = if l = k then f (d.lane l) else d.lane l := by
  simp [Dev.updLane, Dev.lane, List.getD_eq_getElem?_getD, hl]

/-- There is no lane beyond the 32. -/
theorem Dev.lane_beyond (d : Dev) (l : Nat) (hl : ¬l < 32) : d.lane l = {} := by
  simp [Dev.lane, List.getD_eq_getElem?_getD, hl]

/-- A change of a lane's receiver reads back as that change. -/
theorem Dev.lane_updRx (d : Dev) (l : Fin 32) (f : LaneRx → LaneRx) :
    (d.updRx l.val f).lane l.val = { d.lane l.val with rx := f (d.lane l.val).rx } := by
  rw [Dev.updRx, d.lane_updLane _ _ _ l.isLt, if_pos rfl]

/-- A change of a lane's transmitter reads back as that change. -/
theorem Dev.lane_updTx (d : Dev) (l : Fin 32) (f : LaneTx → LaneTx) :
    (d.updTx l.val f).lane l.val = { d.lane l.val with tx := f (d.lane l.val).tx } := by
  rw [Dev.updTx, d.lane_updLane _ _ _ l.isLt, if_pos rfl]

/-- A change of a receiver leaves every transmitter. -/
theorem Dev.tx_updRx (d : Dev) (k l : Nat) (f : LaneRx → LaneRx) : ((d.updRx k f).lane l).tx = (d.lane l).tx := by
  by_cases hl : l < 32
  · rw [Dev.updRx, d.lane_updLane _ _ _ hl]
    split
    · rfl
    · rfl
  · rw [Dev.lane_beyond _ l hl, Dev.lane_beyond _ l hl]

/-- The lanes alone say what a lane is. -/
theorem Dev.lane_congr {a b : Dev} (h : b.link.lane = a.link.lane) (l : Nat) : b.lane l = a.lane l := by rw [Dev.lane, h, Dev.lane]

/-- An interval that is past has run. -/
theorem Dev.after_past (d : Dev) (since span : Nat) (h : airPast d.time.air ((since + span) % airWrap) = true) :
    d.after since span = some d := d.due_past _ h

/-! ### What frames and defects leave -/

/-- What follows from frames and defects: of the device the fronthaul alone changes, and no transmitter with it. -/
structure Dev.TxKept (a b : Dev) : Prop where
  link : ∃ k, b = { a with link := k }
  tx : ∀ l, (b.lane l).tx = (a.lane l).tx

theorem Dev.TxKept.refl (d : Dev) : d.TxKept d := ⟨⟨d.link, rfl⟩, fun _ => rfl⟩

theorem Dev.TxKept.trans {a b c : Dev} (h1 : a.TxKept b) (h2 : b.TxKept c) : a.TxKept c := by
  obtain ⟨⟨_, rfl⟩, htx1⟩ := h1
  obtain ⟨⟨k, rfl⟩, htx2⟩ := h2
  exact ⟨⟨k, rfl⟩, fun l => (htx2 l).trans (htx1 l)⟩

theorem Dev.TxKept.foldl {α : Type} (f : Dev → α → Dev) (h : ∀ (d : Dev) (x : α), d.TxKept (f d x)) (xs : List α) (d : Dev) :
    d.TxKept (xs.foldl f d) :=
  List.foldlRecOn xs f (.refl d) (fun b hb x _ => hb.trans (h b x))

theorem Dev.TxKept.cores {a b : Dev} (h : a.TxKept b) : b.cores = a.cores := by obtain ⟨⟨_, rfl⟩, -⟩ := h; rfl
theorem Dev.TxKept.health {a b : Dev} (h : a.TxKept b) : b.health = a.health := by obtain ⟨⟨_, rfl⟩, -⟩ := h; rfl

theorem Dev.updRx_txKept (d : Dev) (l : Nat) (f : LaneRx → LaneRx) : d.TxKept (d.updRx l f) := ⟨⟨_, rfl⟩, fun k => d.tx_updRx l k f⟩

theorem Dev.updGroup_txKept (d : Dev) (g : Nat) (f : Group → Group) : d.TxKept (d.updGroup g f) := ⟨⟨_, rfl⟩, fun _ => rfl⟩

/-! ### A group's requests and seconds -/

theorem Dev.lane_updGroup (d : Dev) (g l : Nat) (f : Group → Group) : (d.updGroup g f).lane l = d.lane l := rfl

theorem Dev.detourCleared_txKept (d : Dev) (g c : Nat) : d.TxKept (d.detourCleared g c) := by
  unfold Dev.detourCleared
  dsimp only
  split
  · exact .refl d
  · split
    · exact d.updGroup_txKept _ _
    · exact d.updGroup_txKept _ _

theorem Dev.lane_detourCleared (d : Dev) (g c l : Nat) : (d.detourCleared g c).lane l = d.lane l := by
  unfold Dev.detourCleared
  dsimp only
  split
  · rfl
  · split
    · rfl
    · rfl

theorem Dev.groupNote_txKept (d : Dev) (g : Nat) : d.TxKept (d.groupNote g) := by
  unfold Dev.groupNote
  split
  · exact .refl d
  · exact (Dev.TxKept.foldl _ (fun d _ => d.updGroup_txKept g _) _ d).trans (Dev.updGroup_txKept _ g _)

theorem Dev.lane_groupNote (d : Dev) (g l : Nat) : (d.groupNote g).lane l = d.lane l := by
  unfold Dev.groupNote
  split
  · rfl
  · rw [Dev.lane_updGroup]
    exact List.foldlRecOn (motive := fun b : Dev => b.lane l = d.lane l) _ _ rfl
      (fun b hb _ _ => (b.lane_updGroup g l _).trans hb)

theorem Dev.detourWatch_txKept (d : Dev) (l : Nat) : d.TxKept (d.detourWatch l) := by
  unfold Dev.detourWatch
  split
  · exact d.updRx_txKept l _
  · extract_lets r sf sd hold r1 r2 d1
    have hwatched : d.TxKept d1 := d.updRx_txKept l _
    split
    · exact hwatched.trans (d1.detourCleared_txKept _ _)
    · exact hwatched

theorem Dev.laneNote_txKept (d : Dev) (l : Nat) : d.TxKept (d.laneNote l) := by
  unfold Dev.laneNote
  extract_lets sf d1
  have hnoted : d.TxKept d1 := d.updRx_txKept l _
  split
  · exact hnoted.trans (d1.groupNote_txKept _)
  · exact hnoted

/-! ### What a receiver shows -/

/-- A receiver without what follows from its defects: its group's requests, the entries and the second that are counted. -/
def LaneRx.shown (r : LaneRx) : LaneRx :=
  { r with failSince := none, fail := false, degSince := none, deg := false, entries := [], sec := {} }

/-- Two receivers that show the same agree in their alignment, their windows and every defect. -/
structure LaneRx.Alike (a b : LaneRx) : Prop where
  align : a.align = b.align
  cands : a.cands = b.cands
  ms : a.ms = b.ms
  bad : a.bad = b.bad
  windows : a.windows = b.windows
  los : a.los = b.los
  lof : a.lof = b.lof
  lom : a.lom = b.lom
  sf : a.sf = b.sf
  sd : a.sd = b.sd
  drBad : a.drBad = b.drBad

theorem LaneRx.alike_of_shown {a b : LaneRx} (h : a.shown = b.shown) : a.Alike b := by
  have hfield {α : Type} (f : LaneRx → α) (hf : ∀ r : LaneRx, f r.shown = f r) : f a = f b := by rw [← hf a, h, hf b]
  exact ⟨hfield _ fun _ => rfl, hfield _ fun _ => rfl, hfield _ fun _ => rfl, hfield _ fun _ => rfl, hfield _ fun _ => rfl,
    hfield _ fun _ => rfl, hfield _ fun _ => rfl, hfield _ fun _ => rfl, hfield _ fun _ => rfl, hfield _ fun _ => rfl,
    hfield _ fun _ => rfl⟩

/-- The requests that follow from a defect leave what the receiver shows (R343). -/
theorem Dev.shown_detourWatch (d : Dev) (l : Fin 32) :
    ((d.detourWatch l.val).lane l.val).rx.shown = (d.lane l.val).rx.shown := by
  unfold Dev.detourWatch
  split
  · rw [Dev.lane_updRx]
    rfl
  · extract_lets r sf sd hold r1 r2 d1
    have hfail : r1.shown = r.shown := by
      change (if sf then (if r.fail || r.failSince.isSome then r else if hold then _ else _) else _).shown = _
      split_ifs <;> rfl
    have hdegrade : r2.shown = r1.shown := by
      change (if sd then (if r1.deg || r1.degSince.isSome then r1 else if hold then _ else _) else _).shown = _
      split_ifs <;> rfl
    have hwatched : (d1.lane l.val).rx = r2 := congrArg Lane.rx (d.lane_updRx l _)
    split
    · rw [Dev.lane_detourCleared, hwatched, hdegrade, hfail]
    · rw [hwatched, hdegrade, hfail]

/-- What enters the second of a lane leaves what its receiver shows (R355). -/
theorem Dev.shown_laneNote (d : Dev) (l : Fin 32) : ((d.laneNote l.val).lane l.val).rx.shown = (d.lane l.val).rx.shown := by
  unfold Dev.laneNote
  extract_lets sf d1
  have hnoted : (d1.lane l.val).rx.shown = (d.lane l.val).rx.shown := by
    rw [d.lane_updRx l]
    rfl
  split
  · rw [Dev.lane_groupNote, hnoted]
  · exact hnoted

/-! ### Defects -/

/-- A defect that is as it should be stays. -/
theorem LaneRx.setDefect_self (r : LaneRx) (bit : Nat) (v : Bool) (h : r.defect bit = v) : r.setDefect bit v = r := by
  subst h
  unfold LaneRx.setDefect LaneRx.defect
  split <;> rfl

theorem Dev.linkEvent_told (d : Dev) (lane bit : Nat) (entry : Bool) (count : Nat) : d.Told (d.linkEvent lane bit entry count) :=
  d.post_told _ _

/-- A defect that enters or exits: the receiver shows that alone (R338). -/
theorem Dev.shown_setDefect (d : Dev) (l : Fin 32) (bit : Nat) (v : Bool) :
    ((d.setDefect l.val bit v).lane l.val).rx.shown = ((d.lane l.val).rx.setDefect bit v).shown := by
  unfold Dev.setDefect
  extract_lets r n d1 d2
  split
  · next hsame => rw [LaneRx.setDefect_self _ _ _ hsame]
  · have hset : (d1.lane l.val).rx.shown = (r.setDefect bit v).shown := by
      rw [d.lane_updRx l]
      rfl
    have hevent : d2.lane l.val = d1.lane l.val := by
      change (if 8 < n then d1 else d1.linkEvent l.val bit v n).lane l.val = _
      split
      · rfl
      · exact Dev.lane_congr (congrArg LinkState.lane (d1.linkEvent_told l.val bit v n).link) _
    rw [Dev.shown_laneNote, Dev.shown_detourWatch, hevent, hset]

theorem Dev.setDefect_cores (d : Dev) (l bit : Nat) (v : Bool) : (d.setDefect l bit v).cores = d.cores := by
  unfold Dev.setDefect
  extract_lets r n d1 d2
  split
  · rfl
  · have hset : d1.cores = d.cores := d.updRx_cores l _
    have hevent : d2.cores = d.cores := ite_cores (8 < n) hset ((d1.linkEvent_told l bit v n).cores.trans hset)
    exact (Dev.laneNote_txKept _ l).cores.trans ((d2.detourWatch_txKept l).cores.trans hevent)

end Sys2Proof.Machine
end

section
/-! SUPPORT. Signals lost and back, windows judged, intervals of the requests that end (13_ecner_framing.md, R336, R337, R340,
R343, R347; 15_ethernet_and_host_port.md, R370). -/

namespace Sys2Proof.Machine
open Sys2Proof

/-! ### Defects of what a receiver shows -/

theorem LaneRx.shown_setDefect (r : LaneRx) (bit : Nat) (v : Bool) : (r.setDefect bit v).shown = r.shown.setDefect bit v := by
  unfold LaneRx.setDefect
  split <;> rfl

theorem LaneRx.defect_shown (r : LaneRx) (bit : Nat) : r.shown.defect bit = r.defect bit := rfl

theorem LaneRx.defect_setDefect (r : LaneRx) (f : EthDefect) (v : Bool) : (r.setDefect (ethLaneBit f) v).defect (ethLaneBit f) = v := by
  cases f <;> rfl

/-- A defect of an ETHERNET lane is as it was set. -/
theorem Dev.defect_setDefect (d : Dev) (l : Fin 32) (f : EthDefect) (v : Bool) :
    ((d.setDefect l.val (ethLaneBit f) v).lane l.val).rx.defect (ethLaneBit f) = v := by
  rw [← LaneRx.defect_shown, Dev.shown_setDefect, LaneRx.defect_shown, LaneRx.defect_setDefect]

/-! ### Lanes -/

/-- An Ecner lane loses its signal: LOS, HUNT without candidates, LOF (R336, R337). -/
theorem Dev.lineLost_lane (d : Dev) (l : Fin 32) (hup : d.laneUp l.val = true) (hmode : d.laneMode l.val = 1) :
    ((d.lineLost (.lane l)).lane l.val).rx.Alike (((d.lane l.val).rx.setDefect 2 true).toHunt.setDefect 3 true)
      ∧ (d.lineLost (.lane l)).cores = d.cores := by
  simp only [Dev.lineLost, hup, hmode, Bool.not_true, Bool.false_eq_true, ne_eq, not_true_eq_false, or_self, if_false]
  have hhunt (r : LaneRx) : r.toHunt.shown = r.shown.toHunt := rfl
  refine ⟨LaneRx.alike_of_shown ?_, ?_⟩
  · rw [Dev.shown_setDefect, LaneRx.shown_setDefect, LaneRx.shown_setDefect, Dev.lane_updRx, hhunt, Dev.shown_setDefect, hhunt]
  · rw [Dev.setDefect_cores, Dev.updRx_cores, Dev.setDefect_cores]

/-- An ETHERNET lane loses its signal or alignment: the defect is set, and without signal or alignment it is in HUNT (R347). -/
theorem Dev.lineLost_eth (d : Dev) (l : Fin 32) (f : EthDefect) (hup : d.laneUp l.val = true) (hmode : d.laneMode l.val = 2) :
    ((d.lineLost (.eth l f)).lane l.val).rx.defect (ethLaneBit f) = true
      ∧ ((f = .los ∨ f = .lof) → ((d.lineLost (.eth l f)).lane l.val).rx.align = .hunt) := by
  have hset := d.defect_setDefect l f true
  simp only [Dev.lineLost, hup, hmode, Bool.not_true, Bool.false_eq_true, ne_eq, not_true_eq_false, or_self, if_false]
  split
  · rw [Dev.lane_updRx]
    exact ⟨hset, fun _ => rfl⟩
  · next hother => exact ⟨hset, fun h => absurd h hother⟩

/-- The signal of an Ecner lane is back: LOS alone is cleared (R337). -/
theorem Dev.lineBack_lane (d : Dev) (l : Fin 32) (hup : d.laneUp l.val = true) (hmode : d.laneMode l.val = 1) :
    ((d.lineBack (.lane l)).lane l.val).rx.Alike ((d.lane l.val).rx.setDefect 2 false) := by
  rw [Dev.lineBack, if_pos ⟨hup, hmode⟩]
  exact LaneRx.alike_of_shown (d.shown_setDefect l 2 false)

/-- The signal or alignment of an ETHERNET lane is back: the defect is clear (R347). -/
theorem Dev.lineBack_eth (d : Dev) (l : Fin 32) (f : EthDefect) (hup : d.laneUp l.val = true) (hmode : d.laneMode l.val = 2) :
    ((d.lineBack (.eth l f)).lane l.val).rx.defect (ethLaneBit f) = false := by
  rw [Dev.lineBack, if_pos ⟨hup, hmode⟩, Dev.defect_setDefect]

/-- A lane that does not work loses and regains nothing. -/
theorem Dev.line_down (d : Dev) (l : Fin 32) (f : EthDefect) (hdown : d.laneUp l.val = false) :
    d.lineLost (.lane l) = d ∧ d.lineBack (.lane l) = d ∧ d.lineLost (.eth l f) = d ∧ d.lineBack (.eth l f) = d := by
  simp [Dev.lineLost, Dev.lineBack, hdown]

/-! ### Ports -/

theorem Dev.Told.eth {a b : Dev} (h : a.Told b) : b.eth = a.eth := by obtain ⟨_, _, _, _, _, rfl⟩ := h; rfl

theorem Dev.ethPort_congr {a b : Dev} (h : b.eth = a.eth) (p : Nat) : b.ethPort p = a.ethPort p := by rw [Dev.ethPort, h, Dev.ethPort]

theorem Dev.closeChans_told (d : Dev) (cs : List Nat) : d.Told (d.closeChans cs) := by
  have hrefl : ∀ a : Dev, a.Told a := fun _ => ⟨_, _, _, _, _, rfl⟩
  unfold Dev.closeChans
  extract_lets d1 c d2
  have hclosed : d.Told d1 := List.foldlRecOn (motive := d.Told) _ _ (hrefl d) (fun b hb _ _ => hb.trans ⟨_, _, _, _, _, rfl⟩)
  have hgone : d.Told d2 := hclosed.trans ⟨_, _, _, _, _, rfl⟩
  have hdropped : d.Told d2.dropStage := by
    unfold Dev.dropStage
    split
    · exact hgone
    · exact (hgone.trans ⟨_, _, _, _, _, rfl⟩).trans (Dev.post_told _ _ _)
  split
  · split
    · exact hdropped
    · exact hgone
  · exact hgone

theorem EthPort.defect_setDefect (e : EthPort) (f : EthDefect) (v : Bool) : (e.setDefect f v).defect f = v := by cases f <;> rfl

/-- The loss of PTP at a port leaves the defects of its line. -/
theorem Dev.ptpLost_defect (d : Dev) (p : Fin 4) (st : Nat) (f : EthDefect) :
    ((d.ptpLost p.val st).ethPort p.val).defect f = (d.ethPort p.val).defect f := by
  unfold Dev.ptpLost
  extract_lets was best d1 t
  have hport : (d1.ethPort p.val).defect f = (d.ethPort p.val).defect f := by
    rw [d.ethPort_updEth p]
    cases f <;> rfl
  split
  · exact hport
  · rw [Dev.timeAlert_ethPort]
    exact hport

/-- A port's link goes down with the defects of its line as they are. -/
theorem Dev.portDown_defect (d : Dev) (p : Fin 4) (f : EthDefect) :
    ((d.portDown p.val).ethPort p.val).defect f = (d.ethPort p.val).defect f := by
  unfold Dev.portDown
  extract_lets d1
  have hlost : (d1.ethPort p.val).defect f = (d.ethPort p.val).defect f := by
    change ((if d.portRole p.val 1 && (d.ethPort p.val).link then d.ptpLost p.val 1 else d).ethPort p.val).defect f = _
    split
    · exact d.ptpLost_defect p 1 f
    · rfl
  rw [Dev.ethPort_congr (Dev.closeChans_told _ _).eth, d1.ethPort_updEth p, ← hlost]
  cases f <;> rfl

/-- A defect of a working port is as it was set (R370). -/
theorem Dev.portDefect_defect (d : Dev) (p : Fin 4) (f : EthDefect) (v : Bool) (hup : d.portUp p.val = true) :
    ((d.portDefect p.val f v).ethPort p.val).defect f = v := by
  unfold Dev.portDefect
  split
  · next hsame => simpa [hup] using hsame
  · extract_lets d1
    have hset : (d1.ethPort p.val).defect f = v := by
      rw [Dev.ethPort_congr (Dev.linkEvent_told _ _ _ _ _).eth, d.ethPort_updEth p, EthPort.defect_setDefect]
    split
    · rw [Dev.portDown_defect, hset]
    · exact hset

/-! ### Windows -/

/-- The oldest window is taken, and judged for SF, then for SD, by the lane's four thresholds (R337). -/
def Dev.judgeWindow (d : Dev) (l : Nat) (w : Nat × Nat) (rest : List (Nat × Nat)) : Dev :=
  let f := fun (off : Nat) => d.laneField l off 2
  let d1 := d.updRx l (fun r => { r with windows := rest })
  let r := (d1.lane l).rx
  let d2 := if !r.sf ∧ (f 12 ≤ w.1 ∨ 64 ≤ w.2) then d1.setDefect l 6 true
    else if r.sf ∧ w.1 < f 14 ∧ w.2 = 0 then d1.setDefect l 6 false else d1
  let r2 := (d2.lane l).rx
  if !r2.sd ∧ !r2.sf ∧ f 8 ≤ w.1 then d2.setDefect l 5 true
  else if r2.sd ∧ w.1 < f 10 then d2.setDefect l 5 false else d2

theorem exec_defectWindowEnd (s : State) (l : Fin 32) (w : Nat × Nat) (rest : List (Nat × Nat))
    (h : (s.dev.lane l.val).rx.windows = w :: rest) :
    exec (.defectWindowEnd l) s = .next { s with dev := s.dev.judgeWindow l.val w rest } := by
  change execDefectWindowEnd l s = _
  rw [execDefectWindowEnd, State.on_eq, h]
  rfl

/-- A defect that one condition sets and another clears. -/
theorem Dev.alike_judged (d : Dev) (l : Fin 32) (bit : Nat) (sets clears : Prop) [Decidable sets] [Decidable clears] (r : LaneRx)
    (hr : (d.lane l.val).rx = r) :
    ((if sets then d.setDefect l.val bit true else if clears then d.setDefect l.val bit false else d).lane l.val).rx.Alike
      (r.setDefect bit (if sets then true else if clears then false else r.defect bit)) := by
  subst hr
  apply LaneRx.alike_of_shown
  split
  · exact d.shown_setDefect l bit true
  · split
    · exact d.shown_setDefect l bit false
    · rw [LaneRx.setDefect_self _ _ _ rfl]

/-- A window judged: the receiver shows it taken, and SF and SD as the lane's thresholds say. -/
theorem Dev.judgeWindow_alike (d : Dev) (l : Fin 32) (w : Nat × Nat) (rest : List (Nat × Nat)) :
    let old := (d.lane l.val).rx
    let sf := if !old.sf ∧ (d.laneField l.val 12 2 ≤ w.1 ∨ 64 ≤ w.2) then true
      else if old.sf ∧ w.1 < d.laneField l.val 14 2 ∧ w.2 = 0 then false else old.sf
    ((d.judgeWindow l.val w rest).lane l.val).rx.Alike { old with
      windows := rest
      sf := sf
      sd := if !old.sd ∧ !sf ∧ d.laneField l.val 8 2 ≤ w.1 then true
        else if old.sd ∧ w.1 < d.laneField l.val 10 2 then false else old.sd } := by
  intro old sf
  unfold Dev.judgeWindow
  extract_lets f d1 r d2 r2
  have htaken : r = { old with windows := rest } := congrArg Lane.rx (d.lane_updRx l _)
  have hsf : r2.Alike { old with windows := rest, sf := sf } := by
    have hjudged : r2.Alike (r.setDefect 6 (if !r.sf ∧ (f 12 ≤ w.1 ∨ 64 ≤ w.2) then true
        else if r.sf ∧ w.1 < f 14 ∧ w.2 = 0 then false else r.sf)) := d1.alike_judged l 6 _ _ r rfl
    rwa [htaken] at hjudged
  have hsd := d2.alike_judged l 5 (!r2.sd ∧ !r2.sf ∧ f 8 ≤ w.1) (r2.sd ∧ w.1 < f 10) r2 rfl
  clear_value r2
  obtain ⟨halign, hcands, hms, hbad, hwindows, hlos, hlof, hlom, hsf', hsd', hdr⟩ := hsf
  refine ⟨hsd.align.trans halign, hsd.cands.trans hcands, hsd.ms.trans hms, hsd.bad.trans hbad, hsd.windows.trans hwindows,
    hsd.los.trans hlos, hsd.lof.trans hlof, hsd.lom.trans hlom, hsd.sf.trans hsf', hsd.sd.trans ?_, hsd.drBad.trans hdr⟩
  change (if !r2.sd ∧ !r2.sf ∧ f 8 ≤ w.1 then true else if r2.sd ∧ w.1 < f 10 then false else r2.sd) = _
  rw [hsf', hsd']

/-! ### Requests

Where a row looks at an interval inside a match, the interval is named first (`exists_eq'`), so that no check of the match
evaluates it. -/

/-- DR_INCONSISTENT sets the defect once 12 frames have brought no accepted pair (R340). -/
theorem exec_drInconsistent (s : State) (l : Fin 32) :
    exec (.drInconsistent l) s
      = .next { s with dev := if 12 ≤ (s.dev.lane l.val).rx.drSince then s.dev.setDefect l.val 10 true else s.dev } := rfl

theorem Dev.drBad_setDefect (d : Dev) (l : Fin 32) : ((d.setDefect l.val 10 true).lane l.val).rx.drBad = true :=
  (LaneRx.alike_of_shown (d.shown_setDefect l 10 true)).drBad

section
variable (s : State) (l : Fin 32) (g c at_ : Nat) (hgroup : s.dev.laneGroup l.val = some (g, c))
  (hdue : airPast s.dev.time.air ((at_ + s.dev.holdoff g) % airWrap) = true)
include hgroup hdue

/-- HOLDOFF of a FAIL has run (R343). -/
theorem exec_holdoffExpiry_fail (hfail : (s.dev.lane l.val).rx.failSince = some at_) :
    exec (.holdoffExpiry l) s = .next { s with dev := s.dev.updRx l.val (fun r => { r with failSince := none, fail := true }) } := by
  change execHoldoffExpiry l s = _
  have hnow := s.dev.after_past _ _ hdue
  rw [execHoldoffExpiry, State.on_eq]
  obtain ⟨after, hafter⟩ := exists_eq' (a' := s.dev.after)
  rw [hafter] at hnow ⊢
  rw [hgroup]
  dsimp only
  rw [hfail]
  dsimp only
  rw [hnow]

/-- HOLDOFF of a DEGRADE has run, no FAIL being delayed (R343). -/
theorem exec_holdoffExpiry_degrade (hfail : (s.dev.lane l.val).rx.failSince = none)
    (hdeg : (s.dev.lane l.val).rx.degSince = some at_) :
    exec (.holdoffExpiry l) s = .next { s with dev := s.dev.updRx l.val (fun r => { r with degSince := none, deg := true }) } := by
  change execHoldoffExpiry l s = _
  have hnow := s.dev.after_past _ _ hdue
  rw [execHoldoffExpiry, State.on_eq]
  obtain ⟨after, hafter⟩ := exists_eq' (a' := s.dev.after)
  rw [hafter] at hnow ⊢
  rw [hgroup]
  dsimp only
  rw [hfail, hdeg]
  dsimp only
  rw [hnow]

end

/-- With no HOLDOFF running none ends. -/
theorem exec_holdoffExpiry_none (s : State) (l : Fin 32) (hfail : (s.dev.lane l.val).rx.failSince = none)
    (hdeg : (s.dev.lane l.val).rx.degSince = none) : exec (.holdoffExpiry l) s = .next s := by
  change execHoldoffExpiry l s = _
  rw [execHoldoffExpiry, State.on_eq]
  split
  · rfl
  · simp only [hfail, hdeg]

/-- WTR_EXPIRY ends a RESTORE_WAIT whose time has come (R343). -/
theorem exec_wtrExpiry (s : State) (g : Fin 16) (w : Nat × Nat) (hwtr : (s.dev.group g.val).wtr = some w)
    (hdue : airPast s.dev.time.air w.2 = true) :
    exec (.wtrExpiry g) s = .next { s with dev := s.dev.updGroup g.val (fun x => { x with wtr := none }) } := by
  change execWtrExpiry g s = _
  have hnow := s.dev.due_past _ hdue
  rw [execWtrExpiry, State.on_eq]
  obtain ⟨due, hdue⟩ := exists_eq' (a' := s.dev.due)
  rw [hdue] at hnow ⊢
  rw [hwtr]
  dsimp only
  rw [hnow]

/-! ### The statement -/

/-- Settles O43: each defect by what the receiver or port shows of it, each interval by its row. -/
theorem laneDefectsAndRequests : Obligations.LaneDefectsAndRequests := by
  unfold Obligations.LaneDefectsAndRequests
  intro s l
  have hlost (p : LinePlace) : exec (.losEntry p) s = .next { s with dev := s.dev.lineLost p } := rfl
  have hback (p : LinePlace) : exec (.losExit p) s = .next { s with dev := s.dev.lineBack p } := rfl
  refine ⟨fun hup hmode => ⟨⟨_, hlost _, ?_⟩, ⟨_, hback _, ?_⟩⟩,
    fun hup hmode f => ⟨⟨_, hlost _, s.dev.lineLost_eth l f hup hmode⟩, ⟨_, hback _, s.dev.lineBack_eth l f hup hmode⟩⟩,
    fun hdown f => ?_,
    fun p f hup => ⟨⟨_, hlost _, s.dev.portDefect_defect p f true hup⟩, ⟨_, hback _, s.dev.portDefect_defect p f false hup⟩⟩,
    fun hnone => ?_, fun w rest hwindows => ⟨_, exec_defectWindowEnd s l w rest hwindows, ?_⟩,
    fun hmany => ?_, fun hfew => ?_, fun g c hgroup => ⟨fun at_ hfail hdue => ?_, fun at_ hfail hdeg hdue => ?_⟩,
    exec_holdoffExpiry_none s l, fun g => ⟨fun hnone => ?_, exec_wtrExpiry s g⟩⟩
  · obtain ⟨hlane, hcores⟩ := s.dev.lineLost_lane l hup hmode
    exact ⟨hlane.los, hlane.lof, hlane.align, hlane.cands, hcores⟩
  · have hlane := s.dev.lineBack_lane l hup hmode
    exact ⟨hlane.los, hlane.lof, hlane.align⟩
  · obtain ⟨hlane, hlane', heth, heth'⟩ := s.dev.line_down l f hdown
    rw [hlost, hback, hlost, hback, hlane, hlane', heth, heth']
    exact ⟨rfl, rfl, rfl, rfl⟩
  · change execDefectWindowEnd l s = _
    rw [execDefectWindowEnd, State.on_eq, hnone]
  · have hlane := s.dev.judgeWindow_alike l w rest
    generalize s.dev.judgeWindow l.val w rest = judged at hlane ⊢
    exact ⟨hlane.windows, hlane.sf, hlane.sd, hlane.los, hlane.lof, hlane.lom, hlane.align⟩
  · rw [exec_drInconsistent, if_pos hmany]
    exact ⟨_, rfl, s.dev.drBad_setDefect l⟩
  · rw [exec_drInconsistent, if_neg (by omega)]
  · exact exec_holdoffExpiry_fail s l g c at_ hgroup hdue hfail
  · exact exec_holdoffExpiry_degrade s l g c at_ hgroup hdue hfail hdeg
  · change execWtrExpiry g s = _
    rw [execWtrExpiry, State.on_eq, hnone]

end Sys2Proof.Machine
end

section
/-! SUPPORT. A lane in ETHERNET personality under self-test (13_ecner_framing.md, R349; 20_thermal_and_health.md, R495). -/

namespace Sys2Proof.Machine
open Sys2Proof

/-- A powered device in which lane 0, in ETHERNET personality with its quad in Run, is under self-test, its link down. -/
@[irreducible] def laneUnderTest : State :=
  { dev := (((({ start := { powered := true, resetLow := false }
                 cfg := { lanes := (Vector.replicate 32 []).set 0 [2] } } : Dev).updDom 0x500 (fun x => { x with st := .run })).updUnit 13 0
      (fun u => { u with st := .present, testing := true })).updRx 0 (fun r => { r with align := .hunt })) }

/-- The lane meets what the statement asks of one whose link comes up. -/
theorem laneUnderTest_works : laneUnderTest.dev.laneUp 0 = true ∧ laneUnderTest.dev.laneMode 0 = 2
    ∧ (laneUnderTest.dev.lane 0).rx.los = false := by
  decide +kernel

theorem laneUnderTest_tested : laneUnderTest.dev.lineTest 0 = true ∧ (laneUnderTest.dev.lane 0).rx.align = .hunt := by
  decide +kernel

/-- No link comes up while a self-test takes the line up (R349). -/
theorem exec_ethernetLinkUp_tested (s : State) (l : Fin 32) (h : s.dev.lineTest l.val = true) :
    exec (.ethernetLinkUp (.lane l)) s = .next s := by
  have hsame : s.dev.lineUp (.lane l) = s.dev := by
    rw [Dev.lineUp]
    exact if_pos (.inr (.inr (.inr h)))
  have hexec : exec (.ethernetLinkUp (.lane l)) s = .next { s with dev := s.dev.lineUp (.lane l) } := rfl
  rw [hexec, hsame]

/-- Refutes O45: its clause for ETHERNET_LINK_UP brings up the link of every working lane without LOS, but a lane whose line a
self-test takes up has no link (R349). -/
theorem not_ecpriMessages : ¬ Obligations.EcpriMessages := by
  unfold Obligations.EcpriMessages
  rintro ⟨-, hLane, -⟩
  obtain ⟨hup, hmode, hlos⟩ := laneUnderTest_works
  obtain ⟨htest, halign⟩ := laneUnderTest_tested
  obtain ⟨t, ht, -, hsync⟩ := hLane laneUnderTest 0 hup hmode hlos
  obtain rfl := Host.Outcome.next.inj ((exec_ethernetLinkUp_tested laneUnderTest 0 htest).symm.trans ht)
  exact Align.noConfusion (halign.symm.trans hsync)

end Sys2Proof.Machine
end

section
/-! SUPPORT. Frames received and sent (13_ecner_framing.md, R321, R322, R324, R326, R336). -/

namespace Sys2Proof.Machine
open Sys2Proof

/-! ### The search for alignment -/

/-- In HUNT a clean Waymark makes its offset the one candidate (R336). -/
theorem LaneRx.search_first (r : LaneRx) (f : RxFrame) (hcands : r.cands = []) (hclean : waymarkErrors f = 0) :
    r.search f = { r with cands := [⟨f.off, rawMs f, 0⟩], align := .presync } := by
  simp [LaneRx.search, hcands, hclean]

/-- The third frame in succession at a candidate whose MS goes on ends the search (R336). -/
theorem LaneRx.search_third (r : LaneRx) (f : RxFrame) (m : Nat) (hcands : r.cands = [⟨f.off, m, 2⟩]) (hclean : waymarkErrors f = 0)
    (hms : rawMs f = (m + 1) % 64) :
    (r.search f).align = .sync ∧ (r.search f).ms = rawMs f ∧ (r.search f).cands = [⟨f.off, rawMs f, 3⟩] := by
  simp [LaneRx.search, hcands, hclean, hms]

/-- A frame period in HUNT or PRESYNC: the search, and where it ends, LOF cleared (R336, R337). -/
def Dev.frameSearch (d : Dev) (l : Nat) (f : RxFrame) : Dev :=
  let d1 := d.updRx l (fun r => r.search f)
  if (d1.lane l).rx.align = .sync then d1.setDefect l 3 false else d1

section
variable (s : State) (l : Fin 32) (f : RxFrame) (hpast : airPast s.dev.time.air f.at_ = true)
include hpast

/-- A lane that does not work, of another personality or without signal takes no frame. -/
theorem exec_ecnerFrameReceive_none
    (h : s.dev.laneUp l.val = false ∨ s.dev.laneMode l.val ≠ 1 ∨ (s.dev.lane l.val).rx.los = true) :
    exec (.ecnerFrameReceive l f) s = .next s := by
  change execEcnerFrameReceive l f s = _
  rw [execEcnerFrameReceive, State.on_eq, s.dev.due_past _ hpast]
  dsimp only
  rw [if_pos (by simpa using h)]

variable (hup : s.dev.laneUp l.val = true) (hmode : s.dev.laneMode l.val = 1) (hlos : (s.dev.lane l.val).rx.los = false)
include hup hmode hlos

/-- In HUNT or PRESYNC a frame period is searched for a Waymark (R336). -/
theorem exec_ecnerFrameReceive_search (halign : (s.dev.lane l.val).rx.align = .hunt ∨ (s.dev.lane l.val).rx.align = .presync) :
    exec (.ecnerFrameReceive l f) s = .next { s with dev := s.dev.frameSearch l.val f } := by
  change execEcnerFrameReceive l f s = _
  rw [execEcnerFrameReceive, State.on_eq, s.dev.due_past _ hpast]
  dsimp only
  rw [if_neg (by simp [hup, hmode, hlos])]
  obtain halign | halign := halign
  · rw [halign]
    rfl
  · rw [halign]
    rfl

/-- In SYNC a frame at the offset of the alignment is read (R334, R336). -/
theorem exec_ecnerFrameReceive_sync (halign : (s.dev.lane l.val).rx.align = .sync) (m k : Nat)
    (hcands : (s.dev.lane l.val).rx.cands = [⟨f.off, m, k⟩]) :
    exec (.ecnerFrameReceive l f) s = .next { s with dev := s.dev.frameSync l.val f } := by
  change execEcnerFrameReceive l f s = _
  rw [execEcnerFrameReceive, State.on_eq, s.dev.due_past _ hpast]
  dsimp only
  have hoffset : ((s.dev.lane l.val).rx.cands.headD ⟨f.off, 0, 0⟩).off = f.off := by rw [hcands, List.headD_cons]
  rw [if_neg (by simp [hup, hmode, hlos]), halign]
  dsimp only
  rw [if_pos hoffset]

end

/-! ### What a frame changes -/

/-- Where the search does not end, the receiver alone changes. -/
theorem Dev.frameSearch_goesOn (d : Dev) (l : Fin 32) (f : RxFrame) (h : ((d.lane l.val).rx.search f).align ≠ .sync) :
    d.frameSearch l.val f = d.updRx l.val (fun r => r.search f) := by
  rw [Dev.frameSearch, Dev.lane_updRx]
  exact if_neg h

/-- Where the search ends, the receiver is in SYNC and LOF is clear (R336, R337). -/
theorem Dev.frameSearch_ends (d : Dev) (l : Fin 32) (f : RxFrame) (found : LaneRx) (hfound : (d.lane l.val).rx.search f = found)
    (h : found.align = .sync) : ((d.frameSearch l.val f).lane l.val).rx.Alike { found with lof := false } := by
  subst hfound
  have hends : d.frameSearch l.val f = (d.updRx l.val (fun r => r.search f)).setDefect l.val 3 false := by
    rw [Dev.frameSearch, Dev.lane_updRx]
    exact if_pos h
  rw [hends]
  apply LaneRx.alike_of_shown
  rw [Dev.shown_setDefect, Dev.lane_updRx]
  rfl

/-- The fourth bad frame in succession loses the alignment: HUNT and LOF (R336, R337). -/
theorem Dev.frameSync_lost (d : Dev) (l : Fin 32) (f : RxFrame) (herrors : 3 < waymarkErrors f) (hbad : (d.lane l.val).rx.bad = 3) :
    ((d.frameSync l.val f).lane l.val).rx.Alike { (d.lane l.val).rx.toHunt with lof := true } := by
  have hlost : d.frameSync l.val f = (d.updRx l.val LaneRx.toHunt).setDefect l.val 3 true := by
    rw [Dev.frameSync, if_pos herrors, hbad]
    exact if_pos (le_refl 4)
  rw [hlost]
  apply LaneRx.alike_of_shown
  rw [Dev.shown_setDefect, Dev.lane_updRx]
  rfl

/-- The clauses of ECNER_FRAME_RECEIVE. -/
theorem ecnerFrameReceive_clauses (s : State) (l : Fin 32) (f : RxFrame) : let d := s.dev
    let r := (d.lane l.val).rx
    let ms := rawMs f
    ((d.laneUp l.val = false ∨ d.laneMode l.val ≠ 1 ∨ r.los = true) → airPast d.time.air f.at_ = true →
      exec (.ecnerFrameReceive l f) s = .next s)
    ∧ (d.laneUp l.val = true → d.laneMode l.val = 1 → r.los = false → airPast d.time.air f.at_ = true →
      (r.align = .hunt → r.cands = [] → waymarkErrors f = 0 → ∃ t, exec (.ecnerFrameReceive l f) s = .next t
          ∧ (t.dev.lane l.val).rx = { r with cands := [⟨f.off, ms, 0⟩], align := .presync }
          ∧ (t.dev.lane l.val).tx = (d.lane l.val).tx ∧ t.dev.mem = d.mem)
      ∧ (∀ m, r.align = .presync → r.cands = [⟨f.off, m, 2⟩] → waymarkErrors f = 0 → ms = (m + 1) % 64 →
          ∃ t, exec (.ecnerFrameReceive l f) s = .next t ∧ (t.dev.lane l.val).rx.align = .sync ∧ (t.dev.lane l.val).rx.lof = false
            ∧ (t.dev.lane l.val).rx.ms = ms ∧ (t.dev.lane l.val).rx.cands = [⟨f.off, ms, 3⟩])
      ∧ (∀ m k, r.align = .sync → r.cands = [⟨f.off, m, k⟩] → 3 < waymarkErrors f → r.bad = 3 →
          ∃ t, exec (.ecnerFrameReceive l f) s = .next t ∧ (t.dev.lane l.val).rx.align = .hunt ∧ (t.dev.lane l.val).rx.lof = true
            ∧ (t.dev.lane l.val).rx.bad = 0)) := by
  intro d r ms
  refine ⟨fun hdown hpast => exec_ecnerFrameReceive_none s l f hpast hdown, fun hup hmode hlos hpast =>
    ⟨fun halign hcands hclean => ⟨_, exec_ecnerFrameReceive_search s l f hpast hup hmode hlos (.inl halign), ?_⟩,
      fun m halign hcands hclean hms => ⟨_, exec_ecnerFrameReceive_search s l f hpast hup hmode hlos (.inr halign), ?_⟩,
      fun m k halign hcands herrors hbad => ⟨_, exec_ecnerFrameReceive_sync s l f hpast hup hmode hlos halign m k hcands, ?_⟩⟩⟩
  · have hfirst := r.search_first f hcands hclean
    have hrx := (congrArg Lane.rx (d.lane_updRx l (fun r => r.search f))).trans hfirst
    have htx := d.tx_updRx l.val l.val (fun r => r.search f)
    have hmem := d.updRx_mem l.val (fun r => r.search f)
    rw [d.frameSearch_goesOn l f (by rw [hfirst]; exact Align.noConfusion)]
    generalize d.updRx l.val (fun r => r.search f) = searched at hrx htx hmem ⊢
    exact ⟨hrx, htx, hmem⟩
  · obtain ⟨hsync, hms', hcands'⟩ := r.search_third f m hcands hclean hms
    obtain ⟨found, hfound⟩ := exists_eq' (a' := r.search f)
    rw [hfound] at hsync hms' hcands'
    have hends := d.frameSearch_ends l f found hfound hsync
    generalize d.frameSearch l.val f = searched at hends ⊢
    exact ⟨hends.align.trans hsync, hends.lof, hends.ms.trans hms', hends.cands.trans hcands'⟩
  · have hlost := d.frameSync_lost l f herrors hbad
    generalize d.frameSync l.val f = lost at hlost ⊢
    exact ⟨hlost.align, hlost.lof, hlost.bad⟩

end Sys2Proof.Machine
end

section
/-! SUPPORT. The frame that a transmitter sends next (13_ecner_framing.md, R321, R322, R324, R326). -/

namespace Sys2Proof.Machine
open Sys2Proof

/-! ### The overhead -/

theorem length_msbOf (n x : Nat) : (msbOf n x).length = n := by rw [msbOf, List.length_reverse, length_bytesOf]

theorem length_padTo (n : Nat) (bs : List Byte) : (padTo n bs).length = n := by simp [padTo]

/-- Where the parts of the overhead lie (Table 13.2): MS and BIP, TS, GCC. -/
theorem overhead_parts (ms bip stat dr1 dr2 : Byte) (ts ctl tti gcc : List Byte) (hts : ts.length = 8) (hctl : ctl.length = 4)
    (htti : tti.length = 1) (hgcc : gcc.length = 2) : let head := [ms, bip, stat, dr1, dr2] ++ ts ++ ctl ++ tti ++ gcc ++ [0, 0, 0, 0]
    head.length = 24 ∧ head.take 2 = [ms, bip] ∧ (head.drop 5).take 8 = ts ∧ (head.drop 18).take 2 = gcc := by
  refine ⟨by simp [hts, hctl, htti, hgcc], rfl, ?_, ?_⟩
  · simp [hts]
  · have hfront : ([ms, bip, stat, dr1, dr2] ++ ts ++ ctl ++ tti).length = 18 := by simp [hts, hctl, htti]
    rw [List.append_assoc _ gcc, ← hfront, List.drop_left, ← hgcc, List.take_left]

/-- The CTL word of a frame is no matter of whether the transmitter is on. -/
theorem LaneTx.ctl_on (t : LaneTx) (ts : Nat) : (t.ctl ts).2.on = t.on := by
  unfold LaneTx.ctl
  split
  · rfl
  · split
    · rfl
    · rfl

/-- Gate events that have come leave what the overhead of a frame is made of (R212). -/
theorem LaneTx.settle_overhead (t : LaneTx) (ts : Nat) : (t.settle ts).frame = t.frame ∧ (t.settle ts).next = t.next
    ∧ (t.settle ts).ms = t.ms ∧ (t.settle ts).on = t.on ∧ (t.settle ts).cfgt = t.cfgt ∧ (t.settle ts).cfgtDue = t.cfgtDue
    ∧ (t.settle ts).bip = t.bip ∧ (t.settle ts).gcc = t.gcc := ⟨rfl, rfl, rfl, rfl, rfl, rfl, rfl, rfl⟩

/-! ### What else follows from a frame sent -/

theorem Dev.countTestFrames_txKept (d : Dev) (l : Nat) : d.TxKept (d.countTestFrames l) := by
  unfold Dev.countTestFrames
  split
  · refine Dev.TxKept.foldl _ (fun d w => ?_) _ d
    split
    · split
      · exact .refl d
      · exact d.updRx_txKept w _
    · exact .refl d
  · exact .refl d

/-- What follows from a frame that was sent leaves the transmitter, with no self-test waiting. -/
theorem Dev.tx_afterFrame (d : Dev) (l k : Nat) (htests : d.health.testQueue = []) :
    ((((d.countTestFrames l).detourWatch l).laneNote l).startTests.lane k).tx = (d.lane k).tx := by
  have hkept : d.TxKept (((d.countTestFrames l).detourWatch l).laneNote l) :=
    ((d.countTestFrames_txKept l).trans (Dev.detourWatch_txKept _ l)).trans (Dev.laneNote_txKept _ l)
  rw [Dev.startTests_none _ (by rw [hkept.health, htests]), hkept.tx]

/-- A frame sent: the transmitter goes on to the next, and the overhead says what the statement asks (Table 13.2). -/
theorem Dev.frameSend_tx (d : Dev) (l : Fin 32) (htests : d.health.testQueue = []) :
    let old := (d.lane l.val).tx.catchUp d.time.air
    let x := ((d.frameSend l.val).lane l.val).tx
    x.frame = old.frame + 1 ∧ x.next = (old.next + frameStep) % microWrap ∧ x.ms = (old.ms + 1) % 64 ∧ x.on = old.on
      ∧ x.cfgt = (old.cfgt != old.cfgtDue) ∧ x.gcc = old.gcc.drop 2 ∧ x.sentHead.length = 24
      ∧ x.sentHead.take 2 = [BitVec.ofNat 8 (128 * boolNat (d.lineTest l.val) + 64 * boolNat (old.cfgt != old.cfgtDue) + old.ms),
          BitVec.ofNat 8 old.bip]
      ∧ (x.sentHead.drop 5).take 8 = msbOf 8 (d.time.stampAt (old.tsAt 0)).toNat
      ∧ (x.sentHead.drop 18).take 2 = padTo 2 (old.gcc.take 2 ++ List.replicate 2 0x7E) := by
  unfold Dev.frameSend
  obtain ⟨old, hold⟩ := exists_eq' (a' := (d.lane l.val).tx.catchUp d.time.air)
  rw [hold]
  extract_lets old' t0 ts cfgt ctl test conts body dr rec_ gcc head sf src d1 x
  obtain ⟨hframe, hnext, hms, hon, hcfgt, hdue, hbip, hgccs⟩ : _ := old.settle_overhead (old.tsAt 0)
  have hts : old.tsAt 0 = ts := by
    change (old.next + 0 * frameStep) % microWrap / 1000000 = (t0.next + 0 * frameStep) % microWrap / 1000000
    rw [hnext]
  have hx : x = _ := (d1.tx_afterFrame l.val l.val htests).trans (congrArg Lane.tx (Dev.lane_updTx _ l _))
  obtain ⟨hlength, hfront, hstamp, hgcc⟩ := overhead_parts (BitVec.ofNat 8 (128 * boolNat test + 64 * boolNat cfgt + t0.ms))
    (BitVec.ofNat 8 t0.bip) (BitVec.ofNat 8 (d.statByte l.val)) (BitVec.ofNat 8 dr.1) (BitVec.ofNat 8 dr.2)
    (msbOf 8 (d.time.stampAt ts).toNat) (msbOf 4 ctl.1) (padTo 1 ((rec_.drop (32 + t0.ms)).take 1)) gcc
    (length_msbOf 8 _) (length_msbOf 4 _) (length_padTo 1 _) (length_padTo 2 _)
  clear_value x
  subst hx
  rw [hts, ← hframe, ← hnext, ← hms, ← hon, ← hcfgt, ← hdue, ← hbip, ← hgccs]
  exact ⟨rfl, rfl, rfl, t0.ctl_on ts, rfl, rfl, hlength, hfront, hstamp, hgcc⟩

/-- ECNER_FRAME_TRANSMIT of a working transmitter whose frame is due. -/
theorem exec_ecnerFrameTransmit_due (s : State) (l : Fin 32) (hon : (s.dev.lane l.val).tx.on = true) (hmode : s.dev.laneMode l.val = 1)
    (hup : s.dev.laneUp l.val = true) (hdue : airPast s.dev.time.air ((s.dev.lane l.val).tx.tsAt 0) = true) :
    exec (.ecnerFrameTransmit l) s = .next { s with dev := s.dev.frameSend l.val } := by
  change execEcnerFrameTransmit l s = _
  rw [execEcnerFrameTransmit, State.on_eq, if_neg (by simp [hon, hmode, hup]), s.dev.due_past _ hdue]

end Sys2Proof.Machine
end

section
/-! SUPPORT. BLANK for the streams that have nothing (13_ecner_framing.md, R330). -/

namespace Sys2Proof.Machine
open Sys2Proof

/-! ### One stream decided -/

/-- The BLANK of a stream at a symbol with its TAG (R330). -/
def blankOf (c : Cell) (at_ tag : Nat) (e : StreamRec) : TxCont :=
  { due := dueOf c.cr at_, at_ := at_, cell := c.cr.cell, lane := e.lane, sid := e.sid, ofs := 0, kind := 4
    tag := tag, last := true, body := [] }

/-- A decision for a stream at a symbol is noted. -/
def Dev.noteMade (d : Dev) (sid at_ : Nat) : Dev := { d with link := { d.link with made := d.link.made ++ [(sid, at_)] } }

/-- A stream's symbol is decided: noted, and a BLANK put up where some lane sends it (R330). -/
def Dev.decideBlank (d : Dev) (c : Cell) (at_ start sym : Nat) (e : StreamRec) : Dev :=
  (d.noteMade e.sid at_).putOut (blankOf c at_ (d.time.tag c.cr.type start sym) e)

/-- Whether an entry is a downlink stream of a cell that has nothing for a symbol. -/
def Dev.undecided (d : Dev) (c : Cell) (at_ : Nat) (e : StreamRec) : Bool :=
  e.down && e.cell == c.cr.cell && !d.link.made.contains (e.sid, at_)

/-- Records of decided symbols are kept for 20 ms (R330). -/
def Dev.madeKept (d : Dev) : Dev :=
  { d with link := { d.link with made := d.link.made.filter (fun m => decide (airDiff d.time.air m.2 < (usToTc 20000 : Nat))) } }

/-- Where the due event has come, the undecided streams of the cell are decided one after the other. (The definition is opened as a
constant: opened where it is applied, the kernel would evaluate the due event before it compares.) -/
theorem Dev.containerDue_due (d : Dev) (c : Cell) (at_ start sym : Nat) (hat : d.time.symStart c.cr.type start sym = at_)
    (hdue : airPast d.time.air (dueOf c.cr at_) = true) :
    d.containerDue c start sym
      = ((d.streamsFor at_).filter (d.undecided c at_)).foldl (fun b e => b.decideBlank c at_ start sym e) d.madeKept := by
  have hopen : Dev.containerDue = Dev.containerDue := rfl
  conv at hopen => rhs; delta Dev.containerDue
  rw [hopen]
  beta_reduce
  rw [hat]
  extract_lets symbol
  have hnow : d.due (dueOf c.cr symbol) = some d := d.due_past _ hdue
  rw [hnow]
  rfl

/-! ### What decisions leave and add -/

/-- What deciding streams keeps: the memory, the lanes that send, and every decision and container there was. -/
structure Dev.Decided (a b : Dev) : Prop where
  mem : b.mem = a.mem
  carried : ∀ l, b.carried l = a.carried l
  made : ∀ m ∈ a.link.made, m ∈ b.link.made
  out : ∀ o ∈ a.link.out, o ∈ b.link.out

theorem Dev.Decided.refl (d : Dev) : d.Decided d := ⟨rfl, fun _ => rfl, fun _ h => h, fun _ h => h⟩

theorem Dev.Decided.trans {a b c : Dev} (h1 : a.Decided b) (h2 : b.Decided c) : a.Decided c :=
  ⟨h2.mem.trans h1.mem, fun l => (h2.carried l).trans (h1.carried l), fun m hm => h2.made m (h1.made m hm),
    fun o ho => h2.out o (h1.out o ho)⟩

/-- Where some lane sends it, a container put up is there, with the parts that name and fill it. -/
theorem Dev.putOut_carried (d : Dev) (x : TxCont) (h : ((d.carried x.lane).1 || (d.carried x.lane).2) = true) :
    ∃ o ∈ (d.putOut x).link.out, o.sid = x.sid ∧ o.at_ = x.at_ ∧ o.kind = x.kind ∧ o.last = x.last ∧ o.body = x.body := by
  unfold Dev.putOut
  extract_lets c
  rw [if_pos h]
  exact ⟨_, List.mem_append_right _ (List.mem_singleton_self _), rfl, rfl, rfl, rfl, rfl⟩

theorem Dev.putOut_decided (d : Dev) (x : TxCont) : d.Decided (d.putOut x) := by
  unfold Dev.putOut
  extract_lets c
  split
  · exact ⟨rfl, fun _ => rfl, fun _ h => h, fun _ h => List.mem_append_left _ h⟩
  · exact .refl d

/-- A BLANK of a stream at a symbol is up for sending. -/
def Dev.Blanked (d : Dev) (sid at_ : Nat) : Prop :=
  ∃ o ∈ d.link.out, o.sid = sid ∧ o.at_ = at_ ∧ o.kind = 4 ∧ o.last = true ∧ o.body = []

theorem Dev.Decided.blanked {a b : Dev} {sid at_ : Nat} (h : a.Decided b) (hblank : a.Blanked sid at_) : b.Blanked sid at_ := by
  obtain ⟨o, ho, hparts⟩ := hblank
  exact ⟨o, h.out o ho, hparts⟩

/-- A stream decided is noted, and offered a BLANK where some lane sends it. -/
theorem Dev.decideBlank_spec (d : Dev) (c : Cell) (at_ start sym : Nat) (e : StreamRec) :
    d.Decided (d.decideBlank c at_ start sym e) ∧ (e.sid, at_) ∈ (d.decideBlank c at_ start sym e).link.made
    ∧ (((d.carried e.lane).1 || (d.carried e.lane).2) = true → (d.decideBlank c at_ start sym e).Blanked e.sid at_) := by
  have hnoted : d.Decided (d.noteMade e.sid at_) :=
    ⟨rfl, fun _ => rfl, fun _ h => List.mem_append_left _ h, fun _ h => h⟩
  have hput := (d.noteMade e.sid at_).putOut_decided (blankOf c at_ (d.time.tag c.cr.type start sym) e)
  refine ⟨hnoted.trans hput, hput.made _ (List.mem_append_right _ (List.mem_singleton_self _)), fun hcarried => ?_⟩
  rw [← hnoted.carried] at hcarried
  exact (d.noteMade e.sid at_).putOut_carried (blankOf c at_ _ e) hcarried

/-- Streams decided one after the other: each is noted, and offered a BLANK where some lane sends it. -/
theorem Dev.foldl_decideBlank (c : Cell) (at_ start sym : Nat) (es : List StreamRec) (d : Dev) :
    d.Decided (es.foldl (fun b e => b.decideBlank c at_ start sym e) d)
    ∧ ∀ e ∈ es, (e.sid, at_) ∈ (es.foldl (fun b e => b.decideBlank c at_ start sym e) d).link.made
      ∧ (((d.carried e.lane).1 || (d.carried e.lane).2) = true →
        (es.foldl (fun b e => b.decideBlank c at_ start sym e) d).Blanked e.sid at_) := by
  induction es generalizing d with
  | nil => exact ⟨.refl d, fun e he => absurd he List.not_mem_nil⟩
  | cons x xs ih =>
    obtain ⟨hfirst, hnoted, hoffered⟩ := d.decideBlank_spec c at_ start sym x
    obtain ⟨hrest, hothers⟩ := ih (d.decideBlank c at_ start sym x)
    refine ⟨hfirst.trans hrest, fun e he => ?_⟩
    obtain rfl | he := List.mem_cons.mp he
    · exact ⟨hrest.made _ hnoted, fun hcarried => hrest.blanked (hoffered hcarried)⟩
    · obtain ⟨hmade, hblank⟩ := hothers e he
      rw [hfirst.carried] at hblank
      exact ⟨hmade, hblank⟩

/-! ### The symbol's streams -/

/-- At the due event of a symbol no downlink stream of the cell stays undecided, and one that had nothing is offered a BLANK. -/
theorem Dev.containerDue_spec (d : Dev) (c : Cell) (at_ start sym : Nat) (hat : d.time.symStart c.cr.type start sym = at_)
    (hdue : airPast d.time.air (dueOf c.cr at_) = true) (hrecent : airDiff d.time.air at_ < (usToTc 20000 : Nat)) :
    (∀ e ∈ d.streamsFor at_, e.down = true → e.cell = c.cr.cell → (e.sid, at_) ∈ (d.containerDue c start sym).link.made
      ∧ ((e.sid, at_) ∉ d.link.made → ((d.carried e.lane).1 || (d.carried e.lane).2) = true →
          (d.containerDue c start sym).Blanked e.sid at_))
    ∧ (d.containerDue c start sym).mem = d.mem := by
  obtain ⟨hkept, hdecided⟩ := Dev.foldl_decideBlank c at_ start sym ((d.streamsFor at_).filter (d.undecided c at_)) d.madeKept
  rw [← d.containerDue_due c at_ start sym hat hdue] at hkept hdecided
  refine ⟨fun e he hdown hcell => ?_, hkept.mem⟩
  by_cases hmade : (e.sid, at_) ∈ d.link.made
  · have hstays : (e.sid, at_) ∈ d.madeKept.link.made := List.mem_filter.mpr ⟨hmade, decide_eq_true hrecent⟩
    exact ⟨hkept.made _ hstays, fun hnot => absurd hmade hnot⟩
  · have hopen : d.undecided c at_ e = true := by simp [Dev.undecided, hdown, hcell, hmade]
    obtain ⟨hnoted, hoffered⟩ := hdecided e (List.mem_filter.mpr ⟨he, hopen⟩)
    exact ⟨hnoted, fun _ hcarried => hoffered hcarried⟩

/-- CONTAINER_DUE of a downlink symbol of a serving cell (R330). -/
theorem exec_containerDue_serves (s : State) (c : Cell) (cell start sym : Nat) (hcell : s.dev.cell? cell = some c)
    (hserves : c.inService = true) (hstart : start < airWrap) (hsince : 0 ≤ airDiff start c.since)
    (hslot : (s.dev.time.slotSpan c.cr.type start).1 = start) (hsym : sym < slotSymbols c.cr.type)
    (hdown : s.dev.time.symDown c.cr start sym = true) :
    exec (.containerDue cell start sym) s = .next { s with dev := s.dev.containerDue c start sym } := by
  change execContainerDue cell start sym s = _
  rw [execContainerDue, State.on_eq, hcell]
  dsimp only
  rw [if_pos]
  simp only [hserves, hstart, hsince, hslot, hsym, hdown, decide_true, beq_self_eq_true, Bool.and_self]

/-- The cell of a handle is of that handle. -/
theorem Dev.handle_of_cell? (d : Dev) (cell : Nat) (c : Cell) (h : d.cell? cell = some c) : c.cr.cell = cell := by
  have hfound := List.find?_some h
  exact beq_iff_eq.mp hfound

/-! ### The statement -/

/-- Settles O44: the search for alignment, the next frame's overhead, and the streams that a due event decides. -/
theorem ecnerFramesAndContainers : Obligations.EcnerFramesAndContainers := by
  unfold Obligations.EcnerFramesAndContainers
  refine ⟨ecnerFrameReceive_clauses, fun s l hon hmode hup hdue htests => ⟨_, exec_ecnerFrameTransmit_due s l hon hmode hup hdue, ?_⟩,
    fun s c cell start sym hcell hserves hstart hsince hslot hsym hdown hdue hrecent =>
      ⟨_, exec_containerDue_serves s c cell start sym hcell hserves hstart hsince hslot hsym hdown, ?_⟩, fun s cell start sym hnone => ?_⟩
  · have hsent := s.dev.frameSend_tx l htests
    generalize s.dev.frameSend l.val = sent at hsent ⊢
    exact hsent
  · obtain rfl := s.dev.handle_of_cell? cell c hcell
    have hdecided := s.dev.containerDue_spec c _ start sym rfl hdue hrecent
    generalize s.dev.containerDue c start sym = decided at hdecided ⊢
    exact hdecided
  · change execContainerDue cell start sym s = _
    rw [execContainerDue, State.on_eq, hnone]

end Sys2Proof.Machine
end

section
/-! SUPPORT. A Delay_Req at the front of a port's own frames (02_timing_and_deadlines.md, R42; 15_ethernet_and_host_port.md, R373). -/

namespace Sys2Proof.Machine
open Sys2Proof

/-- A working port with its link up sends the only frame of its own that waits (R373). -/
theorem Dev.portSend_own (d : Dev) (p : Nat) (q : EthTx) (hup : d.portUp p = true) (hlink : (d.ethPort p).link = true)
    (hqueue : (d.ethPort p).queue = [q]) : d.portSend p = d.depart p q := by
  rw [Dev.portSend]
  simp [hup, hlink, hqueue]

/-- A PTP event message of type Delay_Req. -/
def EthTx.isDelayReq (q : EthTx) : Prop := q.kind = 1 ∧ pf q.bytes (ptpOffsetIn q.bytes) 1 % 16 = 1

/-- The departure of a Delay_Req is held for its response (R42). -/
theorem Dev.depart_delayReq (d : Dev) (p : Fin 4) (q : EthTx) (hreq : q.isDelayReq) :
    ((d.depart p.val q).ethPort p.val).reqOut.isSome = true := by
  unfold Dev.depart
  extract_lets o ns type
  rw [d.ethPort_updEth p]
  exact congrArg Option.isSome (if_pos hreq)

/-- ETH_FRAME_TRANSMIT of a Delay_Req holds its departure. -/
theorem exec_ethFrameTransmit_delayReq (s : State) (p : Fin 4) (q : EthTx) (hup : s.dev.portUp p.val = true)
    (hlink : (s.dev.ethPort p.val).link = true) (hqueue : (s.dev.ethPort p.val).queue = [q]) (hreq : q.isDelayReq) :
    ∃ t, exec (.ethFrameTransmit p) s = .next t ∧ (t.dev.ethPort p.val).reqOut.isSome = true := by
  have hexec : exec (.ethFrameTransmit p) s = .next { s with dev := s.dev.portSend p.val } := rfl
  rw [s.dev.portSend_own _ q hup hlink hqueue] at hexec
  exact ⟨_, hexec, s.dev.depart_delayReq p q hreq⟩

/-- A Delay_Req: no addresses, the EtherType 0x88F7, messageType 1. -/
def delayReqFrame : EthTx := { kind := 1, bytes := List.replicate 12 0 ++ [0x88, 0xF7, 1] ++ List.replicate 43 0 }

theorem delayReqFrame_isDelayReq : delayReqFrame.isDelayReq := by unfold EthTx.isDelayReq; decide

/-- A device whose port 0 works, with its link up and a Delay_Req to send. -/
@[irreducible] def delayReqWaits : State :=
  { dev := ((({ cfg := { ports := Vector.replicate 4 [1] } } : Dev).updDom 0x600 (fun x => { x with st := .run })).updEth 0
      (fun e => { e with link := true, queue := [delayReqFrame] })) }

/-- The port meets what the statement asks of one with a frame of its own; it holds no departure yet. -/
theorem delayReqWaits_sends : delayReqWaits.dev.portUp 0 = true ∧ (delayReqWaits.dev.ethPort 0).link = true
    ∧ (delayReqWaits.dev.ethPort 0).queue = [delayReqFrame] ∧ (delayReqWaits.dev.ethPort 0).reqOut = none := by
  decide +kernel

/-- Refutes O46: its clause for ETH_FRAME_TRANSMIT changes the queue and the frame sent last alone, but a Delay_Req that leaves
has its departure held for its response (R42). -/
theorem not_portFramesAndRings : ¬ Obligations.PortFramesAndRings := by
  unfold Obligations.PortFramesAndRings
  rintro ⟨-, hRows⟩
  obtain ⟨hup, hlink, hqueue, hnone⟩ := delayReqWaits_sends
  obtain ⟨hOwn, -⟩ := hRows delayReqWaits 0
  obtain ⟨t, ht, hheld⟩ := exec_ethFrameTransmit_delayReq delayReqWaits 0 _ hup hlink hqueue delayReqFrame_isDelayReq
  obtain rfl := Host.Outcome.next.inj ((hOwn _ hup hlink hqueue).symm.trans ht)
  have hport := congrArg EthPort.reqOut (delayReqWaits.dev.ethPort_updEth 0 (fun e => { e with queue := [], sent := delayReqFrame.bytes }))
  exact Bool.false_ne_true ((congrArg Option.isSome (hport.trans hnone)).symm.trans hheld)

end Sys2Proof.Machine
end

section
/-! SUPPORT. NI 244 settled after an event of the PCIe port (15_ethernet_and_host_port.md, R386, R387, R389, Table 15.8). -/

namespace Sys2Proof.Machine
open Sys2Proof

/-! ### NI 244 -/

theorem Dev.ni244_eq_niRec (d : Dev) : d.ni244 = ((d.niRec 244).shell == .open_) := rfl

/-- Settling changes when the port closed, whether the host is lost, and Ringroad; nothing else. -/
theorem Dev.settleHost_eq (d : Dev) : ∃ lost at_ ring,
    d.settleHost = { d with host := { d.host with lost := lost, closedAt := at_ }, ring := ring } := by
  unfold Dev.settleHost
  split_ifs
  all_goals exact ⟨_, _, _, rfl⟩

/-- Once settled, NI 244 is open exactly where the port may be (R386). -/
@[simp] theorem Dev.settleHost_ni244 (d : Dev) : d.settleHost.ni244 = d.hostOpen := by
  unfold Dev.settleHost
  split
  · next hopen =>
    split
    · next hni => rw [hni, hopen]
    · rw [Dev.ni244_eq_niRec, Dev.niRec_updNi_same, hopen]
      rfl
  · next hshut =>
    rw [Bool.not_eq_true] at hshut
    split
    · rw [Dev.ni244_eq_niRec, Dev.niRec_updNi_same, hshut]
      rfl
    · next hni => rw [Bool.eq_false_of_not_eq_true hni, hshut]

section
variable (d : Dev)

@[simp] theorem Dev.settleHost_mem : d.settleHost.mem = d.mem := by obtain ⟨_, _, _, h⟩ := d.settleHost_eq; rw [h]
@[simp] theorem Dev.settleHost_start : d.settleHost.start = d.start := by obtain ⟨_, _, _, h⟩ := d.settleHost_eq; rw [h]
@[simp] theorem Dev.settleHost_chiop : d.settleHost.chiop = d.chiop := by obtain ⟨_, _, _, h⟩ := d.settleHost_eq; rw [h]
@[simp] theorem Dev.settleHost_linkUp : d.settleHost.host.linkUp = d.host.linkUp := by obtain ⟨_, _, _, h⟩ := d.settleHost_eq; rw [h]
@[simp] theorem Dev.settleHost_flr : d.settleHost.host.flr = d.host.flr := by obtain ⟨_, _, _, h⟩ := d.settleHost_eq; rw [h]
@[simp] theorem Dev.settleHost_d3hot : d.settleHost.host.d3hot = d.host.d3hot := by obtain ⟨_, _, _, h⟩ := d.settleHost_eq; rw [h]
@[simp] theorem Dev.settleHost_busMaster : d.settleHost.host.busMaster = d.host.busMaster := by obtain ⟨_, _, _, h⟩ := d.settleHost_eq; rw [h]
@[simp] theorem Dev.settleHost_enable : d.settleHost.host.enable = d.host.enable := by obtain ⟨_, _, _, h⟩ := d.settleHost_eq; rw [h]
@[simp] theorem Dev.settleHost_cmdBase : d.settleHost.host.cmdBase = d.host.cmdBase := by obtain ⟨_, _, _, h⟩ := d.settleHost_eq; rw [h]
@[simp] theorem Dev.settleHost_hbcount : d.settleHost.host.hbcount = d.host.hbcount := by obtain ⟨_, _, _, h⟩ := d.settleHost_eq; rw [h]

/-- What NI 244 depends on is settled already. -/
@[simp] theorem Dev.settleHost_hostOpen : d.settleHost.hostOpen = d.hostOpen := by
  obtain ⟨_, _, _, h⟩ := d.settleHost_eq
  rw [h]
  rfl

/-- Without bus mastering the port is shut. -/
theorem Dev.hostOpen_noMaster (h : d.host.busMaster = false) : d.hostOpen = false := by simp [Dev.hostOpen, h]

/-- In D3hot the port is shut. -/
theorem Dev.hostOpen_d3hot (h : d.host.d3hot = true) : d.hostOpen = false := by simp [Dev.hostOpen, h]

/-- With nothing waiting for the event ring its return writes nothing. -/
theorem Dev.hostBack_nothing (hbacklog : d.chiop.backlog = []) (hlost : d.chiop.lostNow = 0) : d.hostBack = d := by
  unfold Dev.hostBack Dev.eventSpace
  simp [hbacklog, hlost, Dev.drainEvents]

/-! ### Resets of the port (Table 15.8) -/

/-- What a reset of the PCIe port leaves: rings and bus mastering off, NI 244 closed; the link as it was. -/
structure Dev.PortReset (a b : Dev) : Prop where
  linkUp : b.host.linkUp = a.host.linkUp
  flr : b.host.flr = a.host.flr
  enable : b.host.enable = false
  busMaster : b.host.busMaster = false
  ni244 : b.ni244 = false
  hbcount : b.host.hbcount = a.host.hbcount
  mem : b.mem = a.mem
  start : b.start = a.start

theorem Dev.pcieReset_settleHost : d.PortReset d.pcieReset.settleHost where
  linkUp := d.pcieReset.settleHost_linkUp
  flr := d.pcieReset.settleHost_flr
  enable := d.pcieReset.settleHost_enable
  busMaster := d.pcieReset.settleHost_busMaster
  ni244 := d.pcieReset.settleHost_ni244.trans (d.pcieReset.hostOpen_noMaster rfl)
  hbcount := d.pcieReset.settleHost_hbcount
  mem := d.pcieReset.settleHost_mem
  start := d.pcieReset.settleHost_start

/-- The device whose link is down, before its port is reset. -/
def Dev.unlinked : Dev := { d with host := { d.host with linkUp := false, flr := false } }

theorem Dev.linkLost_reset : d.unlinked.PortReset d.linkLost := d.unlinked.pcieReset_settleHost

/-- With no image being fetched a reset fails no source (R537). -/
theorem Dev.failHostFetch_none (h : d.start.step ≠ 6) : d.failHostFetch = d := by
  unfold Dev.failHostFetch
  simp [h]

end

/-! ### Rows over a link -/

/-- A row that does `f` over a link, and without one nothing. -/
def OverLink (c : Instr) (f : Dev → Dev) : Prop := ∀ s : State, exec c s = s.on (fun d => if d.host.linkUp then f d else d)

theorem OverLink.linked {c : Instr} {f : Dev → Dev} (hrow : OverLink c f) (s : State) (h : s.dev.host.linkUp = true) :
    exec c s = .next { s with dev := f s.dev } := by
  rw [hrow, State.on_eq, if_pos h]

theorem OverLink.unlinked {c : Instr} {f : Dev → Dev} (hrow : OverLink c f) (s : State) (h : s.dev.host.linkUp = false) :
    exec c s = .next s := by
  rw [hrow, State.on_eq, if_neg (by simp [h])]

theorem linkDown_overLink : OverLink .linkDown (fun d => d.linkLost.failHostFetch) := fun _ => rfl
theorem hotReset_overLink : OverLink .hotReset (fun d => d.linkLost.failHostFetch) := fun _ => rfl
theorem functionLevelReset_overLink : OverLink .functionLevelReset
    (fun d => (({ d with host := { d.host with flr := true } } : Dev).pcieReset.settleHost).failHostFetch) := fun _ => rfl
theorem d3hot_overLink : OverLink .d3hot (fun d => ({ d with host := { d.host with d3hot := true } } : Dev).settleHost) := fun _ => rfl
theorem d0Entry_overLink : OverLink .d0Entry (fun d => (({ d with host := { d.host with d3hot := false } } : Dev).settleHost).hostBack) :=
  fun _ => rfl
theorem busMasteringDisable_overLink : OverLink .busMasteringDisable
    (fun d => ({ d with host := { d.host with busMaster := false } } : Dev).settleHost) := fun _ => rfl
theorem busMasteringEnable_overLink : OverLink .busMasteringEnable
    (fun d => (({ d with host := { d.host with busMaster := true, flr := false } } : Dev).settleHost).hostBack) := fun _ => rfl

/-- PERST_N and the resets over a link, with no image being fetched (Table 15.8). -/
theorem portResets_clauses (s : State) (hstep : s.dev.start.step ≠ 6) :
    (∃ t, exec .perstN s = .next t ∧ t.dev.start.perstLow = true ∧ t.dev.host.linkUp = false ∧ t.dev.host.enable = false
        ∧ t.dev.host.busMaster = false ∧ t.dev.ni244 = false ∧ t.dev.host.hbcount = s.dev.host.hbcount ∧ t.dev.mem = s.dev.mem)
    ∧ (∀ c ∈ [Instr.linkDown, Instr.hotReset], s.dev.host.linkUp = true → ∃ t, exec c s = .next t ∧ t.dev.host.linkUp = false
        ∧ t.dev.host.enable = false ∧ t.dev.host.busMaster = false ∧ t.dev.ni244 = false ∧ t.dev.host.hbcount = s.dev.host.hbcount
        ∧ t.dev.mem = s.dev.mem ∧ t.dev.start = s.dev.start)
    ∧ (s.dev.host.linkUp = true → ∃ t, exec .functionLevelReset s = .next t ∧ t.dev.host.linkUp = true ∧ t.dev.host.flr = true
        ∧ t.dev.host.enable = false ∧ t.dev.host.busMaster = false ∧ t.dev.ni244 = false ∧ t.dev.host.hbcount = s.dev.host.hbcount
        ∧ t.dev.mem = s.dev.mem ∧ t.dev.start = s.dev.start) := by
  refine ⟨?_, fun c hc hlink => ?_, fun hlink => ?_⟩
  · have hreset := Dev.linkLost_reset { s.dev with start := { s.dev.start with perstLow := true } }
    refine ⟨_, rfl, ?_⟩
    dsimp only
    rw [Dev.failHostFetch_none _ (by rw [hreset.start]; exact hstep)]
    exact ⟨congrArg StartState.perstLow hreset.start, hreset.linkUp, hreset.enable, hreset.busMaster, hreset.ni244, hreset.hbcount, hreset.mem⟩
  · have hreset := s.dev.linkLost_reset
    have hrow : OverLink c (fun d => d.linkLost.failHostFetch) := by
      obtain rfl | hc := List.mem_cons.mp hc
      · exact linkDown_overLink
      · obtain rfl := List.mem_singleton.mp hc
        exact hotReset_overLink
    refine ⟨_, hrow.linked s hlink, ?_⟩
    dsimp only
    rw [Dev.failHostFetch_none _ (by rw [hreset.start]; exact hstep)]
    exact ⟨hreset.linkUp, hreset.enable, hreset.busMaster, hreset.ni244, hreset.hbcount, hreset.mem, hreset.start⟩
  · have hreset := Dev.pcieReset_settleHost { s.dev with host := { s.dev.host with flr := true } }
    refine ⟨_, functionLevelReset_overLink.linked s hlink, ?_⟩
    dsimp only
    rw [Dev.failHostFetch_none _ (by rw [hreset.start]; exact hstep)]
    exact ⟨hreset.linkUp.trans hlink, hreset.flr, hreset.enable, hreset.busMaster, hreset.ni244, hreset.hbcount, hreset.mem, hreset.start⟩

/-- Without a link no event that acts over one changes anything. -/
theorem exec_unlinked (s : State) (c : Instr) (hlink : s.dev.host.linkUp = false)
    (hc : c ∈ [Instr.linkDown, .hotReset, .functionLevelReset, .d3hot, .d0Entry, .busMasteringDisable, .busMasteringEnable]) :
    exec c s = .next s := by
  fin_cases hc
  · exact linkDown_overLink.unlinked s hlink
  · exact hotReset_overLink.unlinked s hlink
  · exact functionLevelReset_overLink.unlinked s hlink
  · exact d3hot_overLink.unlinked s hlink
  · exact d0Entry_overLink.unlinked s hlink
  · exact busMasteringDisable_overLink.unlinked s hlink
  · exact busMasteringEnable_overLink.unlinked s hlink

/-! ### Power states and bus mastering -/

/-- D3HOT and BUS_MASTERING_DISABLE close NI 244; D0_ENTRY and BUS_MASTERING_ENABLE let it be as the port may be. -/
theorem portStates_clauses (s : State) (hlink : s.dev.host.linkUp = true) :
    (∃ t, exec .d3hot s = .next t ∧ t.dev.host.d3hot = true ∧ t.dev.ni244 = false ∧ t.dev.host.enable = s.dev.host.enable
        ∧ t.dev.host.cmdBase = s.dev.host.cmdBase)
    ∧ (∃ t, exec .busMasteringDisable s = .next t ∧ t.dev.host.busMaster = false ∧ t.dev.ni244 = false
        ∧ t.dev.host.enable = s.dev.host.enable ∧ t.dev.host.cmdBase = s.dev.host.cmdBase)
    ∧ (s.dev.chiop.backlog = [] → s.dev.chiop.lostNow = 0 →
      (∃ t, exec .d0Entry s = .next t ∧ t.dev.host.d3hot = false ∧ t.dev.ni244 = t.dev.hostOpen)
      ∧ (∃ t, exec .busMasteringEnable s = .next t ∧ t.dev.host.busMaster = true ∧ t.dev.host.flr = false
          ∧ t.dev.ni244 = t.dev.hostOpen)) := by
  refine ⟨⟨_, d3hot_overLink.linked s hlink, ?_⟩, ⟨_, busMasteringDisable_overLink.linked s hlink, ?_⟩,
    fun hbacklog hlost => ⟨⟨_, d0Entry_overLink.linked s hlink, ?_⟩, ⟨_, busMasteringEnable_overLink.linked s hlink, ?_⟩⟩⟩
  · simp [Dev.hostOpen_d3hot]
  · simp [Dev.hostOpen_noMaster]
  · simp [Dev.hostBack_nothing, hbacklog, hlost]
  · simp [Dev.hostBack_nothing, hbacklog, hlost]

/-! ### PCIE_LINK_UP -/

/-- Training is complete at a powered port out of reset whose domain runs (R386, R431). -/
theorem exec_pcieLinkUp_runs (s : State) (hup : s.dev.up = true) (hperst : s.dev.start.perstLow = false) (hmode : s.dev.mode.mode ≠ 9)
    (hrun : (s.dev.dom 0x800).st = .run) (hpads : (s.dev.dom 0x800).padLatch = false) :
    exec .pcieLinkUp s = .next { s with dev := ({ s.dev with host := { s.dev.host with linkUp := true } } : Dev).settleHost } := by
  change execPcieLinkUp s = _
  rw [execPcieLinkUp, State.on_eq]
  simp [hup, hperst, hmode, hrun, hpads]

/-- No link comes up without power, under PERST_N or in M9. -/
theorem exec_pcieLinkUp_held (s : State) (h : s.dev.up = false ∨ s.dev.start.perstLow = true ∨ s.dev.mode.mode = 9) :
    exec .pcieLinkUp s = .next s := by
  change execPcieLinkUp s = _
  rw [execPcieLinkUp, State.on_eq]
  rcases h with h | h | h
  all_goals simp [h]

end Sys2Proof.Machine
end

section
/-! SUPPORT. The heartbeat and the loss of the host (15_ethernet_and_host_port.md, R388, R389; 22_host_registers.md, R533). -/

namespace Sys2Proof.Machine
open Sys2Proof

/-! ### What telling of something leaves -/

theorem Dev.Told.mode {a b : Dev} (h : a.Told b) : b.mode = a.mode := by obtain ⟨_, _, _, _, _, rfl⟩ := h; rfl

/-- What telling of something leaves of the heartbeat, the judgement on the host and the stage. -/
structure Dev.HostKept (a b : Dev) : Prop where
  hbcount : b.host.hbcount = a.host.hbcount
  hbAt : b.host.hbAt = a.host.hbAt
  lost : b.host.lost = a.host.lost
  stage : b.chiop.stage = a.chiop.stage
  owner : b.chiop.owner = a.chiop.owner

theorem Dev.HostKept.trans {a b c : Dev} (h1 : a.HostKept b) (h2 : b.HostKept c) : a.HostKept c :=
  ⟨h2.hbcount.trans h1.hbcount, h2.hbAt.trans h1.hbAt, h2.lost.trans h1.lost, h2.stage.trans h1.stage, h2.owner.trans h1.owner⟩

section
variable (d : Dev)

theorem Dev.alertSince_hostKept (before : Dev) : d.HostKept (d.alertSince before) := by
  unfold Dev.alertSince
  split_ifs
  all_goals exact ⟨rfl, rfl, rfl, rfl, rfl⟩

theorem Dev.raiseAlert_hostKept (bit : Nat) : d.HostKept (d.raiseAlert bit) := by
  unfold Dev.raiseAlert
  extract_lets host edge
  have hedge : d.HostKept edge := ⟨rfl, rfl, rfl, rfl, rfl⟩
  exact hedge.trans (edge.alertSince_hostKept d)

theorem Dev.raiseAlert_chiop (bit : Nat) : (d.raiseAlert bit).chiop = d.chiop := by
  obtain ⟨_, h⟩ := d.raiseAlert_eq bit
  rw [h]

/-- An event takes the next number of the event sequence (R410). -/
theorem Dev.post_spec (kind : Nat) (payload : List Byte) :
    d.HostKept (d.post kind payload) ∧ (d.post kind payload).chiop.evSeq = d.chiop.evSeq + 1 := by
  unfold Dev.post
  extract_lets e numbered copied counts dropped
  split
  · exact ⟨⟨rfl, rfl, rfl, rfl, rfl⟩, rfl⟩
  · split
    · exact ⟨⟨rfl, rfl, rfl, rfl, rfl⟩, rfl⟩
    · split
      · exact ⟨⟨rfl, rfl, rfl, rfl, rfl⟩, rfl⟩
      · refine ⟨.trans ?_ (Dev.raiseAlert_hostKept _ 10), congrArg ChiopState.evSeq (Dev.raiseAlert_chiop _ 10)⟩
        exact ⟨rfl, rfl, rfl, rfl, rfl⟩

theorem Dev.post_hostKept (kind : Nat) (payload : List Byte) : d.HostKept (d.post kind payload) := (d.post_spec kind payload).1

theorem Dev.logAdd_hostKept (type : Nat) (mirror : Bool) (p : List Byte) : d.HostKept (d.logAdd type mirror p) := by
  unfold Dev.logAdd
  exact ⟨rfl, rfl, rfl, rfl, rfl⟩

theorem Dev.healthEvent_hostKept (i : HealthInfo) : d.HostKept (d.healthEvent i) := by
  unfold Dev.healthEvent
  extract_lets p logged health posted health'
  have hposted : d.HostKept (d.post 0xF003 p) := d.post_hostKept 0xF003 p
  split
  · have hlogged : d.HostKept logged := hposted.trans (Dev.logAdd_hostKept _ _ _ _)
    split
    · exact hlogged.trans (logged.raiseAlert_hostKept 12)
    · exact hlogged
  · split
    · exact ⟨rfl, rfl, rfl, rfl, rfl⟩
    · exact hposted.trans ⟨rfl, rfl, rfl, rfl, rfl⟩

/-- The stage of an owner is discarded; an event tells of it (R403). -/
theorem Dev.dropStage_owned (o : Nat) (howner : d.chiop.owner = some o) :
    d.Told d.dropStage ∧ d.dropStage.host.lost = d.host.lost ∧ d.dropStage.chiop.stage = [] ∧ d.dropStage.chiop.owner = none := by
  unfold Dev.dropStage
  rw [howner]
  dsimp only
  have hkept := Dev.post_hostKept { d with chiop := { d.chiop with stage := [], owner := none } } 0xF00C
    (bytesOf 1 o ++ bytesOf 2 d.chiop.stage.length)
  exact ⟨Dev.Told.trans ⟨_, _, _, _, _, rfl⟩ (Dev.post_told _ _ _), hkept.lost, hkept.stage, hkept.owner⟩

/-! ### HEARTBEAT -/

/-- The device whose heartbeat has just been counted (R533). -/
def Dev.beatCounted : Dev := { d with host := { d.host with hbcount := d.host.hbcount + 1, hbAt := d.time.air } }

/-- The device once its heartbeat is sent: on the ring, or with NI 244 closed to the peers alone (R388). -/
def Dev.beatSent : Dev :=
  if d.ni244 then d.post 0xF001 d.beat
  else ({ d with chiop := { d.chiop with evSeq := d.chiop.evSeq + 1 } } : Dev).toPeers 4
    (⟨0xF001, d.chiop.evSeq, d.chiop.epoch, padTo 48 d.beat⟩ : EventRec).bytes

/-- A heartbeat takes one number of the event sequence either way (R533). -/
theorem Dev.beatSent_spec : d.Told d.beatSent ∧ d.HostKept d.beatSent ∧ d.beatSent.chiop.evSeq = d.chiop.evSeq + 1 := by
  unfold Dev.beatSent
  split
  · exact ⟨d.post_told _ _, d.post_spec _ _⟩
  · exact ⟨⟨_, _, _, _, _, rfl⟩, ⟨rfl, rfl, rfl, rfl, rfl⟩, rfl⟩

end

theorem exec_heartbeat_due (s : State) (hup : s.dev.up = true) (hserves : s.dev.serves = true)
    (hdue : airPast s.dev.time.air ((s.dev.host.hbAt + 19660800) % airWrap) = true) :
    exec .heartbeat s = .next { s with dev := s.dev.beatCounted.beatSent } := by
  change execHeartbeat s = _
  rw [execHeartbeat, State.onAlive_eq, if_pos (show s.dev.alive = true from hup), s.dev.after_past _ _ hdue]
  simp only [hserves, Bool.not_true, Bool.false_eq_true, if_false]
  rfl

/-- Without power, and while Chiop does not serve, there is no heartbeat. -/
theorem exec_heartbeat_silent (s : State) (h : s.dev.up = false ∨ s.dev.serves = false) : exec .heartbeat s = .next s := by
  change execHeartbeat s = _
  rw [execHeartbeat, State.onAlive_eq]
  rcases h with h | h
  all_goals simp [Dev.alive, h]

/-! ### HOST_LOSS -/

/-- The device that has noted the loss of its host (R389). -/
def Dev.lossNoted (d : Dev) : Dev := { d with host := { d.host with lost := true }, mode := { d.mode with hostLoss := true } }

/-- The device that has judged its host lost, with the stage of the host gone (R389, R403). -/
def Dev.hostJudgedLost (d : Dev) : Dev :=
  let told := d.lossNoted.healthEvent { hkind := 0x0047 }
  if told.chiop.owner = some 0 then told.dropStage else told

theorem Dev.hostJudgedLost_spec (d : Dev) : d.hostJudgedLost.host.lost = true ∧ d.hostJudgedLost.mode = { d.mode with hostLoss := true }
    ∧ (d.chiop.owner = some 0 → d.hostJudgedLost.chiop.stage = [] ∧ d.hostJudgedLost.chiop.owner = none)
    ∧ (d.chiop.owner ≠ some 0 → d.hostJudgedLost.chiop.stage = d.chiop.stage ∧ d.hostJudgedLost.chiop.owner = d.chiop.owner) := by
  unfold Dev.hostJudgedLost
  extract_lets told
  have htold : d.lossNoted.Told told := d.lossNoted.healthEvent_told _
  have hkept : d.lossNoted.HostKept told := d.lossNoted.healthEvent_hostKept _
  have howner : told.chiop.owner = d.chiop.owner := hkept.owner
  split
  · next hhost =>
    obtain ⟨hdropped, hlost, hgone⟩ := told.dropStage_owned 0 hhost
    exact ⟨hlost.trans hkept.lost, hdropped.mode.trans htold.mode, fun _ => hgone, fun hnot => absurd (howner.symm.trans hhost) hnot⟩
  · next hother =>
    exact ⟨hkept.lost, htold.mode, fun hhost => absurd (howner.trans hhost) hother, fun _ => ⟨hkept.stage, howner⟩⟩

theorem exec_hostLoss_due (s : State) (hup : s.dev.up = true) (hms : s.dev.host.hostlossMs ≠ 0) (hni : s.dev.ni244 = false)
    (hlost : s.dev.host.lost = false)
    (hdue : airPast s.dev.time.air ((s.dev.host.closedAt + s.dev.host.hostlossMs * 1966080) % airWrap) = true) :
    exec .hostLoss s = .next { s with dev := s.dev.hostJudgedLost } := by
  change execHostLoss s = _
  rw [execHostLoss, State.onAlive_eq, if_pos (show s.dev.alive = true from hup), s.dev.after_past _ _ hdue,
    if_neg (by simp [hms, hni, hlost])]
  rfl

/-- Without power or HOSTLOSS_MS, with NI 244 open or the host lost already, nothing is judged. -/
theorem exec_hostLoss_none (s : State) (h : s.dev.up = false ∨ s.dev.host.hostlossMs = 0 ∨ s.dev.ni244 = true ∨ s.dev.host.lost = true) :
    exec .hostLoss s = .next s := by
  change execHostLoss s = _
  rw [execHostLoss, State.onAlive_eq]
  rcases h with h | h | h | h
  all_goals simp [Dev.alive, h]

end Sys2Proof.Machine
end

section
/-! SUPPORT. The BAR2 window (15_ethernet_and_host_port.md, R381; 22_host_registers.md, R538). -/

namespace Sys2Proof.Machine
open Sys2Proof

/-! ### The window -/

theorem regionOf_hbm {a : Nat} (hlo : 0x800000000 ≤ a) (hhi : a < 0x1000000000) :
    ∃ r, regionOf a = some r ∧ r.kind = .hbm := by
  unfold regionOf
  rw [if_neg (by omega), if_neg (by omega), if_neg (by omega), if_neg (by omega), if_neg (by omega), if_pos ⟨hlo, hhi⟩]
  exact ⟨_, rfl, rfl⟩

/-- The bytes of a valid window lie in the stacks (R538). -/
theorem Dev.windowValid_hbm (d : Dev) (off : BitVec 26) (h : d.windowValid = true) :
    ∃ r, regionOf (d.host.winbase.toNat + off.toNat) = some r ∧ r.kind = .hbm := by
  unfold Dev.windowValid windowSize at h
  simp only [Bool.and_eq_true, decide_eq_true_eq] at h
  obtain ⟨⟨-, hbase⟩, hend⟩ := h
  have hlast : d.hbmEnd ≤ 0x1000000000 := by
    unfold Dev.hbmEnd
    split_ifs
    all_goals decide
  have hoff : off.toNat < 0x4000000 := off.isLt
  exact regionOf_hbm (by omega) (by omega)

/-- No core's program memory lies in the stacks. -/
theorem Dev.progBusy_hbm (d : Dev) {a : Nat} {r : Region} (hr : regionOf a = some r) (hkind : r.kind = .hbm) : d.progBusy a = false := by
  unfold Dev.progBusy
  simp [hr, hkind]

/-- A write to the stacks that is delivered and meets no error stores its bytes. -/
theorem Dev.netWrite_hbm (d : Dev) {src rights a : Nat} {bs : List Byte} {r : Region} (hr : regionOf a = some r) (hkind : r.kind = .hbm)
    (hreach : d.reach src rights a bs.length = 0) :
    (d.netWrite src rights a bs .none).2 = { d with mem := d.mem.ifWrite a bs } := by
  unfold Dev.netWrite
  simp [hreach, d.progBusy_hbm hr hkind]

/-! ### BAR2_ACCESS -/

section
variable (s : State) (off : BitVec 26) (n : Half) (bs : List Byte)

/-- While BAR2 does not answer an access does nothing. -/
theorem exec_bar2Access_down (w : Bool) (e : EccHit) (h : s.dev.barUp = false) : exec (.bar2Access w off n bs e) s = .next s := by
  change execBar2Access w off n bs e s = _
  rw [execBar2Access, State.on_eq, if_pos (by simp [h])]

variable (hup : s.dev.barUp = true)
include hup

/-- A write outside a valid window is dropped. -/
theorem exec_bar2Access_writeInvalid (e : EccHit) (h : s.dev.windowValid = false) : exec (.bar2Access true off n bs e) s = .next s := by
  change execBar2Access true off n bs e s = _
  rw [execBar2Access, State.on_eq, if_neg (by simp [hup])]
  simp [h]

/-- A read outside one has no completion data. -/
theorem exec_bar2Access_readInvalid (e : EccHit) (h : s.dev.windowValid = false) :
    exec (.bar2Access false off n bs e) s = .next { s with dev := { s.dev with host := { s.dev.host with barRead := none } } } := by
  change execBar2Access false off n bs e s = _
  rw [execBar2Access, State.on_eq, if_neg (by simp [hup])]
  simp [h]

variable (hvalid : s.dev.windowValid = true) (htests : s.dev.health.testQueue = [])
include hvalid htests

/-- A write inside the window goes to the device bytes at WINBASE. -/
theorem exec_bar2Access_write (hin : off.toNat + bs.length ≤ windowSize)
    (hreach : s.dev.reach 244 244 (s.dev.host.winbase.toNat + off.toNat) bs.length = 0) :
    exec (.bar2Access true off n bs .none) s
      = .next { s with dev := { s.dev with mem := s.dev.mem.ifWrite (s.dev.host.winbase.toNat + off.toNat) bs } } := by
  obtain ⟨r, hr, hkind⟩ := s.dev.windowValid_hbm off hvalid
  change execBar2Access true off n bs .none s = _
  rw [execBar2Access, State.on_eq, if_neg (by simp [hup])]
  simp only [if_true, hvalid, hin, decide_true, Bool.not_true, Bool.or_self, Bool.false_eq_true, if_false]
  rw [s.dev.netWrite_hbm hr hkind hreach, Dev.startTests_none]
  exact htests

/-- A read inside it completes with the device bytes at WINBASE. -/
theorem exec_bar2Access_read (hin : off.toNat + n.toNat ≤ windowSize)
    (hreach : s.dev.reach 244 244 (s.dev.host.winbase.toNat + off.toNat) n.toNat = 0)
    (hgood : s.dev.mem.poisoned (s.dev.host.winbase.toNat + off.toNat) n.toNat = false) :
    exec (.bar2Access false off n bs .none) s = .next { s with dev := { s.dev with host :=
      { s.dev.host with barRead := some (s.dev.mem.ifBytes (s.dev.host.winbase.toNat + off.toNat) n.toNat) } } } := by
  change execBar2Access false off n bs .none s = _
  rw [execBar2Access, State.on_eq, if_neg (by simp [hup])]
  simp only [Bool.false_eq_true, if_false, hvalid, hin, decide_true, Bool.not_true, Bool.or_self, s.dev.netRead_delivered hreach hgood, if_true]
  rw [Dev.startTests_none]
  exact htests

end

/-! ### The statement -/

/-- Settles O49: a reset shuts the port and settles NI 244, every other event of a link settles it; the heartbeat, the judgement on
the host and the window by what their rows do. -/
theorem pciePortAndHostLoss : Obligations.PciePortAndHostLoss := by
  unfold Obligations.PciePortAndHostLoss
  refine ⟨portResets_clauses,
    fun s => ⟨fun hlink c hc => exec_unlinked s c hlink hc, portStates_clauses s, rfl, fun hup hperst hmode hrun hpads => ?_,
      exec_pcieLinkUp_held s⟩,
    fun s => ⟨exec_heartbeat_silent s, fun hup hserves hdue => ?_, exec_hostLoss_none s, fun hup hms hni hlost hdue => ?_⟩,
    fun s off n bs => ⟨fun hdown w e => exec_bar2Access_down s off n bs w e hdown,
      fun hup hinvalid e => ⟨exec_bar2Access_writeInvalid s off n bs hup e hinvalid, exec_bar2Access_readInvalid s off n bs hup e hinvalid⟩,
      fun hup hvalid htests => ⟨exec_bar2Access_write s off n bs hup hvalid htests, exec_bar2Access_read s off n bs hup hvalid htests⟩⟩⟩
  · refine ⟨_, exec_pcieLinkUp_runs s hup hperst hmode hrun hpads, ?_⟩
    simp
  · obtain ⟨htold, hkept, hseq⟩ := s.dev.beatCounted.beatSent_spec
    exact ⟨_, exec_heartbeat_due s hup hserves hdue, hkept.hbcount, hkept.hbAt, hseq, htold.cfg⟩
  · exact ⟨_, exec_hostLoss_due s hup hms hni hlost hdue, s.dev.hostJudgedLost_spec⟩

end Sys2Proof.Machine
end

section
/-! SUPPORT. The queue: a step runs the command at its front, and every command completes and leaves the queue behind it alone
(16_chiop_commands.md, R392; 09_almanac_scheduler.md, R222). -/

namespace Sys2Proof.Machine
open Sys2Proof

/-- Settles O57: what a step does with the command at the front of the queue, and on an empty one. -/
theorem stepRunsTheFrontCommand : Obligations.StepRunsTheFrontCommand := by
  unfold Obligations.StepRunsTheFrontCommand
  refine ⟨step_cons, fun s hempty => ⟨step_nil s hempty, fun hquiet => ?_⟩⟩
  rw [step_nil s hempty, s.idle_quiet hquiet]

/-- An outcome is a next state with the queue of `s` as it was. -/
def State.QueueKept (s : State) (o : Host.Outcome State Fault Refusal) : Prop := ∃ t, o = .next t ∧ t.pending = s.pending

/-- Every row is the next state of a function of the device; which function, NOP has by its slot and ECPRI_DELAY_MEASUREMENT by the
place of the message. -/
theorem exec_queueKept (c : Instr) (s : State) : s.QueueKept (exec c s) := by
  cases c
  case nop k i slot => cases slot <;> exact ⟨_, rfl, rfl⟩
  case ecpriDelayMeasurement w => cases w <;> exact ⟨_, rfl, rfl⟩
  all_goals exact ⟨_, rfl, rfl⟩

/-- Settles O58: a row is a function of the device, and a step is the row at the front on the rest of the queue. -/
theorem everyStepCompletesAndTakesOneCommand : Obligations.EveryStepCompletesAndTakesOneCommand := by
  unfold Obligations.EveryStepCompletesAndTakesOneCommand
  refine ⟨exec_queueKept, fun s c rest hfront => ?_⟩
  rw [step_cons s c rest hfront]
  exact exec_queueKept c { s with pending := rest }

end Sys2Proof.Machine
end

section
/-! SUPPORT. Commands that the host's rings hold next and that a mode accepts: what an answer to one leaves, and the staged commands
(16_chiop_commands.md, R392 to R404). -/

namespace Sys2Proof.Machine
open Sys2Proof

/-! ### A command that is read -/

/-- What a reply to the host still needs of a device, kept: the rings, the memory and Chiop's channels. -/
structure Dev.RingsKept (a b : Dev) : Prop where
  mem : b.mem = a.mem
  enable : b.host.enable = a.host.enable
  ni244 : b.ni244 = a.ni244
  rplBase : b.host.rplBase = a.host.rplBase
  cmdHead : b.host.cmdHead = a.host.cmdHead
  gen : b.chiop.gen = a.chiop.gen
  chan : b.chiop.chan = a.chiop.chan

theorem Dev.RingsKept.refl (d : Dev) : d.RingsKept d := ⟨rfl, rfl, rfl, rfl, rfl, rfl, rfl⟩

/-- A channel's record after a change of it. -/
theorem Dev.updChan_chan (d : Dev) (c : Nat) (f : Channel → Channel) (hc : c < 17) : (d.updChan c f).chan c = f (d.chan c) := by
  unfold Dev.updChan Dev.chan
  rw [List.getD_eq_getElem _ _ (by simpa using hc), List.getD_eq_getElem _ _ (by simpa using hc)]
  simp

/-- Chiop's channels once a command of the host is read: its sequence is the highest accepted (R398). -/
def Dev.chansRead (d : Dev) (h : Sys2Proof.ChiopHdr) : Vector Channel 17 :=
  (d.updChan 0 (fun c => { c with h := some h.seq, opened := true })).chiop.chan

section
variable {d : Dev} {op need : Nat} {h : Sys2Proof.ChiopHdr} (htakes : d.takes op need h)
include htakes

/-- The host's command is taken from its slot: only the head and the channel's sequence move (R392, R398). -/
theorem Dev.taken_eq : d.taken h = { d with
    host := { d.host with cmdHead := d.host.cmdHead + 1 }
    chiop := { d.chiop with chan := d.chansRead h } } := by
  obtain ⟨-, hchan, -⟩ := htakes
  simp only [Dev.taken, takeCmd, hchan, Fin.val_zero, if_true, Dev.updChan, Dev.chansRead]

theorem Dev.taken_chan : (d.taken h).chan 0 = { d.chan 0 with h := some h.seq, opened := true } := by
  obtain ⟨-, hchan, -⟩ := htakes
  rw [Dev.taken, Dev.updChan_chan _ _ _ (by decide)]
  simp only [takeCmd, hchan, Fin.val_zero, if_true, Dev.chan]

theorem Dev.taken_epoch : (d.taken h).chiop.epoch = d.chiop.epoch := by rw [Dev.taken_eq htakes]

/-- The host's rings are open to a reply (R392, R393). -/
theorem Dev.taken_open : (d.taken h).host.enable = true ∧ (d.taken h).ni244 = true := by
  have htaken := Dev.taken_eq htakes
  obtain ⟨hread, hchan, -⟩ := htakes
  simp only [canRead, hchan, Fin.val_zero, if_true, Bool.and_eq_true] at hread
  obtain ⟨-, ⟨henable, hni⟩, -⟩ := hread
  rw [Dev.ni244] at hni
  rw [htaken, Dev.ni244]
  exact ⟨henable, hni⟩

/-- Where the mode accepts it, a new command is answered as its body has it (R392 to R401). -/
theorem chiopRun_takes {modeOk : Dev → Bool} (hmode : modeOk (d.taken h) = true) (holds : Bool) (body : Dev → List Byte → Ans) (p : List Byte) :
    chiopRun op modeOk need holds body h p d
      = finishNew (d.taken h) op h d.host.cmdHead.toNat (contentCrc op h p) (body (d.taken h) (paramsOf h p)) := by
  have htaken := Dev.taken_chan htakes
  obtain ⟨hread, hchan, hheader, hnew, hiparam, hireply, hneed, hheld⟩ := htakes
  have hcount : paramCount h = h.plen.toNat := by simp [paramCount, hiparam, hireply]
  have hcheck : preCheck (d.taken h) op true need holds h p = none := by
    have hheld' : ((d.taken h).chan 0).held.length < 64 := by
      rw [htaken]
      exact hheld
    simp [preCheck, indirectError, refusedOnPeer, hiparam, hireply, hchan, hcount, Nat.not_lt.mpr hneed, Nat.not_le.mpr hheld']
  have hd0 : (takeCmd d h).chan 0 = d.chan 0 := by rw [takeCmd, hchan]; rfl
  unfold chiopRun
  simp only [hread, hheader, hchan, Fin.val_zero, hd0, hnew, Bool.not_true, Bool.false_eq_true, if_false, if_true]
  change (match preCheck (d.taken h) op (modeOk (d.taken h)) need holds h p with
    | some e => finishNew (d.taken h) op h _ _ (.err e)
    | none => finishNew (d.taken h) op h _ _ (body (d.taken h) (paramsOf h p))) = _
  rw [hmode, hcheck]

end

/-! ### The reply -/

/-- The device that has retained a result of the host's channel and written the reply into its slot (R393, R398). -/
def Dev.hostReplied (d : Dev) (slot : Nat) (x : Result) (r : Reply) : Dev :=
  { d with mem := d.mem.ifWrite (hostAddr (d.host.rplBase.toNat + 256 * slot)) r.bytes
           host := { d.host with msix := d.host.msix ||| (1 <<< 0) }
           chiop := { d.chiop with chan := (retain d 0 x).chiop.chan } }

theorem Dev.hostReplied_cmdHead (d : Dev) (slot : Nat) (x : Result) (r : Reply) : (d.hostReplied slot x r).host.cmdHead = d.host.cmdHead := by
  unfold Dev.hostReplied
  rfl

theorem Dev.hostReplied_mem (d : Dev) (slot : Nat) (x : Result) (r : Reply) :
    (d.hostReplied slot x r).mem = d.mem.ifWrite (hostAddr (d.host.rplBase.toNat + 256 * slot)) r.bytes := by
  rw [Dev.hostReplied]

theorem Dev.hostReplied_chan (d : Dev) (slot : Nat) (x : Result) (r : Reply) : (d.hostReplied slot x r).chan 0 = (retain d 0 x).chan 0 := by
  unfold Dev.hostReplied
  rfl

theorem retain_open (d : Dev) (x : Result) : (retain d 0 x).host = d.host ∧ (retain d 0 x).ni244 = d.ni244 ∧ (retain d 0 x).chiop.gen = d.chiop.gen := by
  unfold Dev.ni244 retain
  exact ⟨Dev.updChan_host .., by rw [Dev.updChan_ring], by rw [Dev.updChan]⟩

/-- A reply reaches its slot where the rings are those that the command came from (R393). -/
theorem Dev.retain_deliver (d : Dev) (slot gen : Nat) (x : Result) (r : Reply) (henable : d.host.enable = true) (hni : d.ni244 = true)
    (hgen : gen = d.chiop.gen) : (retain d 0 x).deliver 0 slot gen false r = d.hostReplied slot x r := by
  obtain ⟨hhost, hshell, hrings⟩ := retain_open d x
  rw [Dev.deliver, if_pos rfl, if_pos (by rw [hhost, hshell, hrings]; exact ⟨henable, hni, hgen⟩)]
  simp only [Dev.hostReplied, Dev.raiseVector, retain, Dev.updChan]

/-- The device once a result of the host's channel is retained without a reply and its command held (R399, R400). -/
def Dev.hostHolds (d : Dev) (x : Result) (y : Held) : Dev := (retain d 0 x).updChan 0 (fun c => { c with held := c.held ++ [y] })

theorem Dev.hostHolds_host (d : Dev) (x : Result) (y : Held) : (d.hostHolds x y).host = d.host := by
  unfold Dev.hostHolds retain
  rw [Dev.updChan_host, Dev.updChan_host]

theorem Dev.hostHolds_mem (d : Dev) (x : Result) (y : Held) : (d.hostHolds x y).mem = d.mem := by
  unfold Dev.hostHolds retain
  rw [Dev.updChan_mem, Dev.updChan_mem]

section
variable {d t : Dev} {op need : Nat} {h : Sys2Proof.ChiopHdr} (htakes : d.takes op need h) (p : List Byte)
include htakes

theorem Dev.RingsKept.chan_taken (hkept : (d.taken h).RingsKept t) : t.chan 0 = { d.chan 0 with h := some h.seq, opened := true } := by
  rw [← Dev.taken_chan htakes, Dev.chan, hkept.chan, Dev.chan]

theorem Dev.RingsKept.cmdHead_taken (hkept : (d.taken h).RingsKept t) : t.host.cmdHead = d.host.cmdHead + 1 := by
  rw [hkept.cmdHead, Dev.taken_eq htakes]

theorem Dev.RingsKept.mem_taken (hkept : (d.taken h).RingsKept t) : t.mem = d.mem := by
  rw [hkept.mem, Dev.taken_eq htakes]

theorem Dev.RingsKept.rplBase_taken (hkept : (d.taken h).RingsKept t) : t.host.rplBase = d.host.rplBase := by
  rw [hkept.rplBase, Dev.taken_eq htakes]

/-- A command of the host that is answered at once has its reply in its slot and its result kept. -/
theorem Dev.hostReplied_answered (hkept : (d.taken h).RingsKept t) (r : Reply) :
    d.answered (t.hostReplied d.host.cmdHead.toNat ⟨h.seq, contentCrc op h p, some r⟩ r) op h p r := by
  unfold Dev.answered
  rw [Dev.hostReplied_cmdHead, hkept.cmdHead_taken htakes, Dev.hostReplied_mem, hkept.mem_taken htakes, hkept.rplBase_taken htakes,
    Dev.hostReplied_chan, retain, Dev.updChan_chan _ _ _ (by decide), hkept.chan_taken htakes]
  exact ⟨rfl, rfl, rfl, rfl, rfl⟩

/-- A command of the host that is held has no reply. -/
theorem Dev.hostHolds_holding (hkept : (d.taken h).RingsKept t) (aux : List Byte) :
    d.holding (t.hostHolds ⟨h.seq, contentCrc op h p, none⟩ ⟨h.seq, op, d.host.cmdHead.toNat, d.chiop.gen, aux, none⟩) op h p aux := by
  unfold Dev.holding
  rw [Dev.hostHolds_host, hkept.cmdHead_taken htakes, Dev.hostHolds_mem, hkept.mem_taken htakes, Dev.hostHolds,
    Dev.updChan_chan _ _ _ (by decide), retain, Dev.updChan_chan _ _ _ (by decide), hkept.chan_taken htakes]
  exact ⟨rfl, rfl, rfl, rfl, rfl⟩

variable {modeOk : Dev → Bool} (hmode : modeOk (d.taken h) = true) (holds : Bool) {body : Dev → List Byte → Ans}
include hmode

/-- A command that its body carries out is answered OK with its data. -/
theorem chiopRun_ok {data : List Byte} (hbody : body (d.taken h) (paramsOf h p) = .ok t data) (hkept : (d.taken h).RingsKept t) :
    chiopRun op modeOk need holds body h p d = t.hostReplied d.host.cmdHead.toNat
      ⟨h.seq, contentCrc op h p, some (mkReply op h.seq d.chiop.epoch 0 data)⟩ (mkReply op h.seq d.chiop.epoch 0 data) := by
  obtain ⟨henable, hni⟩ := Dev.taken_open htakes
  have htaken := Dev.taken_eq htakes
  rw [chiopRun_takes htakes hmode, hbody]
  obtain ⟨-, hchan, -, -, -, hireply, -⟩ := htakes
  simp only [finishNew, placeData, hireply, hchan, Fin.val_zero, Bool.false_eq_true, if_false]
  rw [t.retain_deliver _ _ _ _ (hkept.enable.trans henable) (hkept.ni244.trans hni) hkept.gen.symm, htaken]

/-- A command that its body refuses is answered with that error, and nothing else comes of it. -/
theorem chiopRun_err {e : ChErr} (hbody : body (d.taken h) (paramsOf h p) = .err e) :
    chiopRun op modeOk need holds body h p d = (d.taken h).hostReplied d.host.cmdHead.toNat
      ⟨h.seq, contentCrc op h p, some (errReply d op h.seq e)⟩ (errReply d op h.seq e) := by
  obtain ⟨henable, hni⟩ := Dev.taken_open htakes
  have hepoch := Dev.taken_epoch htakes
  rw [chiopRun_takes htakes hmode, hbody]
  obtain ⟨-, hchan, -⟩ := htakes
  simp only [finishNew, hchan, Fin.val_zero]
  rw [Dev.retain_deliver _ _ _ _ _ henable hni rfl, errReply, errReply, hepoch]

/-- A command that its body holds waits without a reply. -/
theorem chiopRun_hold {aux : List Byte} (hbody : body (d.taken h) (paramsOf h p) = .hold t aux) :
    chiopRun op modeOk need holds body h p d
      = t.hostHolds ⟨h.seq, contentCrc op h p, none⟩ ⟨h.seq, op, d.host.cmdHead.toNat, d.chiop.gen, aux, none⟩ := by
  have htaken := Dev.taken_eq htakes
  rw [chiopRun_takes htakes hmode, hbody]
  obtain ⟨-, hchan, -, -, -, hireply, -⟩ := htakes
  simp only [finishNew, hireply, hchan, Fin.val_zero, Bool.false_eq_true, if_false, if_true, htaken, Dev.hostHolds]

end
end Sys2Proof.Machine
end

section
/-! SUPPORT. The staged commands of the host (16_chiop_commands.md, R398, R403, R404). -/

namespace Sys2Proof.Machine
open Sys2Proof

/-! ### The body of a staged command -/

/-- A command under GUARD whose EPOCH is below CONFIG_EPOCH (R404). -/
def Dev.stale (d : Dev) (h : Sys2Proof.ChiopHdr) : Bool := hGuard h && decide (2 ^ 31 ≤ (h.epoch - d.chiop.configEpoch).toNat)

theorem Dev.stale_of_guard {d : Dev} {h : Sys2Proof.ChiopHdr} (hguard : hGuard h = true)
    (hbelow : 2 ^ 31 ≤ (h.epoch - d.chiop.configEpoch).toNat) : d.stale h = true := by
  rw [Dev.stale, hguard, decide_eq_true hbelow, Bool.and_self]

theorem Dev.not_stale {d : Dev} {h : Sys2Proof.ChiopHdr} (hfresh : hGuard h = false ∨ (h.epoch - d.chiop.configEpoch).toNat < 2 ^ 31) :
    d.stale h = false := by
  rw [Dev.stale, Bool.and_eq_false_iff, decide_eq_false_iff_not, Nat.not_le]
  exact hfresh

/-- What a staged command does once it is read (R403, R404): GUARD, then the owner, then its own check. -/
def stagedBody (op : Nat) (check : Dev → List Byte → Option ChErr) (h : Sys2Proof.ChiopHdr) (d : Dev) (p : List Byte) : Ans :=
  if d.stale h then .err { status := stSuperseded, reason := 9 }
  else if d.chiop.owner.isSome && d.chiop.owner != some h.chan.val then .err errOwner
  else match check d p with
    | some e => .err e
    | none => .ok (stageAdd d h op p) []

section
variable (op : Nat) {check : Dev → List Byte → Option ChErr} {h : Sys2Proof.ChiopHdr} {d : Dev} {p : List Byte}

theorem stagedBody_stale (hstale : d.stale h = true) : stagedBody op check h d p = .err { status := stSuperseded, reason := 9 } := by
  rw [stagedBody, if_pos hstale]

variable (hfresh : d.stale h = false)
include hfresh

theorem stagedBody_owned {o : Nat} (howner : d.chiop.owner = some o) (hother : o ≠ h.chan.val) :
    stagedBody op check h d p = .err errOwner := by
  simp [stagedBody, hfresh, howner, hother]

variable (howner : d.chiop.owner = none ∨ d.chiop.owner = some h.chan.val)
include howner

theorem stagedBody_unchecked : stagedBody op check h d p = ((check d p).elim (.ok (stageAdd d h op p) []) .err) := by
  rcases howner with howner | howner
  all_goals
    simp only [stagedBody, hfresh, howner, Option.isSome_none, Option.isSome_some, bne_self_eq_false, Bool.and_false, Bool.false_and,
      Bool.false_eq_true, if_false]
    cases check d p <;> rfl

theorem stagedBody_passes (hcheck : check d p = none) : stagedBody op check h d p = .ok (stageAdd d h op p) [] := by
  rw [stagedBody_unchecked op hfresh howner, hcheck]
  rfl

theorem stagedBody_fails {e : ChErr} (hcheck : check d p = some e) : stagedBody op check h d p = .err e := by
  rw [stagedBody_unchecked op hfresh howner, hcheck]
  rfl

end

/-! ### The rows -/

/-- A mode that is listed accepts the command once it is taken. -/
theorem Dev.inModes_taken {d : Dev} {op need : Nat} {h : Sys2Proof.ChiopHdr} (htakes : d.takes op need h) {ms : List Nat}
    (hmode : d.mode.mode ∈ ms) : inModes ms (d.taken h) = true := by
  rw [Dev.taken_eq htakes]
  exact List.contains_iff_mem.mpr hmode

theorem stageAdd_ringsKept (d : Dev) (h : Sys2Proof.ChiopHdr) (op : Nat) (p : List Byte) : d.RingsKept (stageAdd d h op p) :=
  ⟨rfl, rfl, rfl, rfl, rfl, rfl, rfl⟩

/-- The staged commands: row, opcode, modes, parameter bytes and check (Table 16.16). -/
def stagedRows : List ((Sys2Proof.ChiopHdr → List Byte → Instr) × Nat × List Nat × Nat × (Dev → List Byte → Option ChErr)) :=
  [(Instr.cellAdd, 0x0201, modesCfg, 96, withGates checkCellAdd 0x0201), (Instr.cellRemove, 0x0202, modesCfg, 2, checkCellRemove),
    (Instr.cellModify, 0x0203, modesCfg, 96, withGates checkCellModify 0x0203), (Instr.streamSet, 0x0204, modesCfg, 8, checkStreamSet),
    (Instr.rampSet, 0x0205, modesCfg, 72, checkRampSet), (Instr.harqSet, 0x0206, modesCfg, 16, checkHarqSet),
    (Instr.harqClear, 0x0207, modesCfg, 16, checkHarqClear), (Instr.imageBind, 0x0302, [4, 5, 6, 7], 20, checkImageBind),
    (Instr.laneSet, 0x0401, modesCfg, 132, checkLaneSet), (Instr.groupSet, 0x0402, modesCfg, 16, checkGroupSet),
    (Instr.detourCmd, 0x0403, [6, 7, 8, 11], 3, checkDetourCmd), (Instr.portSet, 0x0404, modesCfg, 68, checkPortSet),
    (Instr.slackSet, 0x0501, modesCfgQ, 10, checkSlackSet), (Instr.timeSourceSet, 0x0502, modesCfgQ, 8, checkTimeSourceSet),
    (Instr.tickSet, 0x0504, [4, 5], 1, checkTickSet), (Instr.thermalSet, 0x0507, modesCfgQ, 8, checkThermalSet),
    (Instr.unitRemove, 0x0603, modesCfg, 2, checkUnitRemove), (Instr.pmTimeSet, 0x0701, modesCfg, 4, checkPmTimeSet),
    (Instr.pmThresholdSet, 0x0702, modesCfg, 8, checkPmThresholdSet),
    (Instr.pmClear, 0x0703, modesCfg, 1, fun d p => checkPmSubject d (pf p 0 1)),
    (Instr.tallyAgeSet, 0x0A01, modesCfg, 4, fun _ p => rangeUnless (decide (1000 ≤ pf p 0 4 ∧ pf p 0 4 ≤ 1000000)) 0),
    (Instr.ptoSet, 0x0A02, modesCfg, 4, fun _ p => rangeUnless (decide (4 ≤ pf p 0 2 ∧ pf p 0 2 ≤ 1024)) 0),
    (Instr.leakySet, 0x0A03, modesCfg, 10, checkLeakySet)]

/-- Each row of the table is the staged command of its opcode, modes, parameters and check. -/
theorem exec_stagedRow : ∀ row ∈ stagedRows, ∀ (h : Sys2Proof.ChiopHdr) (p : List Byte) (s : State),
    exec (row.1 h p) s = .next { s with dev := chiopRun row.2.1 (inModes row.2.2.1) row.2.2.2.1 false (stagedBody row.2.1 row.2.2.2.2 h) h p s.dev } := by
  intro row hrow
  fin_cases hrow
  all_goals exact fun _ _ _ => rfl

theorem stagedRow_passes {row : (Sys2Proof.ChiopHdr → List Byte → Instr) × Nat × List Nat × Nat × (Dev → List Byte → Option ChErr)}
    (hrow : row ∈ stagedRows) (s : State) {h : Sys2Proof.ChiopHdr} (p : List Byte) (htakes : s.dev.takes row.2.1 row.2.2.2.1 h)
    (hmode : s.dev.mode.mode ∈ row.2.2.1)
    (hbody : stagedBody row.2.1 row.2.2.2.2 h (s.dev.taken h) (paramsOf h p) = .ok (stageAdd (s.dev.taken h) h row.2.1 (paramsOf h p)) []) :
    ∃ u, exec (row.1 h p) s = .next u ∧ s.dev.answered u.dev row.2.1 h p (mkReply row.2.1 h.seq s.dev.chiop.epoch 0 [])
      ∧ u.dev.chiop.stage = s.dev.chiop.stage ++ [⟨h.seq, row.2.1, paramsOf h p⟩] ∧ u.dev.chiop.owner = some (s.dev.chiop.owner.getD h.chan.val)
      ∧ u.dev.chiop.stagedAt = nowOf s.dev h ∧ u.dev.cfg = s.dev.cfg ∧ u.dev.cores = s.dev.cores ∧ u.dev.units = s.dev.units := by
  have hkept := stageAdd_ringsKept (s.dev.taken h) h row.2.1 (paramsOf h p)
  refine ⟨_, exec_stagedRow row hrow h p s, ?_⟩
  rw [chiopRun_ok htakes p (Dev.inModes_taken htakes hmode) false hbody hkept]
  refine ⟨Dev.hostReplied_answered htakes p hkept _, ?_⟩
  rw [Dev.taken_eq htakes, Dev.hostReplied, stageAdd]
  exact ⟨rfl, rfl, rfl, rfl, rfl, rfl⟩

theorem stagedRow_fails {row : (Sys2Proof.ChiopHdr → List Byte → Instr) × Nat × List Nat × Nat × (Dev → List Byte → Option ChErr)}
    (hrow : row ∈ stagedRows) (s : State) {h : Sys2Proof.ChiopHdr} (p : List Byte) (htakes : s.dev.takes row.2.1 row.2.2.2.1 h)
    (hmode : s.dev.mode.mode ∈ row.2.2.1) {e : ChErr} (hbody : stagedBody row.2.1 row.2.2.2.2 h (s.dev.taken h) (paramsOf h p) = .err e) :
    ∃ u, exec (row.1 h p) s = .next u
      ∧ s.dev.answered u.dev row.2.1 h p (mkReply row.2.1 h.seq s.dev.chiop.epoch e.status (errDetail e.offset e.reason e.unit e.extra))
      ∧ u.dev.chiop.stage = s.dev.chiop.stage ∧ u.dev.chiop.owner = s.dev.chiop.owner ∧ u.dev.cfg = s.dev.cfg := by
  refine ⟨_, exec_stagedRow row hrow h p s, ?_⟩
  rw [chiopRun_err htakes p (Dev.inModes_taken htakes hmode) false hbody]
  refine ⟨Dev.hostReplied_answered htakes p (.refl _) _, ?_⟩
  rw [Dev.taken_eq htakes, Dev.hostReplied]
  exact ⟨rfl, rfl, rfl⟩

/-- Settles O52: GUARD comes before the owner and the command's own check. -/
theorem guardedStagingIsSuperseded : Obligations.GuardedStagingIsSuperseded := by
  unfold Obligations.GuardedStagingIsSuperseded
  intro row hrow s h p d htakes hmode hguard hbelow
  obtain ⟨full, hfull, rfl⟩ := List.mem_map.mp
    (show row ∈ stagedRows.map (fun full => (full.1, full.2.1, full.2.2.1, full.2.2.2.1)) from hrow)
  have hstale : (d.taken h).stale h = true := by
    rw [Dev.taken_eq htakes]
    exact Dev.stale_of_guard hguard hbelow
  exact stagedRow_fails hfull s p htakes hmode (stagedBody_stale _ hstale)

/-- Settles O51: a command that passes its check joins the stage; one that fails it, or that finds another owner, leaves the stage. -/
theorem stagedCommandsJoinTheStage : Obligations.StagedCommandsJoinTheStage := by
  unfold Obligations.StagedCommandsJoinTheStage
  intro row hrow s h p d op ps htakes hmode hfresh
  have htaken := Dev.taken_eq htakes
  have hfresh' : (d.taken h).stale h = false := by
    rw [htaken]
    exact Dev.not_stale hfresh
  have hhost : h.chan.val = 0 := congrArg Fin.val htakes.2.1
  have howners : (d.taken h).chiop.owner = d.chiop.owner := by rw [htaken]
  refine ⟨fun howner => ?_, fun o howner hother => ?_⟩
  · rw [← howners, ← hhost] at howner
    refine ⟨fun hcheck => ?_, fun e hcheck => ?_⟩
    · obtain ⟨t, hexec, hanswered, hstage, howned, hkept⟩ := stagedRow_passes hrow s p htakes hmode (stagedBody_passes _ hfresh' howner hcheck)
      refine ⟨t, hexec, hanswered, hstage, ?_, hkept⟩
      rw [howned, ← howners]
      rcases howner with howner | howner
      all_goals simp [howner, hhost]
    · obtain ⟨t, hexec, hanswered, hkept⟩ := stagedRow_fails hrow s p htakes hmode (stagedBody_fails _ hfresh' howner hcheck)
      exact ⟨t, hexec, hanswered, hkept⟩
  · rw [← howners] at howner
    rw [← hhost] at hother
    obtain ⟨t, hexec, hanswered, hstage, -⟩ := stagedRow_fails hrow s p htakes hmode (stagedBody_owned _ hfresh' howner hother)
    exact ⟨t, hexec, hanswered, hstage⟩

end Sys2Proof.Machine
end

section
/-! SUPPORT. RELEASE_PADS for a domain in Run none of whose units is PRESENT (00_scope.md, R9; 19_power_domains.md, R473). -/

namespace Sys2Proof.Machine
open Sys2Proof

/-- RELEASE_PADS with its check, the first command of its channel. -/
def releaseHdr : Sys2Proof.ChiopHdr :=
  let h : Sys2Proof.ChiopHdr := { seq := 1, plen := 2 }
  { h with hcrc := BitVec.ofNat 16 (crc16 (headerBytes 0x0506 h)) }

/-- The domain of the first quad of lanes. -/
def quadPar : List Byte := bytesOf 2 0x500

/-- A device in M4 with every domain in Run and every unit RETIRED, whose rings hold one command. -/
@[irreducible] def retiredQuad : State :=
  { dev :=
    { units := Vector.replicate 2048 { st := .retired }
      power := { dom := Vector.replicate 1664 { st := .run } }
      mode := { mode := 4 }
      start := { powered := true, resetLow := false, ready := true }
      ring := { ni := Vector.replicate 256 { shell := .open_ } }
      host := { enable := true, cmdTail := 1 } } }

theorem retiredQuad_takes : retiredQuad.dev.takes 0x0506 2 releaseHdr ∧ retiredQuad.dev.mode.mode ∈ modesCfgQ := by
  refine ⟨⟨?_, ?_, ?_, ?_, ?_, ?_, ?_, ?_⟩, ?_⟩
  all_goals decide +kernel

/-- The domain is one whose pads the host may release, and it is in Run. -/
theorem retiredQuad_runs : (let code := pf (paramsOf releaseHdr quadPar) 0 2
    domSwitched code = true ∧ domPads code = true ∧ code ≠ 0x800 ∧ (retiredQuad.dev.taken releaseHdr).domRun code = true) := by
  decide +kernel

theorem retiredQuad_absent : (retiredQuad.dev.taken releaseHdr).domPresent (pf (paramsOf releaseHdr quadPar) 0 2) = false := by
  decide +kernel

/-- Where none of its units is PRESENT a domain's pads are not released: the command is answered with UNIT_ABSENT (R9). -/
theorem bodyReleasePads_absent (chan : Nat) (d : Dev) (p : List Byte) (hswitched : domSwitched (pf p 0 2) = true)
    (hpads : domPads (pf p 0 2) = true) (hport : pf p 0 2 ≠ 0x800) (habsent : d.domPresent (pf p 0 2) = false) :
    bodyReleasePads chan d p = .err (errDomain (pf p 0 2)) := by
  simp [bodyReleasePads, Dev.domAbsent, hswitched, hpads, hport, habsent]

/-- A command has one answer. -/
theorem Dev.answered_unique {d t : Dev} {op : Nat} {h : Sys2Proof.ChiopHdr} {p : List Byte} {r r' : Reply} (hr : d.answered t op h p r)
    (hr' : d.answered t op h p r') : r = r' := by
  have hstore := hr.1.symm.trans hr'.1
  rw [List.take_succ_cons, List.take_succ_cons] at hstore
  injection hstore with hfirst
  simpa using hfirst

/-- Refutes O53: its row for RELEASE_PADS asks that the domain be in Run, but a domain in Run none of whose units is PRESENT answers
with UNIT_ABSENT (R9). -/
theorem not_immediateCommandsAnswer : ¬ Obligations.ImmediateCommandsAnswer := by
  unfold Obligations.ImmediateCommandsAnswer
  rintro ⟨hrows, -⟩
  simp only [List.forall_mem_cons] at hrows
  obtain ⟨-, -, -, -, -, -, -, -, -, hrelease, -⟩ := hrows
  obtain ⟨htakes, hmode⟩ := retiredQuad_takes
  obtain ⟨hswitched, hpads, hport, hruns⟩ := retiredQuad_runs
  have hbody := bodyReleasePads_absent releaseHdr.chan.val _ _ hswitched hpads hport retiredQuad_absent
  have hexec : exec (.releasePads releaseHdr quadPar) retiredQuad = .next { retiredQuad with
      dev := chiopRun 0x0506 (inModes modesCfgQ) 2 false (bodyReleasePads releaseHdr.chan.val) releaseHdr quadPar retiredQuad.dev } := rfl
  rw [chiopRun_err htakes quadPar (Dev.inModes_taken htakes hmode) false hbody] at hexec
  obtain ⟨t, hnext, hok, -⟩ := hrelease retiredQuad releaseHdr quadPar htakes hmode ⟨hswitched, hpads, hport, hruns⟩
  obtain rfl := Host.Outcome.next.inj (hexec.symm.trans hnext)
  have hreply := Dev.answered_unique hok (Dev.hostReplied_answered htakes quadPar (.refl _) _)
  exact absurd (congrArg Reply.status hreply) (by decide)

end Sys2Proof.Machine
end

section
/-! SUPPORT. A slot event that falls when Almanac takes its inputs again after events were held for it (02_timing_and_deadlines.md, R47). -/

namespace Sys2Proof.Machine
open Sys2Proof

/-- The NR cell that serves. -/
def heldCell : Cell := { cr := { cell := 7, type := 1 }, inService := true }

/-- A device in M6 at air time 0 with one cell in service, that holds an event of another cell for Almanac. -/
@[irreducible] def heldEvents : State :=
  { dev :=
    { start := { powered := true, resetLow := false }
      mode := { mode := 6 }
      time := { store := [{ numer := 0, cell := 9, down := false, start := 0, sym := 0 }] }
      cfg := { cells := [heldCell] } } }

/-- The start of the cell's uplink slot at air time 0 is due, and the slot has not ended. -/
theorem heldEvents_due : (let d := heldEvents.dev
    let span := d.time.slotSpan heldCell.cr.type 0
    d.almRuns = true ∧ d.cfg.plans = [] ∧ d.cell? 7 = some heldCell ∧ heldCell.inService = true ∧ span.1 = 0
      ∧ airPast d.time.air (d.time.symStart heldCell.cr.type 0 0) = true ∧ airPast d.time.air span.2 = false
      ∧ d.time.carries heldCell.cr 0 false = true) := by
  decide +kernel

/-- Almanac takes the held event with the slot's. -/
theorem heldEvents_taken : (heldEvents.dev.slotInput 7 false 0 0xFF false).settlePlans.time.store = [] ∧ heldEvents.dev.time.store ≠ [] := by
  decide +kernel

/-- Refutes O48: its last clause has the start of a slot record the slot and change nothing else, but events held for Almanac go to it
with that event and are held no more (R47). -/
theorem not_boundariesWindowsAndSlots : ¬ Obligations.BoundariesWindowsAndSlots := by
  unfold Obligations.BoundariesWindowsAndSlots
  rintro ⟨-, -, -, -, -, hslot⟩
  obtain ⟨hruns, hplans, hcell, hserves, hstart, hdue, hend, hcarries⟩ := heldEvents_due
  have hnext := hslot heldEvents heldCell 7 0 hruns hplans hcell hserves hstart hdue hend hcarries
  have hexec : exec (.slotSymbolEvent 7 false 0 ⟨0xFF, false⟩) heldEvents = .next { heldEvents with
      dev := if heldEvents.dev.almRuns then (heldEvents.dev.slotInput 7 false 0 0xFF false).settlePlans else heldEvents.dev } := rfl
  rw [if_pos hruns] at hexec
  obtain ⟨htaken, hheld⟩ := heldEvents_taken
  have hsame := congrArg (fun t => t.dev.time.store) (Host.Outcome.next.inj (hexec.symm.trans hnext))
  exact hheld (hsame.symm.trans htaken)

end Sys2Proof.Machine
end

section
/-! SUPPORT. The commands that are held and the marks of the units, while tests start (16_chiop_commands.md, R393, R399;
20_thermal_and_health.md, R495, R497). -/

namespace Sys2Proof.Machine
open Sys2Proof

/-! ### The relation -/

/-- Every channel holds the commands it held, and the units are as they were. -/
structure Dev.WaitingKept (a b : Dev) : Prop where
  held : ∀ c, (b.chan c).held = (a.chan c).held
  units : b.units = a.units

theorem Dev.WaitingKept.of_eq {a b : Dev} (hchan : b.chiop.chan = a.chiop.chan) (hunits : b.units = a.units) : a.WaitingKept b :=
  ⟨fun c => by rw [Dev.chan, hchan, Dev.chan], hunits⟩

theorem Dev.WaitingKept.refl (d : Dev) : d.WaitingKept d := .of_eq rfl rfl

theorem Dev.WaitingKept.trans {a b c : Dev} (hab : a.WaitingKept b) (hbc : b.WaitingKept c) : a.WaitingKept c :=
  ⟨fun k => (hbc.held k).trans (hab.held k), hbc.units.trans hab.units⟩

/-- What holds from a device on holds from any with the same channels and units. -/
theorem Dev.WaitingKept.since {a b c : Dev} (hbc : b.WaitingKept c) (hchan : b.chiop.chan = a.chiop.chan) (hunits : b.units = a.units) : a.WaitingKept c :=
  .trans (.of_eq hchan hunits) hbc

theorem Dev.WaitingKept.ite {d a b : Dev} (p : Prop) [Decidable p] (ha : d.WaitingKept a) (hb : d.WaitingKept b) :
    d.WaitingKept (if p then a else b) := by
  split
  · exact ha
  · exact hb

theorem foldl_waitingKept {α : Type} (f : Dev → α → Dev) (hf : ∀ (d : Dev) (x : α), d.WaitingKept (f d x)) (xs : List α) (d : Dev) :
    d.WaitingKept (xs.foldl f d) := by
  induction xs generalizing d with
  | nil => exact .refl d
  | cons x xs ih => exact (hf d x).trans (ih (f d x))

/-! ### Telling of something -/

section
variable (d : Dev)

theorem Dev.raiseAlert_waitingKept (bit : Nat) : d.WaitingKept (d.raiseAlert bit) := by
  obtain ⟨h, hh⟩ := d.raiseAlert_eq bit
  rw [hh]
  exact .of_eq rfl rfl

theorem Dev.post_waitingKept (kind : Nat) (payload : List Byte) : d.WaitingKept (d.post kind payload) := by
  unfold Dev.post
  extract_lets e counts numbered copied rest
  have hcopied : d.WaitingKept copied := .of_eq rfl rfl
  exact .ite _ hcopied (.ite _ (hcopied.trans (.of_eq rfl rfl))
    (.ite _ (hcopied.trans (.of_eq rfl rfl)) ((Dev.raiseAlert_waitingKept _ 10).since rfl rfl)))

theorem Dev.logAdd_waitingKept (type : Nat) (mirror : Bool) (p : List Byte) : d.WaitingKept (d.logAdd type mirror p) := by
  unfold Dev.logAdd
  exact .of_eq rfl rfl

theorem Dev.healthEvent_waitingKept (i : HealthInfo) : d.WaitingKept (d.healthEvent i) := by
  unfold Dev.healthEvent
  extract_lets p logged health posted health'
  have hposted : d.WaitingKept (d.post 0xF003 p) := d.post_waitingKept 0xF003 p
  have hlogged : d.WaitingKept logged := hposted.trans (Dev.logAdd_waitingKept _ _ _ _)
  exact .ite _ (.ite _ (hlogged.trans (logged.raiseAlert_waitingKept 12)) hlogged) (.ite _ (.of_eq rfl rfl) (hposted.trans (.of_eq rfl rfl)))

/-! ### Jobs that end or go back to their lists -/

theorem Dev.dropAllocated_waitingKept (x : Deferred) : d.WaitingKept (d.dropAllocated x) := by
  unfold Dev.dropAllocated
  split
  all_goals exact .of_eq rfl rfl

theorem Dev.dropDeferred_waitingKept (id : Word) : d.WaitingKept (d.dropDeferred id) := by
  unfold Dev.dropDeferred
  split
  · exact .refl d
  · exact (foldl_waitingKept _ Dev.dropAllocated_waitingKept _ d).trans (.of_eq rfl rfl)

theorem Dev.putQueue_waitingKept (id : Word) (entry : List Byte) : d.WaitingKept (d.putQueue id entry) := by
  unfold Dev.putQueue
  split
  · exact .refl d
  · exact .ite _ (d.post_waitingKept _ _) (.ite _ (.of_eq rfl rfl) (.of_eq rfl rfl))

end

theorem Dev.releaseHeads_waitingKept (n : Nat) (id : Word) (d : Dev) : d.WaitingKept (Dev.releaseHeads n id d) := by
  induction n generalizing d with
  | zero => exact .refl d
  | succ n ih =>
    unfold Dev.releaseHeads
    split
    · exact .refl d
    · split
      · exact .refl d
      · exact (d.putQueue_waitingKept _ _).trans ((ih _).since rfl rfl)

section
variable (d : Dev)

theorem Dev.finishJob_waitingKept (j : Job) (status : Word) (flags : Nat) : d.WaitingKept (d.finishJob j status flags) := by
  unfold Dev.finishJob
  exact .ite _ (.of_eq rfl rfl) (.ite _ ((Dev.releaseHeads_waitingKept _ _ _).since rfl rfl) ((d.putQueue_waitingKept _ _).trans (.of_eq rfl rfl)))

theorem Dev.endJob_waitingKept (id : Word) (flags : Nat) : d.WaitingKept (d.endJob id flags) := by
  have hdropped := d.dropDeferred_waitingKept id
  unfold Dev.endJob
  dsimp only
  split
  · exact hdropped
  · exact hdropped.trans (Dev.finishJob_waitingKept _ _ _ _)

theorem Dev.redispatch_waitingKept (j : Job) : d.WaitingKept (d.redispatch j) := by
  have hdropped := d.dropDeferred_waitingKept j.id
  unfold Dev.redispatch
  exact .ite _ (hdropped.trans (Dev.endJob_waitingKept _ _ _)) (hdropped.trans (.of_eq rfl rfl))

theorem Dev.withdraw_waitingKept (x : Delivery) (exclude : Bool) : d.WaitingKept (d.withdraw x exclude) := .of_eq rfl rfl

theorem Dev.noteLate_waitingKept (j : Job) : d.WaitingKept (d.noteLate j) := by
  unfold Dev.noteLate
  split
  · exact .refl d
  · extract_lets
    exact (Dev.healthEvent_waitingKept _ _).since rfl rfl

theorem Dev.measure_waitingKept (j : Job) : d.WaitingKept (d.measure j).1 := by
  unfold Dev.measure
  split
  · exact .refl d
  · extract_lets slack recorded
    split
    · exact (recorded.noteLate_waitingKept j).since rfl rfl
    · exact .of_eq rfl rfl

/-! ### An equaliser engine that fails -/

theorem Dev.noEngine_waitingKept (j : Job) : d.WaitingKept (d.noEngine j) := by
  unfold Dev.noEngine
  extract_lets rest word written m
  have hwritten : d.WaitingKept written := .of_eq rfl rfl
  have hdropped := hwritten.trans (written.dropDeferred_waitingKept j.id)
  exact (hdropped.trans (Dev.measure_waitingKept _ _)).trans (Dev.finishJob_waitingKept _ _ _ _)

theorem Dev.rebindFrom_waitingKept (e : Nat) : d.WaitingKept (d.rebindFrom e) := by
  unfold Dev.rebindFrom
  refine foldl_waitingKept _ (fun d c0 => ?_) _ _
  split
  · exact .refl d
  · exact .ite _ (.refl d) (.of_eq rfl rfl)

theorem Dev.rerunEsts_waitingKept (e : Nat) : d.WaitingKept (d.rerunEsts e) := by
  unfold Dev.rerunEsts
  refine (foldl_waitingKept _ (fun d t => ?_) _ _).since rfl rfl
  exact .ite _ (.refl d) (.of_eq rfl rfl)

theorem Dev.failUnit_waitingKept (c s : Nat) : d.WaitingKept (d.failUnit c s) := by
  have hwithdrawn (xs : List Delivery) (d : Dev) : d.WaitingKept (xs.foldl (fun d x => d.withdraw x false) d) :=
    foldl_waitingKept _ (fun d x => d.withdraw_waitingKept x false) xs d
  unfold Dev.failUnit
  extract_lets marked ds left put
  have hmarked : d.WaitingKept marked := .of_eq rfl rfl
  have hleft : d.WaitingKept left := .ite _ (hmarked.trans (hwithdrawn _ _)) (.ite _ (hmarked.trans (marked.rebindFrom_waitingKept s)) hmarked)
  have hput : d.WaitingKept put := hleft.trans (foldl_waitingKept _ Dev.redispatch_waitingKept _ _)
  exact .ite _ ((hput.trans (put.rerunEsts_waitingKept s)).trans (foldl_waitingKept _ Dev.noEngine_waitingKept _ _)) hput

/-! ### A line that goes down -/

/-- A change of a channel that holds on to its commands. -/
theorem Dev.updChan_waitingKept (c : Nat) (f : Channel → Channel) (hf : ∀ x, (f x).held = x.held) : d.WaitingKept (d.updChan c f) := by
  refine ⟨fun k => ?_, d.updChan_units c f⟩
  by_cases hk : k < 17
  · unfold Dev.updChan Dev.chan
    rw [List.getD_eq_getElem _ _ (by simpa using hk), List.getD_eq_getElem _ _ (by simpa using hk)]
    simp only [Vector.getElem_toList, Vector.getElem_ofFn]
    split
    · exact hf _
    · rfl
  · unfold Dev.chan
    rw [List.getD_eq_default _ _ (by simpa using hk), List.getD_eq_default _ _ (by simpa using hk)]

theorem Dev.dropStage_waitingKept : d.WaitingKept d.dropStage := by
  unfold Dev.dropStage
  split
  · exact .refl d
  · exact (Dev.post_waitingKept _ _ _).since rfl rfl

theorem Dev.closeChans_waitingKept (cs : List Nat) : d.WaitingKept (d.closeChans cs) := by
  have hclosed : d.WaitingKept (cs.foldl (fun d c => d.updChan c (fun x => { x with opened := false })) d) :=
    foldl_waitingKept _ (fun d c => d.updChan_waitingKept c (fun x => { x with opened := false }) (fun _ => rfl)) cs d
  unfold Dev.closeChans
  refine hclosed.trans ?_
  generalize cs.foldl (fun d c => d.updChan c (fun x => { x with opened := false })) d = closed
  extract_lets closed' src emptied
  have hemptied : closed.WaitingKept emptied := .of_eq rfl rfl
  split
  · exact .ite _ (hemptied.trans emptied.dropStage_waitingKept) hemptied
  · exact hemptied

theorem Dev.timeAlert_waitingKept (before : Dev) : d.WaitingKept (d.timeAlert before) := by
  obtain ⟨h, u, halert⟩ := d.timeAlert_eq before
  rw [halert]
  exact .of_eq rfl rfl

theorem Dev.ptpLost_waitingKept (p st : Nat) : d.WaitingKept (d.ptpLost p st) := by
  unfold Dev.ptpLost
  extract_lets was best lost t
  exact .ite _ (.of_eq rfl rfl) ((Dev.timeAlert_waitingKept _ d).since rfl rfl)

theorem Dev.lineDown_waitingKept (c s : Nat) : d.WaitingKept (d.lineDown c s) := by
  unfold Dev.lineDown Dev.portDown
  refine .ite _ ?_ (.ite _ (.of_eq rfl rfl) (.refl d))
  exact .trans (.ite _ (d.ptpLost_waitingKept s 1) (.refl d)) ((Dev.closeChans_waitingKept _ _).since rfl rfl)

end

/-! ### Tests that start -/

theorem Dev.updUnit_unit (d : Dev) (c s : Nat) (f : UnitRec → UnitRec) : (d.updUnit c s f).unit c s = f (d.unit c s) := by
  simp [Dev.updUnit, Dev.unit]

theorem Dev.updUnit_unit_ne (d : Dev) {c s c' s' : Nat} (f : UnitRec → UnitRec) (hne : unitIdx c s ≠ unitIdx c' s') :
    (d.updUnit c s f).unit c' s' = d.unit c' s' := by
  have hval : (unitIdx c s).val ≠ (unitIdx c' s').val := fun h => hne (Fin.ext h)
  simp [Dev.updUnit, Dev.unit, Vector.getElem_set_ne, hval]

theorem Dev.WaitingKept.unit {a b : Dev} (hkept : a.WaitingKept b) (c s : Nat) : b.unit c s = a.unit c s := by
  rw [Dev.unit, hkept.units, Dev.unit]

theorem unitIdx_core_ne_mxc (s : Nat) : unitIdx 2 s ≠ unitIdx 1 s := by
  simp only [unitIdx, ne_eq, Fin.mk.injEq]
  omega

section
variable (d : Dev) (u : Nat × Nat) (rolling : Bool)

/-- A test that starts marks its unit, and every channel holds what it held. -/
theorem Dev.testStart_marks : ((d.testStart u rolling).unit u.1 u.2).testing = true ∧ ∀ c, ((d.testStart u rolling).chan c).held = (d.chan c).held := by
  unfold Dev.testStart
  extract_lets marked left down
  have hmarked : (marked.unit u.1 u.2).testing = true := by rw [Dev.updUnit_unit]
  have hleft : marked.WaitingKept left := .ite _ (.refl marked) (marked.failUnit_waitingKept u.1 u.2)
  have hdown : (down.unit u.1 u.2).testing = true ∧ ∀ c, (down.chan c).held = (left.chan c).held := by
    unfold down
    split
    case isTrue hcore =>
      rw [hcore, Dev.updUnit_unit_ne _ _ (unitIdx_core_ne_mxc u.2), hleft.unit, ← hcore]
      exact ⟨hmarked, fun c => rfl⟩
    case isFalse =>
      have hline := left.lineDown_waitingKept u.1 u.2
      rw [hline.unit, hleft.unit]
      exact ⟨hmarked, hline.held⟩
  have htold := down.healthEvent_waitingKept
    { hkind := 0x0020, action := 2, cls := u.1, slot := u.2, domain := unitDomain u.1 u.2, level := (down.unit u.1 u.2).level }
  rw [htold.unit]
  exact ⟨hdown.1, fun c => by rw [htold.held, hdown.2, hleft.held]; rfl⟩

end

/-- With one test queued, it starts or stays queued, and every channel holds what it held. -/
theorem Dev.startTests_of_one {d : Dev} {u : Nat × Nat} (hqueue : d.health.testQueue = [u]) :
    (d.startTests = d ∨ (d.startTests.unit u.1 u.2).testing = true) ∧ ∀ c, (d.startTests.chan c).held = (d.chan c).held := by
  rw [Dev.startTests, hqueue, List.foldl_cons, List.foldl_nil]
  split
  · have hmarks := Dev.testStart_marks { d with health := { d.health with testQueue := d.health.testQueue.erase u } } u false
    exact ⟨.inr hmarks.1, hmarks.2⟩
  · exact ⟨.inl rfl, fun c => rfl⟩

end Sys2Proof.Machine
end

section
/-! SUPPORT. The commands of the host that are held, and their ends (16_chiop_commands.md, R393, R399, R400, R405). -/

namespace Sys2Proof.Machine
open Sys2Proof

/-! ### Commands that are held -/

section
variable (d : Dev)

theorem Dev.RingsKept.time (x : TimeState) : d.RingsKept { d with time := x } := ⟨rfl, rfl, rfl, rfl, rfl, rfl, rfl⟩

theorem Dev.RingsKept.mode (x : ModeState) : d.RingsKept { d with mode := x } := ⟨rfl, rfl, rfl, rfl, rfl, rfl, rfl⟩

theorem Dev.RingsKept.commit (sl : SlackState) (stage : List Staged) (owner : Option Nat) (x : Option CommitHeld) :
    d.RingsKept { d with slack := sl, chiop := { d.chiop with stage := stage, owner := owner, commit := x } } :=
  ⟨rfl, rfl, rfl, rfl, rfl, rfl, rfl⟩

end

/-- Holding a command moves only Chiop's channels. -/
theorem Dev.hostHolds_eq (d : Dev) (x : Result) (y : Held) :
    ∃ v, d.hostHolds x y = { d with chiop := { d.chiop with chan := v } } := by
  unfold Dev.hostHolds retain Dev.updChan
  exact ⟨_, rfl⟩

section
variable {s : State} {op need : Nat} {ms : List Nat} {h : Sys2Proof.ChiopHdr} {p aux : List Byte} {body : Dev → List Byte → Ans} {t : Dev}
  (htakes : s.dev.takes op need h) (hmode : s.dev.mode.mode ∈ ms)
include htakes hmode

/-- A command that its body holds waits without a reply in the device that the body leaves. -/
theorem heldCommand (hbody : body (s.dev.taken h) (paramsOf h p) = .hold t aux) (hkept : (s.dev.taken h).RingsKept t) :
    ∃ u, s.on (chiopCmd op ms need true body h p) = .next u ∧ s.dev.holding u.dev op h p aux
      ∧ ∃ v, u.dev = { t with chiop := { t.chiop with chan := v } } := by
  refine ⟨_, rfl, ?_⟩
  rw [chiopCmd, chiopRun_hold htakes p (Dev.inModes_taken htakes hmode) true hbody]
  exact ⟨Dev.hostHolds_holding htakes p hkept aux, t.hostHolds_eq _ _⟩

/-- A command that its body only holds changes neither the start nor the configuration. -/
theorem heldCommand_unchanged (hbody : body (s.dev.taken h) (paramsOf h p) = .hold (s.dev.taken h) aux) :
    ∃ u, s.on (chiopCmd op ms need true body h p) = .next u ∧ s.dev.holding u.dev op h p aux ∧ u.dev.start = s.dev.start
      ∧ u.dev.cfg = s.dev.cfg := by
  obtain ⟨u, hstep, hholding, v, hdev⟩ := heldCommand htakes hmode hbody (.refl _)
  refine ⟨u, hstep, hholding, ?_⟩
  rw [hdev, Dev.taken_eq htakes]
  exact ⟨rfl, rfl⟩

end

/-! ### The bodies of held commands -/

section
variable {d : Dev} {p : List Byte} (h : Sys2Proof.ChiopHdr)

theorem bodyRecoveryLoad_holds (hfree : d.heldOp 0x0304 = false) :
    bodyRecoveryLoad h d p = .hold d (bytesOf 8 h.ind.paddr.toNat ++ bytesOf 4 h.ind.plen.toNat ++ p) := by
  simp [bodyRecoveryLoad, hfree]

theorem bodyAttest_holds (hkeys : d.start.keyStore = true) : bodyAttest d p = .hold d p := by simp [bodyAttest, hkeys]

theorem bodyKeyEnroll_holds (hwrite : pf p 0 1 = 0) (hslot : pf p 1 1 ≤ 3) (hempty : (d.start.fuses.slot (pf p 1 1)).valid = false)
    (hidle : d.fuseBusy = false) : bodyKeyEnroll d p = .hold d p := by
  simp [bodyKeyEnroll, hwrite, Nat.not_lt.mpr hslot, hempty, hidle]

theorem bodyRollbackAdvance_holds (hcounter : pf p 0 1 = 0) (hrange : pf p 1 2 ≤ 128) (habove : d.start.fuses.rbc0 < pf p 1 2)
    (htop : pf p 1 2 ≤ d.start.fwSvn) (hidle : d.fuseBusy = false) : bodyRollbackAdvance d p = .hold d p := by
  simp [bodyRollbackAdvance, hcounter, Nat.not_lt.mpr hrange, Nat.not_le.mpr habove, Nat.not_lt.mpr htop, hidle]

theorem bodyDebugUnlock_holds (hask : pf p 0 1 = 0) : bodyDebugUnlock h d p = .hold d p := by simp [bodyDebugUnlock, hask]

end

/-! ### Time, mode, commit, domains -/

theorem bodyTimeStep_holds (h : Sys2Proof.ChiopHdr) {d : Dev} (p : List Byte) (hidle : d.anyInService = false) (hnone : d.time.stepPending = none) :
    bodyTimeStep h d p = .hold { d with time := { d.time with stepPending := some (pfSigned64 p 0, h.chan.val, h.seq) } } p := by
  simp [bodyTimeStep, hidle, hnone]

/-- A request for a mode other than M6 awaits no domain. -/
theorem bodyModeRequest_holds (h : Sys2Proof.ChiopHdr) {d : Dev} {p : List Byte} (hnone : d.mode.req = none) (hlow : 1 ≤ pf p 0 1)
    (hhigh : pf p 0 1 ≤ 12) (hservice : pf p 0 1 ≠ 6) :
    bodyModeRequest h d p = .hold { d with mode := { d.mode with req := some ⟨h.chan.val, h.seq, pf p 0 1, nowOf d h, [], none⟩ } } p := by
  simp [bodyModeRequest, Dev.reqProgress, Dev.wakeAll, hnone, hservice, Nat.not_lt.mpr hlow, Nat.not_lt.mpr hhigh]

/-- The boost of a sealed stage concerns the slack loop alone. -/
theorem Dev.commitBoost_eq (d : Dev) (now n : Nat) (stage : List Staged) : ∃ sl, d.commitBoost now n stage = { d with slack := sl } := by
  unfold Dev.commitBoost Dev.boost
  extract_lets before
  split_ifs
  all_goals exact ⟨_, rfl⟩

theorem bodyCommit_holds (h : Sys2Proof.ChiopHdr) {d : Dev} {p : List Byte} {n : Nat} (howner : d.chiop.owner = none ∨ d.chiop.owner = some h.chan.val)
    (hnone : d.chiop.commit = none) (hahead : d.commitAhead (nowOf d h) (BitVec.ofNat 32 (pf p 0 4)) = .ok n) :
    ∃ sl, bodyCommit h d p = .hold { d with
      slack := sl
      chiop := { d.chiop with
        stage := [], owner := none, commit := some ⟨h.chan.val, h.seq, d.chiop.epoch + BitVec.ofNat 32 n, d.chiop.stage⟩ } } p := by
  have howned : (d.chiop.owner.isSome && d.chiop.owner != some h.chan.val) = false := by
    rcases howner with howner | howner
    all_goals simp [howner]
  obtain ⟨sl, hboost⟩ := Dev.commitBoost_eq { d with chiop := { d.chiop with
    stage := [], owner := none, commit := some ⟨h.chan.val, h.seq, d.chiop.epoch + BitVec.ofNat 32 n, d.chiop.stage⟩ } } (nowOf d h) n d.chiop.stage
  refine ⟨sl, ?_⟩
  simp only [bodyCommit, howned, hnone, hahead, hboost, Option.isSome_none, Bool.false_eq_true, if_false]

theorem Dev.updDom_dom (d : Dev) (code : Nat) (f : DomainRec → DomainRec) : (d.updDom code f).dom code = f (d.dom code) := by
  simp [Dev.updDom, Dev.dom]

/-- A domain waits for a ramp slot (R469). -/
def Dev.waitRamp (d : Dev) (code : Nat) : Dev :=
  let waking := d.updDom code (fun x => { x with st := .waking, step := .waitSlot, attempts := 0, retry := 0 })
  { waking with power := { waking.power with waiting := waking.power.waiting ++ [code] } }

theorem Dev.domBegin_stopped (n : Nat) {d : Dev} {code : Nat} {r : DomReq} (hcur : (d.dom code).cur = some r) (hrun : r.run = true)
    (hstop : (d.dom code).st = .stop) : Dev.domBegin (n + 1) code d = d.waitRamp code := by
  have hother : (DomSt.stop == DomSt.run) = false := rfl
  simp only [Dev.domBegin, hcur, hrun, hstop, hother, Bool.and_false, Bool.not_true, Bool.false_and, Bool.or_self, Bool.false_eq_true, if_false,
    if_true, Dev.waitRamp]

/-- A request of Run for a domain in Stop is the one in progress at once (R463). -/
theorem Dev.domEnter_stopped {d : Dev} {code : Nat} {r : DomReq} (hrun : r.run = true) (hstop : (d.dom code).st = .stop)
    (hnone : (d.dom code).cur = none) (hquiet : d.domTesting code = false) :
    d.domEnter code r = (d.updDom code (fun x => { x with cur := some r })).waitRamp code := by
  have hasked := d.updDom_dom code (fun x => { x with cur := some r })
  rw [Dev.domEnter, hnone]
  simp only [hquiet, Bool.false_eq_true, if_false]
  exact Dev.domBegin_stopped 3 (congrArg DomainRec.cur hasked) hrun ((congrArg DomainRec.st hasked).trans hstop)

theorem bodyDomainRequest_wakes {chan : Nat} (seq : Word) {d : Dev} {p : List Byte} (hrun : pf p 2 1 = 1)
    (hrange : domHostRange (pf p 0 2) true chan = true) (hcheck : d.domCheck (pf p 0 2) true = none) (hstop : (d.dom (pf p 0 2)).st = .stop)
    (hnone : (d.dom (pf p 0 2)).cur = none) (hquiet : d.domTesting (pf p 0 2) = false) :
    bodyDomainRequest chan seq d p = .hold (((d.updDom (pf p 0 2) (fun x => { x with hostHeld := false })).updDom (pf p 0 2)
      (fun x => { x with cur := some ⟨true, .host chan seq⟩ })).waitRamp (pf p 0 2)) p := by
  have hfreed := d.updDom_dom (pf p 0 2) (fun x => { x with hostHeld := false })
  have hstop' := (congrArg DomainRec.st hfreed).trans hstop
  have hnone' := (congrArg DomainRec.cur hfreed).trans hnone
  have henter := Dev.domEnter_stopped (r := ⟨true, .host chan seq⟩) rfl hstop' hnone' hquiet
  have hidle : (DomSt.stop = DomSt.run) = False := by simp
  rw [bodyDomainRequest]
  simp only [hrun, hrange, hcheck, Nat.lt_irrefl, beq_self_eq_true, Bool.not_true, Bool.false_eq_true, if_false, hidle, hstop', henter,
    and_false, false_and, or_self]

theorem Dev.waitRamp_ringsKept (d : Dev) (code : Nat) (f g : DomainRec → DomainRec) :
    d.RingsKept (((d.updDom code f).updDom code g).waitRamp code) := ⟨rfl, rfl, rfl, rfl, rfl, rfl, rfl⟩

theorem Dev.waitRamp_power (d : Dev) (code : Nat) (f g : DomainRec → DomainRec) :
    (((d.updDom code f).updDom code g).waitRamp code).power.waiting = d.power.waiting ++ [code]
      ∧ (((d.updDom code f).updDom code g).waitRamp code).power.ramping = d.power.ramping := ⟨rfl, rfl⟩

theorem Dev.dom_chiop (d : Dev) (code : Nat) (x : ChiopState) : ({ d with chiop := x } : Dev).dom code = d.dom code := rfl

theorem Dev.waitRamp_dom (d : Dev) (code : Nat) :
    (d.waitRamp code).dom code = { d.dom code with st := .waking, step := .waitSlot, attempts := 0, retry := 0 } :=
  d.updDom_dom code (fun x => { x with st := .waking, step := .waitSlot, attempts := 0, retry := 0 })

/-- SELFTEST_RUN of a unit that is PRESENT queues its test, outside the device-wide pass (R495, R497). -/
theorem bodySelftestRun_queues {d : Dev} {p : List Byte} (htodo : d.mode.todo = []) (hlow : 1 ≤ pf p 0 1) (hhigh : pf p 0 1 ≤ 15)
    (hclass : pf p 0 1 ≠ 12) (hslot : pf p 1 1 < classSlots (pf p 0 1)) (hpresent : d.present (pf p 0 1) (pf p 1 1) = true) :
    bodySelftestRun d p = .hold (d.queueTest (pf p 0 1) (pf p 1 1)) p := by
  simp [bodySelftestRun, Dev.absentErr, htodo, hclass, hpresent, Nat.not_le.mpr hslot, Nat.not_lt.mpr hhigh, Nat.pos_iff_ne_zero.mp hlow]

theorem Dev.queueTest_ringsKept (d : Dev) (c s : Nat) : d.RingsKept (d.queueTest c s) := by
  unfold Dev.queueTest
  extract_lets
  split
  · exact .refl d
  · exact ⟨rfl, rfl, rfl, rfl, rfl, rfl, rfl⟩

/-- A test that is queued where none waits is the only one, or it is queued or runs already. -/
theorem Dev.queueTest_marks {d : Dev} {c s : Nat} (hempty : d.health.testQueue = []) :
    (((d.queueTest c s).unit c s).queued = true ∨ ((d.queueTest c s).unit c s).testing = true)
      ∧ ((d.queueTest c s).health.testQueue = [] ∨ (d.queueTest c s).health.testQueue = [(c, s)]) := by
  unfold Dev.queueTest
  extract_lets u queued
  split
  case isTrue hmarked => exact ⟨Bool.or_eq_true_iff.mp hmarked, .inl hempty⟩
  case isFalse =>
    have hqueued := d.updUnit_unit c s (fun u => { u with queued := true })
    exact ⟨.inl (congrArg UnitRec.queued hqueued), .inr (by simp [queued, Dev.updUnit, hempty])⟩

theorem Dev.unit_chiop (d : Dev) (c s : Nat) (x : ChiopState) : ({ d with chiop := x } : Dev).unit c s = d.unit c s := rfl

/-- Where only one unit's test is queued, the unit's mark stays while tests start. -/
theorem Dev.startTests_marks {d : Dev} {c s : Nat} (hmarks : (d.unit c s).queued = true ∨ (d.unit c s).testing = true)
    (hqueue : d.health.testQueue = [] ∨ d.health.testQueue = [(c, s)]) :
    ((d.startTests.unit c s).queued = true ∨ (d.startTests.unit c s).testing = true) ∧ (d.startTests.chan 0).held = (d.chan 0).held := by
  rcases hqueue with hnone | hone
  · rw [d.startTests_none hnone]
    exact ⟨hmarks, rfl⟩
  · obtain ⟨hstart, hheld⟩ := Dev.startTests_of_one hone
    refine ⟨?_, hheld 0⟩
    rcases hstart with hsame | htesting
    · rw [hsame]
      exact hmarks
    · exact .inr htesting

/-- Reading a command moves nothing that a request of a domain looks at. -/
theorem Dev.domRequest_taken {d : Dev} {op need : Nat} {h : Sys2Proof.ChiopHdr} (htakes : d.takes op need h) (code : Nat) (run : Bool) :
    (d.taken h).domCheck code run = d.domCheck code run ∧ (d.taken h).domTesting code = d.domTesting code
      ∧ (d.taken h).dom code = d.dom code := by
  rw [Dev.taken_eq htakes]
  generalize d.chansRead h = v
  exact ⟨rfl, rfl, rfl⟩

/-! ### The held commands, row by row -/

section
variable {s : State} {h : Sys2Proof.ChiopHdr} {p : List Byte}

theorem timeStep_held (htakes : s.dev.takes 0x0509 8 h) (hmode : s.dev.mode.mode ∈ [4, 5]) (hidle : s.dev.anyInService = false)
    (hnone : s.dev.time.stepPending = none) : ∃ t, exec (.timeStep h p) s = .next t ∧ s.dev.holding t.dev 0x0509 h p (paramsOf h p)
      ∧ t.dev.time = { s.dev.time with stepPending := some (pfSigned64 (paramsOf h p) 0, 0, h.seq) } := by
  have htaken := Dev.taken_eq htakes
  have hbody := bodyTimeStep_holds h (d := s.dev.taken h) (paramsOf h p) (by rw [htaken]; exact hidle) (by rw [htaken]; exact hnone)
  obtain ⟨t, hstep, hholding, v, hdev⟩ := heldCommand htakes hmode hbody (.time _ _)
  refine ⟨t, hstep, hholding, ?_⟩
  rw [hdev, htaken, htakes.2.1]
  rfl

theorem modeRequest_held (htakes : s.dev.takes 0x0807 1 h) (hmode : s.dev.mode.mode ∈ modesAll) (hnone : s.dev.mode.req = none)
    (hlow : 1 ≤ pf (paramsOf h p) 0 1) (hhigh : pf (paramsOf h p) 0 1 ≤ 12) (hservice : pf (paramsOf h p) 0 1 ≠ 6) :
    ∃ t, exec (.modeRequest h p) s = .next t ∧ s.dev.holding t.dev 0x0807 h p (paramsOf h p)
      ∧ t.dev.mode = { s.dev.mode with req := some ⟨0, h.seq, pf (paramsOf h p) 0 1, nowOf s.dev h, [], none⟩ } := by
  have htaken := Dev.taken_eq htakes
  have hbody := bodyModeRequest_holds h (d := s.dev.taken h) (by rw [htaken]; exact hnone) hlow hhigh hservice
  obtain ⟨t, hstep, hholding, v, hdev⟩ := heldCommand htakes hmode hbody (.mode _ _)
  refine ⟨t, hstep, hholding, ?_⟩
  rw [hdev, htaken, htakes.2.1]
  rfl

theorem commit_held {n : Nat} (htakes : s.dev.takes 0x0803 4 h) (hmode : s.dev.mode.mode ∈ modesCfgQ)
    (howner : s.dev.chiop.owner = none ∨ s.dev.chiop.owner = some 0) (hnone : s.dev.chiop.commit = none)
    (hahead : (s.dev.taken h).commitAhead (nowOf s.dev h) (BitVec.ofNat 32 (pf (paramsOf h p) 0 4)) = .ok n) :
    ∃ t, exec (.commit h p) s = .next t ∧ s.dev.holding t.dev 0x0803 h p (paramsOf h p)
      ∧ t.dev.chiop.commit = some ⟨0, h.seq, s.dev.chiop.epoch + BitVec.ofNat 32 n, s.dev.chiop.stage⟩ ∧ t.dev.chiop.stage = []
      ∧ t.dev.chiop.owner = none ∧ t.dev.cfg = s.dev.cfg := by
  have htaken := Dev.taken_eq htakes
  have hhost := htakes.2.1
  have hnow : nowOf (s.dev.taken h) h = nowOf s.dev h := by
    rw [htaken]
    rfl
  obtain ⟨sl, hbody⟩ := bodyCommit_holds h (d := s.dev.taken h) (p := paramsOf h p) (n := n) (by rw [htaken, hhost]; exact howner)
    (by rw [htaken]; exact hnone) (by rw [hnow]; exact hahead)
  obtain ⟨t, hstep, hholding, v, hdev⟩ := heldCommand htakes hmode hbody (.commit _ _ _ _ _)
  refine ⟨t, hstep, hholding, ?_⟩
  rw [hdev, htaken, hhost]
  exact ⟨rfl, rfl, rfl, rfl⟩

theorem domainRequest_held (htakes : s.dev.takes 0x0505 3 h) (hmode : s.dev.mode.mode ∈ modesCfgQ) (hrun : pf (paramsOf h p) 2 1 = 1)
    {code : Nat} (hcode : pf (paramsOf h p) 0 2 = code) (hrange : domHostRange code true 0 = true) (hcheck : s.dev.domCheck code true = none)
    (hstop : (s.dev.dom code).st = .stop) (hnone : (s.dev.dom code).cur = none) (hquiet : s.dev.domTesting code = false) :
    ∃ t, exec (.domainRequest h p) s = .next t ∧ s.dev.holding t.dev 0x0505 h p (paramsOf h p) ∧ (t.dev.dom code).st = .waking
      ∧ (t.dev.dom code).step = .waitSlot ∧ (t.dev.dom code).hostHeld = false ∧ t.dev.power.waiting = s.dev.power.waiting ++ [code]
      ∧ t.dev.power.ramping = s.dev.power.ramping := by
  subst hcode
  have htaken := Dev.taken_eq htakes
  have hhost : h.chan.val = 0 := congrArg Fin.val htakes.2.1
  obtain ⟨hcheck', hquiet', hdom⟩ := Dev.domRequest_taken htakes (pf (paramsOf h p) 0 2) true
  have hbody := bodyDomainRequest_wakes (chan := h.chan.val) h.seq (d := s.dev.taken h) hrun (by rw [hhost]; exact hrange) (hcheck'.trans hcheck)
    (by rw [hdom]; exact hstop) (by rw [hdom]; exact hnone) (hquiet'.trans hquiet)
  obtain ⟨t, hstep, hholding, v, hdev⟩ := heldCommand htakes hmode hbody (Dev.waitRamp_ringsKept ..)
  have hpower : (s.dev.taken h).power = s.dev.power := by rw [htaken]
  obtain ⟨hwaiting, hramping⟩ := Dev.waitRamp_power (s.dev.taken h) (pf (paramsOf h p) 0 2) (fun x => { x with hostHeld := false })
    (fun x => { x with cur := some ⟨true, .host h.chan.val h.seq⟩ })
  refine ⟨t, hstep, hholding, ?_⟩
  rw [hdev, Dev.dom_chiop, Dev.waitRamp_dom, Dev.updDom_dom, Dev.updDom_dom, hwaiting, hramping, hpower]
  exact ⟨rfl, rfl, rfl, rfl, rfl⟩

/-- A test asked for runs, or waits in the queue, and the command is held (R495, R497). -/
theorem selftestRun_held (htakes : s.dev.takes 0x0602 2 h) (hmode : s.dev.mode.mode ∈ [4, 5, 6, 7, 8]) (htodo : s.dev.mode.todo = []) {c u : Nat}
    (hc : pf (paramsOf h p) 0 1 = c) (hu : pf (paramsOf h p) 1 1 = u) (hlow : 1 ≤ c) (hhigh : c ≤ 15) (hclass : c ≠ 12) (hslot : u < classSlots c)
    (hpresent : s.dev.present c u = true) (hempty : s.dev.health.testQueue = []) : ∃ t, exec (.selftestRun h p) s = .next t
      ∧ (t.dev.chan 0).held = (s.dev.chan 0).held ++ [⟨h.seq, 0x0602, s.dev.host.cmdHead.toNat, s.dev.chiop.gen, paramsOf h p, none⟩]
      ∧ ((t.dev.unit c u).queued = true ∨ (t.dev.unit c u).testing = true) := by
  subst hc hu
  have htaken := Dev.taken_eq htakes
  have hmode' : s.dev.mode.mode ∈ [4, 5, 6, 7, 8, 10, 11] := List.mem_append_left [10, 11] hmode
  have hbody := bodySelftestRun_queues (d := s.dev.taken h) (p := paramsOf h p) (by rw [htaken]; exact htodo) hlow hhigh hclass hslot
    (by rw [htaken]; exact hpresent)
  obtain ⟨hmarks, hqueue⟩ := Dev.queueTest_marks (d := s.dev.taken h) (c := pf (paramsOf h p) 0 1) (s := pf (paramsOf h p) 1 1)
    (by rw [htaken]; exact hempty)
  obtain ⟨u, hstep, ⟨hheld, -⟩, v, hdev⟩ := heldCommand htakes hmode' hbody (Dev.queueTest_ringsKept ..)
  have hstarted := Dev.startTests_marks (d := u.dev) (c := pf (paramsOf h p) 0 1) (s := pf (paramsOf h p) 1 1)
    (by rw [hdev, Dev.unit_chiop]; exact hmarks) (by rw [hdev]; exact hqueue)
  refine ⟨{ u with dev := u.dev.startTests }, ?_, hstarted.2.trans hheld, hstarted.1⟩
  cases hstep
  rfl

end

end Sys2Proof.Machine
end

section
/-! SUPPORT. How held commands end, and asking for a result again (16_chiop_commands.md, R393, R399, R400;
18_start_and_security.md, R447, R454). -/

namespace Sys2Proof.Machine
open Sys2Proof

/-! ### The end of a held command -/

theorem Dev.raiseAlert_start (d : Dev) (bit : Nat) : (d.raiseAlert bit).start = d.start := by
  obtain ⟨host, hraised⟩ := d.raiseAlert_eq bit
  rw [hraised]

theorem Dev.post_start (d : Dev) (kind : Nat) (payload : List Byte) : (d.post kind payload).start = d.start := by
  unfold Dev.post
  extract_lets e counts numbered copied rest
  split
  · rfl
  · split
    · rfl
    · split
      · rfl
      · exact Dev.raiseAlert_start _ 10

/-- The way of a reply leaves what starts, and what the channels hold (R393). -/
theorem Dev.deliver_leaves (d : Dev) (chan slot gen : Nat) (held : Bool) (r : Reply) :
    (d.deliver chan slot gen held r).start = d.start ∧ ∀ c, ((d.deliver chan slot gen held r).chan c).held = (d.chan c).held := by
  unfold Dev.deliver Dev.raiseVector
  split_ifs
  · exact ⟨rfl, fun _ => rfl⟩
  · exact ⟨d.post_start _ _, (d.post_waitingKept _ _).held⟩
  · exact ⟨rfl, fun _ => rfl⟩
  · exact ⟨rfl, fun _ => rfl⟩

/-- A command that completes is no longer held (R393, R399). -/
theorem Dev.complete_ends (d : Dev) {chan : Nat} (hchan : chan < 17) (seq : Word) (status : Nat) (data : List Byte) :
    (d.complete chan seq status data).start = d.start ∧ ∀ y ∈ ((d.complete chan seq status data).chan chan).held, y.seq ≠ seq := by
  unfold Dev.complete
  split
  case h_1 hnone => exact ⟨rfl, fun y hy hseq => List.find?_eq_none.mp hnone y hy (beq_iff_eq.mpr hseq)⟩
  case h_2 x _ =>
    extract_lets r0 n r placed ended
    have hplaced : placed.start = d.start := by
      unfold placed
      split
      · split_ifs
        all_goals rfl
      · rfl
    have hended : ended.start = d.start := (Dev.updChan_start ..).trans hplaced
    obtain ⟨hstart, hheld⟩ := ended.deliver_leaves chan x.slot x.gen true r
    refine ⟨hstart.trans hended, fun y hy => ?_⟩
    rw [hheld, Dev.updChan_chan _ _ _ hchan] at hy
    exact bne_iff_ne.mp (List.mem_filter.mp hy).2

/-- An image whose check finds an error is answered with it (R454). -/
theorem Dev.loadDone_refused (d : Dev) (chan : Nat) {x : Held} {e : ChErr} (herror : d.loadError x.params = some e) :
    d.loadDone chan x = d.complete chan x.seq e.status e.data := by
  unfold Dev.loadDone
  extract_lets b fail
  split
  case h_1 e' he =>
    cases Option.some.inj (he.symm.trans herror)
    rfl
  case h_2 hnone => cases hnone.symm.trans herror

/-- A counter that is read back right has its value (R447, R449). -/
theorem Dev.fuseDone_advance (d : Dev) (chan : Nat) {x : Held} (hop : x.op = 0x0904) : d.fuseDone chan x true
    = ({ d with start := { d.start with fuses := d.start.fuses.advance (pf x.params 0 1) (pf x.params 1 2) } } : Dev).complete chan x.seq 0 [] := by
  simp only [Dev.fuseDone, hop, if_true]

theorem held_seq {xs : List Held} {x : Held} {seq : Word} (hfound : xs.find? (fun x => x.seq == seq) = some x) : x.seq = seq := by
  have hmatches := List.find?_some hfound
  exact beq_iff_eq.mp hmatches

section
variable (s : State) (chan : Fin 17) (seq : Word) (o : Sys2Proof.HeldDone)

theorem heldCommandComplete_none (hnone : (s.dev.chan chan.val).held.find? (fun x => x.seq == seq) = none) :
    exec (.heldCommandComplete chan seq o) s = .next s := by
  change execHeldCommandComplete chan seq o s = _
  simp only [execHeldCommandComplete, State.onAlive_eq, hnone, ite_self]

variable {s chan seq} {x : Held} (hup : s.dev.up = true) (hfound : (s.dev.chan chan.val).held.find? (fun x => x.seq == seq) = some x)
include hup hfound

/-- A ROLLBACK_ADVANCE that is read back right leaves the counter at its value (R447, R449). -/
theorem heldCommandComplete_advance (hop : x.op = 0x0904) (hread : o.readBack = true) : ∃ t, exec (.heldCommandComplete chan seq o) s = .next t
    ∧ t.dev.start.fuses = s.dev.start.fuses.advance (pf x.params 0 1) (pf x.params 1 2) ∧ ∀ y ∈ (t.dev.chan chan.val).held, y.seq ≠ seq := by
  have hexec : exec (.heldCommandComplete chan seq o) s = .next { s with dev := s.dev.fuseDone chan.val x true } := by
    change execHeldCommandComplete chan seq o s = _
    rw [execHeldCommandComplete, State.onAlive_eq, if_pos (show s.dev.alive = true from hup)]
    simp only [hfound, hop, hread]
  obtain ⟨hstart, hended⟩ := Dev.complete_ends { s.dev with start := { s.dev.start with
    fuses := s.dev.start.fuses.advance (pf x.params 0 1) (pf x.params 1 2) } } chan.isLt seq 0 []
  rw [s.dev.fuseDone_advance chan.val hop, held_seq hfound] at hexec
  exact ⟨_, hexec, congrArg StartState.fuses hstart, hended⟩

/-- An IMAGE_LOAD that fails its check brings no image (R454). -/
theorem heldCommandComplete_refused {e : ChErr} (hop : x.op = 0x0301) (herror : s.dev.loadError x.params = some e) :
    ∃ t, exec (.heldCommandComplete chan seq o) s = .next t ∧ t.dev.start = s.dev.start ∧ ∀ y ∈ (t.dev.chan chan.val).held, y.seq ≠ seq := by
  have hexec : exec (.heldCommandComplete chan seq o) s = .next { s with dev := s.dev.loadDone chan.val x } := by
    change execHeldCommandComplete chan seq o s = _
    rw [execHeldCommandComplete, State.onAlive_eq, if_pos (show s.dev.alive = true from hup)]
    simp only [hfound, hop]
  rw [s.dev.loadDone_refused chan.val herror, held_seq hfound] at hexec
  exact ⟨_, hexec, s.dev.complete_ends chan.isLt seq e.status e.data⟩

end

/-! ### GET_RESULT -/

/-- The host's command is taken from its slot. -/
def Dev.headMoved (d : Dev) : Dev := { d with host := { d.host with cmdHead := d.host.cmdHead + 1 } }

/-- The host's command is taken from its slot, and a reply stands there that is not retained (R393, R400). -/
def Dev.slotReplied (d : Dev) (r : Reply) : Dev :=
  { d with mem := d.mem.ifWrite (hostAddr (d.host.rplBase.toNat + 256 * d.host.cmdHead.toNat)) r.bytes
           host := { d.host with cmdHead := d.host.cmdHead + 1, msix := d.host.msix ||| (1 <<< 0) } }

theorem Dev.slotReplied_leaves (d : Dev) (r : Reply) :
    (d.slotReplied r).mem = d.mem.ifWrite (hostAddr (d.host.rplBase.toNat + 256 * d.host.cmdHead.toNat)) r.bytes
      ∧ (d.slotReplied r).chiop = d.chiop ∧ (d.slotReplied r).host.cmdHead = d.host.cmdHead + 1 := by
  refine ⟨by rw [Dev.slotReplied], ?_, ?_⟩
  all_goals rw [Dev.slotReplied]

section
variable {d : Dev} {h : Sys2Proof.ChiopHdr} {p : List Byte} (hhost : h.chan = 0)
include hhost

theorem takeCmd_host : takeCmd d h = d.headMoved := by
  rw [takeCmd, hhost]
  rfl

theorem Dev.deliver_headMoved (hread : canRead d h = true) (r : Reply) :
    d.headMoved.deliver 0 d.host.cmdHead.toNat d.headMoved.chiop.gen false r = d.slotReplied r := by
  simp only [canRead, hhost, Fin.val_zero, if_true, Bool.and_eq_true] at hread
  obtain ⟨-, ⟨henable, hni⟩, -⟩ := hread
  have hopen : d.headMoved.host.enable = true ∧ d.headMoved.ni244 = true ∧ d.headMoved.chiop.gen = d.headMoved.chiop.gen := by
    unfold Dev.ni244 Dev.headMoved
    rw [Dev.ni244] at hni
    exact ⟨henable, hni, rfl⟩
  rw [Dev.deliver, if_pos rfl, if_pos hopen]
  simp only [Dev.raiseVector, Dev.headMoved, Dev.slotReplied]

variable (hiparam : hIparam h = false) (hireply : hIreply h = false) (hlength : 4 ≤ h.plen.toNat) (hmode : d.mode.mode ∈ modesAll)
include hiparam hireply hlength hmode

theorem getResult_passes : preCheck d.headMoved 0x0103 (inModes modesAll d.headMoved) 4 false h p = none := by
  have hcount : paramCount h = h.plen.toNat := by simp [paramCount, hiparam, hireply]
  have hmode' : inModes modesAll d.headMoved = true := List.contains_iff_mem.mpr hmode
  simp [preCheck, indirectError, refusedOnPeer, hiparam, hireply, hhost, hcount, hmode', Nat.not_lt.mpr hlength]

variable (hread : canRead d h = true) (hheader : headerError 0x0103 h = none)
include hread hheader

/-- A result that is retained with its reply gives that reply again, with REPEAT (R400). -/
theorem Dev.getResult_repeats {r : Result} {rep : Reply} (hretained : retained (d.chan 0) (BitVec.ofNat 32 (pf (paramsOf h p) 0 4)) = some r)
    (hreply : r.reply = some rep) : d.getResult h p = d.slotReplied { rep with repeated := true } := by
  have hpasses := getResult_passes hhost hiparam hireply hlength hmode (p := p)
  have hretained' : retained (d.headMoved.chan 0) (BitVec.ofNat 32 (pf (paramsOf h p) 0 4)) = some r := hretained
  rw [← Dev.deliver_headMoved hhost hread]
  simp only [Dev.getResult, hread, takeCmd_host hhost, hheader, hpasses, hhost, Fin.val_zero, hretained', hreply, Bool.not_true, Bool.false_eq_true,
    if_false]

/-- A result that is not retained is an error (R400). -/
theorem Dev.getResult_missing (hretained : retained (d.chan 0) (BitVec.ofNat 32 (pf (paramsOf h p) 0 4)) = none) :
    d.getResult h p = d.slotReplied (mkReply 0x0103 h.seq d.chiop.epoch 0x0101 (errDetail 0xFFFF 3 0 0)) := by
  have hpasses := getResult_passes hhost hiparam hireply hlength hmode (p := p)
  have hretained' : retained (d.headMoved.chan 0) (BitVec.ofNat 32 (pf (paramsOf h p) 0 4)) = none := hretained
  have herror : errReply d.headMoved 0x0103 h.seq { status := stBadParam, reason := 3 }
      = mkReply 0x0103 h.seq d.chiop.epoch 0x0101 (errDetail 0xFFFF 3 0 0) := rfl
  rw [← Dev.deliver_headMoved hhost hread]
  simp only [Dev.getResult, hread, takeCmd_host hhost, hheader, hpasses, hhost, Fin.val_zero, hretained', herror, Bool.not_true, Bool.false_eq_true,
    if_false]

end

theorem exec_getResult {s : State} {h : Sys2Proof.ChiopHdr} {p : List Byte} {r : Reply} (hreplied : s.dev.getResult h p = s.dev.slotReplied r) :
    exec (.getResult h p) s = .next { s with dev := s.dev.slotReplied r } := by
  rw [← hreplied]
  rfl

/-! ### Time limits -/

theorem stageTimeout_none {s : State} (hnone : s.dev.chiop.owner = none) : exec .stageTimeout s = .next s := by
  change execStageTimeout s = _
  rw [execStageTimeout, State.on_eq, if_pos (by rw [hnone]; rfl)]

/-- A stage 60 s after its last command is discarded (R403). -/
theorem stageTimeout_empties {s : State} {o : Nat} (howner : s.dev.chiop.owner = some o)
    (hpast : airPast s.dev.time.air ((s.dev.chiop.stagedAt + 60 * secondTc) % airWrap) = true) :
    ∃ t, exec .stageTimeout s = .next t ∧ t.dev.chiop.stage = [] ∧ t.dev.chiop.owner = none ∧ t.dev.cfg = s.dev.cfg := by
  have hafter := s.dev.after_past _ _ hpast
  have hexec : exec .stageTimeout s = .next { s with dev := s.dev.dropStage } := by
    change execStageTimeout s = _
    rw [execStageTimeout, State.on_eq, if_neg (by rw [howner]; exact Bool.false_ne_true), hafter]
  obtain ⟨htold, -, hstage, howned⟩ := s.dev.dropStage_owned o howner
  exact ⟨_, hexec, hstage, howned, htold.cfg⟩

theorem debugChallengeExpiry_none {s : State} (hnone : s.dev.start.challenge = none) : exec .debugChallengeExpiry s = .next s := by
  change execDebugChallengeExpiry s = _
  rw [execDebugChallengeExpiry, State.on_eq, if_pos (by rw [hnone]; rfl)]

/-- A challenge 60 s after it was given is forgotten (R457). -/
theorem debugChallengeExpiry_forgets {s : State} (hsome : s.dev.start.challenge ≠ none)
    (hpast : airPast s.dev.time.air ((s.dev.start.challengeAt + 60 * secondTc) % airWrap) = true) :
    exec .debugChallengeExpiry s = .next { s with dev := { s.dev with start := { s.dev.start with challenge := none } } } := by
  have hafter := s.dev.after_past _ _ hpast
  have hgiven : ¬ s.dev.start.challenge.isNone = true := fun hnone => hsome (Option.isNone_iff_eq_none.mp hnone)
  change execDebugChallengeExpiry s = _
  rw [execDebugChallengeExpiry, State.on_eq, if_neg hgiven, hafter]

/-- Settles O54: each command's body holds it where its premise is met; the ends complete it, and the time limits discard. -/
theorem heldCommandsAndTheirEnds : Obligations.HeldCommandsAndTheirEnds := by
  unfold Obligations.HeldCommandsAndTheirEnds
  refine ⟨?_, ?_, ?_, ?_, ?_⟩
  · simp only [List.forall_mem_cons, List.not_mem_nil, false_imp_iff, implies_true, and_true]
    refine ⟨?_, ?_, ?_, ?_, ?_, ?_⟩
    case refine_1 => exact fun s h p htakes hmode _ => heldCommand_unchanged htakes hmode rfl
    case refine_2 => exact fun s h p htakes hmode hfree => heldCommand_unchanged htakes hmode (bodyRecoveryLoad_holds h hfree)
    case refine_3 => exact fun s h p htakes hmode hkeys => heldCommand_unchanged htakes hmode (bodyAttest_holds hkeys)
    case refine_4 =>
      rintro s h p htakes hmode ⟨hwrite, hslot, hempty, hidle⟩
      exact heldCommand_unchanged htakes hmode (bodyKeyEnroll_holds hwrite hslot hempty hidle)
    case refine_5 =>
      rintro s h p htakes hmode ⟨hcounter, hrange, habove, htop, hidle⟩
      exact heldCommand_unchanged htakes hmode (bodyRollbackAdvance_holds hcounter hrange habove htop hidle)
    case refine_6 => exact fun s h p htakes hmode hask => heldCommand_unchanged htakes hmode (bodyDebugUnlock_holds h hask)
  · intro s h p d ps
    refine ⟨timeStep_held, modeRequest_held, fun n => commit_held, ?_, ?_⟩
    · exact fun htakes hmode hrun hrange hcheck hstop hnone hquiet => domainRequest_held htakes hmode hrun rfl hrange hcheck hstop hnone hquiet
    · exact fun htakes hmode htodo hlow hhigh hclass hslot hpresent hempty =>
        selftestRun_held htakes hmode htodo rfl rfl hlow hhigh hclass hslot hpresent hempty
  · intro s chan seq o d
    refine ⟨heldCommandComplete_none s chan seq o, fun x hup hfound => ⟨?_, fun e => ?_⟩⟩
    · exact heldCommandComplete_advance o hup hfound
    · exact heldCommandComplete_refused o hup hfound
  · intro s h p d target hread hhost hheader hiparam hireply hlength hmode
    refine ⟨fun r rep hretained hreply => ?_, fun hretained => ?_⟩
    · obtain ⟨hmem, hchiop, hhead⟩ := d.slotReplied_leaves { rep with repeated := true }
      exact ⟨_, exec_getResult (Dev.getResult_repeats hhost hiparam hireply hlength hmode hread hheader hretained hreply), hmem, hchiop, hhead⟩
    · obtain ⟨hmem, hchiop, -⟩ := d.slotReplied_leaves (mkReply 0x0103 h.seq d.chiop.epoch 0x0101 (errDetail 0xFFFF 3 0 0))
      exact ⟨_, exec_getResult (Dev.getResult_missing hhost hiparam hireply hlength hmode hread hheader hretained), hmem, hchiop⟩
  · exact fun s => ⟨stageTimeout_none, fun o => stageTimeout_empties, debugChallengeExpiry_none, debugChallengeExpiry_forgets⟩

end Sys2Proof.Machine
end
